-- ==== Sys2Proof/Word.lean ====
section
/-!
DEFINITION. The machine word of the module's register space (R417: 32-bit words) and the byte of its links.
-/
namespace Sys2Proof

/-- A 32-bit register, record or instruction word. -/
abbrev Word := BitVec 32

/-- A byte of the two-wire bus, of a frame or of a command packet. -/
abbrev Byte := BitVec 8

end Sys2Proof
end

