-- ==== Sys2Proof/Syntax.lean ====
section
/-!
DEFINITION. The commands the block takes, WHOLE: one constructor of `Instr` per row of spec/opcode_table.json, and the
types of their operands.
-/
namespace Sys2Proof

/-- Where a request came from, and where its reply goes (R248, R254). -/
inductive Origin where
  /-- The two-wire bus, through the mailbox (R249). -/
  | twoWire
  /-- A T1S frame from a source MAC address (R252). -/
  | t1s (mac : BitVec 48)
deriving DecidableEq, Repr

/-- One host command as it starts to execute: its origin, tag and parameter bytes (R245), and the ingress timestamp of
its frame in the layout of R112 (R320; 0 over the two-wire bus). -/
structure Req where
  origin : Origin
  tag : Byte
  params : List Byte
  ingress : Nat := 0
deriving DecidableEq, Repr

/-- The measured outcome of one triad's self-test (R76, R79). -/
inductive TestResult where
  | pass
  | fail
  | inconclusive
deriving DecidableEq, Repr

/-- What the firmware retires (R89, R91): one triad, or one die. -/
inductive Retire where
  | triad (k : Fin 72)
  | die (d : Fin 4)
deriving DecidableEq, Repr

/-- A request that waited more than two arbitration rounds (R45): a fetch of a machine, or a pipeline stage's item. -/
inductive ArbWait where
  | machine (n : Fin 32)
  | stage (stage : Fin 7) (t : BitVec 64)
deriving DecidableEq, Repr

/-- What becomes of a ready frame at a transmit opportunity (R310, R312): it is sent, it came too late in the
opportunity, or its sixteenth attempt by CSMA/CD has collided. -/
inductive TxOutcome where
  | sent
  | tooLate
  | collisions
deriving DecidableEq, Repr

/-- The commands of the block: one constructor per row of spec/opcode_table.json, in the table's order. A host
command carries its request; an event carries what the outside world brings with it (R numbers: the defining rule). -/
inductive Instr where
  /-- POWER_UP (R274): VBAT is applied: the AON supply comes up, the strap window opens and closes, VAUX soft-starts, VHOLD charges and the ROM loader enters Larva. SYNC reads high in the strap window. -/
  | powerUp (strap : Bool)
  /-- VBAT_REVERSAL (R23): The input stage blocks a reversed VBAT, keeps VAUX off and limits the reverse current. -/
  | vbatReversal
  /-- INPUT_DISCONNECT (R24): VBAT rises above the disconnect threshold; the input stage isolates VBAT, runs from VHOLD as in a sag, sets VBAT_OV and pends source 77. -/
  | inputDisconnect
  /-- INPUT_RECONNECT (R24): VBAT falls 2 V below the threshold at which it disconnected; VBAT is reconnected and source 77 pends again. -/
  | inputReconnect
  /-- VBAT_LOW_REPORT (R362): VBAT has been held below the VBAT_LOW threshold for 1 s; the module sets CONV_STATUS.VBAT_LOW and pends source 77. -/
  | vbatLowReport
  /-- RIDE_THROUGH_ENTRY (R363): VIN falls below VHOLD by the entry margin; the module sets RIDE, counts it, measures ESR, pauses the charger and pends source 74. The ESR measured, in milliohms. -/
  | rideThroughEntry (esr : BitVec 16)
  /-- RIDE_THROUGH_END (R363): VBAT supplies VIN again; the module clears RIDE, records RES_LAST and RES_CHARGE and pends source 74. Lowest VHOLD in 10 mV, duration, charge in uC, fall of VHOLD in 10 mV; `stale`: the housekeeping entries for VHOLD are more than 20 ms old. -/
  | rideThroughEnd (low ms : BitVec 16) (charge : Word) (dv : BitVec 16) (stale : Bool)
  /-- CAPACITANCE_ESTIMATE (R368): During the first charge, VHOLD reaches 30 V; the module computes C from the charge current and the time taken from 20 V to 30 V and reports an undersized or oversized reservoir. In uF. -/
  | capacitanceEstimate (cap : BitVec 16)
  /-- SHED_THRESHOLD_CROSSING (R361): VHOLD falls through the shed threshold; SHED is set and the RESERVOIR path acts in the monitor, and under AT_SHED VAUX is switched off. -/
  | shedThresholdCrossing
  /-- REARM_THRESHOLD_CROSSING (R361): VHOLD rises through the re-arm threshold; CONV_STATUS.SHED clears and arm lock 3 is lifted. -/
  | rearmThresholdCrossing
  /-- SHED_DELAY_EXPIRY (R365): Under SHED_MODE DELAYED, SHED_DELAY ms have passed in a ride-through that has not ended; VAUX is switched off. -/
  | shedDelayExpiry
  /-- STOP_THRESHOLD_CROSSING (R366): VHOLD falls through the stop threshold; in Noon the module enters brownout hold with the converter stopped and the switched domains off, and in Night only VAUX goes off. -/
  | stopThresholdCrossing
  /-- BROWNOUT_EXIT (R367): VIN rises through the VAUX start threshold while the AON supply holds; VAUX restarts, the control pair restarts under R286 with the safety state LOCKED, and time resumes. AON cycles of the hold. -/
  | brownoutExit (cycles : BitVec 64)
  /-- AON_SUPPLY_LOSS (R222): The AON supply or bandgap fails or falls below its undervoltage level; the outputs go off within 20 µs and all state is lost as in a power cycle. -/
  | aonSupplyLoss
  /-- VAUX_START_THRESHOLD (R365): After a policy, limit or stop shutdown, VIN rises through the VAUX start threshold; VAUX restarts as at power-up, pends source 79 and counts a restart. -/
  | vauxStartThreshold
  /-- VAUX_LOW (R213): VAUX has stayed below 4.50 V for 50 µs; the monitor comparator takes the VAUX_LOW path to SAFE off. -/
  | vauxLow
  /-- VAUX_OK_REACHED (R31): VAUX rises through the VAUX_OK threshold; after a thermal restart in Imago the safety state passes from LOCKED to DISARMED, and arm lock 4 is lifted. -/
  | vauxOkReached
  /-- PHASE_RETIREMENT (R371): A converter phase has been open, mismatched or overcurrent for 64 consecutive cycles; it is retired within 2 µs, the other phases take the load and source 75 pends. Phase, cause code less 1, largest model disagreement in %. -/
  | phaseRetirement (p cause : Fin 3) (dev : Byte)
  /-- PHASE_RETRY (R371): CONV_CMD.PHASE_RETRY, accepted only below 0.8 A of load, retries a retired phase, which is reinstated after 1024 good cycles or retired again. `light`: the load is below 0.8 A; `again`: the phase is retired again, cause less 1 and deviation. -/
  | phaseRetry (p : Fin 3) (light : Bool) (again : Option (Fin 3 × Byte))
  /-- PHASE_ROTATION (R370): Every 60 s with a single phase active, the converter moves the working phase to the next healthy phase and checks it during its first 64 cycles. -/
  | phaseRotation
  /-- OVERLOAD_LIMIT (R370): VAUX has carried more than 4.2 A for 100 ms; the converter applies the overload limit, sets LIMIT, counts it and pends source 76. -/
  | overloadLimit
  /-- OVERLOAD_RELEASE (R370): VAUX has carried less than 3.0 A for 1 s; the overload limit is released. -/
  | overloadRelease
  /-- LIMIT_OFF_EXPIRY (R373): Under LIMIT_ACTION OFF, the limit has held with VAUX below VAUX_LOW for LIMIT_TIME × 10 ms; VAUX goes off. -/
  | limitOffExpiry
  /-- LIMIT_RESTART_ATTEMPT (R373): Each 1 s after a limit shutdown, VAUX retries soft start, and the attempt pends source 79. -/
  | limitRestartAttempt
  /-- VAUX_START_RETRY (R34): A VAUX soft start has ended in current limit; 100 ms later the converter retries the start and reports the attempt. -/
  | vauxStartRetry
  /-- THERMAL_LIMIT (R31): The ASIC reaches 125 °C; VAUX is limited to 2.2 A and the limit is reported through source 76. -/
  | thermalLimit
  /-- THERMAL_SHUTDOWN (R31): The ASIC reaches 140 °C; the THERMAL path takes SAFE off and the safety state to LOCKED, and VAUX is then switched off. -/
  | thermalShutdown
  /-- THERMAL_RELEASE (R31): The ASIC falls below 115 °C; the thermal limit is released, or after a shutdown VAUX restarts with its soft start. -/
  | thermalRelease
  /-- CONTROL_PAIR_RESET (R219): A lockstep mismatch, watchdog or other cause resets the control pair; SAFE goes off, the PIO pins go to their safe levels, machines and commands are discarded and the safety state becomes LOCKED. Crossings that discard a transfer in flight. -/
  | controlPairReset (cut : BitVec 11)
  /-- CODE_RAM_ECC_ERROR (R277): An uncorrectable error is found in the active slot of code RAM, which causes a control-pair reset. Crossings that discard a transfer in flight. -/
  | codeRamEccError (cut : BitVec 11)
  /-- RESTART_VERIFY (R286): After a control-pair reset the ROM enters Larva and verifies the active slot again; it starts the firmware and enters Imago or Chrysalis, marks the slot FAILED, or detects a boot loop. `intact`: the active slot passes. -/
  | restartVerify (intact : Bool)
  /-- REVERT_IMAGO_ENTRY (R285): Within 10 ms of a REVERT reply, the module applies the block held in PREV at a sample boundary and enters Imago. -/
  | revertImagoEntry
  /-- REQUEST_RECEIVED (R255): A whole request packet has arrived from the mailbox or a T1S frame; it is checked for CRC, length, opcode, duplicates and queue space, then queued or answered. The packet's bytes, and module time at the MAC on its frame's ingress (layout of R112). -/
  | requestReceived (origin : Origin) (bytes : List Byte) (latched : BitVec 96)
  /-- PARTIAL_REQUEST_TIMEOUT (R249): A partial mailbox request has received no byte for 100 ms; it is discarded and counted as ABANDONED. -/
  | partialRequestTimeout
  /-- COMMAND_TIMEOUT (R257): A queued command has not completed within twice its maximum duration; it is ended as by ABORT, answered TIMEOUT and counted. -/
  | commandTimeout
  /-- MBX_WINDOW_WRITE (R249): A byte written to the mailbox window is appended to the request stream, and a first byte at offset 0x80 begins a new request. `first`: the first data byte of a transaction, at offset 0x80. -/
  | mbxWindowWrite (b : Byte) (first : Bool)
  /-- MBX_WINDOW_READ (R250): A byte read from the mailbox window returns the next byte of the oldest held reply, or the idle reply word, and releases a reply once its last CRC byte is read. -/
  | mbxWindowRead
  /-- DISCARD_REQ (R270): Writing MBX_CTRL.DISCARD_REQ discards the partial request. -/
  | discardReq (bus : Bool)
  /-- DROP_REPLY (R250): Writing MBX_CTRL.DROP_REPLY releases the oldest held reply unread. -/
  | dropReply (bus : Bool)
  /-- MBX_CLEAR (R270): Writing MBX_CTRL.CLEAR discards the partial request and every held reply, and owed replies are discarded as they form. -/
  | mbxClear (bus : Bool)
  /-- NOP (R263): The command returns the boot stage, the safety state and the queue fill, and echoes its parameters. -/
  | nop (r : Req)
  /-- IDENTIFY (R287): The command returns the identity, the device public key, the endorsement and a signed response to a 16-byte challenge. -/
  | identify (r : Req)
  /-- ABORT (R266): The command ends the activities of the scopes in its mask and reports which scopes had an activity and how many commands were answered ABORTED. -/
  | abort (r : Req)
  /-- READ (R264): The command reads 1 to 64 register words with the side effects of bus reads. -/
  | read (r : Req)
  /-- WRITE (R264): The command writes 1 to 64 register words in ascending order, with the effects of bus writes. -/
  | write (r : Req)
  /-- MODIFY (R265): The command atomically writes (old & ~mask) | (value & mask) to one register and returns the old value. -/
  | modify (r : Req)
  /-- IMG_BEGIN (R278): The command sets a slot to LOADING for an image of the given length and discards the block that the slot held. -/
  | imgBegin (r : Req)
  /-- IMG_WRITE (R278): The command stores the next chunk of the LOADING slot, and the slot becomes LOADED with its last byte. -/
  | imgWrite (r : Req)
  /-- IMG_VERIFY (R277): The command checks the header, digest, signature and MIN_ROM of a LOADED slot and marks it VERIFIED or FAILED. -/
  | imgVerify (r : Req)
  /-- IMG_ACTIVATE (R284): The command starts the firmware of a VERIFIED slot in Chrysalis, and from Imago the former slot becomes PREV. -/
  | imgActivate (r : Req)
  /-- SETTINGS_WRITE (R281): The command stages a chunk of the settings block in data RAM. -/
  | settingsWrite (r : Req)
  /-- SETTINGS_APPLY (R282): The command checks the staged block and, if it is accepted, applies its sections at a sample boundary and enters Imago. -/
  | settingsApply (r : Req)
  /-- REVERT (R285): The command makes PREV the active slot and enters Chrysalis, on the way to Imago with the block held in PREV. -/
  | revert (r : Req)
  /-- BOOT_STATUS (R278): The command returns the boot stage, slot states, rejection reasons, firmware version, schemas and counts. -/
  | bootStatus (r : Req)
  /-- SET_PROFILE (R68): The command or an ARRAY_PROFILE write requests an array profile, applied at the next committed sample boundary. -/
  | setProfile (r : Req)
  /-- SET_RANGES (R61): The command or an ARRAY_RANGE write sets the CLIP thresholds from the next committed sample. -/
  | setRanges (r : Req)
  /-- ARRAY_STATUS (R263): The command returns 10 array registers read as one set. -/
  | arrayStatus (r : Req)
  /-- SET_CAL_DELTA (R65): The command sets per-channel bias and scale deltas within their limits, applied at the next committed sample boundary. -/
  | setCalDelta (r : Req)
  /-- SENTINEL_CONFIG (R75): The command sets the sentinel rate, wake threshold and wake count. -/
  | sentinelConfig (r : Req)
  /-- SELFTEST (R77): The command or a SELFTEST_CTRL START starts a self-test of one triad, one die or the array. -/
  | selftest (r : Req)
  /-- REINSTATE (R99): The command or a REINSTATE_CTRL START starts the self-test that may reinstate a retired triad or die. -/
  | reinstate (r : Req)
  /-- TRIAD_READ (R263): The command returns TRIAD_INFO and the z values of one triad from one sample. -/
  | triadRead (r : Req)
  /-- SET_PRESET (R109): The command or a FILT_PRESET write requests a preset change, or queues it behind a change in progress. -/
  | setPreset (r : Req)
  /-- COEFF_WRITE (R120): The command writes coefficients into a bank or notch slot and invalidates that target. -/
  | coeffWrite (r : Req)
  /-- COEFF_COMMIT (R120): The command validates a bank or notch slot, or rejects it with a reason of Table 5.7. -/
  | coeffCommit (r : Req)
  /-- BANK_SELECT (R121): The command or a FILT_BANK write selects the coefficient set of each filter group. -/
  | bankSelect (r : Req)
  /-- DECIM_SYNC (R117): The command requests a decimator reset at tick T. -/
  | decimSync (r : Req)
  /-- NOTCH_CONFIG (R124): The command or a NOTCH_CTRL write configures the tracking notch, and an enable is refused while a set with a non-standard delay is selected. -/
  | notchConfig (r : Req)
  /-- EM_LOAD (R150): The command checks instruction words and writes them into program memory, wholly or not at all. -/
  | emLoad (r : Req)
  /-- EM_CONFIG (R130): The command sets a machine's flags and region and moves an OFF or FAULT machine to STOPPED. -/
  | emConfig (r : Req)
  /-- EM_START (R131): The command or an EM_START write starts the named machines together at one start tick, after the checks of R151. -/
  | emStart (r : Req)
  /-- EM_STOP (R132): The command or an EM_STOP write stops each named RUNNING machine within 20 µs. -/
  | emStop (r : Req)
  /-- EM_PARAM (R139): The command or an EM_PARAM_k write sets parameter words that take effect at tick t_p. -/
  | emParam (r : Req)
  /-- EM_READ_STATE (R154): The command returns a machine's state after its last confirmed run. -/
  | emReadState (r : Req)
  /-- EM_CRC (R154): The command returns the CRC-32 over a range of program memory. -/
  | emCrc (r : Req)
  /-- REC_ENABLE (R200): The command or a REC_ENABLE write enables or disables recognizers at tick t_p. -/
  | recEnable (r : Req)
  /-- REC_CONFIG (R200): The command sets one recognizer's control and parameter words, which take effect at t_p. -/
  | recConfig (r : Req)
  /-- REC_WHEEL (R188): The command sets the wheel engines, counts per metre and geometry. -/
  | recWheel (r : Req)
  /-- REC_CLEAR (R200): The command takes an ACTIVE recognizer to IDLE at t_p, and for THEFT it also takes a new reference. -/
  | recClear (r : Req)
  /-- REC_READ (R202): The command returns one recognizer's control, parameters and state. -/
  | recRead (r : Req)
  /-- SAFE_ARM (R210): The command or SAFE_CMD.ARM clears stored requests, stores the heartbeat seed and enters ARMING unless a lock holds. -/
  | safeArm (r : Req)
  /-- SAFE_HEARTBEAT (R211): The command or a SAFE_HB write judges sequence Q, restarts the heartbeat timer on a fresh value, and moves ARMING to ARMED. -/
  | safeHeartbeat (r : Req)
  /-- SAFE_DISARM (R213): The command or SAFE_CMD.DISARM takes permission away through the DISARM path into DISARMED. -/
  | safeDisarm (r : Req)
  /-- SAFE_FAULT_CLEAR (R217): The command or SAFE_CMD.FAULT_CLEAR leaves FAULT for DISARMED once both pins have read back off for 100 ms. -/
  | safeFaultClear (r : Req)
  /-- SAFE_CONFIG (R214): The command sets SAFE_CFG, the masks and PIO_SAFE_LEVEL, only outside ARMING and ARMED. -/
  | safeConfig (r : Req)
  /-- SAFE_STATUS (R223): The command returns the safety state, the trip record, the counts and the monitor status. -/
  | safeStatus (r : Req)
  /-- QUEUE_READ (R236): The command returns whole visible records up to a maximum size. -/
  | queueRead (r : Req)
  /-- QUEUE_FLUSH (R236): The command or QUEUE_CMD.FLUSH discards the visible records at the reader's next record boundary. -/
  | queueFlush (r : Req)
  /-- QUEUE_CONFIG (R242): The command sets QUEUE_CFG and QUEUE_HK. -/
  | queueConfig (r : Req)
  /-- RING_CONFIG (R242): The command sets RING_CFG and the capture descriptors, and a POLICY or CONTENT change empties the ring. -/
  | ringConfig (r : Req)
  /-- RING_TRIGGER (R238): The command or RING_CMD.TRIGGER triggers a capture at the tick of the latest committed sample. -/
  | ringTrigger (r : Req)
  /-- RING_READ (R242): The command returns whole stored records from a ring position. -/
  | ringRead (r : Req)
  /-- RING_RELEASE (R238): The command or RING_CMD.RELEASE resumes writing from FROZEN, or empties the ring from FULL. -/
  | ringRelease (r : Req)
  /-- RING_CLEAR (R244): RING_CMD.CLEAR empties the ring and ends any capture. -/
  | ringClear (bus : Bool)
  /-- POWER_VOTE (R347): The command or a PWR_HOST_VOTE write sets the host vote mask. -/
  | powerVote (r : Req)
  /-- NIGHT_CONFIG (R358): The command sets NIGHT_CFG, NIGHT_PIO and NIGHT_TIMER. -/
  | nightConfig (r : Req)
  /-- POWER_STATUS (R358): The command returns the power state, votes, Night configuration and counts. -/
  | powerStatus (r : Req)
  /-- CONV_CONFIG (R376): The command sets the shed policy and the limit action in CONV_CFG. -/
  | convConfig (r : Req)
  /-- CONV_STATUS (R376): The command returns the converter and reservoir registers. -/
  | convStatus (r : Req)
  /-- TIME_GET (R325): The command returns module time, the tick and TIME_STATUS, and can queue a HOST egress timestamp of its reply. -/
  | timeGet (r : Req)
  /-- TIME_SET (R325): Under SOURCE HOST, the command schedules a step of module time at tick T. -/
  | timeSet (r : Req)
  /-- TIME_ADJUST (R325): The command sets RATE under SOURCE HOST, and can re-arm a step. -/
  | timeAdjust (r : Req)
  /-- TIME_CONFIG (R319): The command sets TIME_CFG and the thresholds, and a change of SOURCE or DOMAIN arms a step. -/
  | timeConfig (r : Req)
  /-- TS_READ (R323): The command returns the HOST egress timestamps and frees their entries. -/
  | tsRead (r : Req)
  /-- PAIR_CONFIG (R328): The command sets the pair role, partner and options. -/
  | pairConfig (r : Req)
  /-- PAIR_JOIN (R339): The command fixes boundary B on the forewing and starts a join. -/
  | pairJoin (r : Req)
  /-- PAIR_LEAVE (R340): The command ends the pair with cause COMMAND. -/
  | pairLeave (r : Req)
  /-- PAIR_STATUS (R342): The command returns the pair state, noise, lever arm, boundary and counts. -/
  | pairStatus (r : Req)
  /-- PIO_LOAD (R392): The command loads instruction words into a stopped PIO engine. -/
  | pioLoad (r : Req)
  /-- PIO_START (R388): The command starts the named PIO engines on one reference cycle with PC, X, Y and TCNT at 0. -/
  | pioStart (r : Req)
  /-- PIO_STOP (R388): The command stops the named engines at their next instruction boundary and sets their owned pins to PIO_SAFE_LEVEL. -/
  | pioStop (r : Req)
  /-- PIO_INJECT (R392): The command executes one instruction word in a PIO engine. -/
  | pioInject (r : Req)
  /-- PIO_CONFIG (R387): The command sets the pin functions, filters and legacy mode. -/
  | pioConfig (r : Req)
  /-- PIO_STATUS (R396): The command returns the run state, the pins, and the state and port of every engine. -/
  | pioStatus (r : Req)
  /-- HK_SEQUENCE (R381): The command sets the pass length and the user entries of the housekeeping sequence if they fit. -/
  | hkSequence (r : Req)
  /-- HK_WINDOW (R383): The command sets the window mode, persistence and thresholds of one entry. -/
  | hkWindow (r : Req)
  /-- HK_READ (R382): The command returns the result words of the entries named in its mask. -/
  | hkRead (r : Req)
  /-- HK_STATUS (R396): The command returns the housekeeping control, status, window events, slices and pass time. -/
  | hkStatus (r : Req)
  /-- REGISTER_WRITE (R419): A write, by bus or by command, to a register that has no row of its own stores its writable fields, clears W1C bits or is ignored according to its access type and boot stage. `bus`: over the two-wire bus, else by command. -/
  | registerWrite (bus : Bool) (addr : BitVec 16) (w : Word)
  /-- EM_REGION_WRITE (R155): A write to EM_REGION sets the selected machine's region and moves OFF or FAULT to STOPPED, and is refused while the machine is RUNNING. -/
  | emRegionWrite (bus : Bool) (w : Word)
  /-- EM_FLAGS_WRITE (R155): A write to EM_FLAGS sets SPEC_ACT, FAULT_SAFE and FORCE_CONLY, and is refused while the machine is RUNNING. -/
  | emFlagsWrite (bus : Bool) (w : Word)
  /-- EM_PMEM_DATA (R150): A write to EM_PMEM_DATA checks and stores one word, and each accepted access advances EM_PMEM_ADDR. -/
  | emPmemData (bus : Bool) (w : Word)
  /-- PIO_PMEM_DATA (R392): An access to PIO_PMEM_DATA reads or checks and stores one PIO word and advances PIO_PMEM_ADDR. The word written, or none: a read. -/
  | pioPmemData (bus : Bool) (w : Option Word)
  /-- PIO_MPORT_WRITE (R390): A host write to PIO_MPORT delivers a word to the engine's machine port. -/
  | pioMportWrite (bus : Bool) (k : Fin 4) (w : Word)
  /-- PIO_SAFE_LEVEL_WRITE (R220): A write to PIO_SAFE_LEVEL sets the reset-safe pin levels, and is ignored and recorded while ARMING or ARMED. -/
  | pioSafeLevelWrite (bus : Bool) (w : Word)
  /-- TW_ADDR2_WRITE (R293): A write to TW_ADDR2 sets the second address, effective at STOP, or is refused with BAD_PARAM. -/
  | twAddr2Write (bus : Bool) (w : Word)
  /-- T1S_PLCA_WRITE (R309): A write to T1S_PLCA sets the PLCA role, effective at the next BEACON or at once, or is refused. -/
  | t1sPlcaWrite (w : Word)
  /-- INT_DOORBELL (R400): A write to INT_DOORBELL posts a software source, and host writes outside 120 to 127 are refused and counted. `bus`: over the two-wire bus, else by command. -/
  | intDoorbell (bus : Bool) (w : Word)
  /-- INT_HOST_CLAIM (R402): A read of INT_HOST_CLAIM claims the highest-priority pending source of the host target, or returns NONE. Bytes of the word taken over the two-wire bus; 0: by command. -/
  | intHostClaim (bytes : Fin 5)
  /-- INT_CP_CLAIM (R402): A firmware read of INT_CP_CLAIM claims the highest-priority pending source of the control target. -/
  | intCpClaim
  /-- INT_HOST_COMPLETE (R403): A write to INT_HOST_COMPLETE clears an active source and re-samples its level, or is counted as ignored. -/
  | intHostComplete (bus : Bool) (w : Word)
  /-- INT_CP_COMPLETE (R403): A firmware write to INT_CP_COMPLETE completes a source of the control target. -/
  | intCpComplete (n : BitVec 7)
  /-- INT_HOST_SET (R404): A write to INT_HOST_SET atomically changes the enable level of one source, re-sampling or clearing pending. -/
  | intHostSet (bus : Bool) (w : Word)
  /-- INT_HOST_EN_WRITE (R404): A write to INT_HOST_EN_j changes enable levels, with re-sampling on 0 to nonzero and pending cleared on a change to 0. INT_HOST_EN_j. -/
  | intHostEnWrite (bus : Bool) (j : Fin 8) (w : Word)
  /-- SENTINEL_XY (R80): A read of SENTINEL_XY latches SENTINEL_Z from the same sample. -/
  | sentinelXy (bytes : Fin 5)
  /-- TRIAD_Z_XY (R103): A read of TRIAD_Z_XY latches TRIAD_Z_Z and TRIAD_INFO from one sample. -/
  | triadZXy (bytes : Fin 5)
  /-- FILT_DELAY_NS (R127): A read of FILT_DELAY_NS latches FILT_DELAY_FRAC. -/
  | filtDelayNs (bytes : Fin 5)
  /-- SYNC_TICK_LO (R127): A read of SYNC_TICK_LO latches SYNC_TICK_HI. -/
  | syncTickLo (bytes : Fin 5)
  /-- EM_STATE (R155): A read of EM_STATE latches EM_PC, the V, C and T registers of the selected machine. -/
  | emState (bytes : Fin 5)
  /-- EM_START_TICK_LO (R155): A read of EM_START_TICK_LO latches EM_START_TICK_HI. -/
  | emStartTickLo (bytes : Fin 5)
  /-- SPEC_LAST_LO (R177): A read of SPEC_LAST_LO latches SPEC_LAST_HI and SPEC_LAST_ORIGIN. -/
  | specLastLo (bytes : Fin 5)
  /-- SAFE_TRIP (R225): A read of SAFE_TRIP latches both trip tick words. -/
  | safeTrip (bytes : Fin 5)
  /-- RING_TRIG_TICK_LO (R244): A read of RING_TRIG_TICK_LO latches RING_TRIG_TICK_HI. -/
  | ringTrigTickLo (bytes : Fin 5)
  /-- ID_SERIAL_LO (R290): A read of ID_SERIAL_LO latches ID_SERIAL_HI. -/
  | idSerialLo (bytes : Fin 5)
  /-- TIME_NOW_0 (R327): A read of TIME_NOW_0 latches the rest of module time and the tick. -/
  | timeNow0 (bytes : Fin 5)
  /-- PAIR_BOUNDARY_LO (R343): A read of PAIR_BOUNDARY_LO latches PAIR_BOUNDARY_HI. -/
  | pairBoundaryLo (bytes : Fin 5)
  /-- PIO_STATE (R398): A read of PIO_STATE latches the engine's register block. -/
  | pioState (k : Fin 4) (bytes : Fin 5)
  /-- XING_INFO (R416): A read of XING_INFO latches XING_COUNTS for the selected crossing. -/
  | xingInfo (bytes : Fin 5)
  /-- QUEUE_WINDOW_READ (R235): A byte read from the queue window returns the next byte of the queue stream, or the idle item, and frees words as they are read. -/
  | queueWindowRead
  /-- DRIVE_LOCK (R57): A gyroscope drive loop locks after its first-start search or from the Cocoon values, and at the last lock the resume tick is fixed and a SETTLING record emitted. Gyroscope triad 48 + g. -/
  | driveLock (g : Fin 24)
  /-- DRIVE_FAULT (R58): A drive amplitude or lock fault has lasted 1 ms, or the first-start search has not locked in 60 ms; the triad is excluded from the vote and treated as deviant. Gyroscope triad 48 + g. -/
  | driveFault (g : Fin 24)
  /-- TEMP_MODEL_UPDATE (R63): Once per millisecond, the bias and scale models are re-evaluated from the latest temperatures and applied from the next base sample. -/
  | tempModelUpdate
  /-- DIE_TEMP_STALE (R64): A die temperature has not been updated for 20 ms; the cells of that die are flagged UNCOMP with the last value held. Die 0 to 3; 4 stands for the ASIC temperature. -/
  | dieTempStale (d : Fin 5)
  /-- SELFTEST_TRIAD_DONE (R76): The self-test of one triad ends; its result is judged, retried once if INCONCLUSIVE and reported by a HEALTH record, and the next triad starts or the scope ends. -/
  | selftestTriadDone (k : Fin 72) (result : TestResult)
  /-- PROFILE_BOUNDARY (R68): At the committed sample boundary after a profile request, the leaving triads leave, the joining triads power up and a STATUS record is emitted. At committed tick t. -/
  | profileBoundary (t : BitVec 64)
  /-- TRIAD_JOIN (R113): A STARTING triad's whole window becomes valid after drive lock and FIR settling, and it enters the vote as HEALTHY. Triad k at committed tick t. -/
  | triadJoin (k : Fin 72) (t : BitVec 64)
  /-- SENTINEL_SAMPLE (R74): The sentinel triad produces a sample at its rate, which THEFT evaluates and the wake logic compares with its threshold. int16, 2^-11 g; in Night, the AON cycles since Dusk entry. -/
  | sentinelSample (x y z : BitVec 16) (cycles : BitVec 64)
  /-- SENTINEL_WAKE (R75): WAKE_CNT consecutive sentinel samples have exceeded the wake threshold, and a wake request is raised. -/
  | sentinelWake
  /-- COMMITTED_VOTE (R84): For each committed sample the voter trims, weights and fuses every axis, computes residuals and deviance, and judges quorum, SPLIT and validity. The 216 committed channel values of tick t (int32, 8 fraction bits) with their SAT flags. -/
  | committedVote (t : BitVec 64) (xs : List (Word × Bool))
  /-- QUORUM_RESTORED (R94): An INVALID axis has met quorum and been neither SPLIT nor STALE for 2 ms; it returns to VALID with one QUORUM_RESTORED record. -/
  | quorumRestored
  /-- SUSPECT_ENTRY (R88): A triad's persistence timer reaches 50 ms; the triad becomes SUSPECT, leaves the vote and a HEALTH record is emitted. -/
  | suspectEntry (k : Fin 72)
  /-- SUSPECT_CLEAR (R88): A SUSPECT triad has stayed non-deviant for 50 ms; it returns to HEALTHY with P reset and a CLEARED record. -/
  | suspectClear (k : Fin 72)
  /-- RETIREMENT_REQUEST (R88): A triad's persistence timer reaches 200 ms, or a pending request is 10 ms old, and the hardware passes a retirement request to the firmware. -/
  | retirementRequest (k : Fin 72)
  /-- RETIREMENT_DECISION (R89): The firmware decides a retirement, or a die retirement under the common-cause rule, within 2 ms of the request. -/
  | retirementDecision (what : Retire)
  /-- RETIREMENT_APPLY (R89): At the first committed sample boundary after the decision, the triad or die is retired, its drive loop stops and a RETIRED or DIE_RETIRED record is emitted. At the boundary of committed tick t. -/
  | retirementApply (t : BitVec 64)
  /-- LATE_STAGE (R39): A pipeline stage misses its deadline for a tick; source 57 is raised, the later stages move on, and a GAP record or VOID tick follows. Stage code less 1 of FILT_STATUS.LATE_STAGE, tick. -/
  | lateStage (stage : Fin 7) (t : BitVec 64)
  /-- ARBITRATION_WAIT_EXCEEDED (R45): A request has waited more than two arbitration rounds; the owning function's source is raised and the item is handled as late or as a machine fault. The request that waited. -/
  | arbitrationWaitExceeded (what : ArbWait)
  /-- PRESET_APPLY (R109): At tick t_a the new preset takes effect: the last old sample is fixed, settling ticks are suppressed or catch-up samples computed, and the notch is re-evaluated. -/
  | presetApply
  /-- PRESET_CHANGE_COMPLETE (R109): The first new-preset sample is computed; the change completes and any queued preset value is applied as a new change. -/
  | presetChangeComplete
  /-- BANK_SWAP_APPLY (R121): A bank selection applies at one output tick for every channel of the groups concerned, and source 58 pends. -/
  | bankSwapApply
  /-- NOTCH_PERIOD_WORD (R122): A tachometer period word arrives at the notch port; the blade frequency is computed and the confirmation count advances. -/
  | notchPeriodWord (engine : Fin 4) (period : Word)
  /-- NOTCH_SET_CHANGE (R123): A confirmed notch change applies at one committed output tick in all 216 chains, and a STATUS record is emitted. -/
  | notchSetChange
  /-- TACH_LOST (R124): No valid period has arrived for TIMEOUT × 10 ms; TACH_LOST is set, source 60 pends and the notch holds its set. -/
  | tachLost
  /-- SYNC_EDGE (R117): An armed SYNC edge, or a pair pulse on a hindwing, applies a decimator reset at the next base tick, or is ignored within 1 ms of the last reset. Reference cycles from the edge to its base tick, less 2. -/
  | syncEdge (cycles : Fin 1200) (rising : Bool)
  /-- DECIM_SYNC_APPLY (R117): A requested decimator reset reaches its tick T and moves the grid. -/
  | decimSyncApply
  /-- FAST_SAMPLE_ARRIVAL (R133): The fast fused sample of a grid tick reaches the event engine; the latched streams are taken, the recognizers evaluate and each RUNNING machine starts its speculative run. The 216 fast channel values of tick t (int32, 8 fraction bits) with their SAT flags. -/
  | fastSampleArrival (t : BitVec 64) (xs : List (Word × Bool))
  /-- COMMITTED_SAMPLE_ARRIVAL (R161): The committed sample of a tick reaches the event engine; checkpoints are verified, the tick is confirmed or refuted per machine and recognizer, and committed-only runs execute. -/
  | committedSampleArrival (t : BitVec 64)
  /-- REPLAY_RUN (R165): In replay or rejoin, a machine runs its next tick back to back on the committed sample if it has arrived, otherwise on the fast sample. Machine n. -/
  | replayRun (n : Fin 32)
  /-- TICK_COMMIT (R231): A resolved tick reaches its commit point; its records commit together in the fixed order and become visible, or the whole tick is dropped for lack of room. -/
  | tickCommit (t : BitVec 64)
  /-- SPEC_REJOIN (R171): A fallen-back machine holds no checkpoint and finds at least 16 pool entries free, and it rejoins the fast stream at its next run. Machine n. -/
  | specRejoin (n : Fin 32)
  /-- EM_PARAM_APPLY (R139): At tick t_p the new parameter words take effect for runs of that tick and later. At tick t_p. -/
  | emParamApply (t : BitVec 64)
  /-- REC_CONFIG_APPLY (R200): At tick t_p a recognizer enable, configuration, wheel or clear change takes effect. At tick t_p. -/
  | recConfigApply (t : BitVec 64)
  /-- REC_DECLARE (R180): A recognizer's condition has held for PERSIST; it enters ACTIVE, emits DECLARED and may request SAFE off. Recognizer i. -/
  | recDeclare (k : Fin 9)
  /-- REC_RELEASE (R180): A recognizer's release condition has held for RELEASE; it returns to IDLE and may emit RELEASED. Recognizer i. -/
  | recRelease (k : Fin 9)
  /-- THEFT_REFERENCE (R196): One second after enable or REC_CLEAR, THEFT takes the mean sentinel vector as its reference. -/
  | theftReference
  /-- IX_NOP (R143): The instruction has no effect. -/
  | ixNop (n : Fin 32) (cond : Fin 16)
  /-- IX_LDI (R143): The instruction loads a sign-extended immediate into a register. -/
  | ixLdi (n : Fin 32) (cond : Fin 16) (d : Fin 8) (imm : BitVec 16)
  /-- IX_LDH (R143): The instruction loads the upper half of a register. -/
  | ixLdh (n : Fin 32) (cond : Fin 16) (d : Fin 8) (imm : BitVec 16)
  /-- IX_MOV (R143): The instruction copies one register to another. -/
  | ixMov (n : Fin 32) (cond : Fin 16) (d sr : Fin 8)
  /-- IX_RD (R137): The instruction reads a stream into a register and sets C when the stream is not valid. -/
  | ixRd (n : Fin 32) (cond : Fin 16) (d : Fin 8) (stream : BitVec 8)
  /-- IX_ADD (R142): The instruction adds two registers modulo 2^32. -/
  | ixAdd (n : Fin 32) (cond : Fin 16) (d sr : Fin 8)
  /-- IX_ADDI (R142): The instruction adds an immediate to a register modulo 2^32. -/
  | ixAddi (n : Fin 32) (cond : Fin 16) (d : Fin 8) (imm : BitVec 16)
  /-- IX_SUB (R142): The instruction subtracts one register from another modulo 2^32. -/
  | ixSub (n : Fin 32) (cond : Fin 16) (d sr : Fin 8)
  /-- IX_CMP (R143): The instruction sets the flags of a register difference. -/
  | ixCmp (n : Fin 32) (cond : Fin 16) (d sr : Fin 8)
  /-- IX_CMPI (R143): The instruction sets the flags of a register minus an immediate. -/
  | ixCmpi (n : Fin 32) (cond : Fin 16) (d : Fin 8) (imm : BitVec 16)
  /-- IX_MUL (R142): The instruction multiplies with scaling, rounding and saturation. -/
  | ixMul (n : Fin 32) (cond : Fin 16) (d sr : Fin 8) (k : BitVec 5)
  /-- IX_ABS (R142): The instruction takes a saturating absolute value. -/
  | ixAbs (n : Fin 32) (cond : Fin 16) (d sr : Fin 8)
  /-- IX_MIN (R143): The instruction takes the signed minimum. -/
  | ixMin (n : Fin 32) (cond : Fin 16) (d sr : Fin 8)
  /-- IX_MAX (R143): The instruction takes the signed maximum. -/
  | ixMax (n : Fin 32) (cond : Fin 16) (d sr : Fin 8)
  /-- IX_AND (R143): The instruction takes the bitwise AND. -/
  | ixAnd (n : Fin 32) (cond : Fin 16) (d sr : Fin 8)
  /-- IX_OR (R143): The instruction takes the bitwise OR. -/
  | ixOr (n : Fin 32) (cond : Fin 16) (d sr : Fin 8)
  /-- IX_XOR (R143): The instruction takes the bitwise XOR. -/
  | ixXor (n : Fin 32) (cond : Fin 16) (d sr : Fin 8)
  /-- IX_SHR (R143): The instruction shifts right arithmetically. -/
  | ixShr (n : Fin 32) (cond : Fin 16) (d sr : Fin 8) (k : BitVec 5)
  /-- IX_SHL (R142): The instruction shifts left with saturation. -/
  | ixShl (n : Fin 32) (cond : Fin 16) (d sr : Fin 8) (k : BitVec 5)
  /-- IX_MAG3 (R142): The instruction computes the magnitude of three consecutive registers. -/
  | ixMag3 (n : Fin 32) (cond : Fin 16) (d : Fin 8) (sr : Fin 6)
  /-- IX_FILT (R143): The instruction applies a first-order filter step. -/
  | ixFilt (n : Fin 32) (cond : Fin 16) (d sr : Fin 8) (k : BitVec 5)
  /-- IX_TSET (R144): The instruction sets a timer deadline to the run's tick plus an immediate. -/
  | ixTset (n : Fin 32) (cond : Fin 16) (timer : Fin 4) (imm : BitVec 16)
  /-- IX_TSETV (R144): The instruction sets a timer deadline to the run's tick plus a register. -/
  | ixTsetv (n : Fin 32) (cond : Fin 16) (timer : Fin 4) (sr : Fin 8)
  /-- IX_TCLR (R144): The instruction stops a timer. -/
  | ixTclr (n : Fin 32) (cond : Fin 16) (timer : Fin 4)
  /-- IX_TST (R144): The instruction tests whether a timer has expired or is stopped. -/
  | ixTst (n : Fin 32) (cond : Fin 16) (timer : Fin 4)
  /-- IX_CADD (R142): The instruction adds to a counter with saturation. -/
  | ixCadd (n : Fin 32) (cond : Fin 16) (ctr : Fin 2) (imm : BitVec 16)
  /-- IX_CCLR (R143): The instruction clears a counter. -/
  | ixCclr (n : Fin 32) (cond : Fin 16) (ctr : Fin 2)
  /-- IX_JMP (R143): The instruction continues at a target inside the region. -/
  | ixJmp (n : Fin 32) (cond : Fin 16) (target : BitVec 13)
  /-- IX_END (R143): The instruction ends the run; the next run starts at the region's entry. -/
  | ixEnd (n : Fin 32) (cond : Fin 16)
  /-- IX_NEXT (R143): The instruction ends the run; the next run starts at its target. -/
  | ixNext (n : Fin 32) (cond : Fin 16) (target : BitVec 13)
  /-- IX_HALT (R146): The instruction ends the run and stops the machine once its tick is confirmed. -/
  | ixHalt (n : Fin 32) (cond : Fin 16)
  /-- IX_CKPT (R145): The instruction opens a checkpoint for the run's tick. -/
  | ixCkpt (n : Fin 32) (cond : Fin 16)
  /-- IX_EMIT (R147): The instruction produces an EVENT record, provisional in a speculative run. -/
  | ixEmit (n : Fin 32) (cond : Fin 16) (d sr : Fin 8) (code : BitVec 16)
  /-- IX_SAFEOFF (R148): The instruction requests SAFE off with a reason, acting at once under SPEC_ACT or on a committed run, and otherwise held. -/
  | ixSafeoff (n : Fin 32) (cond : Fin 16) (reason : BitVec 8)
  /-- IX_PIOW (R146): The instruction writes a register to a PIO engine's MPORT, acting at once under SPEC_ACT or on a committed run, and otherwise held. -/
  | ixPiow (n : Fin 32) (cond : Fin 16) (sr : Fin 8) (engine : Fin 4)
  /-- IX_BELL (R146): The instruction posts the machine's source or a software doorbell, held until confirmation. none: the machine's own source; else software source 120 + k. -/
  | ixBell (n : Fin 32) (cond : Fin 16) (source : Option (Fin 8))
  /-- IX_CAPT (R146): The instruction triggers a ring capture at the run's tick, held until confirmation. -/
  | ixCapt (n : Fin 32) (cond : Fin 16) (desc : Fin 4)
  /-- IX_VOTE (R146): The instruction sets or withdraws the machine's stay-awake vote, held until confirmation. -/
  | ixVote (n : Fin 32) (cond : Fin 16) (v : Bool)
  /-- HEARTBEAT_TIMEOUT (R212): HB_TIMEOUT elapses without a fresh heartbeat; ARMED trips with cause HEARTBEAT and ARMING returns to DISARMED. -/
  | heartbeatTimeout
  /-- SAFE_B_CLOSE (R208): The monitor sees two correct SAFE_A edges and closes SAFE_B, emitting SAFE_ARMED, or enters FAULT if they do not come within 5 ms. `edges`: the monitor saw two correct SAFE_A edges. -/
  | safeBClose (edges : Bool)
  /-- READBACK_FAULT (R217): A SAFE_A or SAFE_B readback disagrees with its command for the stated time; both outputs go off and a FAULT is latched. `pinB`: on SAFE_B, else on SAFE_A. -/
  | readbackFault (pinB : Bool)
  /-- STATE_EXCHANGE (R218): The firmware and the monitor exchange their safety states after every change and at least every 1 ms, and a silent monitor is reported. -/
  | stateExchange
  /-- MONITOR_DISAGREE (R218): The firmware and monitor states have disagreed for 2 ms; each takes its output off and the state becomes FAULT with cause MONITOR. -/
  | monitorDisagree
  /-- SAFE_B_DISCHARGE_END (R205): Ten milliseconds after SAFE_B turns off, the active discharge ends and only the internal discharge remains. -/
  | safeBDischargeEnd
  /-- OVERFLOW_GAP (R232): In the drop state, a commit point finds 64 words free and its records fit; one GAP record with cause OVERFLOW is written and the drop state ends. -/
  | overflowGap
  /-- QUEUE_ECC_ERROR (R232): A queue record holds an uncorrectable word; it is dropped with cause ECC and source 71 pends. Visible record k. -/
  | queueEccError (k : Fin 1024)
  /-- RING_CAPTURE_END (R238): The last record of tick T + 40 × POST is stored; the ring enters FROZEN, sets CAP_END and emits RING_FROZEN. -/
  | ringCaptureEnd
  /-- RING_POINTER_MISMATCH (R240): The two copies of a ring pointer disagree or both fail parity; the ring is emptied and a RING_RESET record is emitted. `oneCopy`: one copy alone fails parity. -/
  | ringPointerMismatch (oneCopy : Bool)
  /-- TIME_SECOND_RECORD (R239): At every tick that is a multiple of 40 000, a TIME record of cause 1 is stored in the ring, and in the queue if TIME_EN is set. -/
  | timeSecondRecord
  /-- HOUSEKEEPING_RECORD (R244): QUEUE_HK.PERIOD ms have passed, and a HOUSEKEEPING record carrying the masked entries is committed. -/
  | housekeepingRecord
  /-- STREAM_FRAME_AGE (R315): The first record of an open stream frame has waited MAX_AGE ms, and the frame is closed. -/
  | streamFrameAge
  /-- CORRUPTED_FRAME (R313): A frame arrives with a coding violation or a bad FCS; it is discarded, counted and RX_ERROR is set. `fcs`: a bad FCS, else a coding violation. -/
  | corruptedFrame (fcs : Bool)
  /-- BEACON_RECEIVED (R310): A PLCA BEACON arrives; the opportunity count restarts, PLCA comes back in step and any pending PLCA setting applies. -/
  | beaconReceived
  /-- BEACON_LOSS (R310): No BEACON has arrived for the PLCA timeout; PLCA_OK clears, source 100 pends and the module sends by CSMA/CD. -/
  | beaconLoss
  /-- TRANSMIT_OPPORTUNITY (R312): The module's transmit opportunity begins; it sends one ready frame if it can start in time, or defers the frame to the next cycle. -/
  | transmitOpportunity (outcome : TxOutcome)
  /-- SYNC_FOLLOW_UP (R321): A Sync and Follow_Up pair yields an offset; the servo steps, refuses the jump or corrects the rate, and updates its lock state. Module time at the MAC on Sync ingress; preciseOriginTimestamp + correctionField. -/
  | syncFollowUp (latched origin : BitVec 96) (oneStep : Bool)
  /-- PDELAY_REQ (R307): A Pdelay_Req arrives, and the module answers as peer-delay responder. -/
  | pdelayReq (latched : BitVec 96) (seq : BitVec 16)
  /-- PDELAY_RESP (R321): A Pdelay_Resp and its follow-up arrive, and the module updates the mean link delay. Module time at the MAC on ingress; the two times the messages carry. -/
  | pdelayResp (latched t2 t3 : BitVec 96)
  /-- SERVO_HOLDOVER (R322): No Sync and Follow_Up pair has arrived for 1 s; the servo enters HOLDOVER and keeps RATE. -/
  | servoHoldover
  /-- TIME_STEP_APPLY (R318): At tick t_s a step or rate change of module time takes effect and TIME records are written to the queue and the ring. -/
  | timeStepApply
  /-- TX_TIMESTAMP (R323): An egress timestamp completes and enters the TX timestamp queue, or is dropped when the queue is full. Module time at the MAC on egress. -/
  | txTimestamp (latched : BitVec 96)
  /-- HOST_TS_EXPIRY (R323): A HOST timestamp entry has gone unread for 1 s; it is freed and counted as expired. -/
  | hostTsExpiry
  /-- AON_CALIBRATION (R324): In Noon, each 1 s average of the AON clock period against the reference updates NIGHT_AON. 2^-12 ns. -/
  | aonCalibration (period : Word)
  /-- PAIR_MASTER_SYNC (R330): Every 31.25 ms a pair-local master forewing sends Sync, Follow_Up and Announce in the pair domain. -/
  | pairMasterSync
  /-- TW_PAGE_SELECT (R294): A write to address A + 1 stores the page, or NACKs a value above 0x11. -/
  | twPageSelect (p : Byte)
  /-- TW_STOP (R297): A STOP ends a two-wire transaction; PEC-held bytes are applied or dropped, partial words are discarded and a TW_ADDR2 change takes effect. `rest` as in REPEATED_START; `before`: the transaction's bytes up to the last START. -/
  | twStop (before rest : List Byte)
  /-- TW_BUS_TIMEOUT (R302): A line has been held low for 25 ms to 35 ms within a transaction; the target releases the lines, resets to idle and counts the timeout. -/
  | twBusTimeout (partly : Bool) (cut : BitVec 2)
  /-- TW_STUCK_LINE (R303): In Noon, another party has held SCL or SDA low for 35 ms, and the stuck line is reported. -/
  | twStuckLine (sda : Bool)
  /-- ALERT_RESPONSE (R298): A read of 0x0C while ALERT_N is asserted; the module arbitrates its address and releases ALERT_N when it wins. -/
  | alertResponse (won : Bool)
  /-- ALERT_REPEAT (R298): REPEAT_MS after a won alert response with sources still pending, ALERT_N is asserted again. -/
  | alertRepeat
  /-- NIGHT_ADDRESS_MATCH (R299): In Night or Dusk, the AON recognizer matches a module address, holds SCL low and raises a held wake. -/
  | nightAddressMatch
  /-- JOIN_REQ_RECEIVED (R339): A hindwing receives JOIN_REQ, checks it and answers JOIN_ACK or JOIN_NAK. Sender, stream header and message. -/
  | joinReqReceived (mac : BitVec 48) (payload : List Byte)
  /-- JOIN_ACK_RECEIVED (R339): The forewing receives JOIN_ACK, and the join proceeds toward boundary B. Sender, stream header and message. -/
  | joinAckReceived (mac : BitVec 48) (payload : List Byte)
  /-- JOIN_NAK_RECEIVED (R339): The forewing receives JOIN_NAK; the join fails with its reason and source 112 pends. Sender, stream header and message. -/
  | joinNakReceived (mac : BitVec 48) (payload : List Byte)
  /-- JOIN_ACK_DEADLINE (R339): JOIN_ACK has not arrived 4000 ticks before B; B moves to the next whole second, or after three boundaries the join fails with reason 5. -/
  | joinAckDeadline
  /-- PAIR_BOUNDARY (R339): Tick B is reached; records switch to PAIRSAMPLE and both modules emit PAIR_JOIN records. The hindwing's time was LOCKED 4000 ticks before B. -/
  | pairBoundary (locked : Bool)
  /-- AUTO_JOIN (R328): At a pair boundary, an IDLE forewing with AUTO_JOIN set attempts a join. -/
  | autoJoin
  /-- SYNC_PULSE (R331): At every forewing grid tick that is a multiple of 4000, the forewing drives a 10 µs SYNC pulse and sends a BEAT. -/
  | syncPulse
  /-- BEAT_RECEIVED (R332): The hindwing receives a BEAT announcing the next pulse time, which under PTP-only alignment schedules its decimator reset. Sender, stream header and message. -/
  | beatReceived (mac : BitVec 48) (payload : List Byte)
  /-- PTP_ONLY_RESET (R332): Under PTP-only alignment, the hindwing applies a decimator reset at the announced time. -/
  | ptpOnlyReset
  /-- SYNC_LOST (R332): SYNC read back wrong or two announced edges are missed; SYNC_LOST is set, source 114 pends and alignment becomes PTP-only. -/
  | syncLost
  /-- BEAT_MISSED (R340): Three BEAT messages are missing, and the hindwing ends the pair with cause PARTNER. -/
  | beatMissed
  /-- LEAVE_RECEIVED (R340): A LEAVE message arrives and the pair ends with cause PARTNER. -/
  | leaveReceived (mac : BitVec 48)
  /-- CONTRIBUTION_RECEIVED (R336): A hindwing contribution frame arrives, and each contribution is matched to a forewing tick or discarded as late. Sender, stream header and contributions. -/
  | contributionReceived (mac : BitVec 48) (payload : List Byte)
  /-- FUSION_WAIT_EXPIRY (R336): The 500 µs wait for a contribution ends; the PAIRSAMPLE is formed with the contribution or with CONTRIB 0, and three misses end the pair. -/
  | fusionWaitExpiry
  /-- DUSK_BEGIN (R346): No vote stands and DUSK_DELAY has passed; Dusk stops machines and recognizers, discards records, saves the Cocoon and powers the domains down. -/
  | duskBegin
  /-- NIGHT_ENTRY (R351): Dusk completes with the edge-wake handover and the VAUX Night choice; the module enters Night, or Dawn if a held wake is pending. -/
  | nightEntry
  /-- WAKE_PIO_LEVEL (R352): A PIO pin configured as a level wake holds its level in Night or at the end of Dusk, and a held wake starts Dawn. Pin p. -/
  | wakePioLevel (p : Fin 6)
  /-- WAKE_PIO_EDGE (R352): A configured edge arrives on a PIO pin; it raises a wake, or is lost inside the last 92 µs of Dusk. Pin p; `late`: inside the last 92 us of Dusk. -/
  | wakePioEdge (p : Fin 6) (late : Bool)
  /-- NIGHT_TIMER_EXPIRY (R352): NIGHT_TIMER seconds after Night entry, a held wake starts Dawn. -/
  | nightTimerExpiry
  /-- DAWN_REGULATOR_READY (R356): The core rails of all domains are good, and the oscillator step starts. -/
  | dawnRegulatorReady
  /-- DAWN_OSCILLATOR_READY (R356): The 48 MHz reference is stable, the T1S synthesiser is locked and the drive kick is issued, and the memory step starts. -/
  | dawnOscillatorReady
  /-- DAWN_MEMORY_READY (R348): MEMORY leaves retention and the Cocoon is restored and checked, or a failed restore takes the restart path. `ok`: the Cocoon's restore passed its check. -/
  | dawnMemoryReady (ok : Bool)
  /-- DAWN_COMPLETE (R356): The logic step releases resets and the crossings; the module enters Noon, resumes time, re-samples interrupt levels and pends source 72. AON cycles since Dusk entry, length of the Night, crossings that discard a transfer. -/
  | dawnComplete (cycles : BitVec 64) (ms : Word) (cut : BitVec 11)
  /-- HK_PASS (R381): Every PASS base ticks, a housekeeping pass starts and gives the enabled entries to the active slices. -/
  | hkPass
  /-- HK_CONVERSION_DONE (R382): An entry's self-timed conversion ends; its result word and window state update and a window event may be set. Entry k's result; `sat`: the input was beyond full scale. -/
  | hkConversionDone (k : Fin 16) (value : BitVec 16) (sat : Bool)
  /-- SLICE_CALIBRATION (R384): Every 250 ms the spare slice is calibrated against ground and the internal references, and may be retired. `good`: offset and gain within their limits. -/
  | sliceCalibration (good : Bool)
  /-- SLICE_SWAP (R384): At the next pass boundary after calibration, the spare replaces the oldest-calibrated active slice with a shadow check. Outcome of the shadow check. -/
  | sliceSwap (disagree : Bool)
  /-- LEGACY_ACTION_FIRE (R393): In legacy mode, TCNT reaches the current entry's TIME; the masked pins are set and the engine advances, halts or restarts. Engine k. -/
  | legacyActionFire (k : Fin 4)
  /-- PIO_NOP (R389): The PIO instruction has no effect. -/
  | pioNop (k : Fin 4)
  /-- PIO_JMP (R389): The PIO instruction jumps if its condition holds. -/
  | pioJmp (k : Fin 4) (pins : BitVec 6) (cond : Fin 8) (pin target : BitVec 6)
  /-- PIO_SET (R389): The PIO instruction sets the levels of masked owned pins. -/
  | pioSet (k : Fin 4) (mask levels : BitVec 6)
  /-- PIO_DIR (R389): The PIO instruction sets the directions of masked owned pins. -/
  | pioDir (k : Fin 4) (mask dirs : BitVec 6)
  /-- PIO_SHIN (R389): The PIO instruction shifts pin bits into X. -/
  | pioShin (k : Fin 4) (pins : BitVec 6) (width : Fin 4) (pin : Fin 6)
  /-- PIO_JTAB (R389): The PIO instruction jumps to base + (X & 0xF). -/
  | pioJtab (k : Fin 4) (base : Fin 49)
  /-- PIO_ADDJ (R389): The PIO instruction adds a delta to a register and jumps. -/
  | pioAddj (k : Fin 4) (reg : Fin 3) (delta target : BitVec 6)
  /-- PIO_LDI (R389): The PIO instruction loads an immediate into a register. -/
  | pioLdi (k : Fin 4) (reg : Fin 3) (value : BitVec 16)
  /-- PIO_PUT (R389): The PIO instruction delivers a register to NPORT as a notch period word and reloads it. -/
  | pioPut (k : Fin 4) (reg : Fin 3) (reload : BitVec 16)
  /-- PIO_GET (R389): The PIO instruction reads MPORT into a register. -/
  | pioGet (k : Fin 4) (reg : Fin 3)
  /-- PIO_SETX (R389): The PIO instruction sets masked owned pins from X. -/
  | pioSetx (k : Fin 4) (mask : BitVec 6)
  /-- PIO_IRQ (R389): The PIO instruction sets the engine's PIO_EVENTS bit. -/
  | pioIrq (k : Fin 4)
  /-- PIO_HALT (R389): The PIO instruction halts the engine and sets its event bit. -/
  | pioHalt (k : Fin 4)
  /-- TW_POINTER_SET (R294): The first data byte of a write to A, A2 or a group address sets the 8-bit register pointer. -/
  | twPointerSet (p : Byte)
  /-- REPEATED_START (R295): A repeated START discards an incomplete word, counts it in TW_COUNTS.PARTIAL and sets PROTOCOL, keeps the pointer, and ends a PEC write without a PEC byte. The bytes of an incomplete word; under PEC, those since the last START. -/
  | repeatedStart (rest : List Byte)
  /-- TW_STUCK_LINE_CLEAR (R303): A line reported stuck has been high for 1 ms, and its SCL_STUCK or SDA_STUCK flag clears. -/
  | twStuckLineClear (sda : Bool)
  /-- PHASE_SHEDDING (R370): The VAUX load crosses 0.9 A or 2.6 A rising, or 2.4 A or 0.7 A falling, and the converter adds or sheds a phase. The phases that switch after it. -/
  | phaseShedding (active : Fin 8)
  /-- BEACON_TRANSMIT (R310): As PLCA coordinator (node ID 0), the module sends a BEACON at the start of each PLCA cycle, and its opportunity counts restart. -/
  | beaconTransmit
  /-- PDELAY_REQ_TRANSMIT (R307): As peer-delay requester, the module sends a Pdelay_Req on its own schedule, which leads to the Pdelay_Resp that updates the mean link delay. -/
  | pdelayReqTransmit
deriving DecidableEq, Repr

end Sys2Proof
end

