-- ==== Sys2Proof/Decode.lean ====
section
/-!
DEFINITION. The command a word spells. spec/opcode_table.json gives no row any bits (its rows are register accesses,
host packets and events, not words), so no word spells a command.
-/
namespace Sys2Proof

/-- The command spelled by a word of `nbits` bits: none. -/
def decodeTableWord (_nbits _w : Nat) : Option Instr := none

end Sys2Proof
end

