-- ==== Sys2Proof/Config.lean ====
section
/-!
DEFINITION. What one module has from the factory (OTP and ROM contents), the functions the spec names without giving
them, and the free values: values the spec leaves open. Each is a constant without a body.
-/
namespace Sys2Proof.Config

/-! ### OTP identity and ROM (R2, R287, R290) -/

opaque grade : Byte
opaque hwRev : Byte
opaque romVersion : BitVec 16
opaque calVersion : BitVec 16
opaque serial : BitVec 64
/-- The module's MAC address; the byte transmitted first is the least significant here. -/
opaque mac : BitVec 48
/-- The 64 bytes of the device public key (R287). -/
opaque deviceKey : List Byte
/-- The 64 bytes of the endorsement held in OTP (R287). -/
opaque endorsement : List Byte

/-- SHA-256 (R277, R287); its form is FIPS 180's, which the spec does not repeat. -/
opaque sha256 : List Byte → List Byte
/-- Whether a signature over a SHA-256 digest is valid under the key held in ROM (R277). -/
opaque romKeyAccepts : (digest signature : List Byte) → Bool
/-- The device key's signature over a digest; the index makes each signature its own (R287). -/
opaque deviceSign : Nat → (digest : List Byte) → List Byte

/-! ### OTP calibration (Table 3.4) and constants of the arithmetic the spec does not give -/

/-- Position of a triad along one axis, int16, 10 micrometres (R50). -/
opaque position : (triad axis : Nat) → Int
/-- Bias coefficients b0 to b3 and gb, and scale coefficients s0 to s3, of a channel (Table 3.4). -/
opaque biasCoef : (channel k : Nat) → Int
opaque scaleCoef : (channel k : Nat) → Int
/-- Square of the OTP noise of a channel scaled to the bandwidth of a preset, in raw LSB with 8 fraction bits (R85). -/
opaque sigmaFloorSq : (channel preset : Nat) → Rat
/-- One step of the 10 s rms estimate of R85, whose form the spec does not give: interval in ticks, square of s,
square of the residual. -/
opaque rmsStep : (ticks : Nat) → (s2 r2 : Rat) → Rat
/-- Radians per degree, as the module's arithmetic holds it (R15, R51). -/
opaque degToRad : Rat
/-- Metres per second squared per g, as the module's arithmetic holds it (R15, R51). -/
opaque gravity : Rat
/-- The sentinel's 0.5 Hz high-pass (Table 3.10), whose form the spec does not give: rate code, previous input,
previous output, input. -/
opaque sentinelHighpass : (rate : Nat) → (prevIn prevOut x : Rat) → Rat

/-! ### Functions of the recognizers' arithmetic whose form the spec does not give (R187 to R197) -/

/-- Square root. -/
opaque sqrt : Rat → Rat
/-- f / norm(f) where f is 0, which R187 does not state. -/
opaque unitOfZero : List Rat
/-- Arc cosine in degrees (R187). -/
opaque acosDeg : Rat → Rat
/-- Direction of a vector (x, y) from +X toward +Y, in degrees from 0 to 360 (R191). -/
opaque azimuthDeg : Rat → Rat → Rat
/-- Cosine and sine of a fraction of a turn (R197). -/
opaque cosTurn : Rat → Rat
opaque sinTurn : Rat → Rat
/-- The 10 Hz low-pass of R194: ticks since the last sample, previous output, input. -/
opaque lowpass10 : (ticks : Nat) → (prev x : Rat) → Rat
/-- The angle between two vectors in degrees (R196). -/
opaque angleDeg : List Rat → List Rat → Rat

/-! ### Link and module time (chapter 14) -/

/-- The servo's proportional-integral loop (R321), whose gains the spec does not give: its memory, the offset in
2^-16 ns and RATE give the new memory and the RATE before the clamp. -/
opaque servoStep : (memory offset rate : Int) → Int × Int
/-- The mean link delay of a peer-delay exchange in 2^-16 ns (R321, IEEE 802.1AS): t1 to t4 in the layout of R112. -/
opaque linkDelay : (t1 t2 t3 t4 : Nat) → Int
/-- The payload of a gPTP message the module sends (R314, IEEE 802.1AS): kind (0 Sync, 1 Follow_Up, 2 Pdelay_Req,
3 Pdelay_Resp, 4 Pdelay_Resp_Follow_Up, 5 Announce), domain, sequenceId, and the time it carries. -/
opaque ptpMessage : (kind domain seq time : Nat) → List Byte
/-- Module time in 2^-16 ns after a TIME_SET whose nanoseconds are 1 000 000 000 or more, which R325 does not state. -/
opaque timeOfExcess : Nat → Nat

/-- An axis of a pair that is INVALID in both modules, whose value R337 does not state: forewing's, hindwing's. -/
opaque pairUnweighted : (f h : Rat) → Rat

/-- A fresh value the spec leaves open: the index counts the values drawn so far. -/
opaque freeWord : Nat → Word

end Sys2Proof.Config
end

