-- ==== Sys2Proof/Machine/Bytes.lean ====
section
/-!
DEFINITION. Byte order, bit fields, rounding and the two checksums (R418, R105, R246): the helpers every meaning uses.
-/
namespace Sys2Proof.Machine

/-- The bytes of a word, least significant first (R418). -/
def bytesOf (w : Word) : List Byte :=
  [w.extractLsb' 0 8, w.extractLsb' 8 8, w.extractLsb' 16 8, w.extractLsb' 24 8]

/-- The bytes of a list of words in order, each word little-endian (R418). -/
def bytesOfWords (ws : List Word) : List Byte := ws.flatMap bytesOf

/-- A little-endian number from its bytes (R245). -/
def leNat : List Byte → Nat
  | [] => 0
  | b :: bs => b.toNat + 256 * leNat bs

/-- `n` little-endian bytes of a number (R245). -/
def leBytes : Nat → Nat → List Byte
  | 0, _ => []
  | n + 1, v => BitVec.ofNat 8 v :: leBytes n (v / 256)

/-- Words from bytes, four at a time, little-endian; a shorter rest is dropped. -/
def wordsOfBytes : List Byte → List Word
  | a :: b :: c :: d :: rest => BitVec.ofNat 32 (leNat [a, b, c, d]) :: wordsOfBytes rest
  | _ => []

/-- Byte `i` of a parameter field, 0 past its end. -/
def byteAt (p : List Byte) (i : Nat) : Nat := ((p.drop i).headD 0).toNat

/-- The 16-bit field at byte `i`. -/
def half (p : List Byte) (i : Nat) : Nat := leNat ((p.drop i).take 2)

/-- The 32-bit field at byte `i`. -/
def wordAt (p : List Byte) (i : Nat) : Word := BitVec.ofNat 32 (leNat ((p.drop i).take 4))

/-- The `n`-byte number at byte `i`. -/
def numAt (p : List Byte) (i n : Nat) : Nat := leNat ((p.drop i).take n)

/-- Bits [lo + width - 1 : lo] of a word, as a number. -/
def bits (w : Word) (lo width : Nat) : Nat := w.toNat >>> lo % 2 ^ width

/-- Bit `k` of a word. -/
def bit (w : Word) (k : Nat) : Bool := w.getLsbD k

/-- A word with bits [lo + width - 1 : lo] replaced by the low bits of `v`. -/
def putBits (w : Word) (lo width v : Nat) : Word :=
  (w &&& ~~~ (BitVec.ofNat 32 (2 ^ width - 1) <<< lo)) ||| (BitVec.ofNat 32 (v % 2 ^ width) <<< lo)

/-- The word with bit `k` alone set. -/
def bitWord (k : Nat) : Word := BitVec.ofNat 32 (2 ^ k)

/-- Words from numbers. -/
def w32 (n : Nat) : Word := BitVec.ofNat 32 n

/-- The low and the high word of a 64-bit number. -/
def loHi (n : Nat) : List Word := [w32 n, w32 (n / 2 ^ 32)]

/-- 0 or 1. -/
def b01 (b : Bool) : Nat := if b then 1 else 0

/-- A number from the bits a list of Booleans gives, first bit lowest. -/
def maskOf : List Bool → Nat
  | [] => 0
  | b :: bs => b01 b + 2 * maskOf bs

/-- The signed value of the low `n` bits of a number. -/
def signed (n v : Nat) : Int :=
  if v % 2 ^ n < 2 ^ (n - 1) then ((v % 2 ^ n : Nat) : Int) else ((v % 2 ^ n : Nat) : Int) - 2 ^ n

/-- An integer as a 32-bit word, modulo 2^32. -/
def wordOfInt (i : Int) : Word := BitVec.ofInt 32 i

/-- Clamp to a range (saturation). -/
def clampInt (lo hi x : Int) : Int := if x < lo then lo else if hi < x then hi else x

/-- Saturate to int32. -/
def sat32 (x : Int) : Int := clampInt (-2147483648) 2147483647 x

/-- Saturate an unsigned field of `n` bits. -/
def satBits (n v : Nat) : Nat := min v (2 ^ n - 1)

/-- Round a rational to the nearest integer, ties to the even one (R105). -/
def roundEven (q : Rat) : Int :=
  let f := q.floor
  let d := q - (f : Rat)
  if d < 1 / 2 then f else if 1 / 2 < d then f + 1 else if f % 2 = 0 then f else f + 1

/-- One bit of the reflected CRC-32 (R246). -/
def crc32Bit (c : Word) : Word := if c.getLsbD 0 then (c >>> 1) ^^^ 0xEDB88320 else c >>> 1

/-- One byte of the reflected CRC-32. -/
def crc32Byte (c : Word) (b : Byte) : Word :=
  crc32Bit (crc32Bit (crc32Bit (crc32Bit (crc32Bit (crc32Bit (crc32Bit (crc32Bit (c ^^^ b.setWidth 32))))))))

/-- CRC-32 of IEEE 802.3 over a byte string (R246). -/
def crc32 (bs : List Byte) : Word := (bs.foldl crc32Byte 0xFFFFFFFF) ^^^ 0xFFFFFFFF

end Sys2Proof.Machine
end

