-- ==== Sys2Proof/Machine/State.lean ====
section
/-!
DEFINITION. The machine state as plain data, the reasons a step can stop, and the state after reset.
-/
namespace Sys2Proof.Machine

/-- Reasons for which a command stops. -/
inductive Fault where
  /-- Raised by an event whose list operand has not the length the hardware always delivers (216 channel values,
  72 triads and so on): no hardware event is of that shape. Safe: no hardware run is affected. -/
  | operandLength
deriving DecidableEq, Repr

/-- Reasons for which a command is refused by the model. -/
inductive Refusal where
  /-- Raised by a row of the table that has no meaning yet. Safe: nothing is said about it. -/
  | notModelled (mnemonic : String)
deriving DecidableEq, Repr

/-- A field of a register: its register's address, its lowest bit and its width. -/
structure Fld where
  reg : Nat
  lo : Nat
  width : Nat
deriving DecidableEq, Repr

/-- Registers that differ from their reset value: (address, word), addresses strictly rising, no entry equal to the
reset word. -/
abbrev RegFile := List (Nat × Word)

/-! ### Output queue and sample memory (chapter 10) -/

/-- A drop episode of the queue (R232): the cause, the dropped sample ticks and the other dropped records. -/
structure DropEpisode where
  cause : Nat
  first : Option Nat
  last : Option Nat
  others : Nat
deriving DecidableEq, Repr

/-- A visible record: its tick, and its words, header included. -/
structure QRec where
  tick : Nat
  words : List Word
deriving DecidableEq, Repr

/-- The output queue (R229 to R236). -/
structure QueuePart where
  /-- whole visible records, oldest first -/
  visible : List QRec
  /-- unread bytes of the record that the window has partly read (R235) -/
  partly : List Byte
  /-- unread bytes of an idle word the window has begun (R235) -/
  idle : List Byte
  /-- SEQ of the next commit (R230) -/
  seq : BitVec 16
  /-- the drop state (R232) -/
  drop : Option DropEpisode
  /-- committed sample records still to be skipped before one enters (QUEUE_CFG.SAMPLE_DIV) -/
  skip : Nat
  /-- the SINK in force: a change applies at the reader's next record boundary (R234) -/
  sink : Nat
deriving DecidableEq, Repr

/-- A record as it is stored in the ring: its position, its tick, its words. -/
structure RingRec where
  pos : Nat
  tick : Nat
  words : List Word
deriving DecidableEq, Repr

/-- The sample memory ring (R237 to R241). -/
structure RingPart where
  /-- stored records, oldest first -/
  recs : List RingRec
  /-- next write position -/
  wr : Nat
  /-- tick of the last record that was overwritten since the ring was last emptied -/
  lastLost : Option Nat
  /-- positions at which records stood that have been overwritten and at which none stands now -/
  lost : List Nat
  /-- POLICY and CONTENT in force (a change applies at the next commit point, R242) -/
  policy : Nat
  content : Nat
  /-- tick of the trigger of the current capture -/
  trigTick : Nat
  /-- a TIME record of cause 5 is owed at the first commit after Dawn (R239) -/
  dawnRecord : Bool
deriving DecidableEq, Repr

/-! ### Command layer (chapter 11) -/

/-- A queued-class request that waits or executes. -/
structure QCmd where
  opcode : Nat
  req : Req
  /-- its reply is discarded as it forms (MBX_CTRL.CLEAR came while it was owed) -/
  drop : Bool
deriving DecidableEq, Repr

/-- One entry of the duplicate cache (R248): key and reply bytes. -/
structure CacheEntry where
  origin : Origin
  tag : Byte
  crc : Word
  reply : List Byte
deriving DecidableEq, Repr

/-- A frame the module has formed: EtherType, destination MAC, payload; the kind and identifier of the egress timestamp
it asks for; the timestamp entry it frees when it is sent (R323). -/
structure Frame where
  etherType : Nat
  dest : BitVec 48
  payload : List Byte
  stamp : Option (Nat × Nat) := none
  frees : Option (Nat × Nat) := none
deriving DecidableEq, Repr

/-- Mailbox, command queue and duplicate cache (R248 to R259). -/
structure LinkPart where
  /-- bytes of the partial mailbox request -/
  rx : List Byte
  /-- bytes are ignored until a write begins at offset 0x80 (R249) -/
  rxIgnore : Bool
  /-- unread bytes of each held reply, oldest first -/
  replies : List (List Byte)
  /-- unread bytes of an idle reply word that has been begun -/
  idle : List Byte
  executing : Option QCmd
  waiting : List QCmd
  cache : List CacheEntry
  /-- frames waiting for a transmit opportunity, oldest first -/
  txFrames : List Frame
deriving DecidableEq, Repr

/-! ### Link and module time (chapter 14) -/

/-- An entry of the TX timestamp queue (R323): kind 0 HOST, 1 Sync, 2 Pdelay_Resp, 3 Pdelay_Req (PTP but for 0),
identifier, and the 96-bit time. -/
structure TsEntry where
  kind : Nat
  id : Nat
  time : Nat
deriving DecidableEq, Repr

/-- What module time keeps beside its registers. Times are in 2^-16 ns, unwrapped where they are differences. -/
structure TimePart where
  /-- an accepted TIME_SET: tick T and the new time -/
  set : Option (Nat × Nat)
  /-- an accepted RATE of TIME_ADJUST -/
  hostRate : Option Int
  /-- a step and a rate the servo has decided and not yet applied (R321) -/
  delta : Option Int
  servoRate : Option Int
  /-- consecutive measurements below, and at or above, TIME_LOCK_TH (R322) -/
  good : Nat
  bad : Nat
  /-- memory of the proportional-integral loop -/
  integral : Int
  /-- last mean link delay -/
  linkDelay : Int
  /-- the servo follows the pair domain whatever SOURCE says (R338) -/
  override : Bool
  /-- TX timestamp queue, and frames sent whose egress timestamp is due -/
  ts : List TsEntry
  awaiting : List (Nat × Nat)
  /-- next sequenceId of Sync and Announce, and of Pdelay_Req -/
  syncSeq : BitVec 16
  reqSeq : BitVec 16
  /-- tick, module time and RATE at Dusk entry (R324) -/
  dusk : Option (Nat × Nat × Int)
deriving DecidableEq, Repr

/-- The T1S link beside its registers. -/
structure T1sPart where
  /-- the PLCA word in force (R309) -/
  plca : Word
  /-- records of the open stream frame that MAX_AGE has closed, 0 for none (R315) -/
  closed : Nat
  /-- FSEQ of stream types 2 and 3 -/
  seq2 : BitVec 16
  seq3 : BitVec 16
  /-- the last frame sent (an output of the block) -/
  sent : Option Frame
deriving DecidableEq, Repr

/-! ### Boot (chapter 12) -/

/-- One code RAM slot: the image bytes stored, the length IMG_BEGIN gave, the block accepted under it (R276). -/
structure Slot where
  image : List Byte
  length : Nat
  block : Option (List Byte)
deriving DecidableEq, Repr

/-- Code RAM, the staged block and the restarts of the last seconds (R276 to R286). -/
structure BootPart where
  slot0 : Slot
  slot1 : Slot
  staged : List Byte
  /-- ticks of the restarts, latest first (R286) -/
  restarts : List Nat
  /-- REVERT has been answered and the block in PREV is still to be applied (R285) -/
  revert : Bool
  /-- the 12 MOUNTING words in force (Table 12.8) -/
  mounting : List Word
  /-- SYNC_ROLE in force: 0 none, 1 decimator sync, 2 pair sync (Table 12.8) -/
  syncRole : Nat
  /-- a control-pair reset has happened and the active slot is still to be verified (R286) -/
  restarting : Bool
  /-- Imago has been entered since power-up (R273) -/
  started : Bool
  /-- the restart to verify leaves brownout hold: it does not count toward a boot loop (R367) -/
  brownout : Bool
deriving DecidableEq, Repr

/-! ### The two-wire target, the power states and the power entry (chapters 13, 16, 17) -/

/-- The two-wire target beside its registers. -/
structure TwPart where
  /-- SYNC read high in the strap window: A is 0x4E, else 0x4C (R19) -/
  strap : Bool
  /-- the TW_ADDR2 word in force (R293) -/
  addr2 : Word
  /-- PEC_EN as the present transaction found it at its START (R297) -/
  pec : Bool
  /-- an alert response has been won and ALERT_N is released (R298) -/
  quiet : Bool
deriving DecidableEq, Repr

/-- The power sequencer beside its registers. -/
structure PowerPart where
  /-- held wakes that pend, and the pins that contributed (R352, R353) -/
  wakes : List Nat
  pins : Nat
  /-- a control-pair fault came during Dusk: the restart follows at Dawn (Table 16.9) -/
  restart : Bool
deriving DecidableEq, Repr

/-- The power entry beside its registers. -/
structure EntryPart where
  /-- why VAUX is off: 0 it is on, or has never started, 1 shed policy or stop threshold, 2 limit action, 3 thermal
  shutdown, 4 Night choice OFF, 5 no phase left -/
  off : Nat
  /-- limits in force: bit 0 overload, 1 one phase, 2 thermal (R373) -/
  limits : Nat
  /-- brownout hold: tick, module time and RATE recorded in the AON domain (R366) -/
  hold : Option (Nat × Nat × Int)
deriving DecidableEq, Repr

/-! ### Records held for the commit point of their tick (R231) -/

/-- A record that waits for the commit point of its tick: its place in the order of R231 (1 sample or GAP, 2 CELL,
3 HEALTH, 4 engine records, 5 STATUS), and its key within the order of R134. -/
structure HeldRec where
  rank : Nat
  key : Nat
  typ : Nat
  tick : Nat
  payload : List Word
deriving DecidableEq, Repr

/-! ### The array and the voter (chapters 3 and 4) -/

/-- One triad (R86 to R88). -/
structure Triad where
  /-- code of Table 4.1 -/
  state : Nat
  /-- persistence timer P in base ticks -/
  p : Nat
  /-- onset tick (R88) -/
  onset : Nat
  /-- deviance holds for samples below this tick (R87) -/
  devUntil : Nat
  /-- first non-deviant sample of the present run of them, while SUSPECT -/
  quiet : Option Nat
  /-- channels of the triad deviant in the last deviant sample (3 bits) -/
  devCh : Nat
  /-- channels deviant since the onset (3 bits) -/
  devAxes : Nat
  /-- square of the largest |z| since the onset, and the channel that showed it -/
  peak2 : Rat
  peakCh : Nat
  /-- DETAIL of the last retirement (TRIAD_INFO.REASON) -/
  reason : Nat
  /-- DETAIL that the present deviance would give: 1 residual, 2 noise, 3 DRIVE_FAULT, 4 self-test FAIL -/
  cause : Nat
  driveFault : Bool
  testFail : Bool
  /-- tick from which the whole window of its channels is valid (R113) -/
  validFrom : Nat
  /-- state before TESTING (R78) -/
  before : Nat
deriving DecidableEq, Repr

/-- One channel: the square of s (R85), z as its sign and square (R84), the models in force (R63), the deltas (R65). -/
structure Chan where
  s2 : Rat
  zNeg : Bool
  z2 : Rat
  bias : Rat
  scale : Rat
  dBias : Int
  dScale : Int
deriving DecidableEq, Repr

/-- One fused axis on the committed path (R93, R94). -/
structure Axis where
  /-- 0 no vote yet, 1 VALID, 2 INVALID -/
  validity : Nat
  /-- reason code of Table 10.4 -/
  reason : Nat
  /-- the axis is in a SPLIT episode -/
  split : Bool
  /-- first sample since which it has met quorum and been neither SPLIT nor STALE -/
  okSince : Option Nat
  /-- value c of R84 in the module frame, raw LSB with 8 fraction bits -/
  value : Rat
deriving DecidableEq, Repr

/-- A running self-test or reinstatement (R77, R100). -/
structure TestRun where
  reinstate : Bool
  /-- die scope of a reinstatement -/
  die : Option Nat
  /-- triads still to test, per parallel branch -/
  queues : List (List Nat)
  /-- triads under test, with the retry mark of R79 and the branch -/
  current : List (Nat × Bool × Nat)
  /-- results so far: worst code, last triad, FAIL, SKIPPED or INCONCLUSIVE, reinstated, left RETIRED -/
  worst : Nat
  last : Nat
  fails : Nat
  skips : Nat
  passed : Nat
  refused : Nat
deriving DecidableEq, Repr

/-- The inertial array and its voter. -/
structure ArrayPart where
  triads : List Triad
  chans : List Chan
  axes : List Axis
  /-- tick of the last vote -/
  lastVote : Option Nat
  /-- calibration deltas that apply at the next committed sample boundary (R65) -/
  newDeltas : List (Nat × Int × Int)
  /-- CLIP thresholds in force (R61) -/
  accRange : Nat
  gyrRange : Nat
  /-- profile request not yet applied, and the one behind it (R68) -/
  profileReq : Option Nat
  profileNext : Option Nat
  /-- triads of a profile change that have not joined yet -/
  joining : List Nat
  /-- substitutions in force: the retired triad and its substitute (R69) -/
  subs : List (Nat × Nat)
  /-- SUSPECT entries: tick, triad, channel mask (R91) -/
  entries : List (Nat × Nat × Nat)
  /-- retirement requests passed to the firmware (R88): the triad -/
  requests : List Nat
  /-- decisions of the firmware not yet applied: triads, and dies -/
  decided : List Nat
  decidedDies : List Nat
  /-- dies flagged UNCOMP (R64), 4 bits, and whether the ASIC temperature is stale -/
  uncomp : Nat
  asicStale : Bool
  test : Option TestRun
  /-- sentinel: last input and high-passed value per axis, and samples above threshold in a row (R75) -/
  sentIn : List Rat
  sentHp : List Rat
  sentRun : Nat
deriving DecidableEq, Repr

/-! ### Filters (chapter 5) -/

/-- One coefficient set: bank or notch slot (R119). -/
structure CoefSet where
  /-- coefficients written since the last write that invalidated the set: index, int24 -/
  coefs : List (Nat × Int)
  tag : Nat
  taps : Nat
  delay : Nat
  frac : Nat
  fLo : Nat
  fHi : Nat
deriving DecidableEq, Repr

/-- A preset change in progress (R109). -/
structure PresetChange where
  code : Nat
  /-- application tick -/
  ta : Nat
  applied : Bool
  /-- last old sample and first new sample, once applied -/
  tL : Nat
  first : Nat
deriving DecidableEq, Repr

/-- An open settling interval (R114, R116). -/
structure Settling where
  cause : Nat
  first : Nat
  /-- earliest tick at which output can resume, once known; RESUME_TICK is the first grid tick from there -/
  bound : Option Nat
  resume : Option Nat
deriving DecidableEq, Repr

/-- The grid and delay that still hold for ticks up to `last` (R109, R118). -/
structure OldGrid where
  last : Nat
  sync : Nat
  m : Nat
  d : Nat
  const : Nat
deriving DecidableEq, Repr

/-- Filter chains, decimation grid, notch. -/
structure FilterPart where
  /-- tick of the last decimator reset -/
  tSync : Nat
  old : Option OldGrid
  change : Option PresetChange
  queued : Option Nat
  /-- pending decimator reset: its tick (R117) -/
  reset : Option Nat
  /-- tick of the last applied reset -/
  lastReset : Option Nat
  /-- banks 0 to 3 and notch slots 4 to 19 -/
  sets : List CoefSet
  /-- pending bank selection -/
  swap : Option (Nat × Nat)
  settling : Option Settling
  /-- notch: last blade frequency in 1/16 Hz exactly, readings outside the band, confirmed target (none: pass) -/
  lastF : Option Rat
  outside : Nat
  target : Option (Option Nat)
  /-- a valid period has been read since the last start or loss -/
  tach : Bool
deriving DecidableEq, Repr

/-! ### Fused samples (R15, R227) -/

/-- A fused sample: tick, six axis words, status word, and the angular acceleration words of a PAIRSAMPLE. -/
structure Fused where
  tick : Nat
  axes : List Word
  status : Word
  alpha : List Word := []
deriving DecidableEq, Repr

/-- The rotated rate of the preceding sample of a path (R15), in 2^-19 degrees per second, and that sample's tick. -/
structure PathMem where
  omega : List Rat
  tick : Nat
  /-- the module-frame axis values of that sample (R60) -/
  axes : List Rat := []
deriving DecidableEq, Repr

/-! ### Wingpair (chapter 15) -/

/-- A contribution as it is received (Table 15.1): stamp in 2^-16 ns modulo 2^16 s, CSEQ, axes, status, noise word. -/
structure Contrib where
  stamp : Nat
  cseq : Nat
  axes : List Int
  status : Word
  noise : Word
deriving DecidableEq, Repr

/-- A forewing sample that waits for its contribution (R336): its stamp in 2^-16 ns, its axes in the robot frame before
the translation of R15 (2^-24 g, 2^-16 degrees per second), the rates of the sample before it, its own fused values. -/
structure PairWait where
  stamp : Int
  body : List Rat
  before : Option (List Rat)
  own : Fused
deriving DecidableEq, Repr

/-- The pair protocol beside its registers. -/
structure PairPart where
  /-- boundaries without JOIN_ACK (R339), and whether it has arrived -/
  tries : Nat
  acked : Bool
  /-- the partner's reference point, int32, 2^-16 mm, and its noise word -/
  partnerPos : List Int
  partnerNoise : Word
  /-- contributions whose forewing sample has still to come, and the last one taken -/
  contribs : List Contrib
  prev : Option Contrib
  waiting : List PairWait
  /-- rates and tick of the last PAIRSAMPLE (R337) -/
  omegaPrev : Option (List Rat × Nat)
  firstMissed : Option Nat
  /-- hindwing: CSEQ, and contributions ready to send -/
  cseq : BitVec 16
  ready : List (List Byte)
  /-- time of the next pulse in 2^-16 ns, from the last BEAT -/
  announced : Option Nat
  /-- tick of the last pulse driven on SYNC (an output of the block) -/
  pulse : Option Nat
deriving DecidableEq, Repr

/-! ### Safety (chapter 9) -/

/-- A stored SAFE request (R148, R180): origin, reason, tick. -/
structure SafeReq where
  origin : Nat
  reason : Nat
  tick : Nat
deriving DecidableEq, Repr

/-- What the safety function keeps beside its registers. -/
structure SafetyPart where
  /-- tick of the last fresh heartbeat, or of the acceptance of ARM (R212) -/
  hbFrom : Nat
  /-- both pins have read back off since this tick (R217) -/
  offSince : Nat
  /-- SAFE_B's active discharge is on (R205) -/
  discharge : Bool
  requests : List SafeReq
  /-- tick of the first exchange that showed the two copies different (R218) -/
  differSince : Option Nat
  /-- LOCKED was entered by THERMAL with the module in Imago (Table 9.1) -/
  thermal : Bool
deriving DecidableEq, Repr

/-- The six PIO pins: filtered input, output enable, driven level, held at PIO_SAFE_LEVEL (R391). -/
structure PinPart where
  inp : Nat
  oe : Nat
  out : Nat
  held : Nat
deriving DecidableEq, Repr

/-! ### Event machines and speculation (chapters 6 and 7) -/

/-- The state of one machine (Table 6.1). Its vote is EM_VOTE: a vote acts only on a committed run or at confirmation,
so it is never restored. -/
structure MState where
  v : List Word
  /-- deadlines; `none` is stopped -/
  t : List (Option Nat)
  c : List Word
  z : Bool
  n : Bool
  cy : Bool
  o : Bool
  next : Nat
deriving DecidableEq, Repr

/-- One trace entry (R160): address, instruction word, outcome of its condition. -/
structure TraceEntry where
  addr : Nat
  word : Word
  taken : Bool
deriving DecidableEq, Repr

/-- What an output instruction asks for (Table 6.8). -/
inductive Effect where
  | emit (code : Nat) (a b : Word)
  | safeoff (reason : Nat)
  | piow (engine : Nat) (w : Word)
  | bell (source : Nat)
  | capt (desc : Nat)
  | vote (v : Bool)
  | halt
deriving DecidableEq, Repr

/-- An output of a run, with the address of its instruction. -/
structure Output where
  addr : Nat
  effect : Effect
deriving DecidableEq, Repr

/-- A finished speculative run of an UNRESOLVED tick (R160): entry image, state after it, trace, and what it holds. It
is an open checkpoint where `opened` is set (R145). -/
structure RunRec where
  tick : Nat
  entry : MState
  after : MState
  count : Nat
  opened : Bool
  trace : List TraceEntry
  outs : List Output
deriving DecidableEq, Repr

/-- How a run is made: on the fast sample, on committed data, or on the fast sample of a VOID tick (R158). -/
inductive RunKind where
  | spec
  | committed
  | void
deriving DecidableEq, Repr

/-- A run in progress. -/
structure OpenRun where
  tick : Nat
  kind : RunKind
  pc : Nat
  entry : MState
  live : MState
  count : Nat
  opened : Bool
  trace : List TraceEntry
  outs : List Output
deriving DecidableEq, Repr

/-- An action taken on speculation and not yet decided (R172): 1 SAFE off, 2 PIO write. -/
structure SpecAct where
  tick : Nat
  addr : Nat
  action : Nat
  detail : Nat
  value : Word
deriving DecidableEq, Repr

/-- One event machine. -/
structure Mach where
  /-- code of Table 6.2 -/
  state : Nat
  fault : Nat
  faultAddr : Nat
  conly : Nat
  flags : Nat
  entry : Nat
  len : Nat
  /-- state after the last confirmed run, and state after the last run -/
  conf : MState
  cur : MState
  lastCount : Nat
  maxCount : Nat
  startTick : Nat
  /-- no fast sample has arrived since the start was accepted -/
  starting : Bool
  params : List Word
  /-- parameter words with the tick from which they hold (R139) -/
  changes : List (Nat × Nat × Word)
  /-- accepted words whose t_p has not come -/
  waiting : List (Nat × Nat × Word)
  /-- every tick below it has been run -/
  pos : Nat
  runs : List RunRec
  run : Option OpenRun
  acts : List SpecAct
  /-- tick of a speculative HALT that is not resolved (Table 7.6) -/
  haltTick : Option Nat
deriving DecidableEq, Repr

/-- The latched streams of a tick (R137): sentinel words, port words, engines not running, blade frequency, tachometer
lost, housekeeping results and the entries that are enabled. -/
structure Latched where
  sent : List Word
  ports : List Word
  stopped : Nat
  blade : Nat
  tachLost : Bool
  hk : List Word
  hkOn : Nat
deriving DecidableEq, Repr

/-! ### Recognizers (chapter 8) -/

/-- One recognizer's decision state (Tables 8.2, 8.3). -/
structure Dec where
  st : Nat
  /-- accumulated PERSIST ticks, and RELEASE ticks while its condition runs -/
  acc : Nat
  racc : Option Nat
  /-- last evaluated sample -/
  prev : Option Nat
  onset : Nat
  decl : Nat
  peak : Int
  /-- LIFT phase; STEP: 0 in the drop, 1 waiting for the landing, 2 out until the drop has ended; FALL: TUMBLE -/
  phase : Nat
  /-- FALL: least square of norm(f); STEP: h at the start of the drop, lowest h -/
  base : Rat
  low : Rat
  /-- STEP: length of the drop -/
  span : Nat
  /-- 1: the deciding sample has come and REC_DECLARE follows; 2: REC_RELEASE follows -/
  due : Nat
  detail : Nat
  mag : Nat
  a : Int
  b : Int
deriving DecidableEq, Repr

/-- An EVENT record of a recognizer in the making (Table 8.4). -/
structure RecEv where
  code : Nat
  detail : Nat
  a : Int
  b : Int
deriving DecidableEq, Repr

/-- What one recognizer did at a tick: its events, and its SAFE request (cause and reason). -/
structure RecDone where
  evs : List RecEv
  req : Option (Nat × Nat)
deriving DecidableEq, Repr

/-- Recognizer settings in force from a tick on (R200): REC_ENABLE, REC_WHEEL, REC_COUNTS_PER_M, REC_GEOM, the nine
blocks (CTRL, PAR_A to PAR_D), and the recognizers cleared at that tick. -/
structure RecCfg where
  tp : Nat
  enable : Nat
  wheel : Word
  cpm : Nat
  geom : Word
  blocks : List (List Word)
  clear : Nat
  applied : Bool
deriving DecidableEq, Repr

/-- The shared estimators of R187. -/
structure Est where
  g : List Rat
  v : Rat
  h : Rat
  av : Rat
  last : Nat
deriving DecidableEq, Repr

/-- Wheel odometry of R188: counts, filtered speeds in mm/s, mean speed, wheel acceleration in g. -/
structure Wheel where
  cl : Nat
  cr : Nat
  sl : Rat
  sr : Rat
  aw : Rat
  last : Nat
deriving DecidableEq, Repr

/-- STUCK's body signals (R194): low-passed horizontal acceleration and rate, the samples of WINDOW, usable ticks
since enable. -/
structure StuckEst where
  acc : List Rat
  rate : List Rat
  win : List (Nat × List Rat × List Rat)
  age : Nat
  last : Nat
deriving DecidableEq, Repr

/-- The estimators of one path (R187: each path keeps its own copy). -/
structure PathEst where
  est : Option Est
  /-- IMPACT's f_lp and its last usable sample (R189) -/
  impact : Option (List Rat × Nat)
  wheel : Option Wheel
  stuck : Option StuckEst
deriving DecidableEq, Repr

/-- IMBALANCE's demodulator (R197). -/
structure Demod where
  phi : Rat
  ix : Rat
  qx : Rat
  iy : Rat
  qy : Rat
  last : Nat
deriving DecidableEq, Repr

/-- THEFT's own memory (R196), held in the AON domain. -/
structure TheftMem where
  /-- AON cycles up to the last sentinel sample since power-up; the two windows are counted by it -/
  clock : Nat
  ref : Option (List Rat)
  /-- tick at which the reference mean began, while it is awaited -/
  from_ : Option Nat
  /-- samples of the last second -/
  recent : List (Nat × List Rat)
  /-- times of the samples above TH within WINDOW -/
  hits : List Nat
  /-- samples above TH in WINDOW and the angle to the reference, at the last sample -/
  count : Nat
  angle : Rat
  /-- a declaration in Night whose record is owed after Dawn -/
  owed : Option (Nat × RecEv)
deriving DecidableEq, Repr

/-- One tick in the event engine (R156): its samples on either path, its latched streams, and what the recognizers
made of it. -/
structure EngTick where
  tick : Nat
  preset : Nat
  latched : Latched
  fast : Option Fused
  comm : Option Fused
  /-- no committed sample will come (Table 7.1) -/
  void : Bool
  resolved : Bool
  /-- measured values of the fast path per recognizer; `none` is unusable (R182) -/
  meas : List (Option (List Rat))
  /-- decision states after the tick on the fast path, and what was done -/
  after : List Dec
  done : List RecDone
  /-- provisional packets held per recognizer -/
  prov : List Nat
  recF : List Word
  recC : List Word
  recMask : Nat
  /-- its committed-only runs wait for the fused sample of a pair (R336) -/
  alphaWait : Bool := false
deriving DecidableEq, Repr

/-- The event engine. -/
structure EnginePart where
  machs : List Mach
  /-- loaded words of program memory, addresses rising -/
  pmem : List (Nat × Word)
  ticks : List EngTick
  /-- last tick whose fast sample arrived -/
  lastFast : Option Nat
  cfgs : List RecCfg
  fastEst : PathEst
  commEst : PathEst
  dec : List Dec
  conf : List Dec
  /-- recognizer actions on speculation: recognizer, tick, reason -/
  acts : List (Nat × Nat × Nat)
  demod : Option Demod
  theft : TheftMem
  /-- sentinel words shown by the streams SENT_X to SENT_Z -/
  sent : List Word
deriving DecidableEq, Repr

/-! ### Programmable I/O and housekeeping (chapter 18) -/

/-- One PIO engine (R388). -/
structure PioEngine where
  /-- 0 STOPPED, 1 RUNNING, 2 HALTED -/
  state : Nat
  pc : Nat
  x : Word
  y : Word
  port : Word
  nport : Word
  mport : Word
  tcnt : Word
  /-- next entry in legacy mode -/
  entry : Nat
  mem : List (Nat × Word)
deriving DecidableEq, Repr

/-- One housekeeping entry: result word without AGE, tick of its conversion, passes for which the window condition has
held. -/
structure HkEntry where
  res : Word
  at_ : Option Nat
  run : Nat
deriving DecidableEq, Repr

/-- The housekeeping converter beside its registers. -/
structure HkPart where
  /-- HK_SEQ and HK_WIN words in force in the current pass -/
  seq : List Word
  win : List Word
  entries : List HkEntry
  /-- slices in order of calibration, oldest first -/
  order : List Nat
  /-- the slice that a swap took out, until its shadow check -/
  shadow : Option Nat
  /-- slices that disagreed in their last shadow check -/
  doubt : List Nat
  /-- tick of the current pass -/
  passTick : Nat
deriving DecidableEq, Repr

/-- The whole machine. -/
structure State where
  /-- registers with storage (page * 256 + offset) that differ from their reset values -/
  regs : RegFile
  /-- latched words of latching reads (R422) -/
  latch : RegFile
  /-- 1 while the AON supply is good -/
  aon : Bool
  /-- tick index of the base grid, modulo 2^64 (R36) -/
  tick : Nat
  /-- module time in 2^-48 ns, modulo 2^48 s (R112, R318) -/
  time : Nat
  queue : QueuePart
  ring : RingPart
  link : LinkPart
  boot : BootPart
  array : ArrayPart
  filt : FilterPart
  /-- last fused sample of the committed and of the fast path; memories of the two paths -/
  committed : Option Fused
  fast : Option Fused
  commMem : Option PathMem
  fastMem : Option PathMem
  /-- records that wait for the commit point of their tick -/
  held : List HeldRec
  safety : SafetyPart
  pins : PinPart
  /-- VHOLD has risen through the re-arm threshold and not fallen through the shed threshold since (lock 3) -/
  rearmed : Bool
  eng : EnginePart
  pio : List PioEngine
  hk : HkPart
  mtime : TimePart
  t1s : T1sPart
  pair : PairPart
  tw : TwPart
  power : PowerPart
  entry : EntryPart
  /-- XING_COUNTS of each of the eleven crossings (R412 to R414) -/
  xing : List Word
  /-- the word or byte that the last bus read returned to its reader (an output of the block) -/
  busOut : Word
  /-- the model's own: the next free value's index (values the spec leaves open) -/
  free : Nat
  /-- commands waiting, first in, first out -/
  pending : List Instr
deriving DecidableEq, Repr

/-! ### After power-up

Every register stands at the reset word of Table 20.2 (no entry is listed). A part that the manual gives no value for
stands empty or at 0 (DESIGN CHOICE, assumption 1). -/

def resetQueue : QueuePart :=
  { visible := [], partly := [], idle := [], seq := 0, drop := none, skip := 0, sink := 0 }

def resetRing : RingPart :=
  { recs := [], wr := 0, lastLost := none, lost := [], policy := 0, content := 1, trigTick := 0, dawnRecord := false }

def resetLink : LinkPart :=
  { rx := [], rxIgnore := false, replies := [], idle := [], executing := none, waiting := [], cache := [], txFrames := [] }

def resetTime : TimePart :=
  { set := none, hostRate := none, delta := none, servoRate := none, good := 0, bad := 0, integral := 0, linkDelay := 0
    override := false, ts := [], awaiting := [], syncSeq := 0, reqSeq := 0, dusk := none }

def resetT1s : T1sPart := { plca := 0x00200800, closed := 0, seq2 := 0, seq3 := 0, sent := none }

def resetSlot : Slot := { image := [], length := 0, block := none }

def resetBoot : BootPart :=
  { slot0 := resetSlot, slot1 := resetSlot, staged := [], restarts := [], revert := false
    mounting := List.replicate 12 0, syncRole := 0, restarting := false, started := false, brownout := false }

def resetTriad : Triad :=
  { state := 3, p := 0, onset := 0, devUntil := 0, quiet := none, devCh := 0, devAxes := 0, peak2 := 0
    peakCh := 0xFF, reason := 0, cause := 0, driveFault := false, testFail := false, validFrom := 0, before := 0 }

def resetArray : ArrayPart :=
  { triads := List.replicate 72 resetTriad
    chans := List.replicate 216
      { s2 := 0, zNeg := false, z2 := 0, bias := 0, scale := 1, dBias := 0, dScale := 0 }
    axes := List.replicate 6 { validity := 0, reason := 0, split := false, okSince := none, value := 0 }
    lastVote := none, newDeltas := [], accRange := 3, gyrRange := 3, profileReq := none, profileNext := none
    joining := [], subs := [], entries := [], requests := [], decided := [], decidedDies := [], uncomp := 0
    asicStale := false, test := none, sentIn := [0, 0, 0], sentHp := [0, 0, 0], sentRun := 0 }

def resetFilt : FilterPart :=
  { tSync := 0, old := none, change := none, queued := none, reset := none, lastReset := none
    sets := List.replicate 20 { coefs := [], tag := 0, taps := 0, delay := 0, frac := 0, fLo := 0, fHi := 0 }
    swap := none, settling := none, lastF := none, outside := 0, target := none, tach := false }

def resetSafety : SafetyPart :=
  { hbFrom := 0, offSince := 0, discharge := false, requests := [], differSince := none, thermal := false }

def resetMState : MState :=
  { v := List.replicate 8 0, t := List.replicate 4 none, c := [0, 0], z := false, n := false, cy := false, o := false
    next := 0 }

def resetMach : Mach :=
  { state := 0, fault := 0, faultAddr := 0, conly := 0, flags := 0, entry := 0, len := 0
    conf := resetMState, cur := resetMState, lastCount := 0, maxCount := 0, startTick := 0, starting := false
    params := List.replicate 8 0, changes := [], waiting := [], pos := 0, runs := [], run := none, acts := []
    haltTick := none }

def resetDec : Dec :=
  { st := 0, acc := 0, racc := none, prev := none, onset := 0, decl := 0, peak := 0, phase := 0, base := 0, low := 0
    span := 0, due := 0, detail := 0, mag := 0, a := 0, b := 0 }

/-- The recognizer settings of Table 8.18, in force from power-up on. -/
def resetRecCfg : RecCfg :=
  { tp := 0, enable := 0, wheel := 0x1404, cpm := 0, geom := 0x07D00000
    blocks :=
      [[0, 0x00000FA0, 0x03E80032, 0, 0], [0, 0x0064000F, 0x01F40014, 0x01F4012C, 0], [0, 0x0032012C, 0x01F400C8, 0, 0],
       [0, 0x001E012C, 0x00C80064, 0, 0], [0, 0x000801F4, 0x006405DC, 0x000000C8, 0],
       [0, 0x000F0064, 0x00FA000F, 0x00FA01F4, 0], [0, 0x012C0096, 0x00C80064, 0x00000032, 0],
       [0, 0x00100040, 0x00C80FA0, 0x000003E8, 0], [0, 0x014001F4, 0x07D003E8, 0x001407D0, 0]]
    clear := 0, applied := true }

def resetEst : PathEst := { est := none, impact := none, wheel := none, stuck := none }

def resetTheft : TheftMem :=
  { clock := 0, ref := none, from_ := none, recent := [], hits := [], count := 0, angle := 0, owed := none }

def resetEngine : EnginePart :=
  { machs := List.replicate 32 resetMach, pmem := [], ticks := [], lastFast := none, cfgs := [resetRecCfg]
    fastEst := resetEst, commEst := resetEst, dec := List.replicate 9 resetDec, conf := List.replicate 9 resetDec
    acts := [], demod := none, theft := resetTheft, sent := [0, 0, 0] }

def resetPio : List PioEngine :=
  List.replicate 4
    { state := 0, pc := 0, x := 0, y := 0, port := 0, nport := 0, mport := 0, tcnt := 0, entry := 0, mem := [] }

/-- The reset words of Table 18.3 and of HK_WIN. -/
def resetHk : HkPart :=
  { seq := [0x80080000, 0x80080001, 0x80080002, 0x80080003, 0x80080004, 0x80040005, 0x80040006, 0x80040007, 0x80040008,
      0, 0, 0, 0, 0, 0, 0]
    win := List.replicate 5 0x7FFF8000 ++ List.replicate 11 0xFFFF0000
    entries := List.replicate 16 { res := 0, at_ := none, run := 0 }
    order := [0, 1, 2, 3, 4], shadow := none, doubt := [], passTick := 0 }

def resetPair : PairPart :=
  { tries := 0, acked := false, partnerPos := [0, 0, 0], partnerNoise := 0, contribs := [], prev := none, waiting := []
    omegaPrev := none, firstMissed := none, cseq := 0, ready := [], announced := none, pulse := none }

def resetPins : PinPart := { inp := 0, oe := 0, out := 0, held := 0 }

def resetPower : PowerPart := { wakes := [], pins := 0, restart := false }

def resetEntry : EntryPart := { off := 0, limits := 0, hold := none }

/-- The module right after power-up, before any command: Larva in Noon, LOCKED, the strap low (A = 0x4C), nothing
waiting. -/
def State.reset : State :=
  { regs := [], latch := [], aon := true, tick := 0, time := 0
    queue := resetQueue, ring := resetRing, link := resetLink, boot := resetBoot, array := resetArray, filt := resetFilt
    committed := none, fast := none, commMem := none, fastMem := none, held := []
    safety := resetSafety, pins := resetPins, rearmed := false, eng := resetEngine, pio := resetPio, hk := resetHk
    mtime := resetTime, t1s := resetT1s, pair := resetPair
    tw := { strap := false, addr2 := 0, pec := false, quiet := false }, power := resetPower, entry := resetEntry
    xing := List.replicate 11 0, busOut := 0, free := 0, pending := [] }

end Sys2Proof.Machine
end

