-- ==== Sys2Proof/Machine/Regs.lean ====
section
/-!
DEFINITION. The register space (R417 to R421): the address of every register of Table 20.2, every field of the
chapters' register summaries under the manual's own name, the reset values of Table 20.2, and the bits a plain
write can change. A register address is page * 256 + offset.
-/
namespace Sys2Proof.Machine

/-! ### Addresses (Table 20.2); a numbered register takes its index. -/
namespace Reg

def ID_PART : Nat := 0x0000
def ID_REV : Nat := 0x0004
def ID_SERIAL_LO : Nat := 0x0008
def ID_SERIAL_HI : Nat := 0x000C
def ID_MAC_LO : Nat := 0x0010
def ID_MAC_HI : Nat := 0x0014
def BOOT_STAGE : Nat := 0x0040
def BOOT_SLOTS : Nat := 0x0044
def BOOT_EVENTS : Nat := 0x0048
def BOOT_REJECT : Nat := 0x004C
def BOOT_FW : Nat := 0x0050
def BOOT_SCHEMA_01 : Nat := 0x0054
def BOOT_SCHEMA_23 : Nat := 0x0058
def BOOT_COUNTS : Nat := 0x005C
def BOOT_IMG_REJECT : Nat := 0x0060
def MBX_STATUS : Nat := 0x0100
def MBX_CTRL : Nat := 0x0104
def MBX_EVENTS : Nat := 0x0108
def MBX_COUNTS : Nat := 0x010C
def CMD_QUEUE : Nat := 0x0110
def CMD_ERRORS : Nat := 0x0114
def CMD_ABORTS : Nat := 0x0118
def INT_DOORBELL : Nat := 0x0200
def INT_HOST_CLAIM : Nat := 0x0204
def INT_HOST_COMPLETE : Nat := 0x0208
def INT_HOST_SET : Nat := 0x020C
def INT_HOST_COUNTS : Nat := 0x0210
def INT_CP_COUNTS : Nat := 0x0214
def INT_DB_REFUSED : Nat := 0x0218
def INT_CP_CLAIM : Nat := 0x021C
def INT_HOST_EN (k : Nat) : Nat := 0x0220 + 4 * k
def INT_HOST_PEND (k : Nat) : Nat := 0x0240 + 4 * k
def INT_HOST_ACT (k : Nat) : Nat := 0x0250 + 4 * k
def INT_CP_EN (k : Nat) : Nat := 0x0260 + 4 * k
def INT_CP_PEND (k : Nat) : Nat := 0x0280 + 4 * k
def INT_CP_ACT (k : Nat) : Nat := 0x0290 + 4 * k
def INT_LEVEL (k : Nat) : Nat := 0x02A0 + 4 * k
def PWR_STATE : Nat := 0x0300
def PWR_EVENTS : Nat := 0x0304
def PWR_HOST_VOTE : Nat := 0x0308
def PWR_VOTES : Nat := 0x030C
def NIGHT_CFG : Nat := 0x0310
def NIGHT_PIO : Nat := 0x0314
def NIGHT_TIMER : Nat := 0x0318
def PWR_COUNTS : Nat := 0x031C
def NIGHT_LAST : Nat := 0x0320
def QUEUE_CFG : Nat := 0x0400
def QUEUE_STATUS : Nat := 0x0404
def QUEUE_EVENTS : Nat := 0x0408
def QUEUE_DROPS : Nat := 0x040C
def QUEUE_SEQ : Nat := 0x0410
def QUEUE_CMD : Nat := 0x0414
def QUEUE_HK : Nat := 0x0418
def RING_CFG : Nat := 0x0420
def RING_STATUS : Nat := 0x0424
def RING_WR : Nat := 0x0428
def RING_OLDEST : Nat := 0x042C
def RING_CAP_START : Nat := 0x0430
def RING_CAP_END : Nat := 0x0434
def RING_TRIG_TICK_LO : Nat := 0x0438
def RING_TRIG_TICK_HI : Nat := 0x043C
def RING_CMD : Nat := 0x0440
def CAP_DESC (k : Nat) : Nat := 0x0444 + 4 * k
def RING_PTR_ERR : Nat := 0x0454
def TIME_CFG : Nat := 0x0500
def TIME_STEP_TH : Nat := 0x0504
def TIME_LOCK_TH : Nat := 0x0508
def TIME_STATUS : Nat := 0x050C
def TIME_EVENTS : Nat := 0x0510
def TIME_RATE : Nat := 0x0514
def TIME_OFFSET : Nat := 0x0518
def TIME_NOW (k : Nat) : Nat := 0x051C + 4 * k
def TICK_NOW_LO : Nat := 0x0528
def TICK_NOW_HI : Nat := 0x052C
def TS_TX_CORR : Nat := 0x0530
def TS_RX_CORR : Nat := 0x0534
def TS_QUEUE : Nat := 0x0538
def TIME_COUNTS : Nat := 0x053C
def NIGHT_AON : Nat := 0x0540
def T1S_PLCA : Nat := 0x0600
def T1S_STATUS : Nat := 0x0604
def T1S_EVENTS : Nat := 0x0608
def T1S_COUNTS_RX : Nat := 0x060C
def T1S_COUNTS_TX : Nat := 0x0610
def T1S_DISCARDS : Nat := 0x0614
def STREAM_CFG : Nat := 0x0618
def STREAM_DEST_LO : Nat := 0x061C
def STREAM_DEST_HI : Nat := 0x0620
def STREAM_SEQ : Nat := 0x0624
def TW_CTRL : Nat := 0x0700
def TW_ADDR : Nat := 0x0704
def TW_ADDR2 : Nat := 0x0708
def TW_PAGE : Nat := 0x070C
def TW_STATUS : Nat := 0x0710
def TW_EVENTS : Nat := 0x0714
def TW_COUNTS : Nat := 0x0718
def TW_ALERT : Nat := 0x071C
def HK_CTRL : Nat := 0x0800
def HK_STATUS : Nat := 0x0804
def HK_WEVENTS : Nat := 0x0808
def HK_SLICE : Nat := 0x080C
def HK_PASS_TIME : Nat := 0x0810
def HK_SEQ (k : Nat) : Nat := 0x0840 + 4 * k
def HK_WIN (k : Nat) : Nat := 0x0880 + 4 * k
def HK_RES (k : Nat) : Nat := 0x08C0 + 4 * k
def PIO_RUN : Nat := 0x0900
def PIO_EVENTS : Nat := 0x0904
def PIO_PINMUX : Nat := 0x0908
def PIO_FILTER : Nat := 0x090C
def PIO_MODE : Nat := 0x0910
def PIO_PINS : Nat := 0x0914
def PIO_REFUSED : Nat := 0x0918
def PIO_STATE (k : Nat) : Nat := 0x0920 + 32 * k
def PIO_X (k : Nat) : Nat := 0x0924 + 32 * k
def PIO_Y (k : Nat) : Nat := 0x0928 + 32 * k
def PIO_PORT (k : Nat) : Nat := 0x092C + 32 * k
def PIO_NPORT (k : Nat) : Nat := 0x0930 + 32 * k
def PIO_MPORT (k : Nat) : Nat := 0x0934 + 32 * k
def PIO_TCNT (k : Nat) : Nat := 0x0938 + 32 * k
def PIO_PMEM_ADDR : Nat := 0x09A0
def PIO_PMEM_DATA : Nat := 0x09A4
def SAFE_STATE : Nat := 0x0A00
def SAFE_EVENTS : Nat := 0x0A04
def SAFE_CFG : Nat := 0x0A08
def SAFE_EM_MASK : Nat := 0x0A0C
def SAFE_REC_MASK : Nat := 0x0A10
def SAFE_HB : Nat := 0x0A14
def SAFE_CMD : Nat := 0x0A18
def SAFE_TRIP : Nat := 0x0A1C
def SAFE_TRIP_TICK_LO : Nat := 0x0A20
def SAFE_TRIP_TICK_HI : Nat := 0x0A24
def SAFE_COUNTS : Nat := 0x0A28
def SAFE_MON_STATUS : Nat := 0x0A2C
def PIO_SAFE_LEVEL : Nat := 0x0A30
def SAFE_REFUSED : Nat := 0x0A34
def CONV_CFG : Nat := 0x0B00
def CONV_STATUS : Nat := 0x0B04
def CONV_EVENTS : Nat := 0x0B08
def CONV_CMD : Nat := 0x0B0C
def PHASE_STATUS : Nat := 0x0B10
def CONV_VIN : Nat := 0x0B14
def CONV_AUX : Nat := 0x0B18
def RES_MODEL : Nat := 0x0B1C
def RES_LAST : Nat := 0x0B20
def RES_CHARGE : Nat := 0x0B24
def CONV_COUNTS : Nat := 0x0B28
def VOTE_CTRL : Nat := 0x0C00
def VOTE_STATUS : Nat := 0x0C04
def VOTE_EVENTS : Nat := 0x0C08
def VOTE_QUORUM : Nat := 0x0C0C
def VOTE_NOISE : Nat := 0x0C10
def SUSPECT (k : Nat) : Nat := 0x0C14 + 4 * k
def RETIRED (k : Nat) : Nat := 0x0C20 + 4 * k
def VOTE_DIE : Nat := 0x0C2C
def REINSTATE_CTRL : Nat := 0x0C30
def REINSTATE_RESULT : Nat := 0x0C34
def VOTE_COUNTS : Nat := 0x0C38
def TRIAD_SEL : Nat := 0x0C40
def TRIAD_INFO : Nat := 0x0C44
def TRIAD_Z_XY : Nat := 0x0C48
def TRIAD_Z_Z : Nat := 0x0C4C
def ARRAY_PROFILE : Nat := 0x0CC0
def ARRAY_RANGE : Nat := 0x0CC4
def ARRAY_STATUS : Nat := 0x0CC8
def ARRAY_EVENTS : Nat := 0x0CCC
def ACTIVE (k : Nat) : Nat := 0x0CD0 + 4 * k
def TEMP_01 : Nat := 0x0CDC
def TEMP_23 : Nat := 0x0CE0
def TEMP_ASIC : Nat := 0x0CE4
def SELFTEST_CTRL : Nat := 0x0CE8
def SELFTEST_RESULT : Nat := 0x0CEC
def SENTINEL_CTRL : Nat := 0x0CF0
def SENTINEL_XY : Nat := 0x0CF4
def SENTINEL_Z : Nat := 0x0CF8
def DRIVE_STATUS : Nat := 0x0CFC
def FILT_PRESET : Nat := 0x0D00
def FILT_BANK : Nat := 0x0D04
def FILT_VALID : Nat := 0x0D08
def FILT_STATUS : Nat := 0x0D0C
def FILT_EVENTS : Nat := 0x0D10
def FILT_DELAY_NS : Nat := 0x0D14
def FILT_DELAY_FRAC : Nat := 0x0D18
def SYNC_CTRL : Nat := 0x0D1C
def SYNC_PHASE : Nat := 0x0D20
def SYNC_TICK_LO : Nat := 0x0D24
def SYNC_TICK_HI : Nat := 0x0D28
def NOTCH_CTRL : Nat := 0x0D2C
def NOTCH_FREQ : Nat := 0x0D30
def EM_RUN : Nat := 0x0E00
def EM_FAULT : Nat := 0x0E04
def EM_BELL : Nat := 0x0E08
def EM_CONLY : Nat := 0x0E0C
def EM_START : Nat := 0x0E10
def EM_STOP : Nat := 0x0E14
def EM_VOTE : Nat := 0x0E18
def EM_REFUSED : Nat := 0x0E1C
def EM_SEL : Nat := 0x0E20
def EM_REGION : Nat := 0x0E24
def EM_FLAGS : Nat := 0x0E28
def EM_STATE : Nat := 0x0E2C
def EM_PC : Nat := 0x0E30
def EM_START_TICK_LO : Nat := 0x0E34
def EM_START_TICK_HI : Nat := 0x0E38
def EM_V (k : Nat) : Nat := 0x0E40 + 4 * k
def EM_C (k : Nat) : Nat := 0x0E60 + 4 * k
def EM_T (k : Nat) : Nat := 0x0E68 + 4 * k
def EM_PARAM (k : Nat) : Nat := 0x0E80 + 4 * k
def EM_PMEM_ADDR : Nat := 0x0EA0
def EM_PMEM_DATA : Nat := 0x0EA4
def EM_PMEM_ECC : Nat := 0x0EA8
def SPEC_STATUS : Nat := 0x0EB0
def SPEC_EVENTS : Nat := 0x0EB4
def SPEC_CONFIRMED : Nat := 0x0EB8
def SPEC_REFUTED : Nat := 0x0EBC
def SPEC_FALLBACK : Nat := 0x0EC0
def SPEC_LAST_LO : Nat := 0x0EC4
def SPEC_LAST_HI : Nat := 0x0EC8
def SPEC_LAST_ORIGIN : Nat := 0x0ECC
def FALSESTOP_COUNT : Nat := 0x0ED0
def REC_ENABLE : Nat := 0x0F00
def REC_EVENTS : Nat := 0x0F04
def REC_ACTIVE : Nat := 0x0F08
def REC_LOST : Nat := 0x0F0C
def REC_REFUSED : Nat := 0x0F10
def REC_WHEEL : Nat := 0x0F14
def REC_COUNTS_PER_M : Nat := 0x0F18
def REC_GEOM : Nat := 0x0F1C
def REC_CTRL (k : Nat) : Nat := 0x0F20 + 24 * k
def REC_PAR_A (k : Nat) : Nat := 0x0F24 + 24 * k
def REC_PAR_B (k : Nat) : Nat := 0x0F28 + 24 * k
def REC_PAR_C (k : Nat) : Nat := 0x0F2C + 24 * k
def REC_PAR_D (k : Nat) : Nat := 0x0F30 + 24 * k
def REC_STATE (k : Nat) : Nat := 0x0F34 + 24 * k
def PAIR_CFG : Nat := 0x1000
def PAIR_PARTNER_LO : Nat := 0x1004
def PAIR_PARTNER_HI : Nat := 0x1008
def PAIR_STATE : Nat := 0x100C
def PAIR_EVENTS : Nat := 0x1010
def PAIR_NOISE : Nat := 0x1014
def PAIR_LEVER (k : Nat) : Nat := 0x1018 + 4 * k
def PAIR_BOUNDARY_LO : Nat := 0x1024
def PAIR_BOUNDARY_HI : Nat := 0x1028
def PAIR_COUNTS : Nat := 0x102C
def PAIR_DELTA : Nat := 0x1030
def XING_SEL : Nat := 0x1100
def XING_INFO : Nat := 0x1104
def XING_COUNTS : Nat := 0x1108
def XING_STALLED : Nat := 0x110C

end Reg

/-! ### Fields: register, lowest bit, width (the chapters' register summaries). -/
def ID_PART.PART : Fld := ⟨Reg.ID_PART, 0, 16⟩
def ID_PART.GRADE : Fld := ⟨Reg.ID_PART, 16, 8⟩
def ID_PART.HW_REV : Fld := ⟨Reg.ID_PART, 24, 8⟩
def ID_REV.ROM : Fld := ⟨Reg.ID_REV, 0, 16⟩
def ID_REV.CAL : Fld := ⟨Reg.ID_REV, 16, 16⟩
def BOOT_STAGE.STAGE : Fld := ⟨Reg.BOOT_STAGE, 0, 2⟩
def BOOT_STAGE.ENTRY : Fld := ⟨Reg.BOOT_STAGE, 4, 3⟩
def BOOT_STAGE.LOOP : Fld := ⟨Reg.BOOT_STAGE, 8, 1⟩
def BOOT_STAGE.SCHEMA : Fld := ⟨Reg.BOOT_STAGE, 16, 16⟩
def BOOT_SLOTS.SLOT_0 : Fld := ⟨Reg.BOOT_SLOTS, 0, 3⟩
def BOOT_SLOTS.BLOCK_0 : Fld := ⟨Reg.BOOT_SLOTS, 3, 1⟩
def BOOT_SLOTS.SLOT_1 : Fld := ⟨Reg.BOOT_SLOTS, 4, 3⟩
def BOOT_SLOTS.BLOCK_1 : Fld := ⟨Reg.BOOT_SLOTS, 7, 1⟩
def BOOT_SLOTS.ACTIVE : Fld := ⟨Reg.BOOT_SLOTS, 8, 2⟩
def BOOT_SLOTS.PREV : Fld := ⟨Reg.BOOT_SLOTS, 10, 2⟩
def BOOT_EVENTS.EVENT : Fld := ⟨Reg.BOOT_EVENTS, 0, 4⟩
def BOOT_REJECT.REASON : Fld := ⟨Reg.BOOT_REJECT, 0, 8⟩
def BOOT_REJECT.STATUS : Fld := ⟨Reg.BOOT_REJECT, 8, 8⟩
def BOOT_REJECT.CMD_REASON : Fld := ⟨Reg.BOOT_REJECT, 16, 8⟩
def BOOT_REJECT.SECTION : Fld := ⟨Reg.BOOT_REJECT, 24, 8⟩
def BOOT_FW.VERSION : Fld := ⟨Reg.BOOT_FW, 0, 32⟩
def BOOT_COUNTS.RESTARTS : Fld := ⟨Reg.BOOT_COUNTS, 0, 8⟩
def BOOT_COUNTS.REJECTS : Fld := ⟨Reg.BOOT_COUNTS, 8, 8⟩
def BOOT_COUNTS.VERIFY_FAILS : Fld := ⟨Reg.BOOT_COUNTS, 16, 8⟩
def BOOT_COUNTS.REVERTS : Fld := ⟨Reg.BOOT_COUNTS, 24, 8⟩
def BOOT_IMG_REJECT.REASON : Fld := ⟨Reg.BOOT_IMG_REJECT, 0, 8⟩
def BOOT_IMG_REJECT.SLOT : Fld := ⟨Reg.BOOT_IMG_REJECT, 8, 1⟩
def MBX_STATUS.RECEIVING : Fld := ⟨Reg.MBX_STATUS, 0, 1⟩
def MBX_STATUS.REPLIES : Fld := ⟨Reg.MBX_STATUS, 4, 3⟩
def MBX_STATUS.OWED : Fld := ⟨Reg.MBX_STATUS, 8, 3⟩
def MBX_STATUS.RX_BYTES : Fld := ⟨Reg.MBX_STATUS, 16, 10⟩
def MBX_CTRL.DISCARD_REQ : Fld := ⟨Reg.MBX_CTRL, 0, 1⟩
def MBX_CTRL.DROP_REPLY : Fld := ⟨Reg.MBX_CTRL, 1, 1⟩
def MBX_CTRL.CLEAR : Fld := ⟨Reg.MBX_CTRL, 2, 1⟩
def MBX_EVENTS.REPLY : Fld := ⟨Reg.MBX_EVENTS, 0, 1⟩
def MBX_EVENTS.OVERRUN : Fld := ⟨Reg.MBX_EVENTS, 1, 1⟩
def MBX_EVENTS.ABANDONED : Fld := ⟨Reg.MBX_EVENTS, 2, 1⟩
def MBX_COUNTS.OVERRUNS : Fld := ⟨Reg.MBX_COUNTS, 0, 8⟩
def MBX_COUNTS.ABANDONED : Fld := ⟨Reg.MBX_COUNTS, 8, 8⟩
def MBX_COUNTS.DROPPED : Fld := ⟨Reg.MBX_COUNTS, 16, 16⟩
def CMD_QUEUE.QUEUED : Fld := ⟨Reg.CMD_QUEUE, 0, 3⟩
def CMD_QUEUE.EXECUTING : Fld := ⟨Reg.CMD_QUEUE, 8, 1⟩
def CMD_QUEUE.OPCODE : Fld := ⟨Reg.CMD_QUEUE, 16, 8⟩
def CMD_QUEUE.TAG : Fld := ⟨Reg.CMD_QUEUE, 24, 8⟩
def CMD_ERRORS.BAD_CRC : Fld := ⟨Reg.CMD_ERRORS, 0, 8⟩
def CMD_ERRORS.BUSY : Fld := ⟨Reg.CMD_ERRORS, 8, 8⟩
def CMD_ERRORS.DUPLICATES : Fld := ⟨Reg.CMD_ERRORS, 16, 8⟩
def CMD_ERRORS.TIMEOUTS : Fld := ⟨Reg.CMD_ERRORS, 24, 8⟩
def CMD_ABORTS.ABORTS : Fld := ⟨Reg.CMD_ABORTS, 0, 16⟩
def CMD_ABORTS.ABORTED : Fld := ⟨Reg.CMD_ABORTS, 16, 16⟩
def INT_DOORBELL.SOURCE : Fld := ⟨Reg.INT_DOORBELL, 0, 7⟩
def INT_HOST_COMPLETE.SOURCE : Fld := ⟨Reg.INT_HOST_COMPLETE, 0, 7⟩
def INT_HOST_SET.SOURCE : Fld := ⟨Reg.INT_HOST_SET, 0, 7⟩
def INT_HOST_SET.EN : Fld := ⟨Reg.INT_HOST_SET, 8, 2⟩
def INT_HOST_COUNTS.IGNORED : Fld := ⟨Reg.INT_HOST_COUNTS, 0, 16⟩
def INT_HOST_COUNTS.MERGED : Fld := ⟨Reg.INT_HOST_COUNTS, 16, 16⟩
def INT_CP_COUNTS.IGNORED : Fld := ⟨Reg.INT_CP_COUNTS, 0, 16⟩
def INT_CP_COUNTS.MERGED : Fld := ⟨Reg.INT_CP_COUNTS, 16, 16⟩
def INT_DB_REFUSED.REFUSED : Fld := ⟨Reg.INT_DB_REFUSED, 0, 16⟩
def INT_HOST_EN.EN (k : Nat) : Fld := ⟨Reg.INT_HOST_EN k, 0, 32⟩
def PWR_STATE.STATE : Fld := ⟨Reg.PWR_STATE, 0, 2⟩
def PWR_STATE.DUSK_PENDING : Fld := ⟨Reg.PWR_STATE, 2, 1⟩
def PWR_STATE.LAST_WAKE : Fld := ⟨Reg.PWR_STATE, 8, 3⟩
def PWR_STATE.WAKE_PINS : Fld := ⟨Reg.PWR_STATE, 16, 6⟩
def PWR_STATE.COCOON_ERR : Fld := ⟨Reg.PWR_STATE, 24, 1⟩
def PWR_EVENTS.EVENT : Fld := ⟨Reg.PWR_EVENTS, 0, 2⟩
def PWR_HOST_VOTE.MASK : Fld := ⟨Reg.PWR_HOST_VOTE, 0, 4⟩
def PWR_VOTES.VOTES : Fld := ⟨Reg.PWR_VOTES, 0, 16⟩
def PWR_VOTES.FW_REASON : Fld := ⟨Reg.PWR_VOTES, 16, 6⟩
def NIGHT_CFG.VAUX : Fld := ⟨Reg.NIGHT_CFG, 0, 2⟩
def NIGHT_CFG.RETAIN_SAMPLE : Fld := ⟨Reg.NIGHT_CFG, 2, 1⟩
def NIGHT_CFG.WAKE_EN : Fld := ⟨Reg.NIGHT_CFG, 8, 5⟩
def NIGHT_CFG.DUSK_DELAY : Fld := ⟨Reg.NIGHT_CFG, 16, 16⟩
def NIGHT_PIO.WAKE : Fld := ⟨Reg.NIGHT_PIO, 0, 18⟩
def NIGHT_PIO.LEVEL : Fld := ⟨Reg.NIGHT_PIO, 18, 12⟩
def NIGHT_TIMER.SECONDS : Fld := ⟨Reg.NIGHT_TIMER, 0, 24⟩
def PWR_COUNTS.NIGHTS : Fld := ⟨Reg.PWR_COUNTS, 0, 16⟩
def PWR_COUNTS.WAKES_DUSK : Fld := ⟨Reg.PWR_COUNTS, 16, 16⟩
def NIGHT_LAST.MS : Fld := ⟨Reg.NIGHT_LAST, 0, 32⟩
def QUEUE_CFG.SINK : Fld := ⟨Reg.QUEUE_CFG, 0, 1⟩
def QUEUE_CFG.TIME_EN : Fld := ⟨Reg.QUEUE_CFG, 1, 1⟩
def QUEUE_CFG.SAMPLE_DIV : Fld := ⟨Reg.QUEUE_CFG, 8, 8⟩
def QUEUE_CFG.WATERMARK : Fld := ⟨Reg.QUEUE_CFG, 16, 6⟩
def QUEUE_STATUS.VISIBLE : Fld := ⟨Reg.QUEUE_STATUS, 0, 11⟩
def QUEUE_STATUS.PROV : Fld := ⟨Reg.QUEUE_STATUS, 12, 10⟩
def QUEUE_STATUS.DROPPING : Fld := ⟨Reg.QUEUE_STATUS, 22, 1⟩
def QUEUE_EVENTS.EVENT : Fld := ⟨Reg.QUEUE_EVENTS, 0, 8⟩
def QUEUE_DROPS.OVERFLOW : Fld := ⟨Reg.QUEUE_DROPS, 0, 16⟩
def QUEUE_DROPS.NIGHT : Fld := ⟨Reg.QUEUE_DROPS, 16, 16⟩
def QUEUE_SEQ.NEXT : Fld := ⟨Reg.QUEUE_SEQ, 0, 16⟩
def QUEUE_CMD.FLUSH : Fld := ⟨Reg.QUEUE_CMD, 0, 1⟩
def QUEUE_HK.MASK : Fld := ⟨Reg.QUEUE_HK, 0, 16⟩
def QUEUE_HK.PERIOD : Fld := ⟨Reg.QUEUE_HK, 16, 16⟩
def RING_CFG.EN : Fld := ⟨Reg.RING_CFG, 0, 1⟩
def RING_CFG.POLICY : Fld := ⟨Reg.RING_CFG, 1, 1⟩
def RING_CFG.CONTENT : Fld := ⟨Reg.RING_CFG, 4, 3⟩
def RING_CFG.TRIP_DESC : Fld := ⟨Reg.RING_CFG, 8, 2⟩
def RING_CFG.TRIP_EN : Fld := ⟨Reg.RING_CFG, 10, 1⟩
def RING_STATUS.STATE : Fld := ⟨Reg.RING_STATUS, 0, 3⟩
def RING_STATUS.SHORT : Fld := ⟨Reg.RING_STATUS, 3, 1⟩
def RING_STATUS.DESC : Fld := ⟨Reg.RING_STATUS, 4, 2⟩
def RING_STATUS.LOST_TRIG : Fld := ⟨Reg.RING_STATUS, 8, 8⟩
def RING_STATUS.RESETS : Fld := ⟨Reg.RING_STATUS, 16, 8⟩
def RING_CAP_START.POS : Fld := ⟨Reg.RING_CAP_START, 0, 21⟩
def RING_CAP_END.POS : Fld := ⟨Reg.RING_CAP_END, 0, 21⟩
def RING_CMD.TRIGGER : Fld := ⟨Reg.RING_CMD, 0, 1⟩
def RING_CMD.RELEASE : Fld := ⟨Reg.RING_CMD, 1, 1⟩
def RING_CMD.CLEAR : Fld := ⟨Reg.RING_CMD, 2, 1⟩
def RING_CMD.DESC : Fld := ⟨Reg.RING_CMD, 8, 2⟩
def CAP_DESC.POST (k : Nat) : Fld := ⟨Reg.CAP_DESC k, 0, 16⟩
def CAP_DESC.PRE (k : Nat) : Fld := ⟨Reg.CAP_DESC k, 16, 16⟩
def RING_PTR_ERR.CORRECTED : Fld := ⟨Reg.RING_PTR_ERR, 0, 16⟩
def TIME_CFG.SOURCE : Fld := ⟨Reg.TIME_CFG, 0, 2⟩
def TIME_CFG.DOMAIN : Fld := ⟨Reg.TIME_CFG, 8, 7⟩
def TIME_STEP_TH.STEP_TH : Fld := ⟨Reg.TIME_STEP_TH, 0, 32⟩
def TIME_LOCK_TH.LOCK_TH : Fld := ⟨Reg.TIME_LOCK_TH, 0, 32⟩
def TIME_STATUS.SERVO : Fld := ⟨Reg.TIME_STATUS, 0, 3⟩
def TIME_STATUS.STEP_ARMED : Fld := ⟨Reg.TIME_STATUS, 3, 1⟩
def TIME_STATUS.JUMP_REFUSED : Fld := ⟨Reg.TIME_STATUS, 4, 1⟩
def TIME_STATUS.NIGHT_ESTIMATE : Fld := ⟨Reg.TIME_STATUS, 5, 1⟩
def TIME_STATUS.RATE_LIMIT : Fld := ⟨Reg.TIME_STATUS, 6, 1⟩
def TIME_EVENTS.EVENT : Fld := ⟨Reg.TIME_EVENTS, 0, 4⟩
def TIME_RATE.RATE : Fld := ⟨Reg.TIME_RATE, 0, 32⟩
def TIME_OFFSET.OFFSET : Fld := ⟨Reg.TIME_OFFSET, 0, 32⟩
def TS_TX_CORR.CORR : Fld := ⟨Reg.TS_TX_CORR, 0, 32⟩
def TS_RX_CORR.CORR : Fld := ⟨Reg.TS_RX_CORR, 0, 32⟩
def TS_QUEUE.USED : Fld := ⟨Reg.TS_QUEUE, 0, 3⟩
def TS_QUEUE.HOST : Fld := ⟨Reg.TS_QUEUE, 4, 3⟩
def TS_QUEUE.OVERFLOWS : Fld := ⟨Reg.TS_QUEUE, 8, 8⟩
def TS_QUEUE.EXPIRED : Fld := ⟨Reg.TS_QUEUE, 16, 8⟩
def TIME_COUNTS.STEPS : Fld := ⟨Reg.TIME_COUNTS, 0, 16⟩
def TIME_COUNTS.REFUSED : Fld := ⟨Reg.TIME_COUNTS, 16, 16⟩
def NIGHT_AON.PERIOD : Fld := ⟨Reg.NIGHT_AON, 0, 32⟩
def T1S_PLCA.EN : Fld := ⟨Reg.T1S_PLCA, 0, 1⟩
def T1S_PLCA.NODE_ID : Fld := ⟨Reg.T1S_PLCA, 1, 3⟩
def T1S_PLCA.NODE_COUNT : Fld := ⟨Reg.T1S_PLCA, 8, 4⟩
def T1S_PLCA.TO_TIMER : Fld := ⟨Reg.T1S_PLCA, 16, 8⟩
def T1S_STATUS.PLCA_OK : Fld := ⟨Reg.T1S_STATUS, 0, 1⟩
def T1S_STATUS.COORDINATOR : Fld := ⟨Reg.T1S_STATUS, 1, 1⟩
def T1S_STATUS.CSMA : Fld := ⟨Reg.T1S_STATUS, 2, 1⟩
def T1S_STATUS.PAIR_LIMIT : Fld := ⟨Reg.T1S_STATUS, 3, 1⟩
def T1S_STATUS.REFUSED : Fld := ⟨Reg.T1S_STATUS, 8, 8⟩
def T1S_EVENTS.EVENT : Fld := ⟨Reg.T1S_EVENTS, 0, 4⟩
def T1S_COUNTS_RX.CODING : Fld := ⟨Reg.T1S_COUNTS_RX, 0, 16⟩
def T1S_COUNTS_RX.FCS : Fld := ⟨Reg.T1S_COUNTS_RX, 16, 16⟩
def T1S_COUNTS_TX.DEFERRALS : Fld := ⟨Reg.T1S_COUNTS_TX, 0, 16⟩
def T1S_COUNTS_TX.COLLISIONS : Fld := ⟨Reg.T1S_COUNTS_TX, 16, 16⟩
def T1S_DISCARDS.ONE_STEP : Fld := ⟨Reg.T1S_DISCARDS, 0, 16⟩
def T1S_DISCARDS.DUSK : Fld := ⟨Reg.T1S_DISCARDS, 16, 16⟩
def STREAM_CFG.MAX_BYTES : Fld := ⟨Reg.STREAM_CFG, 0, 11⟩
def STREAM_CFG.MAX_AGE : Fld := ⟨Reg.STREAM_CFG, 16, 8⟩
def STREAM_DEST_LO.MAC : Fld := ⟨Reg.STREAM_DEST_LO, 0, 32⟩
def STREAM_DEST_HI.MAC : Fld := ⟨Reg.STREAM_DEST_HI, 0, 16⟩
def STREAM_SEQ.FSEQ : Fld := ⟨Reg.STREAM_SEQ, 0, 16⟩
def TW_CTRL.PEC_EN : Fld := ⟨Reg.TW_CTRL, 0, 1⟩
def TW_CTRL.ALERT_EN : Fld := ⟨Reg.TW_CTRL, 1, 1⟩
def TW_ADDR.PRIMARY : Fld := ⟨Reg.TW_ADDR, 0, 7⟩
def TW_ADDR.STRAP : Fld := ⟨Reg.TW_ADDR, 8, 1⟩
def TW_ADDR2.ADDR : Fld := ⟨Reg.TW_ADDR2, 0, 7⟩
def TW_ADDR2.MASK : Fld := ⟨Reg.TW_ADDR2, 8, 7⟩
def TW_ADDR2.EN : Fld := ⟨Reg.TW_ADDR2, 15, 1⟩
def TW_PAGE.PAGE : Fld := ⟨Reg.TW_PAGE, 0, 8⟩
def TW_PAGE.POINTER : Fld := ⟨Reg.TW_PAGE, 8, 8⟩
def TW_STATUS.BUSY : Fld := ⟨Reg.TW_STATUS, 0, 1⟩
def TW_STATUS.SCL_STUCK : Fld := ⟨Reg.TW_STATUS, 1, 1⟩
def TW_STATUS.SDA_STUCK : Fld := ⟨Reg.TW_STATUS, 2, 1⟩
def TW_STATUS.WOKE : Fld := ⟨Reg.TW_STATUS, 3, 1⟩
def TW_STATUS.REFUSED : Fld := ⟨Reg.TW_STATUS, 8, 8⟩
def TW_EVENTS.TIMEOUT : Fld := ⟨Reg.TW_EVENTS, 0, 1⟩
def TW_EVENTS.PROTOCOL : Fld := ⟨Reg.TW_EVENTS, 1, 1⟩
def TW_EVENTS.STUCK : Fld := ⟨Reg.TW_EVENTS, 2, 1⟩
def TW_COUNTS.TIMEOUTS : Fld := ⟨Reg.TW_COUNTS, 0, 8⟩
def TW_COUNTS.PEC_ERRORS : Fld := ⟨Reg.TW_COUNTS, 8, 8⟩
def TW_COUNTS.PARTIAL : Fld := ⟨Reg.TW_COUNTS, 16, 8⟩
def TW_COUNTS.STUCK : Fld := ⟨Reg.TW_COUNTS, 24, 8⟩
def TW_ALERT.REPEAT_MS : Fld := ⟨Reg.TW_ALERT, 0, 16⟩
def TW_ALERT.ASSERTED : Fld := ⟨Reg.TW_ALERT, 16, 1⟩
def TW_ALERT.RESPONSES : Fld := ⟨Reg.TW_ALERT, 24, 8⟩
def HK_CTRL.PASS : Fld := ⟨Reg.HK_CTRL, 0, 6⟩
def HK_STATUS.ACTIVE : Fld := ⟨Reg.HK_STATUS, 0, 3⟩
def HK_STATUS.NO_SPARE : Fld := ⟨Reg.HK_STATUS, 3, 1⟩
def HK_STATUS.DEGRADED : Fld := ⟨Reg.HK_STATUS, 4, 1⟩
def HK_STATUS.REFUSED : Fld := ⟨Reg.HK_STATUS, 8, 8⟩
def HK_STATUS.DROPPED : Fld := ⟨Reg.HK_STATUS, 16, 16⟩
def HK_WEVENTS.EVENT : Fld := ⟨Reg.HK_WEVENTS, 0, 16⟩
def HK_SLICE.STATE : Fld := ⟨Reg.HK_SLICE, 0, 15⟩
def HK_SLICE.RETIRED : Fld := ⟨Reg.HK_SLICE, 16, 8⟩
def HK_SLICE.SWAPS : Fld := ⟨Reg.HK_SLICE, 24, 8⟩
def HK_PASS_TIME.LAST : Fld := ⟨Reg.HK_PASS_TIME, 0, 16⟩
def HK_PASS_TIME.MAX : Fld := ⟨Reg.HK_PASS_TIME, 16, 16⟩
def HK_SEQ.CHANNEL (k : Nat) : Fld := ⟨Reg.HK_SEQ k, 0, 5⟩
def HK_SEQ.GAIN (k : Nat) : Fld := ⟨Reg.HK_SEQ k, 8, 2⟩
def HK_SEQ.WMODE (k : Nat) : Fld := ⟨Reg.HK_SEQ k, 10, 2⟩
def HK_SEQ.PERSIST (k : Nat) : Fld := ⟨Reg.HK_SEQ k, 12, 4⟩
def HK_SEQ.SAMPLE (k : Nat) : Fld := ⟨Reg.HK_SEQ k, 16, 8⟩
def HK_SEQ.EN (k : Nat) : Fld := ⟨Reg.HK_SEQ k, 31, 1⟩
def HK_WIN.LOW (k : Nat) : Fld := ⟨Reg.HK_WIN k, 0, 16⟩
def HK_WIN.HIGH (k : Nat) : Fld := ⟨Reg.HK_WIN k, 16, 16⟩
def HK_RES.RESULT (k : Nat) : Fld := ⟨Reg.HK_RES k, 0, 32⟩
def PIO_RUN.RUNNING : Fld := ⟨Reg.PIO_RUN, 0, 4⟩
def PIO_RUN.HALTED : Fld := ⟨Reg.PIO_RUN, 4, 4⟩
def PIO_EVENTS.EVENT : Fld := ⟨Reg.PIO_EVENTS, 0, 4⟩
def PIO_PINMUX.MUX : Fld := ⟨Reg.PIO_PINMUX, 0, 18⟩
def PIO_FILTER.FILTER : Fld := ⟨Reg.PIO_FILTER, 0, 24⟩
def PIO_MODE.LEGACY : Fld := ⟨Reg.PIO_MODE, 0, 4⟩
def PIO_REFUSED.STATUS : Fld := ⟨Reg.PIO_REFUSED, 0, 8⟩
def PIO_REFUSED.REASON : Fld := ⟨Reg.PIO_REFUSED, 8, 8⟩
def PIO_REFUSED.WORD : Fld := ⟨Reg.PIO_REFUSED, 24, 6⟩
def PIO_PMEM_ADDR.ADDR : Fld := ⟨Reg.PIO_PMEM_ADDR, 0, 6⟩
def PIO_PMEM_ADDR.ENGINE : Fld := ⟨Reg.PIO_PMEM_ADDR, 8, 2⟩
def SAFE_STATE.STATE : Fld := ⟨Reg.SAFE_STATE, 0, 3⟩
def SAFE_STATE.MON_STATE : Fld := ⟨Reg.SAFE_STATE, 4, 3⟩
def SAFE_STATE.A_ON : Fld := ⟨Reg.SAFE_STATE, 8, 1⟩
def SAFE_STATE.B_ON : Fld := ⟨Reg.SAFE_STATE, 9, 1⟩
def SAFE_STATE.HB_SEQ : Fld := ⟨Reg.SAFE_STATE, 16, 16⟩
def SAFE_EVENTS.EVENT : Fld := ⟨Reg.SAFE_EVENTS, 0, 6⟩
def SAFE_CFG.HB_TIMEOUT : Fld := ⟨Reg.SAFE_CFG, 0, 8⟩
def SAFE_CFG.QUORUM : Fld := ⟨Reg.SAFE_CFG, 8, 6⟩
def SAFE_CFG.PIO_ON_TRIP : Fld := ⟨Reg.SAFE_CFG, 16, 6⟩
def SAFE_EM_MASK.MASK : Fld := ⟨Reg.SAFE_EM_MASK, 0, 32⟩
def SAFE_REC_MASK.MASK : Fld := ⟨Reg.SAFE_REC_MASK, 0, 9⟩
def SAFE_HB.SEQ : Fld := ⟨Reg.SAFE_HB, 0, 16⟩
def SAFE_CMD.SEED : Fld := ⟨Reg.SAFE_CMD, 0, 16⟩
def SAFE_CMD.FAULT_CLEAR : Fld := ⟨Reg.SAFE_CMD, 29, 1⟩
def SAFE_CMD.DISARM : Fld := ⟨Reg.SAFE_CMD, 30, 1⟩
def SAFE_CMD.ARM : Fld := ⟨Reg.SAFE_CMD, 31, 1⟩
def SAFE_TRIP.CAUSE : Fld := ⟨Reg.SAFE_TRIP, 0, 8⟩
def SAFE_TRIP.REASON : Fld := ⟨Reg.SAFE_TRIP, 8, 8⟩
def SAFE_TRIP.ORIGIN : Fld := ⟨Reg.SAFE_TRIP, 16, 8⟩
def SAFE_COUNTS.TRIPS : Fld := ⟨Reg.SAFE_COUNTS, 0, 8⟩
def SAFE_COUNTS.MASKED : Fld := ⟨Reg.SAFE_COUNTS, 8, 8⟩
def SAFE_COUNTS.LATE_REQ : Fld := ⟨Reg.SAFE_COUNTS, 16, 8⟩
def SAFE_COUNTS.HB_BAD : Fld := ⟨Reg.SAFE_COUNTS, 24, 8⟩
def SAFE_MON_STATUS.CP_RESET : Fld := ⟨Reg.SAFE_MON_STATUS, 0, 1⟩
def SAFE_MON_STATUS.FAULT_LATCHED : Fld := ⟨Reg.SAFE_MON_STATUS, 1, 1⟩
def SAFE_MON_STATUS.FAULT_PIN : Fld := ⟨Reg.SAFE_MON_STATUS, 2, 2⟩
def SAFE_MON_STATUS.CP_RESETS : Fld := ⟨Reg.SAFE_MON_STATUS, 16, 8⟩
def PIO_SAFE_LEVEL.LEVEL : Fld := ⟨Reg.PIO_SAFE_LEVEL, 0, 12⟩
def SAFE_REFUSED.STATUS : Fld := ⟨Reg.SAFE_REFUSED, 0, 8⟩
def SAFE_REFUSED.LOCK : Fld := ⟨Reg.SAFE_REFUSED, 8, 8⟩
def CONV_CFG.SHED_MODE : Fld := ⟨Reg.CONV_CFG, 0, 2⟩
def CONV_CFG.SHED_DELAY : Fld := ⟨Reg.CONV_CFG, 8, 8⟩
def CONV_CFG.LIMIT_ACTION : Fld := ⟨Reg.CONV_CFG, 16, 1⟩
def CONV_CFG.LIMIT_TIME : Fld := ⟨Reg.CONV_CFG, 24, 8⟩
def CONV_STATUS.RIDE : Fld := ⟨Reg.CONV_STATUS, 0, 1⟩
def CONV_STATUS.VBAT_OV : Fld := ⟨Reg.CONV_STATUS, 1, 1⟩
def CONV_STATUS.SHED : Fld := ⟨Reg.CONV_STATUS, 2, 1⟩
def CONV_STATUS.VBAT_LOW : Fld := ⟨Reg.CONV_STATUS, 3, 1⟩
def CONV_STATUS.VAUX_ON : Fld := ⟨Reg.CONV_STATUS, 4, 1⟩
def CONV_STATUS.VAUX_OK : Fld := ⟨Reg.CONV_STATUS, 5, 1⟩
def CONV_STATUS.LIMIT : Fld := ⟨Reg.CONV_STATUS, 6, 1⟩
def CONV_STATUS.LIMIT_CAUSE : Fld := ⟨Reg.CONV_STATUS, 8, 2⟩
def CONV_STATUS.UNDERSIZED : Fld := ⟨Reg.CONV_STATUS, 16, 1⟩
def CONV_STATUS.OVERSIZED : Fld := ⟨Reg.CONV_STATUS, 17, 1⟩
def CONV_STATUS.STALE : Fld := ⟨Reg.CONV_STATUS, 18, 1⟩
def CONV_STATUS.MISMATCH : Fld := ⟨Reg.CONV_STATUS, 19, 1⟩
def CONV_STATUS.BROWNOUT : Fld := ⟨Reg.CONV_STATUS, 20, 1⟩
def CONV_STATUS.REFUSED : Fld := ⟨Reg.CONV_STATUS, 24, 8⟩
def CONV_EVENTS.EVENT : Fld := ⟨Reg.CONV_EVENTS, 0, 6⟩
def CONV_CMD.PHASE_RETRY : Fld := ⟨Reg.CONV_CMD, 0, 1⟩
def CONV_CMD.PHASE : Fld := ⟨Reg.CONV_CMD, 1, 2⟩
def PHASE_STATUS.RETIRED : Fld := ⟨Reg.PHASE_STATUS, 0, 3⟩
def PHASE_STATUS.ACTIVE : Fld := ⟨Reg.PHASE_STATUS, 4, 3⟩
def PHASE_STATUS.LIGHT : Fld := ⟨Reg.PHASE_STATUS, 8, 2⟩
def PHASE_STATUS.CAUSE : Fld := ⟨Reg.PHASE_STATUS, 12, 6⟩
def PHASE_STATUS.DEVIATION : Fld := ⟨Reg.PHASE_STATUS, 24, 8⟩
def CONV_VIN.VBAT : Fld := ⟨Reg.CONV_VIN, 0, 16⟩
def CONV_VIN.VHOLD : Fld := ⟨Reg.CONV_VIN, 16, 16⟩
def CONV_AUX.VAUX : Fld := ⟨Reg.CONV_AUX, 0, 16⟩
def CONV_AUX.IAUX : Fld := ⟨Reg.CONV_AUX, 16, 16⟩
def RES_MODEL.CAP : Fld := ⟨Reg.RES_MODEL, 0, 16⟩
def RES_MODEL.ESR : Fld := ⟨Reg.RES_MODEL, 16, 16⟩
def RES_LAST.MIN_VHOLD : Fld := ⟨Reg.RES_LAST, 0, 16⟩
def RES_LAST.DURATION : Fld := ⟨Reg.RES_LAST, 16, 16⟩
def RES_CHARGE.CHARGE : Fld := ⟨Reg.RES_CHARGE, 0, 32⟩
def CONV_COUNTS.RIDES : Fld := ⟨Reg.CONV_COUNTS, 0, 8⟩
def CONV_COUNTS.PHASES : Fld := ⟨Reg.CONV_COUNTS, 8, 8⟩
def CONV_COUNTS.LIMITS : Fld := ⟨Reg.CONV_COUNTS, 16, 8⟩
def CONV_COUNTS.RESTARTS : Fld := ⟨Reg.CONV_COUNTS, 24, 8⟩
def VOTE_CTRL.CELL_TRIAD : Fld := ⟨Reg.VOTE_CTRL, 0, 7⟩
def VOTE_CTRL.CELL_EN : Fld := ⟨Reg.VOTE_CTRL, 7, 1⟩
def VOTE_STATUS.VALID : Fld := ⟨Reg.VOTE_STATUS, 0, 6⟩
def VOTE_STATUS.SPLIT : Fld := ⟨Reg.VOTE_STATUS, 8, 6⟩
def VOTE_STATUS.STALE : Fld := ⟨Reg.VOTE_STATUS, 16, 6⟩
def VOTE_EVENTS.EVENT : Fld := ⟨Reg.VOTE_EVENTS, 0, 7⟩
def VOTE_QUORUM.ACC_COUNT : Fld := ⟨Reg.VOTE_QUORUM, 0, 6⟩
def VOTE_QUORUM.ACC_DIES : Fld := ⟨Reg.VOTE_QUORUM, 8, 4⟩
def VOTE_QUORUM.GYR_COUNT : Fld := ⟨Reg.VOTE_QUORUM, 16, 5⟩
def VOTE_QUORUM.GYR_PAIRS : Fld := ⟨Reg.VOTE_QUORUM, 24, 4⟩
def VOTE_NOISE.ACC : Fld := ⟨Reg.VOTE_NOISE, 0, 16⟩
def VOTE_NOISE.GYR : Fld := ⟨Reg.VOTE_NOISE, 16, 16⟩
def VOTE_DIE.DIE_RETIRED : Fld := ⟨Reg.VOTE_DIE, 0, 4⟩
def REINSTATE_CTRL.TRIAD : Fld := ⟨Reg.REINSTATE_CTRL, 0, 7⟩
def REINSTATE_CTRL.SCOPE : Fld := ⟨Reg.REINSTATE_CTRL, 8, 1⟩
def REINSTATE_CTRL.DIE : Fld := ⟨Reg.REINSTATE_CTRL, 10, 2⟩
def REINSTATE_CTRL.START : Fld := ⟨Reg.REINSTATE_CTRL, 31, 1⟩
def REINSTATE_RESULT.REINSTATED : Fld := ⟨Reg.REINSTATE_RESULT, 0, 8⟩
def REINSTATE_RESULT.FAILED : Fld := ⟨Reg.REINSTATE_RESULT, 8, 8⟩
def REINSTATE_RESULT.REFUSED : Fld := ⟨Reg.REINSTATE_RESULT, 16, 8⟩
def REINSTATE_RESULT.BUSY : Fld := ⟨Reg.REINSTATE_RESULT, 31, 1⟩
def VOTE_COUNTS.RETIRED : Fld := ⟨Reg.VOTE_COUNTS, 0, 8⟩
def VOTE_COUNTS.CLEARED : Fld := ⟨Reg.VOTE_COUNTS, 8, 8⟩
def VOTE_COUNTS.DIES : Fld := ⟨Reg.VOTE_COUNTS, 16, 4⟩
def VOTE_COUNTS.SPLITS : Fld := ⟨Reg.VOTE_COUNTS, 20, 12⟩
def TRIAD_SEL.TRIAD : Fld := ⟨Reg.TRIAD_SEL, 0, 7⟩
def ARRAY_PROFILE.PROFILE : Fld := ⟨Reg.ARRAY_PROFILE, 0, 2⟩
def ARRAY_PROFILE.ACTIVE_PROFILE : Fld := ⟨Reg.ARRAY_PROFILE, 8, 2⟩
def ARRAY_PROFILE.CHANGE_PENDING : Fld := ⟨Reg.ARRAY_PROFILE, 16, 1⟩
def ARRAY_RANGE.ACC_RANGE : Fld := ⟨Reg.ARRAY_RANGE, 0, 3⟩
def ARRAY_RANGE.GYR_RANGE : Fld := ⟨Reg.ARRAY_RANGE, 8, 3⟩
def ARRAY_STATUS.SAT : Fld := ⟨Reg.ARRAY_STATUS, 0, 6⟩
def ARRAY_STATUS.CLIP : Fld := ⟨Reg.ARRAY_STATUS, 8, 6⟩
def ARRAY_STATUS.UNCOMP : Fld := ⟨Reg.ARRAY_STATUS, 16, 1⟩
def ARRAY_STATUS.SELFTEST_BUSY : Fld := ⟨Reg.ARRAY_STATUS, 17, 1⟩
def ARRAY_STATUS.DRIVE_FAULT : Fld := ⟨Reg.ARRAY_STATUS, 18, 1⟩
def ARRAY_EVENTS.SAT_SEEN : Fld := ⟨Reg.ARRAY_EVENTS, 0, 6⟩
def ARRAY_EVENTS.CLIP_SEEN : Fld := ⟨Reg.ARRAY_EVENTS, 8, 6⟩
def ARRAY_EVENTS.UNCOMP_SEEN : Fld := ⟨Reg.ARRAY_EVENTS, 16, 1⟩
def ARRAY_EVENTS.SELFTEST_DONE : Fld := ⟨Reg.ARRAY_EVENTS, 17, 1⟩
def ARRAY_EVENTS.DRIVE_FAULT_SEEN : Fld := ⟨Reg.ARRAY_EVENTS, 18, 1⟩
def ARRAY_EVENTS.SUBSTITUTED : Fld := ⟨Reg.ARRAY_EVENTS, 19, 1⟩
def TEMP_01.T_LOW : Fld := ⟨Reg.TEMP_01, 0, 16⟩
def TEMP_01.T_HIGH : Fld := ⟨Reg.TEMP_01, 16, 16⟩
def TEMP_23.T_LOW : Fld := ⟨Reg.TEMP_23, 0, 16⟩
def TEMP_23.T_HIGH : Fld := ⟨Reg.TEMP_23, 16, 16⟩
def TEMP_ASIC.T_LOW : Fld := ⟨Reg.TEMP_ASIC, 0, 16⟩
def SELFTEST_CTRL.TRIAD : Fld := ⟨Reg.SELFTEST_CTRL, 0, 7⟩
def SELFTEST_CTRL.SCOPE : Fld := ⟨Reg.SELFTEST_CTRL, 8, 2⟩
def SELFTEST_CTRL.DIE : Fld := ⟨Reg.SELFTEST_CTRL, 10, 2⟩
def SELFTEST_CTRL.START : Fld := ⟨Reg.SELFTEST_CTRL, 31, 1⟩
def SELFTEST_RESULT.RESULT : Fld := ⟨Reg.SELFTEST_RESULT, 0, 3⟩
def SELFTEST_RESULT.LAST_TRIAD : Fld := ⟨Reg.SELFTEST_RESULT, 8, 7⟩
def SELFTEST_RESULT.FAIL_COUNT : Fld := ⟨Reg.SELFTEST_RESULT, 16, 8⟩
def SELFTEST_RESULT.SKIP_COUNT : Fld := ⟨Reg.SELFTEST_RESULT, 24, 8⟩
def SENTINEL_CTRL.RATE : Fld := ⟨Reg.SENTINEL_CTRL, 0, 2⟩
def SENTINEL_CTRL.WAKE_TH : Fld := ⟨Reg.SENTINEL_CTRL, 8, 7⟩
def SENTINEL_CTRL.WAKE_CNT : Fld := ⟨Reg.SENTINEL_CTRL, 16, 4⟩
def SENTINEL_XY.X : Fld := ⟨Reg.SENTINEL_XY, 0, 16⟩
def SENTINEL_XY.Y : Fld := ⟨Reg.SENTINEL_XY, 16, 16⟩
def SENTINEL_Z.Z : Fld := ⟨Reg.SENTINEL_Z, 0, 16⟩
def SENTINEL_Z.COUNT : Fld := ⟨Reg.SENTINEL_Z, 16, 16⟩
def DRIVE_STATUS.LOCKED : Fld := ⟨Reg.DRIVE_STATUS, 0, 24⟩
def FILT_PRESET.PRESET : Fld := ⟨Reg.FILT_PRESET, 0, 3⟩
def FILT_PRESET.ACTIVE : Fld := ⟨Reg.FILT_PRESET, 8, 3⟩
def FILT_PRESET.CHANGE_PENDING : Fld := ⟨Reg.FILT_PRESET, 16, 1⟩
def FILT_BANK.ACC_SEL : Fld := ⟨Reg.FILT_BANK, 0, 2⟩
def FILT_BANK.GYR_SEL : Fld := ⟨Reg.FILT_BANK, 2, 2⟩
def FILT_BANK.REFUSED : Fld := ⟨Reg.FILT_BANK, 8, 8⟩
def FILT_BANK.ACC_ACTIVE : Fld := ⟨Reg.FILT_BANK, 16, 2⟩
def FILT_BANK.GYR_ACTIVE : Fld := ⟨Reg.FILT_BANK, 18, 2⟩
def FILT_BANK.SWAP_PENDING : Fld := ⟨Reg.FILT_BANK, 20, 1⟩
def FILT_VALID.BANKS : Fld := ⟨Reg.FILT_VALID, 0, 4⟩
def FILT_VALID.SLOTS : Fld := ⟨Reg.FILT_VALID, 16, 16⟩
def FILT_STATUS.SETTLING : Fld := ⟨Reg.FILT_STATUS, 0, 1⟩
def FILT_STATUS.NOTCH_ACTIVE : Fld := ⟨Reg.FILT_STATUS, 1, 1⟩
def FILT_STATUS.TACH_LOST : Fld := ⟨Reg.FILT_STATUS, 2, 1⟩
def FILT_STATUS.NOTCH_SUSPENDED : Fld := ⟨Reg.FILT_STATUS, 3, 1⟩
def FILT_STATUS.NOTCH_SET : Fld := ⟨Reg.FILT_STATUS, 4, 4⟩
def FILT_STATUS.LATE_STAGE : Fld := ⟨Reg.FILT_STATUS, 16, 3⟩
def FILT_EVENTS.SETTLING : Fld := ⟨Reg.FILT_EVENTS, 0, 1⟩
def FILT_EVENTS.LATE : Fld := ⟨Reg.FILT_EVENTS, 1, 1⟩
def FILT_EVENTS.SWAP : Fld := ⟨Reg.FILT_EVENTS, 2, 1⟩
def FILT_EVENTS.NOTCH : Fld := ⟨Reg.FILT_EVENTS, 3, 1⟩
def FILT_EVENTS.TACH_LOST : Fld := ⟨Reg.FILT_EVENTS, 4, 1⟩
def FILT_EVENTS.SUSPENDED : Fld := ⟨Reg.FILT_EVENTS, 5, 1⟩
def FILT_EVENTS.SYNC : Fld := ⟨Reg.FILT_EVENTS, 6, 1⟩
def FILT_EVENTS.SYNC_IGNORED : Fld := ⟨Reg.FILT_EVENTS, 7, 1⟩
def FILT_DELAY_NS.NS : Fld := ⟨Reg.FILT_DELAY_NS, 0, 24⟩
def FILT_DELAY_FRAC.FRAC : Fld := ⟨Reg.FILT_DELAY_FRAC, 0, 16⟩
def SYNC_CTRL.SRC : Fld := ⟨Reg.SYNC_CTRL, 0, 2⟩
def SYNC_CTRL.ARM : Fld := ⟨Reg.SYNC_CTRL, 2, 1⟩
def SYNC_CTRL.CONT : Fld := ⟨Reg.SYNC_CTRL, 3, 1⟩
def SYNC_PHASE.CYCLES : Fld := ⟨Reg.SYNC_PHASE, 0, 11⟩
def SYNC_PHASE.IGNORED : Fld := ⟨Reg.SYNC_PHASE, 16, 16⟩
def NOTCH_CTRL.EN : Fld := ⟨Reg.NOTCH_CTRL, 0, 1⟩
def NOTCH_CTRL.ENGINE : Fld := ⟨Reg.NOTCH_CTRL, 1, 2⟩
def NOTCH_CTRL.PPR : Fld := ⟨Reg.NOTCH_CTRL, 4, 4⟩
def NOTCH_CTRL.HYST : Fld := ⟨Reg.NOTCH_CTRL, 8, 8⟩
def NOTCH_CTRL.CONFIRM : Fld := ⟨Reg.NOTCH_CTRL, 16, 4⟩
def NOTCH_CTRL.TIMEOUT : Fld := ⟨Reg.NOTCH_CTRL, 24, 8⟩
def NOTCH_FREQ.FREQ : Fld := ⟨Reg.NOTCH_FREQ, 0, 16⟩
def NOTCH_FREQ.SET : Fld := ⟨Reg.NOTCH_FREQ, 16, 4⟩
def EM_FAULT.MASK : Fld := ⟨Reg.EM_FAULT, 0, 32⟩
def EM_BELL.MASK : Fld := ⟨Reg.EM_BELL, 0, 32⟩
def EM_START.MASK : Fld := ⟨Reg.EM_START, 0, 32⟩
def EM_STOP.MASK : Fld := ⟨Reg.EM_STOP, 0, 32⟩
def EM_REFUSED.STATUS : Fld := ⟨Reg.EM_REFUSED, 0, 8⟩
def EM_REFUSED.REASON : Fld := ⟨Reg.EM_REFUSED, 8, 8⟩
def EM_REFUSED.ADDR : Fld := ⟨Reg.EM_REFUSED, 16, 13⟩
def EM_SEL.MACH : Fld := ⟨Reg.EM_SEL, 0, 5⟩
def EM_REGION.ENTRY : Fld := ⟨Reg.EM_REGION, 0, 13⟩
def EM_REGION.LEN : Fld := ⟨Reg.EM_REGION, 16, 14⟩
def EM_FLAGS.SPEC_ACT : Fld := ⟨Reg.EM_FLAGS, 0, 1⟩
def EM_FLAGS.FAULT_SAFE : Fld := ⟨Reg.EM_FLAGS, 1, 1⟩
def EM_FLAGS.FORCE_CONLY : Fld := ⟨Reg.EM_FLAGS, 2, 1⟩
def EM_PARAM.VALUE (k : Nat) : Fld := ⟨Reg.EM_PARAM k, 0, 32⟩
def EM_PMEM_ADDR.ADDR : Fld := ⟨Reg.EM_PMEM_ADDR, 0, 13⟩
def EM_PMEM_ECC.CORRECTED : Fld := ⟨Reg.EM_PMEM_ECC, 0, 16⟩
def SPEC_STATUS.POOL_USED : Fld := ⟨Reg.SPEC_STATUS, 0, 7⟩
def SPEC_STATUS.POOL_PEAK : Fld := ⟨Reg.SPEC_STATUS, 8, 7⟩
def SPEC_STATUS.DEPTH : Fld := ⟨Reg.SPEC_STATUS, 16, 4⟩
def SPEC_STATUS.POOL_DENIED : Fld := ⟨Reg.SPEC_STATUS, 24, 8⟩
def SPEC_EVENTS.FALSESTOP : Fld := ⟨Reg.SPEC_EVENTS, 0, 1⟩
def SPEC_EVENTS.POOL_FULL : Fld := ⟨Reg.SPEC_EVENTS, 1, 1⟩
def SPEC_CONFIRMED.COUNT : Fld := ⟨Reg.SPEC_CONFIRMED, 0, 32⟩
def SPEC_REFUTED.COUNT : Fld := ⟨Reg.SPEC_REFUTED, 0, 32⟩
def SPEC_FALLBACK.FALLBACKS : Fld := ⟨Reg.SPEC_FALLBACK, 0, 16⟩
def SPEC_FALLBACK.REJOINS : Fld := ⟨Reg.SPEC_FALLBACK, 16, 16⟩
def SPEC_LAST_ORIGIN.ORIGIN : Fld := ⟨Reg.SPEC_LAST_ORIGIN, 0, 8⟩
def SPEC_LAST_ORIGIN.ADDR : Fld := ⟨Reg.SPEC_LAST_ORIGIN, 8, 13⟩
def FALSESTOP_COUNT.COUNT : Fld := ⟨Reg.FALSESTOP_COUNT, 0, 16⟩
def REC_ENABLE.MASK : Fld := ⟨Reg.REC_ENABLE, 0, 9⟩
def REC_EVENTS.MASK : Fld := ⟨Reg.REC_EVENTS, 0, 9⟩
def REC_REFUSED.STATUS : Fld := ⟨Reg.REC_REFUSED, 0, 8⟩
def REC_REFUSED.REC : Fld := ⟨Reg.REC_REFUSED, 8, 4⟩
def REC_REFUSED.WORD : Fld := ⟨Reg.REC_REFUSED, 12, 3⟩
def REC_WHEEL.LEFT_ENGINE : Fld := ⟨Reg.REC_WHEEL, 0, 2⟩
def REC_WHEEL.RIGHT_ENGINE : Fld := ⟨Reg.REC_WHEEL, 2, 2⟩
def REC_WHEEL.LEFT_INV : Fld := ⟨Reg.REC_WHEEL, 4, 1⟩
def REC_WHEEL.RIGHT_INV : Fld := ⟨Reg.REC_WHEEL, 5, 1⟩
def REC_WHEEL.SPEED_TAU : Fld := ⟨Reg.REC_WHEEL, 8, 8⟩
def REC_COUNTS_PER_M.COUNTS : Fld := ⟨Reg.REC_COUNTS_PER_M, 0, 32⟩
def REC_GEOM.TRACK : Fld := ⟨Reg.REC_GEOM, 0, 16⟩
def REC_GEOM.ATT_TAU : Fld := ⟨Reg.REC_GEOM, 16, 16⟩
def REC_CTRL.SPEC_ACT (k : Nat) : Fld := ⟨Reg.REC_CTRL k, 0, 1⟩
def REC_CTRL.SAFE_EN (k : Nat) : Fld := ⟨Reg.REC_CTRL k, 1, 1⟩
def REC_CTRL.END_EVENT (k : Nat) : Fld := ⟨Reg.REC_CTRL k, 2, 1⟩
def REC_CTRL.LOST_SAFE (k : Nat) : Fld := ⟨Reg.REC_CTRL k, 3, 1⟩
def PAIR_CFG.ROLE : Fld := ⟨Reg.PAIR_CFG, 0, 2⟩
def PAIR_CFG.AUTO_JOIN : Fld := ⟨Reg.PAIR_CFG, 2, 1⟩
def PAIR_CFG.LOCAL_MASTER : Fld := ⟨Reg.PAIR_CFG, 3, 1⟩
def PAIR_CFG.DOMAIN : Fld := ⟨Reg.PAIR_CFG, 8, 7⟩
def PAIR_PARTNER_LO.MAC : Fld := ⟨Reg.PAIR_PARTNER_LO, 0, 32⟩
def PAIR_PARTNER_HI.MAC : Fld := ⟨Reg.PAIR_PARTNER_HI, 0, 16⟩
def PAIR_STATE.STATE : Fld := ⟨Reg.PAIR_STATE, 0, 2⟩
def PAIR_STATE.ROLE : Fld := ⟨Reg.PAIR_STATE, 2, 2⟩
def PAIR_STATE.SYNC_LOST : Fld := ⟨Reg.PAIR_STATE, 4, 1⟩
def PAIR_STATE.PTP_ONLY : Fld := ⟨Reg.PAIR_STATE, 5, 1⟩
def PAIR_STATE.MISSED : Fld := ⟨Reg.PAIR_STATE, 6, 2⟩
def PAIR_STATE.REASON : Fld := ⟨Reg.PAIR_STATE, 8, 4⟩
def PAIR_STATE.CAUSE : Fld := ⟨Reg.PAIR_STATE, 12, 4⟩
def PAIR_STATE.NODE : Fld := ⟨Reg.PAIR_STATE, 16, 8⟩
def PAIR_STATE.REFUSED : Fld := ⟨Reg.PAIR_STATE, 24, 8⟩
def PAIR_EVENTS.EVENT : Fld := ⟨Reg.PAIR_EVENTS, 0, 4⟩
def PAIR_NOISE.ACC : Fld := ⟨Reg.PAIR_NOISE, 0, 16⟩
def PAIR_NOISE.GYR : Fld := ⟨Reg.PAIR_NOISE, 16, 16⟩
def PAIR_COUNTS.JOINS : Fld := ⟨Reg.PAIR_COUNTS, 0, 8⟩
def PAIR_COUNTS.LEAVES : Fld := ⟨Reg.PAIR_COUNTS, 8, 8⟩
def PAIR_COUNTS.LATE : Fld := ⟨Reg.PAIR_COUNTS, 16, 16⟩
def PAIR_DELTA.DELTA : Fld := ⟨Reg.PAIR_DELTA, 0, 32⟩
def XING_SEL.INDEX : Fld := ⟨Reg.XING_SEL, 0, 4⟩
def XING_INFO.INDEX : Fld := ⟨Reg.XING_INFO, 0, 4⟩
def XING_INFO.SAFE : Fld := ⟨Reg.XING_INFO, 8, 1⟩
def XING_STALLED.STALLED : Fld := ⟨Reg.XING_STALLED, 0, 11⟩

/-- The bits of each register that a write stores (access RW, R419); every other bit ignores it. -/
def rwTable : List (Nat × Word) :=
  [(0x0220, 0xFFFFFFFF), (0x0224, 0xFFFFFFFF), (0x0228, 0xFFFFFFFF), (0x022C, 0xFFFFFFFF), (0x0230, 0xFFFFFFFF), (0x0234, 0xFFFFFFFF), (0x0238, 0xFFFFFFFF), (0x023C, 0xFFFFFFFF), (0x0308, 0x0000000F), (0x0310, 0xFFFF1F07), (0x0314, 0x3FFFFFFF), (0x0318, 0x00FFFFFF)]
    ++ [(0x0400, 0x003FFF03), (0x0418, 0xFFFFFFFF), (0x0420, 0x00000773), (0x0444, 0xFFFFFFFF), (0x0448, 0xFFFFFFFF), (0x044C, 0xFFFFFFFF), (0x0450, 0xFFFFFFFF), (0x0500, 0x00007F03), (0x0504, 0xFFFFFFFF), (0x0508, 0xFFFFFFFF), (0x0600, 0x00FF0F0F), (0x0618, 0x00FF07FF)]
    ++ [(0x061C, 0xFFFFFFFF), (0x0620, 0x0000FFFF), (0x0700, 0x00000003), (0x0708, 0x0000FF7F), (0x071C, 0x0000FFFF), (0x0800, 0x0000003F), (0x0840, 0x80FFFF1F), (0x0844, 0x80FFFF1F), (0x0848, 0x80FFFF1F), (0x084C, 0x80FFFF1F), (0x0850, 0x80FFFF1F), (0x0854, 0x80FFFF1F)]
    ++ [(0x0858, 0x80FFFF1F), (0x085C, 0x80FFFF1F), (0x0860, 0x80FFFF1F), (0x0864, 0x80FFFF1F), (0x0868, 0x80FFFF1F), (0x086C, 0x80FFFF1F), (0x0870, 0x80FFFF1F), (0x0874, 0x80FFFF1F), (0x0878, 0x80FFFF1F), (0x087C, 0x80FFFF1F), (0x0880, 0xFFFFFFFF), (0x0884, 0xFFFFFFFF)]
    ++ [(0x0888, 0xFFFFFFFF), (0x088C, 0xFFFFFFFF), (0x0890, 0xFFFFFFFF), (0x0894, 0xFFFFFFFF), (0x0898, 0xFFFFFFFF), (0x089C, 0xFFFFFFFF), (0x08A0, 0xFFFFFFFF), (0x08A4, 0xFFFFFFFF), (0x08A8, 0xFFFFFFFF), (0x08AC, 0xFFFFFFFF), (0x08B0, 0xFFFFFFFF), (0x08B4, 0xFFFFFFFF)]
    ++ [(0x08B8, 0xFFFFFFFF), (0x08BC, 0xFFFFFFFF), (0x0908, 0x0003FFFF), (0x090C, 0x00FFFFFF), (0x0910, 0x0000000F), (0x09A0, 0x0000033F), (0x0A08, 0x003F3FFF), (0x0A0C, 0xFFFFFFFF), (0x0A10, 0x000001FF), (0x0A14, 0x0000FFFF), (0x0A30, 0x00000FFF), (0x0B00, 0xFF01FF03)]
    ++ [(0x0C00, 0x000000FF), (0x0C30, 0x00000D7F), (0x0C40, 0x0000007F), (0x0CC0, 0x00000003), (0x0CC4, 0x00000707), (0x0CE8, 0x00000F7F), (0x0CF0, 0x000F7F03), (0x0D00, 0x00000007), (0x0D04, 0x0000000F), (0x0D1C, 0x0000000F), (0x0D2C, 0xFF0FFFF7), (0x0E20, 0x0000001F)]
    ++ [(0x0E24, 0x3FFF1FFF), (0x0E28, 0x00000007), (0x0E80, 0xFFFFFFFF), (0x0E84, 0xFFFFFFFF), (0x0E88, 0xFFFFFFFF), (0x0E8C, 0xFFFFFFFF), (0x0E90, 0xFFFFFFFF), (0x0E94, 0xFFFFFFFF), (0x0E98, 0xFFFFFFFF), (0x0E9C, 0xFFFFFFFF), (0x0EA0, 0x00001FFF), (0x0F00, 0x000001FF)]
    ++ [(0x0F14, 0x0000FF3F), (0x0F18, 0xFFFFFFFF), (0x0F1C, 0xFFFFFFFF), (0x0F20, 0x0000000F), (0x0F24, 0xFFFFFFFF), (0x0F28, 0xFFFFFFFF), (0x0F38, 0x0000000F), (0x0F3C, 0xFFFFFFFF), (0x0F40, 0xFFFFFFFF), (0x0F44, 0xFFFFFFFF), (0x0F50, 0x0000000F), (0x0F54, 0xFFFFFFFF)]
    ++ [(0x0F58, 0xFFFFFFFF), (0x0F68, 0x0000000F), (0x0F6C, 0xFFFFFFFF), (0x0F70, 0xFFFFFFFF), (0x0F80, 0x0000000F), (0x0F84, 0xFFFFFFFF), (0x0F88, 0xFFFFFFFF), (0x0F8C, 0x0000FFFF), (0x0F98, 0x0000000F), (0x0F9C, 0xFFFFFFFF), (0x0FA0, 0xFFFFFFFF), (0x0FA4, 0xFFFFFFFF)]
    ++ [(0x0FB0, 0x0000000F), (0x0FB4, 0xFFFFFFFF), (0x0FB8, 0xFFFFFFFF), (0x0FBC, 0x0000FFFF), (0x0FC8, 0x0000000F), (0x0FCC, 0xFFFFFFFF), (0x0FD0, 0xFFFFFFFF), (0x0FD4, 0x0000FFFF), (0x0FE0, 0x0000000F), (0x0FE4, 0xFFFFFFFF), (0x0FE8, 0xFFFFFFFF), (0x0FEC, 0xFFFFFFFF)]
    ++ [(0x1000, 0x00007F0F), (0x1004, 0xFFFFFFFF), (0x1008, 0x0000FFFF), (0x1100, 0x0000000F)]

/-- The bits of each events register that writing 1 clears (access W1C, R419). -/
def w1cTable : List (Nat × Word) :=
  [(0x0048, 0x0000000F), (0x0108, 0x00000007), (0x0304, 0x00000003), (0x0408, 0x000000EF), (0x0510, 0x0000000F), (0x0608, 0x0000000F), (0x0714, 0x00000007), (0x0808, 0x0000FFFF), (0x0904, 0x0000000F), (0x0A04, 0x0000003F), (0x0B08, 0x0000003F), (0x0C08, 0x0000007F)]
    ++ [(0x0CCC, 0x000F3F3F), (0x0D10, 0x000000FF), (0x0E04, 0xFFFFFFFF), (0x0E08, 0xFFFFFFFF), (0x0EB4, 0x00000003), (0x0F04, 0x000001FF), (0x1010, 0x0000000F)]

/-- The reset words of Table 20.2 that are not 0. -/
def resetTable : List (Nat × Word) :=
  [(0x0000, 0x00004806), (0x0044, 0x00000F00), (0x0204, 0x00000080), (0x021C, 0x00000080), (0x023C, 0x00005500), (0x0308, 0x0000000F), (0x030C, 0x000100FF), (0x0310, 0x00001F00), (0x0400, 0x00200100), (0x0420, 0x00000011), (0x0424, 0x00000001), (0x0444, 0x0BB801F4)]
    ++ [(0x0448, 0x0BB801F4), (0x044C, 0x0BB801F4), (0x0450, 0x0BB801F4), (0x0504, 0x000F4240), (0x0508, 0x000003E8), (0x050C, 0x00000008), (0x0530, 0x00000128), (0x0534, 0x00000264), (0x0540, 0x07735940), (0x0600, 0x00200800), (0x0604, 0x00000004), (0x0618, 0x00000580)]
    ++ [(0x061C, 0xFFFFFFFF), (0x0620, 0x0000FFFF), (0x0700, 0x00000002), (0x0800, 0x00000008), (0x0804, 0x00000004), (0x080C, 0x00001000), (0x0840, 0x80080000), (0x0844, 0x80080001), (0x0848, 0x80080002), (0x084C, 0x80080003), (0x0850, 0x80080004), (0x0854, 0x80040005)]
    ++ [(0x0858, 0x80040006), (0x085C, 0x80040007), (0x0860, 0x80040008), (0x0880, 0x7FFF8000), (0x0884, 0x7FFF8000), (0x0888, 0x7FFF8000), (0x088C, 0x7FFF8000), (0x0890, 0x7FFF8000), (0x0894, 0xFFFF0000), (0x0898, 0xFFFF0000), (0x089C, 0xFFFF0000), (0x08A0, 0xFFFF0000)]
    ++ [(0x08A4, 0xFFFF0000), (0x08A8, 0xFFFF0000), (0x08AC, 0xFFFF0000), (0x08B0, 0xFFFF0000), (0x08B4, 0xFFFF0000), (0x08B8, 0xFFFF0000), (0x08BC, 0xFFFF0000), (0x09A4, 0xF0000000), (0x0A08, 0x00003F64), (0x0A0C, 0xFFFFFFFF), (0x0A10, 0x000001FF), (0x0B00, 0x0A000000)]
    ++ [(0x0C10, 0x01000100), (0x0CC4, 0x00000303), (0x0CF0, 0x00010001), (0x0D00, 0x00000303), (0x0D14, 0x003D6A51), (0x0D18, 0x00005555), (0x0D2C, 0x14020510), (0x0E68, 0xFFFFFFFF), (0x0E6C, 0xFFFFFFFF), (0x0E70, 0xFFFFFFFF), (0x0E74, 0xFFFFFFFF), (0x0EA4, 0xFFFFFFFF)]
    ++ [(0x0F14, 0x00001404), (0x0F1C, 0x07D00000), (0x0F24, 0x00000FA0), (0x0F28, 0x03E80032), (0x0F3C, 0x0064000F), (0x0F40, 0x01F40014), (0x0F44, 0x01F4012C), (0x0F54, 0x0032012C), (0x0F58, 0x01F400C8), (0x0F6C, 0x001E012C), (0x0F70, 0x00C80064), (0x0F84, 0x000801F4)]
    ++ [(0x0F88, 0x006405DC), (0x0F8C, 0x000000C8), (0x0F9C, 0x000F0064), (0x0FA0, 0x00FA000F), (0x0FA4, 0x00FA01F4), (0x0FB4, 0x012C0096), (0x0FB8, 0x00C80064), (0x0FBC, 0x00000032), (0x0FCC, 0x00100040), (0x0FD0, 0x00C80FA0), (0x0FD4, 0x000003E8), (0x0FE4, 0x014001F4)]
    ++ [(0x0FE8, 0x07D003E8), (0x0FEC, 0x001407D0), (0x1014, 0x01000100), (0x1104, 0x00000100)]

/-- The reset value of a register (Table 20.2); OTP and strap values are views, not storage. -/
def resetWord (a : Nat) : Word := (resetTable.lookup a).getD 0

/-- The value a register file holds at an address; an unlisted register holds its reset word. -/
def RegFile.get (f : RegFile) (a : Nat) : Word := (f.lookup a).getD (resetWord a)

/-- Remove the entries of an address. -/
def RegFile.erase (a : Nat) : RegFile → RegFile
  | [] => []
  | (b, w) :: rest => if b = a then RegFile.erase a rest else (b, w) :: RegFile.erase a rest

/-- Insert an entry in address order, replacing one of the same address. -/
def RegFile.insert (a : Nat) (w : Word) : RegFile → RegFile
  | [] => [(a, w)]
  | (b, v) :: rest =>
    if a < b then (a, w) :: (b, v) :: rest
    else if a = b then (a, w) :: rest
    else (b, v) :: RegFile.insert a w rest

/-- Store a word, keeping the canonical form: an entry equal to the reset word is removed. -/
def RegFile.set (f : RegFile) (a : Nat) (w : Word) : RegFile :=
  if w = resetWord a then f.erase a else f.insert a w

/-- The canonical form: addresses strictly rising, no entry equal to its reset word. -/
def RegFile.wf : RegFile → Bool
  | [] => true
  | [(a, w)] => w != resetWord a
  | (a, w) :: (b, v) :: rest => w != resetWord a && decide (a < b) && RegFile.wf ((b, v) :: rest)

/-- The bits a plain write stores (R419). -/
def rwMask (a : Nat) : Word := (rwTable.lookup a).getD 0

/-- The bits a write of 1 clears (R419). -/
def w1cMask (a : Nat) : Word := (w1cTable.lookup a).getD 0

end Sys2Proof.Machine
end

