-- ==== Sys2Proof/Machine/Ops.lean ====
section
/-!
DEFINITION. The named operations over registers, event bits and interrupt sources (R399 to R405, R419).
-/
namespace Sys2Proof.Machine

/-- An effect that always completes. The block does nothing while its AON supply is absent: every command then
leaves the state as it is (POWER_UP alone ends that, R274). -/
def act (f : State → State) (s : State) : Host.Outcome State Fault Refusal :=
  .next (if s.aon then f s else s)

/-- Apply an effect under a condition. -/
def State.when (b : Bool) (f : State → State) (s : State) : State := if b then f s else s

/-! ### Register storage -/

def State.reg (s : State) (a : Nat) : Word := s.regs.get a

def State.setReg (a : Nat) (w : Word) (s : State) : State := { s with regs := s.regs.set a w }

/-- The value of a field. -/
def State.fld (s : State) (f : Fld) : Nat := bits (s.reg f.reg) f.lo f.width

/-- A one-bit field as a truth value. -/
def State.on (s : State) (f : Fld) : Bool := s.fld f != 0

/-- Store a field, every other bit of its register unchanged. -/
def State.setF (f : Fld) (v : Nat) (s : State) : State :=
  s.setReg f.reg (putBits (s.reg f.reg) f.lo f.width v)

/-- Add to a field, saturating at its largest value. -/
def State.addSat (f : Fld) (n : Nat) (s : State) : State :=
  s.setF f (min (s.fld f + n) (2 ^ f.width - 1))

/-- Count one in a saturating counter. -/
def State.incSat (f : Fld) (s : State) : State := s.addSat f 1

/-- Store the larger of a field and a value. -/
def State.maxF (f : Fld) (v : Nat) (s : State) : State := s.setF f (max (s.fld f) v)

/-- One bit of a register as a field. -/
def bitF (a k : Nat) : Fld := ⟨a, k, 1⟩

/-- Bit `n` of a bit map held in consecutive registers, 32 bits each. -/
def mapF (base n : Nat) : Fld := ⟨base + 4 * (n / 32), n % 32, 1⟩

/-! ### Stage and power state -/

/-- Boot stages (Table 12.1). -/
abbrev LARVA : Nat := 0
abbrev CHRYSALIS : Nat := 1
abbrev IMAGO : Nat := 2

/-- Noon (R258), outside brownout hold, in which the switched domains are without power (R366). -/
def State.noon (s : State) : Bool := s.fld PWR_STATE.STATE == 0 && s.entry.hold.isNone

def State.stage (s : State) : Nat := s.fld BOOT_STAGE.STAGE

def State.imago (s : State) : Bool := s.stage == IMAGO

/-! ### Interrupt sources (chapter 19) -/

/-- The two interrupt targets (R399). -/
inductive Target where
  | host
  | cp
deriving DecidableEq, Repr

def Target.en : Target → Nat → Fld
  | .host, n => ⟨Reg.INT_HOST_EN (n / 16), 2 * (n % 16), 2⟩
  | .cp, n => ⟨Reg.INT_CP_EN (n / 16), 2 * (n % 16), 2⟩

def Target.pend : Target → Nat → Fld
  | .host, n => mapF (Reg.INT_HOST_PEND 0) n
  | .cp, n => mapF (Reg.INT_CP_PEND 0) n

def Target.active : Target → Nat → Fld
  | .host, n => mapF (Reg.INT_HOST_ACT 0) n
  | .cp, n => mapF (Reg.INT_CP_ACT 0) n

def Target.merged : Target → Fld
  | .host => INT_HOST_COUNTS.MERGED
  | .cp => INT_CP_COUNTS.MERGED

def Target.ignored : Target → Fld
  | .host => INT_HOST_COUNTS.IGNORED
  | .cp => INT_CP_COUNTS.IGNORED

/-- ALERT_N is asserted again when a further source becomes pending in the host target (R298). -/
def State.alertAgain (t : Target) (s : State) : State :=
  match t with
  | .host => { s with tw := { s.tw with quiet := false } }
  | .cp => s

/-- A message for a source at one target (R401): pending while EN is not 0; merged where already pending. -/
def State.postTo (t : Target) (n : Nat) (s : State) : State :=
  if s.fld (t.en n) = 0 then s
  else if s.on (t.pend n) then s.incSat t.merged
  else (s.setF (t.pend n) 1).alertAgain t

/-- A message for a source: both targets (R401). The controller runs in Noon alone (R399). -/
def State.post (n : Nat) (s : State) : State := s.when s.noon fun s => (s.postTo .host n).postTo .cp n

/-- The events-register bits that form a source's level (Table 19.1). -/
def levelBits (n : Nat) : List (Nat × Word) :=
  if n < 32 then [(Reg.EM_BELL, bitWord n), (Reg.EM_FAULT, bitWord n)]
  else if n < 41 then [(Reg.REC_EVENTS, bitWord (n - 32))]
  else if n < 47 then [(Reg.SAFE_EVENTS, bitWord (n - 41))]
  else if n = 47 then [(Reg.SPEC_EVENTS, 1)]
  else if n < 55 then [(Reg.VOTE_EVENTS, bitWord (n - 48))]
  else if n = 55 then [(Reg.ARRAY_EVENTS, 0xFFFFFFFF)]
  else if n < 64 then [(Reg.FILT_EVENTS, bitWord (n - 56))]
  else if n = 68 then [(Reg.SPEC_EVENTS, 2)]
  else if n < 72 then [(Reg.QUEUE_EVENTS, bitWord (n - 64))]
  else if n < 74 then [(Reg.PWR_EVENTS, bitWord (n - 72))]
  else if n < 80 then [(Reg.CONV_EVENTS, bitWord (n - 74))]
  else if n < 96 then [(Reg.HK_WEVENTS, bitWord (n - 80))]
  else if n < 100 then [(Reg.PIO_EVENTS, bitWord (n - 96))]
  else if n < 104 then [(Reg.T1S_EVENTS, bitWord (n - 100))]
  else if n < 108 then [(Reg.TIME_EVENTS, bitWord (n - 104))]
  else if n = 108 then [(Reg.MBX_EVENTS, 0xFFFFFFFF)]
  else if n < 112 then [(Reg.TW_EVENTS, bitWord (n - 109))]
  else if n < 116 then [(Reg.PAIR_EVENTS, bitWord (n - 112))]
  else if n < 120 then [(Reg.BOOT_EVENTS, bitWord (n - 116))]
  else []

/-- The current level of a source (R399); software doorbells have none. -/
def State.level (s : State) (n : Nat) : Bool :=
  (levelBits n).any fun p => s.reg p.1 &&& p.2 != 0

/-- The source a bit of an events register pends (Table 19.1). -/
def sourceOf (a k : Nat) : Nat :=
  if a = Reg.EM_BELL ∨ a = Reg.EM_FAULT then k
  else if a = Reg.REC_EVENTS then 32 + k
  else if a = Reg.SAFE_EVENTS then 41 + k
  else if a = Reg.SPEC_EVENTS then (if k = 0 then 47 else 68)
  else if a = Reg.VOTE_EVENTS then 48 + k
  else if a = Reg.ARRAY_EVENTS then 55
  else if a = Reg.FILT_EVENTS then 56 + k
  else if a = Reg.QUEUE_EVENTS then 64 + k
  else if a = Reg.PWR_EVENTS then 72 + k
  else if a = Reg.CONV_EVENTS then 74 + k
  else if a = Reg.HK_WEVENTS then 80 + k
  else if a = Reg.PIO_EVENTS then 96 + k
  else if a = Reg.T1S_EVENTS then 100 + k
  else if a = Reg.TIME_EVENTS then 104 + k
  else if a = Reg.MBX_EVENTS then 108
  else if a = Reg.TW_EVENTS then 109 + k
  else if a = Reg.PAIR_EVENTS then 112 + k
  else 116 + k

/-- Set a bit of an events register and post its source, also where the bit was set already (R400). -/
def State.raise (a k : Nat) (s : State) : State :=
  (s.setF (bitF a k) 1).post (sourceOf a k)

/-- The effective enable level of R401: 3 acts as 2. -/
def State.enLevel (s : State) (t : Target) (n : Nat) : Nat := min (s.fld (t.en n)) 2

/-- The pending source with the highest EN, the lowest number among equals (R402), scanning from source `128 - k`. -/
def State.bestPending (s : State) (t : Target) : Nat → Option Nat
  | 0 => none
  | k + 1 =>
    let rest := s.bestPending t k
    let n := 127 - k
    if s.on (t.pend n) && s.enLevel t n != 0 then
      match rest with
      | some m => if s.enLevel t n < s.enLevel t m then some m else some n
      | none => some n
    else rest

/-- The word a claim register reads (Table 19.3): SOURCE, NONE and EN. -/
def State.claimWord (s : State) (t : Target) : Word :=
  match s.bestPending t 128 with
  | some n => w32 (n + 256 * s.fld (t.en n))
  | none => 0x80

/-- A claim (R402): the best pending source becomes active. -/
def State.claim (t : Target) (s : State) : State :=
  match s.bestPending t 128 with
  | some n => (s.setF (t.pend n) 0).setF (t.active n) 1
  | none => s

/-- Re-sample a source's level: a set level makes it pending as if posted (R403). -/
def State.resample (t : Target) (n : Nat) (s : State) : State :=
  if s.level n then s.postTo t n else s

/-- A completion (R403). -/
def State.complete (t : Target) (n : Nat) (s : State) : State :=
  if s.on (t.active n) then (s.setF (t.active n) 0).resample t n
  else s.incSat t.ignored

/-- A change of one source's EN (R404). -/
def State.setEnable (t : Target) (n v : Nat) (s : State) : State :=
  let old := s.fld (t.en n)
  let s' := s.setF (t.en n) v
  if v % 4 = 0 then s'.setF (t.pend n) 0
  else if old = 0 then s'.resample t n
  else s'

/-- Apply an effect for each number below `k`, in ascending order. -/
def State.forUpTo (f : Nat → State → State) : Nat → State → State
  | 0, s => s
  | k + 1, s => f k (State.forUpTo f k s)

/-- Apply an effect for each element of a list, first to last. -/
def State.each {α : Type} (f : α → State → State) : List α → State → State
  | [], s => s
  | x :: xs, s => State.each f xs (f x s)

/-- 1 while any enabled source is pending in the host target: ALERT_N would be asserted (R405). -/
def State.hostPending (s : State) : Bool := (s.bestPending .host 128).isSome

/-! ### Free values -/

/-- Draw the next free value's index (a value the spec leaves open). -/
def State.draw (s : State) : State := { s with free := s.free + 1 }

end Sys2Proof.Machine
end

