-- ==== Sys2Proof/Machine/Records.lean ====
section
/-!
DEFINITION. Records, the output queue and the sample memory ring (chapter 10): what a commit does to both stores.
-/
namespace Sys2Proof.Machine

/-- Record types (Table 10.2). -/
abbrev T_SAMPLE : Nat := 0x01
abbrev T_PAIRSAMPLE : Nat := 0x02
abbrev T_CELL : Nat := 0x03
abbrev T_EVENT : Nat := 0x04
abbrev T_FALSESTOP : Nat := 0x05
abbrev T_STATUS : Nat := 0x06
abbrev T_GAP : Nat := 0x07
abbrev T_SETTLING : Nat := 0x08
abbrev T_TIME : Nat := 0x09
abbrev T_HOUSEKEEPING : Nat := 0x0A
abbrev T_HEALTH : Nat := 0x0B

/-- A record about to be committed: type, tick, payload. -/
structure Rec where
  typ : Nat
  tick : Nat
  payload : List Word
deriving DecidableEq, Repr

/-- The header word of Table 10.1. -/
def header (typ len seq : Nat) : Word := w32 (typ % 64 * 2 ^ 26 + len % 1024 * 2 ^ 16 + seq % 2 ^ 16)

/-- A record as it stands in the queue. -/
def Rec.words (r : Rec) (seq : Nat) : List Word := header r.typ r.payload.length seq :: r.payload

def Rec.isSample (r : Rec) : Bool := r.typ == T_SAMPLE || r.typ == T_PAIRSAMPLE

/-- Words of the queue that a record takes. -/
def Rec.size (r : Rec) : Nat := r.payload.length + 1

/-- The ring form (R237, R239, Table 10.3): a sample record loses its stamp and carries its tick in SEQ. -/
def Rec.ringWords (r : Rec) (seq : Nat) : List Word :=
  if r.isSample then header r.typ (r.payload.length - 3) r.tick :: r.payload.drop 3 else r.words seq

/-! ### The queue -/

def sumLen (rs : List (List Word)) : Nat := rs.foldr (fun r n => r.length + n) 0

/-- Words of visible records, the rest of a partly read one included (QUEUE_STATUS.VISIBLE). -/
def State.visibleWords (s : State) : Nat := sumLen (s.queue.visible.map (·.words)) + (s.queue.partly.length + 3) / 4

/-- EVENT records among the outputs of a run. -/
def emits (os : List Output) : Nat :=
  os.countP fun o => match o.effect with
    | .emit _ _ _ => true
    | _ => false

/-- Provisional packets held, by machines and by recognizers (SPEC_STATUS.POOL_USED). -/
def State.poolUsed (s : State) : Nat :=
  s.eng.machs.foldl (fun n m => n + m.runs.foldl (fun k r => k + emits r.outs) 0
    + (match m.run with | some r => (if r.kind = .spec then emits r.outs else 0) | none => 0)) 0
    + s.eng.ticks.foldl (fun n e => n + e.prov.foldl (· + ·) 0) 0

/-- Words held by provisional records, seven each (QUEUE_STATUS.PROV). -/
def State.provWords (s : State) : Nat := 7 * s.poolUsed

/-- Words free outside the reserve of six (R229, R232). -/
def State.freeWords (s : State) : Nat := 1024 - 6 - (s.visibleWords + s.provWords)

/-- QUEUE_EVENTS.WATERMARK stands whenever the visible words reach WATERMARK * 16 (R233). -/
def State.watermark (s : State) : State :=
  let level := 16 * max 1 (s.fld QUEUE_CFG.WATERMARK)
  if level ≤ s.visibleWords ∧ ¬ s.on (bitF Reg.QUEUE_EVENTS 0) then s.raise Reg.QUEUE_EVENTS 0 else s

/-- Append one committed record to the visible queue and take its SEQ (R230). -/
def State.enqueue (r : Rec) (s : State) : State :=
  { s with queue := { s.queue with
      visible := s.queue.visible ++ [{ tick := r.tick, words := r.words s.queue.seq.toNat }]
      seq := s.queue.seq + 1 } }

/-- A committed record that is dropped, flushed or discarded consumes its number (R230). -/
def State.skipSeq (n : Nat) (s : State) : State :=
  { s with queue := { s.queue with seq := s.queue.seq + BitVec.ofNat 16 n } }

/-- Extend the drop episode, or start it, by one dropped record (R232); the GAP record of a late tick stands for its
sample (R243). -/
def DropEpisode.add (e : DropEpisode) (r : Rec) : DropEpisode :=
  if r.isSample || r.typ == T_GAP then
    { e with first := some (e.first.getD r.tick), last := some r.tick }
  else { e with others := min (e.others + 1) 0xFFFF }

/-- Drop records of one cause (2 OVERFLOW, 3 ECC): the drop state, the counts, the source (R232). -/
def State.dropRecs (cause : Nat) (rs : List Rec) (s : State) : State :=
  let e0 : DropEpisode := s.queue.drop.getD { cause := cause, first := none, last := none, others := 0 }
  let e := rs.foldl DropEpisode.add (if cause = 2 then { e0 with cause := 2 } else e0)
  let s := { s with queue := { s.queue with drop := some e } }
  let s := s.addSat QUEUE_DROPS.OVERFLOW rs.length
  s.raise Reg.QUEUE_EVENTS (if cause = 3 then 7 else 1)

/-- The GAP record of an episode (Table 10.5). -/
def DropEpisode.gap (e : DropEpisode) (tick : Nat) : Rec :=
  let none64 := 2 ^ 64 - 1
  { typ := T_GAP, tick := tick
    payload := [w32 (e.cause + 2 ^ 16 * e.others)] ++ loHi (e.first.getD none64) ++ loHi (e.last.getD none64) }

/-! ### The ring -/

/-- Positions of the ring (R237). -/
abbrev ringSize : Nat := 2097152

def RingPart.used (g : RingPart) : Nat := g.recs.foldr (fun r n => r.words.length + n) 0

/-- RING_OLDEST: the position of the oldest record, or of the next write when the ring is empty. -/
def RingPart.oldest (g : RingPart) : Nat :=
  match g.recs with
  | r :: _ => r.pos
  | [] => g.wr

/-- Free whole records from the oldest until `n` words are free, keeping at most `fuel` steps. -/
def freeOldest (n : Nat) : Nat → List RingRec → List RingRec
  | 0, rs => rs
  | fuel + 1, rs =>
    match rs with
    | [] => []
    | r :: rest =>
      if ringSize < rs.foldr (fun x k => x.words.length + k) 0 + n then freeOldest n fuel rest else r :: rest

/-- RING_STATUS.STATE codes (Table 10.10). -/
abbrev RING_OFF : Nat := 0
abbrev RING_RUNNING : Nat := 1
abbrev RING_POST : Nat := 2
abbrev RING_FROZEN : Nat := 3
abbrev RING_FULL : Nat := 4

/-- The ring's class of a record against CONTENT (R237); a TIME record is stored where its cause says so (R239). -/
def ringTakes (content : Nat) (r : Rec) : Bool :=
  if r.isSample then content.testBit 0
  else if r.typ = T_CELL then content.testBit 2
  else if r.typ = T_TIME then
    let cause := bits (r.payload.headD 0) 0 8
    cause == 1 || cause == 5 || cause == 6
  else if r.typ = T_HOUSEKEEPING then false
  else content.testBit 1

/-- The position of CAP_START follows the oldest record when POST overwrites it (R238). -/
def State.trimCapture (s : State) : State :=
  if s.fld RING_STATUS.STATE = RING_POST ∧ ¬ s.ring.recs.any (fun r => r.pos == s.fld RING_CAP_START.POS) then
    (s.setF RING_CAP_START.POS s.ring.oldest).setF RING_STATUS.SHORT 1
  else s

/-- Store one record's words at the write pointer under the policy in force (R237, R238). -/
def State.ringStore (r : Rec) (seq : Nat) (s : State) : State :=
  let st := s.fld RING_STATUS.STATE
  if (st = RING_RUNNING ∨ st = RING_POST) ∧ s.on RING_CFG.EN ∧ ringTakes s.ring.content r then
    let ws := r.ringWords seq
    let fits := s.ring.used + ws.length ≤ ringSize
    if s.ring.policy = 1 ∧ ¬ fits then (s.setF RING_STATUS.STATE RING_FULL).raise Reg.QUEUE_EVENTS 6
    else
      let kept := freeOldest ws.length s.ring.recs.length s.ring.recs
      let gone := s.ring.recs.take (s.ring.recs.length - kept.length)
      let g := { s.ring with
        lastLost := (gone.getLast?.map (·.tick)).or s.ring.lastLost
        lost := (s.ring.lost ++ gone.map (·.pos)).filter (· != s.ring.wr)
        recs := kept ++ [{ pos := s.ring.wr, tick := r.tick, words := ws }]
        wr := (s.ring.wr + ws.length) % ringSize }
      ({ s with ring := g }).trimCapture
  else s

/-- Empty the ring and end any capture (R242, R240): both pointers 0, RUNNING, or OFF where EN is clear. -/
def State.ringEmpty (s : State) : State :=
  let s := { s with ring := { s.ring with recs := [], wr := 0, lastLost := none, lost := [] } }
  let s := s.setF RING_STATUS.STATE (if s.on RING_CFG.EN then RING_RUNNING else RING_OFF)
  (s.setF RING_STATUS.SHORT 0).setF RING_STATUS.DESC 0

/-- A change of POLICY or CONTENT applies at the next commit point: it empties the ring (R242). -/
def State.ringConfigPoint (s : State) : State :=
  if s.ring.policy = s.fld RING_CFG.POLICY ∧ s.ring.content = s.fld RING_CFG.CONTENT then s
  else ({ s with ring := { s.ring with policy := s.fld RING_CFG.POLICY, content := s.fld RING_CFG.CONTENT } }).ringEmpty

/-! ### Commit -/

/-- Commit one record to both stores, where the queue has room for it. -/
def State.commitRec (r : Rec) (s : State) : State :=
  let seq := s.queue.seq.toNat
  (s.enqueue r).ringStore r seq

/-- A dropped record: it consumes its SEQ in the queue and is still stored in the ring (R230, R237). -/
def State.commitDropped (r : Rec) (s : State) : State :=
  let seq := s.queue.seq.toNat
  (s.skipSeq 1).ringStore r seq

/-- Records of one commit point (R231, R232): `recs` are committed together, or dropped together. A drop state ends
at the first commit point at which 64 words are free and the records fit; its GAP record goes first. Outside Imago and
Noon the queue and the sample memory do not run (R5), and nothing is committed. -/
def State.commitAll (recs : List Rec) (s : State) : State :=
  if ¬ (s.noon && s.imago) then s
  else if recs.isEmpty then s.ringConfigPoint
  else
    let s := s.ringConfigPoint
    let need := recs.foldr (fun r n => r.size + n) 0
    let free := s.freeWords
    match s.queue.drop with
    | none =>
      if need ≤ free then (s.each State.commitRec recs).watermark
      else (s.each State.commitDropped recs).dropRecs 2 recs
    | some e =>
      if 64 ≤ free ∧ need ≤ free then
        let s := { s with queue := { s.queue with drop := none } }
        let s := s.commitRec (e.gap s.tick)
        (s.each State.commitRec recs).watermark
      else (s.each State.commitDropped recs).dropRecs 2 recs

/-- A record tied to no committed tick commits at once when it is formed (R231). -/
def State.commitOne (r : Rec) (s : State) : State := s.commitAll [r]

/-- A STATUS record (R228): kind, the bits above KIND in word 1, its tick, further words. -/
def statusRec (kind upper tick : Nat) (more : List Word) : Rec :=
  { typ := T_STATUS, tick := tick, payload := [w32 (kind + upper * 256)] ++ loHi tick ++ more }

/-- Discard every visible record whole (R236): each has consumed its number already. -/
def State.flushVisible (s : State) : State :=
  { s with queue := { s.queue with visible := [] }, t1s := { s.t1s with closed := 0 } }

/-- QUEUE_FLUSH (R236, R243): the visible records go; a drop episode ends and its GAP is still written. -/
def State.queueFlush (s : State) : State :=
  let s := s.flushVisible
  match s.queue.drop with
  | some e => ({ s with queue := { s.queue with drop := none } }).commitRec (e.gap s.tick)
  | none => s

/-- The SINK in force changes at the reader's next record boundary (R234). -/
def State.syncSink (s : State) : State :=
  if s.queue.partly.isEmpty then { s with queue := { s.queue with sink := s.fld QUEUE_CFG.SINK } } else s

/-! ### Captures (R238) -/

/-- CAP_START for a trigger tick and descriptor: the first stored record at or after T - 40 * PRE. -/
def RingPart.capStart (g : RingPart) (from_ : Int) : Nat :=
  match g.recs.find? (fun r => from_ ≤ (r.tick : Int)) with
  | some r => r.pos
  | none => g.wr

/-- A capture trigger (R238): source 0 CAPT, 1 command, 2 trip; `machine` is 0xFF but for source 0. -/
def State.captureTrigger (desc tick source machine : Nat) (s : State) : State :=
  if s.fld RING_STATUS.STATE = RING_RUNNING then
    let from_ : Int := (tick : Int) - 40 * (s.fld (CAP_DESC.PRE desc) : Int)
    let short := match s.ring.lastLost with
      | some t => decide (from_ ≤ (t : Int))
      | none => false
    let start := if short then s.ring.oldest else s.ring.capStart from_
    let s := { s with ring := { s.ring with trigTick := tick } }
    let s := s.setF RING_CAP_START.POS start
    let s := (s.setF RING_STATUS.SHORT (b01 short)).setF RING_STATUS.DESC desc
    let s := (s.setF RING_STATUS.STATE RING_POST).raise Reg.QUEUE_EVENTS 2
    s.commitOne (statusRec 0x51 (desc % 4 + 4 * b01 short + 16 * source) tick [w32 start, w32 machine])
  else s.incSat RING_STATUS.LOST_TRIG

/-- End of a capture (R238): FROZEN, CAP_END, source 67 and RING_FROZEN. -/
def State.captureEnd (s : State) : State :=
  if s.fld RING_STATUS.STATE = RING_POST then
    let stop := s.ring.wr
    let s := s.setF RING_CAP_END.POS stop
    let s := (s.setF RING_STATUS.STATE RING_FROZEN).raise Reg.QUEUE_EVENTS 3
    s.commitOne (statusRec 0x52 (s.fld RING_STATUS.DESC) s.tick [w32 stop])
  else s

/-- RING_RELEASE (R238): from FROZEN writing resumes with the history kept; from FULL the ring is emptied first. -/
def State.ringRelease (s : State) : State :=
  if s.fld RING_STATUS.STATE = RING_FROZEN then s.setF RING_STATUS.STATE RING_RUNNING
  else if s.fld RING_STATUS.STATE = RING_FULL then s.ringEmpty
  else s

/-- RING_CFG.EN at once: clear, the ring is OFF and a capture ends; set, an OFF ring runs (RING_STATUS.STATE). -/
def State.ringEnable (s : State) : State :=
  if s.on RING_CFG.EN then
    (if s.fld RING_STATUS.STATE = RING_OFF then s.setF RING_STATUS.STATE RING_RUNNING else s)
  else s.setF RING_STATUS.STATE RING_OFF

end Sys2Proof.Machine
end

