-- ==== Sys2Proof/Machine/Link.lean ====
section
/-!
DEFINITION. The command layer (chapter 11): replies, the mailbox, the command queue, the duplicate cache, and the one
wrapper that judges and runs a host command.
-/
namespace Sys2Proof.Machine

/-- Status codes (Table 11.2). -/
abbrev OK : Nat := 0x00
abbrev BUSY : Nat := 0x01
abbrev BAD_OPCODE : Nat := 0x02
abbrev BAD_PARAM : Nat := 0x03
abbrev BAD_CRC : Nat := 0x04
abbrev WRONG_STATE : Nat := 0x05
abbrev ABORTED : Nat := 0x06
abbrev REJECTED : Nat := 0x07
abbrev NO_RESOURCE : Nat := 0x08
abbrev SAFETY_LOCKED : Nat := 0x09
abbrev TIMEOUT : Nat := 0x0A

/-- A refusal or an answer: status and reply data. -/
abbrev Verdict := Nat × List Byte

/-- Four bytes of reply data with a reason in byte 0 (R247). -/
def reason (r : Nat) : List Byte := [BitVec.ofNat 8 r, 0, 0, 0]

/-- The EtherType of command frames (R252). -/
abbrev CMD_ETHERTYPE : Nat := 0x88B5

/-- Header word and CRC around a packet (R245, R246). -/
def packet (top tag : Nat) (data : List Byte) : List Byte :=
  let body := leBytes 4 (data.length + 2 ^ 16 * (tag % 256) + 2 ^ 24 * top) ++ data
  body ++ bytesOf (crc32 body)

/-- The CRC of a request as it was sent. -/
def requestCrc (op : Nat) (r : Req) : Word :=
  crc32 (leBytes 4 (r.params.length + 2 ^ 16 * r.tag.toNat + 2 ^ 24 * op) ++ r.params)

/-- Zeros up to the minimum payload of 46 bytes (R252). -/
def padFrame (bs : List Byte) : List Byte := bs ++ List.replicate (46 - bs.length) 0

/-- A frame queued for a transmit opportunity. -/
def State.sendFrame (f : Frame) (s : State) : State :=
  { s with link := { s.link with txFrames := s.link.txFrames ++ [f] } }

/-- Deliver reply bytes to an origin: held in the mailbox, or one T1S frame (R250, R252). A reply marked to be
discarded is dropped as it forms (Table 11.9, CLEAR). -/
def State.deliver (o : Origin) (drop : Bool) (bs : List Byte) (s : State) : State :=
  match o with
  | .twoWire =>
    if drop then s.incSat MBX_COUNTS.DROPPED
    else
      let s := { s with link := { s.link with replies := s.link.replies ++ [bs] } }
      s.raise Reg.MBX_EVENTS 0
  | .t1s mac => s.sendFrame { etherType := CMD_ETHERTYPE, dest := mac, payload := padFrame bs }

/-- The immediate class (R254). -/
def immediateOps : List Nat := [0x00, 0x02, 0x43, 0x61, 0x62, 0x65]

/-- The opcodes of Table 11.4. -/
def definedOps : List Nat :=
  [0x00, 0x01, 0x02, 0x03, 0x04, 0x05, 0x10, 0x11, 0x12, 0x13, 0x14, 0x15, 0x16, 0x17, 0x20, 0x21, 0x22, 0x23, 0x24]
    ++ [0x30, 0x31, 0x32, 0x33, 0x34, 0x35, 0x40, 0x41, 0x42, 0x43, 0x44, 0x45, 0x46, 0x50, 0x51, 0x52, 0x53, 0x54]
    ++ [0x60, 0x61, 0x62, 0x63, 0x64, 0x65, 0x70, 0x71, 0x72, 0x73, 0x74, 0x75, 0x76, 0x80, 0x81, 0x82, 0x83, 0x84]
    ++ [0x90, 0x91, 0x92, 0x93, 0x94, 0xA0, 0xA1, 0xA2, 0xA3, 0xB0, 0xB1, 0xB2, 0xB3, 0xB4, 0xB5]
    ++ [0xC0, 0xC1, 0xC2, 0xC3, 0xD0, 0xD1, 0xD2]

/-- Replace the oldest entry of the 16 of the duplicate cache (R248). -/
def State.cacheReply (o : Origin) (tag : Byte) (crc : Word) (bs : List Byte) (s : State) : State :=
  let c := s.link.cache ++ [{ origin := o, tag := tag, crc := crc, reply := bs }]
  { s with link := { s.link with cache := c.drop (c.length - 16) } }

/-- The reply of a command: sent to its origin, and cached for the queued class (R248, R254). -/
def State.answer (op : Nat) (r : Req) (drop : Bool) (v : Verdict) (s : State) : State :=
  let bs := packet v.1 r.tag.toNat v.2
  let s := if immediateOps.contains op then s else s.cacheReply r.origin r.tag (requestCrc op r) bs
  s.deliver r.origin drop bs

/-- The command leaves the executing place, and the next one waiting takes it (R254). A command that was not put
there by a request leaves the queue alone. -/
def State.finish (op : Nat) (r : Req) (s : State) : State × Bool :=
  match s.link.executing with
  | some q =>
    if q.opcode = op ∧ q.req = r then
      ({ s with link := { s.link with executing := s.link.waiting.head?, waiting := s.link.waiting.tail } }, q.drop)
    else (s, false)
  | none => (s, false)

/-- The 300-byte limit of R253 binds a T1S reply's data to 274 bytes. -/
def State.frameLimited (s : State) (o : Origin) : Bool :=
  s.on T1S_STATUS.PAIR_LIMIT && (match o with | .t1s _ => true | .twoWire => false)

/-- What a host command is: opcode, boot stages, the parameter lengths its definition allows, its checks in their
order, and its effect with the reply data on OK. -/
structure Cmd where
  op : Nat
  stages : List Nat
  len : List Byte → Bool
  check : Req → State → Option Verdict
  effect : Req → State → State × List Byte

/-- Judge and run a command (R255 steps 5 to 7, R253, R258): state, parameters, checks, effect, reply. -/
def Cmd.run (c : Cmd) (r : Req) (s : State) : State :=
  let reply (v : Verdict) (s : State) : State :=
    let f := s.finish c.op r
    f.1.answer c.op r f.2 v
  if ¬ (s.noon ∧ c.stages.contains s.stage) then reply (WRONG_STATE, []) s
  else if ¬ c.len r.params then reply (BAD_PARAM, reason 0xF2) s
  else match c.check r s with
    | some v => reply v s
    | none =>
      let e := c.effect r s
      if s.frameLimited r.origin ∧ 274 < e.2.length then reply (REJECTED, reason 0xF1) s
      else reply (OK, e.2) e.1

/-- The command passes every check of R255, the frame limit apart. -/
def Cmd.accepts (c : Cmd) (r : Req) (s : State) : Bool :=
  s.noon && c.stages.contains s.stage && c.len r.params && (c.check r s).isNone

/-- Stage lists of Table 11.4. -/
abbrev stagesLCI : List Nat := [LARVA, CHRYSALIS, IMAGO]
abbrev stagesCI : List Nat := [CHRYSALIS, IMAGO]
abbrev stagesI : List Nat := [IMAGO]

/-- Exactly `n` parameter bytes. -/
def lenIs (n : Nat) (p : List Byte) : Bool := p.length == n

/-- Between `a` and `b` parameter bytes. -/
def lenIn (a b : Nat) (p : List Byte) : Bool := decide (a ≤ p.length) && decide (p.length ≤ b)

/-- The first refusal whose condition holds, in order (R255 step 7). -/
def refusals : List (Bool × Verdict) → Option Verdict
  | [] => none
  | (b, v) :: rest => if b then some v else refusals rest

/-! ### The mailbox -/

/-- Two-wire requests queued or executing whose replies are owed (R251). -/
def State.owed (s : State) : Nat :=
  (s.link.executing.toList ++ s.link.waiting).countP fun q => q.req.origin == .twoWire

def State.putLink (l : LinkPart) (s : State) : State := { s with link := l }

/-- Discard the partial request. -/
def State.discardPartial (s : State) : State := s.putLink { s.link with rx := [] }

/-- Release the oldest held reply unread (R250). -/
def State.dropReply (s : State) : State :=
  match s.link.replies with
  | [] => s
  | _ :: rest => (s.putLink { s.link with replies := rest }).incSat MBX_COUNTS.DROPPED

/-- Writing MBX_CTRL.CLEAR: the partial request and every held reply go, and owed replies are marked. -/
def State.mbxClear (s : State) : State :=
  let mark (q : QCmd) : QCmd := if q.req.origin = .twoWire then { q with drop := true } else q
  let s := s.addSat MBX_COUNTS.DROPPED s.link.replies.length
  s.putLink { s.link with
    rx := [], replies := []
    executing := s.link.executing.map mark, waiting := s.link.waiting.map mark }

/-- Release a reply whose last byte has been read, and give the byte read to the bus. -/
def State.outByte (b : Byte) (s : State) : State := { s with busOut := b.setWidth 32 }

def State.outWord (w : Word) (s : State) : State := { s with busOut := w }

/-- One byte read from the mailbox window (R250): the oldest held reply's next byte, else the idle reply word. -/
def State.mailboxRead (s : State) : State :=
  match s.link.idle with
  | b :: rest => (s.putLink { s.link with idle := rest }).outByte b
  | [] =>
    match s.link.replies with
    | (b :: b2 :: more) :: rest => (s.putLink { s.link with replies := (b2 :: more) :: rest }).outByte b
    | [b] :: rest => (s.putLink { s.link with replies := rest }).outByte b
    | _ => (s.putLink { s.link with idle := [0, 0, 0xFF] }).outByte 0

/-- MBX_STATUS as it reads (Table 11.9). -/
def State.mbxStatus (s : State) : Word :=
  w32 (b01 (!s.link.rx.isEmpty) + 2 ^ 4 * s.link.replies.length + 2 ^ 8 * s.owed + 2 ^ 16 * s.link.rx.length)

/-- CMD_QUEUE as it reads (Table 11.9). -/
def State.cmdQueue (s : State) : Word :=
  match s.link.executing with
  | some q => w32 (s.link.waiting.length + 2 ^ 8 + 2 ^ 16 * q.opcode + 2 ^ 24 * q.req.tag.toNat)
  | none => w32 s.link.waiting.length

/-- A two-wire request is discarded while held and owed replies total 4 (R251). -/
def State.mailboxFull (s : State) : Bool := decide (4 ≤ s.link.replies.length + s.owed)

/-- A retry (R248): the same origin, a nonzero tag and the same CRC. -/
def State.cached (s : State) (o : Origin) (tag : Byte) (crc : Word) : Option CacheEntry :=
  if tag = 0 then none
  else s.link.cache.find? fun e => e.origin == o && e.tag == tag && e.crc == crc

/-- The same request is still queued or executing (R248). -/
def State.inQueue (s : State) (o : Origin) (tag : Byte) (crc : Word) : Bool :=
  tag != 0 && (s.link.executing.toList ++ s.link.waiting).any
    fun q => q.req.origin == o && q.req.tag == tag && requestCrc q.opcode q.req == crc

/-- Queue a request: it executes at once when nothing does, else it waits (R254). -/
def State.queueCommand (q : QCmd) (s : State) : State :=
  match s.link.executing with
  | none => s.putLink { s.link with executing := some q }
  | some _ => s.putLink { s.link with waiting := s.link.waiting ++ [q] }

/-- The outcome of judging a request (R255 steps 1 to 4). -/
inductive Judged where
  /-- answered, discarded or queued: the state after it -/
  | done (s : State)
  /-- an immediate-class command, to execute on arrival -/
  | immediate (op : Nat) (r : Req)

/-- Judge a request packet (R248, R251 to R255). `bytes` are the packet's bytes as received, `ingress` the timestamp of
its frame. -/
def State.judge (o : Origin) (bytes : List Byte) (ingress : Nat) (s : State) : Judged :=
  let len := half bytes 0
  let tag : Byte := BitVec.ofNat 8 (byteAt bytes 2)
  let op := byteAt bytes 3
  let params := (bytes.drop 4).take len
  let body := bytes.take (4 + len)
  let crc := wordAt bytes (4 + len)
  let r : Req := { origin := o, tag := tag, params := params, ingress := ingress }
  let say (v : Verdict) (s : State) : Judged := .done (s.deliver o false (packet v.1 tag.toNat v.2))
  if o ≠ .twoWire ∧ ¬ s.noon then .done (s.when (s.fld PWR_STATE.STATE == 1) (State.incSat T1S_DISCARDS.DUSK))
  else if o = .twoWire ∧ s.mailboxFull then
    .done ((s.raise Reg.MBX_EVENTS 1).incSat MBX_COUNTS.OVERRUNS)
  else if bytes.length < 4 then .done s
  else if bytes.length < 8 + len then say (BAD_PARAM, reason 0xF2) s
  else if crc32 body ≠ crc then say (BAD_CRC, []) (s.incSat CMD_ERRORS.BAD_CRC)
  else if 1016 < len then say (BAD_PARAM, reason 0xF2) s
  else if s.frameLimited o ∧ 282 < 8 + len then say (REJECTED, reason 0xF1) s
  else if ¬ definedOps.contains op then say (BAD_OPCODE, []) s
  else if immediateOps.contains op then .immediate op r
  else match s.cached o tag crc with
    | some e => .done ((s.incSat CMD_ERRORS.DUPLICATES).deliver o false e.reply)
    | none =>
      if s.inQueue o tag crc then .done s
      else if 4 ≤ s.link.waiting.length then say (BUSY, []) (s.incSat CMD_ERRORS.BUSY)
      else .done (s.queueCommand { opcode := op, req := r, drop := false })

end Sys2Proof.Machine
end

