-- ==== Sys2Proof/Machine/Interrupt.lean ====
section
/-!
DEFINITION. The interrupt controller's rows and the clock crossings (chapter 19); what a two-wire access adds to the
pointer (R294).
-/
namespace Sys2Proof.Machine

/-! ### The two-wire pointer (R294) -/

/-- The pointer after one data byte. -/
def nextPtr (page p : Nat) : Nat :=
  if p = 0xFF then (if page = 1 ∨ page = 4 then 0x80 else 0) else p + 1

/-- A transaction is open from its START: BUSY is 1, and PEC_EN is taken as it stands there (R297). -/
def State.twStart (s : State) : State :=
  if s.on TW_STATUS.BUSY then s
  else ({ s with tw := { s.tw with pec := s.on TW_CTRL.PEC_EN } }).setF TW_STATUS.BUSY 1

/-- The pointer after `n` data bytes. -/
def ptrAfter (page : Nat) : Nat → Nat → Nat
  | 0, p => p
  | n + 1, p => ptrAfter page n (nextPtr page p)

/-- What the bus does around a register access: page and pointer have led to the word at address `a`, and the pointer
stands after the `n` bytes taken of it. -/
def State.busAccess (a n : Nat) (s : State) : State :=
  s.twStart.setF TW_PAGE.POINTER (ptrAfter (a / 256) n (a % 256))

/-- A word written, by command or over the bus. Over the bus all four bytes are taken; while PEC is required they are
only held until the transaction's end (R297), where TW_STOP or REPEATED_START gives them. -/
def State.byBus (bus : Bool) (a : Nat) (f : State → State) (s : State) : State :=
  if bus then
    (if s.twStart.tw.pec then s.twStart else f (s.twStart.busAccess a 4))
  else f s

/-- A word read: `bytes` of it over the bus, 0 by command. -/
def State.busRead (bytes : Fin 5) (a : Nat) (s : State) : State :=
  if bytes.val = 0 then s else s.busAccess a bytes.val

/-! ### Sources and targets (R399 to R405) -/

/-- A host write to INT_DOORBELL (R400): sources 120 to 127 alone. -/
def State.doorbell (w : Word) (s : State) : State :=
  let n := bits w 0 7
  if n < 120 then s.incSat INT_DB_REFUSED.REFUSED else s.post n

/-- A write to INT_HOST_SET (R404). -/
def State.hostSet (w : Word) (s : State) : State := s.setEnable .host (bits w 0 7) (bits w 8 2)

/-- A write to INT_HOST_EN_j (R404): the sixteen sources it covers, in ascending order. -/
def State.hostEnWrite (j : Nat) (w : Word) (s : State) : State :=
  s.forUpTo (fun k s => s.setEnable .host (16 * j + k) (bits w (2 * k) 2)) 16

/-- INT_DOORBELL. -/
def execIntDoorbell (bus : Bool) (w : Word) : State → Host.Outcome State Fault Refusal := act fun s =>
  s.when s.noon (State.byBus bus Reg.INT_DOORBELL (State.doorbell w))

/-- INT_HOST_CLAIM (R402, R408): the word read is the claim. -/
def execIntHostClaim (bytes : Fin 5) : State → Host.Outcome State Fault Refusal := act fun s =>
  s.when s.noon fun s =>
    let w := s.claimWord .host
    ((s.claim .host).outWord w).busRead bytes Reg.INT_HOST_CLAIM

/-- INT_CP_CLAIM: a read by the firmware (R402). -/
def execIntCpClaim : State → Host.Outcome State Fault Refusal := act fun s =>
  s.when s.noon (State.claim .cp)

/-- INT_HOST_COMPLETE (R403). -/
def execIntHostComplete (bus : Bool) (w : Word) : State → Host.Outcome State Fault Refusal := act fun s =>
  s.when s.noon (State.byBus bus Reg.INT_HOST_COMPLETE (State.complete .host (bits w 0 7)))

/-- INT_CP_COMPLETE: a write by the firmware (R403). -/
def execIntCpComplete (n : BitVec 7) : State → Host.Outcome State Fault Refusal := act fun s =>
  s.when s.noon (State.complete .cp n.toNat)

/-- INT_HOST_SET (R404). -/
def execIntHostSet (bus : Bool) (w : Word) : State → Host.Outcome State Fault Refusal := act fun s =>
  s.when s.noon (State.byBus bus Reg.INT_HOST_SET (State.hostSet w))

/-- INT_HOST_EN_WRITE (R404): INT_HOST_EN_j. -/
def execIntHostEnWrite (bus : Bool) (j : Fin 8) (w : Word) : State → Host.Outcome State Fault Refusal := act fun s =>
  s.when s.noon (State.byBus bus (Reg.INT_HOST_EN j.val) (State.hostEnWrite j.val w))

/-- The firmware, or the ROM, sets the enables of the control target at each boot stage; which it sets is its own
decision (R409), a free value of each source. -/
def State.cpEnables (s : State) : State :=
  s.forUpTo (fun j s =>
    let w := Config.freeWord s.free
    (s.forUpTo (fun k s => s.setEnable .cp (16 * j + k) (bits w (2 * k) 2)) 16).draw) 8

/-- Every pending and active bit of a target is discarded (R409). -/
def State.clearTarget (t : Target) (s : State) : State :=
  s.forUpTo (fun n s => (s.setF (t.pend n) 0).setF (t.active n) 0) 128

/-- The control target after a control-pair reset (R409). -/
def State.clearCp (s : State) : State :=
  (s.clearTarget .cp).forUpTo (fun n s => s.setF (Target.cp.en n) 0) 128

/-- In the logic step of Dawn every level is re-sampled (R409). -/
def State.resampleAll (s : State) : State :=
  s.forUpTo (fun n s => (s.resample .host n).resample .cp n) 128

/-- INT_LEVEL_j (Table 19.3). -/
def State.levelMap (s : State) (j : Nat) : Word := w32 (maskOf ((List.range 32).map fun k => s.level (32 * j + k)))

/-! ### Clock crossings (R412 to R416) -/

/-- XING_COUNTS of the selected crossing; an index above 10 reads 0. -/
def State.xingCounts (s : State) : Word := s.xing.getD (s.fld XING_SEL.INDEX) 0

/-- XING_INFO: the index, and SAFE for every crossing but XING_1, which is FAST alone (Table 19.4). -/
def State.xingInfo (s : State) : Word :=
  let i := s.fld XING_SEL.INDEX
  if 10 < i then 0 else w32 (i + 2 ^ 8 * b01 (i != 1))

/-- A joint reset of a crossing counts in RESETS. -/
def State.xingReset (k : Nat) (s : State) : State :=
  let w := s.xing.getD k 0
  { s with xing := s.xing.set k (putBits w 24 8 (min 255 (bits w 24 8 + 1))) }

end Sys2Proof.Machine
end

