-- ==== Sys2Proof/Machine/Safety.lean ====
section
/-!
DEFINITION. The safety function (chapter 9): states, paths to SAFE off, arm locks, heartbeats; its commands and events.
-/
namespace Sys2Proof.Machine

/-- Safety states (Table 9.1). -/
abbrev LOCKED : Nat := 0
abbrev DISARMED : Nat := 1
abbrev ARMING : Nat := 2
abbrev ARMED : Nat := 3
abbrev TRIPPED : Nat := 4
abbrev S_FAULT : Nat := 5

/-- Causes (Table 9.3). -/
abbrev C_MACHINE : Nat := 0x01
abbrev C_RECOGNIZER : Nat := 0x02
abbrev C_MACHINE_FAULT : Nat := 0x03
abbrev C_INPUT_LOST : Nat := 0x04
abbrev C_QUORUM : Nat := 0x05
abbrev C_HEARTBEAT : Nat := 0x06
abbrev C_DISARM : Nat := 0x07
abbrev C_RESERVOIR : Nat := 0x08
abbrev C_VAUX_LOW : Nat := 0x09
abbrev C_READBACK_A : Nat := 0x0A
abbrev C_READBACK_B : Nat := 0x0B
abbrev C_CONTROL_RESET : Nat := 0x0C
abbrev C_STAGE : Nat := 0x0D
abbrev C_THERMAL : Nat := 0x0E
abbrev C_MONITOR : Nat := 0x0F

def State.safeState (s : State) : Nat := s.fld SAFE_STATE.STATE

/-- ARMING or ARMED: the states in which paths act (R213). -/
def State.armed (s : State) : Bool := s.safeState == ARMING || s.safeState == ARMED

/-- Keep a record for its tick's commit point (R231). -/
def State.hold (rank key : Nat) (r : Rec) (s : State) : State :=
  { s with held := s.held ++ [{ rank := rank, key := key, typ := r.typ, tick := r.tick, payload := r.payload }] }

/-- The record of a held entry. -/
def HeldRec.toRec (h : HeldRec) : Rec := { typ := h.typ, tick := h.tick, payload := h.payload }

/-- A safety STATUS record (Table 9.8). -/
def State.safeRec (s : State) (kind cause reason origin tick : Nat) : Rec :=
  statusRec kind (cause + 2 ^ 8 * reason + 2 ^ 16 * origin) tick [w32 (s.fld SAFE_STATE.HB_SEQ)]

/-- Emit a safety STATUS record: with its tick's records where the change belongs to a sample, else at once. -/
def State.emitStatus (tied : Bool) (r : Rec) (s : State) : State :=
  if tied then s.hold 5 0 r else s.commitOne r

/-- The levels that PIO_SAFE_LEVEL gives the pins of a mask (R220): the pins are held at them. -/
def State.holdPins (mask : Nat) (s : State) : State :=
  { s with pins := { s.pins with held := s.pins.held ||| (mask % 64) } }

/-- Take both outputs off: SAFE_A low, SAFE_B open with its active discharge (R204, R205). -/
def State.outputsOff (s : State) : State :=
  let wasOn := s.on SAFE_STATE.B_ON
  let s := (s.setF SAFE_STATE.A_ON 0).setF SAFE_STATE.B_ON 0
  { s with safety := { s.safety with
      discharge := s.safety.discharge || wasOn
      offSince := if wasOn then s.tick else s.safety.offSince } }

/-- Both copies of the state change together (R207, R218). -/
def State.setSafe (st : Nat) (s : State) : State :=
  (s.setF SAFE_STATE.STATE st).setF SAFE_STATE.MON_STATE st

/-- The next state of a path that acts in ARMING or ARMED (Table 9.3, R212). -/
def nextOf (cause st : Nat) : Nat :=
  if cause = C_DISARM then DISARMED
  else if cause = C_HEARTBEAT ∧ st = ARMING then DISARMED
  else if cause = C_READBACK_A ∨ cause = C_READBACK_B ∨ cause = C_MONITOR then S_FAULT
  else if cause = C_CONTROL_RESET ∨ cause = C_STAGE ∨ cause = C_THERMAL then LOCKED
  else TRIPPED

/-- Record a path in SAFE_TRIP and its tick words (R213). -/
def State.recordTrip (cause reason origin tick : Nat) (s : State) : State :=
  let s := s.setReg Reg.SAFE_TRIP (w32 (cause + 2 ^ 8 * reason + 2 ^ 16 * origin))
  (s.setReg Reg.SAFE_TRIP_TICK_LO (w32 tick)).setReg Reg.SAFE_TRIP_TICK_HI (w32 (tick / 2 ^ 32))

/-- The event bits an entry sets (R225, Table 9.9). -/
def State.safeEvents (cause next : Nat) (s : State) : State :=
  let s := if next = TRIPPED then (s.raise Reg.SAFE_EVENTS 0).incSat SAFE_COUNTS.TRIPS else s
  let s := if cause = C_HEARTBEAT then s.raise Reg.SAFE_EVENTS 2 else s
  let s := if cause = C_READBACK_A ∨ cause = C_READBACK_B then s.raise Reg.SAFE_EVENTS 3 else s
  if cause = C_CONTROL_RESET ∨ cause = C_MONITOR then s.raise Reg.SAFE_EVENTS 4 else s

/-- What entering FAULT latches (R217, Table 9.9). -/
def State.latchFault (cause next : Nat) (s : State) : State :=
  if next = S_FAULT then
    let pin := if cause = C_READBACK_A then 1 else if cause = C_READBACK_B then 2 else 3
    (s.setF SAFE_MON_STATUS.FAULT_LATCHED 1).setF SAFE_MON_STATUS.FAULT_PIN pin
  else s

/-- The pins a trip or LOCKED holds (R220). -/
def State.tripPins (next : Nat) (s : State) : State :=
  if next = TRIPPED then s.holdPins (s.fld SAFE_CFG.PIO_ON_TRIP)
  else if next = LOCKED then s.holdPins 63 else s

/-- A safety trip triggers a capture while RING_CFG.TRIP_EN is set (R238). -/
def State.tripCapture (next tick : Nat) (s : State) : State :=
  if next = TRIPPED ∧ s.on RING_CFG.TRIP_EN then
    s.captureTrigger (s.fld RING_CFG.TRIP_DESC) tick 2 0xFF
  else s

/-- Enter a state by a path: outputs off, SAFE_TRIP, STATUS record, events, pins, capture (R213, R224). -/
def State.safeEnter (next cause reason origin tick : Nat) (tied : Bool) (s : State) : State :=
  let s := (s.outputsOff.setSafe next).recordTrip cause reason origin tick
  let kind := if next = S_FAULT then 0x33 else if next = DISARMED then 0x32 else 0x30
  let s := s.emitStatus tied (s.safeRec kind cause reason origin tick)
  let s := (s.safeEvents cause next).latchFault cause next
  (s.tripPins next).tripCapture next tick

/-- A path of Table 9.3 acts (R213). -/
def State.safePath (cause reason origin tick : Nat) (tied : Bool) (s : State) : State :=
  let st := s.safeState
  if st = ARMING ∨ st = ARMED then s.safeEnter (nextOf cause st) cause reason origin tick tied
  else if (cause = C_READBACK_A ∨ cause = C_READBACK_B ∨ cause = C_MONITOR) ∧ st ≠ S_FAULT then
    s.safeEnter S_FAULT cause reason origin tick tied
  else if (cause = C_CONTROL_RESET ∨ cause = C_STAGE ∨ cause = C_THERMAL) ∧ (st = DISARMED ∨ st = TRIPPED) then
    s.safeEnter LOCKED cause reason origin tick tied
  else
    -- R221: of two paths in one tick, the lowest cause code stands recorded
    let s := s.when s.noon (State.incSat SAFE_COUNTS.LATE_REQ)
    if st = TRIPPED ∧ s.reg Reg.SAFE_TRIP_TICK_LO = w32 tick ∧ s.reg Reg.SAFE_TRIP_TICK_HI = w32 (tick / 2 ^ 32)
        ∧ cause < s.fld SAFE_TRIP.CAUSE ∧ tied then
      let old := s.safeRec 0x30 (s.fld SAFE_TRIP.CAUSE) (s.fld SAFE_TRIP.REASON) (s.fld SAFE_TRIP.ORIGIN) tick
      let new := s.safeRec 0x30 cause reason origin tick
      let s := s.recordTrip cause reason origin tick
      { s with held := s.held.map fun h => if h.typ = T_STATUS ∧ h.payload = old.payload
          then { h with payload := new.payload } else h }
    else s

/-- A machine's SAFE request (R148, R214, R215): stored, and acting where its mask bit is set. -/
def State.machineSafe (n reason tick : Nat) (s : State) : State :=
  let s := { s with safety := { s.safety with
    requests := s.safety.requests ++ [SafeReq.mk n reason tick] } }
  if (s.fld SAFE_EM_MASK.MASK).testBit n then s.safePath C_MACHINE reason n tick true
  else s.incSat SAFE_COUNTS.MASKED

/-- The SAFE request of a machine's fault: it acts regardless of SAFE_EM_MASK (Table 9.3). -/
def State.faultSafe (n tick : Nat) (s : State) : State :=
  ({ s with safety := { s.safety with
    requests := s.safety.requests ++ [SafeReq.mk n 0xFF tick] } }).safePath C_MACHINE_FAULT 0xFF n tick true

/-- A recognizer's SAFE request, by declaration or by a lost input (R180, R183, R214). -/
def State.recognizerSafe (cause i reason tick : Nat) (s : State) : State :=
  let s := { s with safety := { s.safety with
    requests := s.safety.requests ++ [SafeReq.mk (0x40 + i) reason tick] } }
  if (s.fld SAFE_REC_MASK.MASK).testBit i then s.safePath cause reason (0x40 + i) tick true
  else s.incSat SAFE_COUNTS.MASKED

/-- Enter DISARMED by no path (R224). -/
def State.disarmedQuiet (s : State) : State :=
  let s := s.setSafe DISARMED
  s.commitOne (s.safeRec 0x32 0 0 0xFF s.tick)

/-! ### Arm and heartbeat -/

/-- The lowest lock of Table 9.2 that holds. -/
def State.armLock (s : State) : Option Nat :=
  let invalid := (s.fld SAFE_CFG.QUORUM) &&& (63 - s.fld VOTE_STATUS.VALID)
  let rec_ (i : Nat) : Bool :=
    (s.fld SAFE_REC_MASK.MASK).testBit i &&
      ((s.on (REC_CTRL.SAFE_EN i) && s.on (bitF Reg.REC_ACTIVE i)) ||
        (s.on (REC_CTRL.LOST_SAFE i) && s.on (bitF Reg.REC_LOST i)))
  if invalid ≠ 0 then some 1
  else if (List.range 9).any rec_ then some 2
  else if ¬ s.rearmed then some 3
  else if ¬ s.on CONV_STATUS.VAUX_OK then some 4
  else if s.safeState ≠ DISARMED ∧ s.safeState ≠ TRIPPED then some 5
  else none

/-- A refused ARM or configuration is recorded (R210, Table 9.9). -/
def State.safeRefuse (status lock : Nat) (s : State) : State :=
  ((s.setF SAFE_REFUSED.STATUS status).setF SAFE_REFUSED.LOCK lock).raise Reg.SAFE_EVENTS 5

/-- ARM accepted (R210): requests cleared, seed stored, ARMING. -/
def State.armAccept (seed : Nat) (s : State) : State :=
  let s := { s with safety := { s.safety with requests := [], hbFrom := s.tick } }
  ((s.setF SAFE_STATE.HB_SEQ seed).setSafe ARMING).setF SAFE_MON_STATUS.CP_RESET 0

/-- ARM by command or register (R210): the state after it and the refusal, if any. -/
def State.arm (seed : Nat) (s : State) : State × Option Verdict :=
  match s.armLock with
  | some l => (s.safeRefuse SAFETY_LOCKED l, some (SAFETY_LOCKED, reason l))
  | none => (s.armAccept seed, none)

/-- A heartbeat (R211): the state after it and the status it is answered with. -/
def State.heartbeat (q : Nat) (s : State) : State × Nat :=
  let l := s.fld SAFE_STATE.HB_SEQ
  if ¬ s.armed then (s, WRONG_STATE)
  else if q % 65536 = (l + 1) % 65536 then
    let s := s.setF SAFE_STATE.HB_SEQ q
    let s := { s with safety := { s.safety with hbFrom := s.tick } }
    -- the first fresh heartbeat moves both copies to ARMED and the firmware starts SAFE_A (R208)
    ((if s.safeState = ARMING then (s.setSafe ARMED).setF SAFE_STATE.A_ON 1 else s), OK)
  else if q % 65536 = l then (s, OK)
  else (s.incSat SAFE_COUNTS.HB_BAD, BAD_PARAM)

/-- DISARM by command or register (R213, R221): in TRIPPED, FAULT, LOCKED and DISARMED the path is late. -/
def State.disarm (s : State) : State := s.safePath C_DISARM 0 0xFF s.tick false

/-- Both pins have read back off for 100 ms (R217). -/
def State.offLong (s : State) : Bool :=
  !s.on SAFE_STATE.A_ON && !s.on SAFE_STATE.B_ON && decide (s.safety.offSince + 4000 ≤ s.tick)

/-- FAULT_CLEAR by command or register (R217). -/
def State.faultClear (s : State) : State × Option Verdict :=
  if s.safeState ≠ S_FAULT then (s, none)
  else if s.offLong then
    (((s.setF SAFE_MON_STATUS.FAULT_LATCHED 0).setF SAFE_MON_STATUS.FAULT_PIN 0).disarmedQuiet, none)
  else (s, some (SAFETY_LOCKED, []))

/-- Store a new PIO_SAFE_LEVEL (R220): in LOCKED the levels apply at once. -/
def State.putSafeLevel (w : Word) (s : State) : State :=
  let s := s.setF PIO_SAFE_LEVEL.LEVEL (w.toNat % 4096)
  if s.safeState = LOCKED then s.holdPins 63 else s

/-- Words for SAFE_CFG, SAFE_EM_MASK and SAFE_REC_MASK that clear a mask bit now set (R214). -/
def State.narrows (s : State) (cfg em rec_ : Word) : Bool :=
  s.fld SAFE_CFG.QUORUM &&& (63 - bits cfg 8 6) != 0 || s.reg Reg.SAFE_EM_MASK &&& ~~~ em != 0
    || s.reg Reg.SAFE_REC_MASK &&& ~~~ rec_ != 0

/-- R214: no change in ARMING or ARMED, and no narrowing but in DISARMED, TRIPPED or LOCKED. -/
def State.safeConfigLocked (s : State) (cfg em rec_ : Word) : Bool :=
  s.armed || (s.safeState == S_FAULT && s.narrows cfg em rec_)

/-- The checks of SAFE_CONFIG (Table 9.7, R214). -/
def safeConfigCheck (p : List Byte) (s : State) : Option Verdict :=
  refusals [(decide (byteAt p 0 < 20) || decide (200 < byteAt p 0), (BAD_PARAM, [])),
    (s.safeConfigLocked (wordAt p 0) (wordAt p 4) (wordAt p 8), (SAFETY_LOCKED, []))]

/-- Store a word's writable bits (R419). -/
def State.putWritable (a : Nat) (w : Word) (s : State) : State :=
  s.setReg a ((s.reg a &&& ~~~ rwMask a) ||| (w &&& rwMask a))

/-- SAFE_CONFIG's effect. -/
def safeConfigApply (p : List Byte) (s : State) : State :=
  (((s.putWritable Reg.SAFE_CFG (wordAt p 0)).putWritable Reg.SAFE_EM_MASK (wordAt p 4)).putWritable
    Reg.SAFE_REC_MASK (wordAt p 8)).putSafeLevel (wordAt p 12)

/-- A list of registers as reply data (words in order). -/
def State.regBytes (s : State) (as : List Nat) : List Byte := bytesOfWords (as.map s.reg)

/-! ### The safety commands -/

def cmdSafeArm : Cmd where
  op := 0x60
  stages := stagesI
  len := lenIs 2
  check := fun _ s => s.armLock.map fun l => (SAFETY_LOCKED, reason l)
  effect := fun r s => (s.armAccept (half r.params 0), [])

def execSafeArm (r : Req) : State → Host.Outcome State Fault Refusal := act fun s =>
  let f := (s.finish 0x60 r).1
  -- a refused ARM is recorded in SAFE_REFUSED and pends source 46 (R210)
  let s := match f.noon && f.imago && lenIs 2 r.params, f.armLock with
    | true, some l => s.safeRefuse SAFETY_LOCKED l
    | _, _ => s
  cmdSafeArm.run r s

def cmdSafeHeartbeat : Cmd where
  op := 0x61
  stages := stagesI
  len := lenIs 2
  check := fun _ _ => none
  effect := fun r s => ((s.heartbeat (half r.params 0)).1, [])

/-- SAFE_HEARTBEAT (R211): the status is the one the heartbeat itself is judged with. -/
def heartbeatCommand (r : Req) (s : State) : State :=
  if ¬ (s.noon ∧ s.imago) ∨ ¬ lenIs 2 r.params then cmdSafeHeartbeat.run r s
  else
    let h := s.heartbeat (half r.params 0)
    h.1.answer 0x61 r false (h.2, [])

def execSafeHeartbeat (r : Req) : State → Host.Outcome State Fault Refusal := act (heartbeatCommand r)

def cmdSafeDisarm : Cmd where
  op := 0x62
  stages := stagesI
  len := lenIs 0
  check := fun _ _ => none
  effect := fun _ s => (s.disarm, [])

def execSafeDisarm (r : Req) : State → Host.Outcome State Fault Refusal := act (cmdSafeDisarm.run r)

def cmdSafeFaultClear : Cmd where
  op := 0x63
  stages := stagesI
  len := lenIs 0
  check := fun _ s => s.faultClear.2
  effect := fun _ s => (s.faultClear.1, [])

def execSafeFaultClear (r : Req) : State → Host.Outcome State Fault Refusal := act (cmdSafeFaultClear.run r)

def cmdSafeConfig : Cmd where
  op := 0x64
  stages := stagesI
  len := lenIs 16
  check := fun r s => safeConfigCheck r.params s
  effect := fun r s => (safeConfigApply r.params s, [])

def execSafeConfig (r : Req) : State → Host.Outcome State Fault Refusal := act fun s =>
  let f := (s.finish 0x64 r).1
  let s := match f.noon && f.imago && lenIs 16 r.params, safeConfigCheck r.params f with
    | true, some v => s.safeRefuse v.1 0
    | _, _ => s
  cmdSafeConfig.run r s

def cmdSafeStatus : Cmd where
  op := 0x65
  stages := stagesLCI
  len := lenIs 0
  check := fun _ _ => none
  effect := fun _ s => (s, s.regBytes [Reg.SAFE_STATE, Reg.SAFE_TRIP, Reg.SAFE_TRIP_TICK_LO, Reg.SAFE_TRIP_TICK_HI,
    Reg.SAFE_COUNTS, Reg.SAFE_MON_STATUS])

def execSafeStatus (r : Req) : State → Host.Outcome State Fault Refusal := act (cmdSafeStatus.run r)

/-! ### Safety events -/

/-- HEARTBEAT_TIMEOUT (R212): the expiry cycle begins in ARMING or ARMED. -/
def execHeartbeatTimeout : State → Host.Outcome State Fault Refusal := act fun s =>
  s.when s.armed (State.safePath C_HEARTBEAT 0 0xFF s.tick false)

/-- SAFE_B_CLOSE (R208): `edges` says whether the monitor saw two correct SAFE_A edges; without them it enters FAULT
with cause READBACK_A. -/
def execSafeBClose (edges : Bool) : State → Host.Outcome State Fault Refusal := act fun s =>
  if s.safeState = ARMED ∧ ¬ s.on SAFE_STATE.B_ON then
    if edges then
      let s := (s.setF SAFE_STATE.B_ON 1).raise Reg.SAFE_EVENTS 1
      let s := { s with safety := { s.safety with discharge := false } }
      s.commitOne (s.safeRec 0x31 0 0 0xFF s.tick)
    else s.safePath C_READBACK_A 0 0xFF s.tick false
  else s

/-- READBACK_FAULT (R217): on SAFE_A or on SAFE_B. -/
def execReadbackFault (pinB : Bool) : State → Host.Outcome State Fault Refusal := act fun s =>
  s.safePath (if pinB then C_READBACK_B else C_READBACK_A) 0 0xFF s.tick false

/-- STATE_EXCHANGE (R218): the firmware and the monitor compare their copies; a difference is timed from the first
exchange that shows it. -/
def execStateExchange : State → Host.Outcome State Fault Refusal := act fun s =>
  let differ := if s.fld SAFE_STATE.MON_STATE = s.safeState then none
    else some (s.safety.differSince.getD s.tick)
  { s with safety := { s.safety with differSince := differ } }

/-- MONITOR_DISAGREE (R218). -/
def execMonitorDisagree : State → Host.Outcome State Fault Refusal := act fun s =>
  s.safePath C_MONITOR 0 0xFF s.tick false

/-- SAFE_B_DISCHARGE_END (R205): 10 ms after SAFE_B turned off. -/
def execSafeBDischargeEnd : State → Host.Outcome State Fault Refusal := act fun s =>
  { s with safety := { s.safety with discharge := false } }

end Sys2Proof.Machine
end

