-- ==== Sys2Proof/Machine/Fuse.lean ====
section
/-!
DEFINITION. Presets and the grid (R106, R107), module-time stamps (R112), medians (R37, R84) and the mounting of R15.
-/
namespace Sys2Proof.Machine

/-! ### Presets (Table 5.2) -/

/-- Decimation factor M of a preset code. -/
def presetM (c : Nat) : Nat := if c = 0 then 5 else if c = 1 then 10 else if c = 2 then 20 else if c = 3 then 40 else 160

/-- Standard tap count N of a preset code. -/
def presetN (c : Nat) : Nat := if c = 0 then 95 else if c = 1 then 159 else if c = 2 then 255 else if c = 3 then 319 else 383

/-- Standard delay D of a preset code, in ticks. -/
def presetD (c : Nat) : Nat := (presetN c - 1) / 2

/-- -3 dB bandwidth of a preset code, in hertz. -/
def presetBw (c : Nat) : Nat := if c = 0 then 2500 else if c = 1 then 1400 else if c = 2 then 700 else if c = 3 then 350 else 90

/-- The preset in force. -/
def State.preset (s : State) : Nat := s.fld FILT_PRESET.ACTIVE

/-- The set that supplies a filter group's coefficients: `none` is the standard set (R119, R123). -/
def State.groupSet (s : State) (gyro : Bool) : Option CoefSet :=
  if s.on FILT_STATUS.NOTCH_ACTIVE then s.filt.sets[4 + s.fld FILT_STATUS.NOTCH_SET]?
  else
    let sel := s.fld (if gyro then FILT_BANK.GYR_ACTIVE else FILT_BANK.ACC_ACTIVE)
    if sel = 1 ∨ sel = 2 then s.filt.sets[(if gyro then 2 else 0) + (sel - 1)]? else none

/-- Declared delay in ticks of the sets in force (the two groups always agree, R121). -/
def State.delayD (s : State) : Nat :=
  match s.groupSet false with
  | some c => c.delay
  | none => presetD s.preset

/-- Tap count in force. -/
def State.tapsN (s : State) : Nat :=
  match s.groupSet false with
  | some c => c.taps
  | none => presetN s.preset

/-- The committed group-delay constant of R111 in 2^-16 ns: 49 913 ns + 0x5555 and the declared FIR delay. -/
def State.delayConst (s : State) : Nat :=
  let fir := match s.groupSet false with
    | some c => c.delay * 25000 + c.frac
    | none => presetD s.preset * 25000
  (49913 + fir) * 65536 + 0x5555

/-- FILT_DELAY_NS and FILT_DELAY_FRAC read the constant in force (R112). -/
def State.syncDelay (s : State) : State :=
  (s.setF FILT_DELAY_NS.NS (s.delayConst / 65536)).setF FILT_DELAY_FRAC.FRAC (s.delayConst % 65536)

/-- The old grid, where a tick still belongs to it. -/
def State.oldFor (s : State) (t : Nat) : Option OldGrid :=
  match s.filt.old with
  | some o => if t ≤ o.last then some o else none
  | none => none

/-- Whether committed samples exist for a tick (R106): on the grid in force for it. -/
def State.onGrid (s : State) (t : Nat) : Bool :=
  match s.oldFor t with
  | some o => ((t : Int) - (o.sync : Int)) % (o.m : Int) == 0
  | none => ((t : Int) - (s.filt.tSync : Int)) % (presetM s.preset : Int) == 0

/-- The first grid tick of a factor `m` at or after a tick. -/
def gridFrom (sync m t : Nat) : Nat :=
  let r := (((t : Int) - (sync : Int)) % (m : Int)).toNat
  if r = 0 then t else t + (m - r)

/-- The last grid tick of a factor `m` at or before a tick. -/
def gridTo (sync m t : Nat) : Nat := t - (((t : Int) - (sync : Int)) % (m : Int)).toNat

/-! ### Module time (R112, R318) -/

/-- Units of module time per nanosecond: 2^48. -/
abbrev nsUnit : Nat := 2 ^ 48

/-- Module time wraps at 2^48 s. -/
abbrev timeModulus : Nat := 2 ^ 48 * (1000000000 * nsUnit)

/-- RATE as a signed number, 2^-32 per unit. -/
def State.rate (s : State) : Int := signed 32 (s.fld TIME_RATE.RATE)

/-- What module time advances in one base tick: 25 000 ns * (1 + RATE * 2^-32). -/
def State.tickAdvance (s : State) : Int := 25000 * (2 ^ 48 + s.rate * 2 ^ 16)

/-- Module time at a tick under the mapping in force, unwrapped, in 2^-48 ns. -/
def State.timeAt (s : State) (t : Nat) : Int := (s.time : Int) + ((t : Int) - (s.tick : Int)) * s.tickAdvance

/-- An instant in 2^-16 ns, modulo 2^48 s, in the 96-bit layout of R112: fraction, nanoseconds, seconds. -/
def layout (x : Int) : Nat :=
  let sec := (x / (1000000000 * 65536)) % 2 ^ 48
  let rem := x % (1000000000 * 65536)
  let ns := rem / 65536
  (rem % 65536).toNat + ns.toNat * 2 ^ 16 + sec.toNat * 2 ^ 48

/-- The three time words of an instant in 2^-16 ns (R112). -/
def stampWords (x : Int) : List Word :=
  let n := layout x
  [w32 n, w32 (n / 2 ^ 32), w32 (n / 2 ^ 64)]

/-- The stamp of a committed sample of tick `t`: module time at its output tick less the group delay, rounded. -/
def State.stampOf (s : State) (t : Nat) : Int :=
  let d := ((s.oldFor t).map (·.d)).getD s.delayD
  let k := ((s.oldFor t).map (·.const)).getD s.delayConst
  roundEven ((s.timeAt (t + d) : Rat) / 2 ^ 32) - (k : Int)

/-- A TIME record (Table 10.5). -/
def State.timeRec (s : State) (cause t : Nat) : Rec :=
  { typ := T_TIME, tick := t
    payload := [w32 (cause + 2 ^ 8 * s.preset + 2 ^ 16 * b01 (s.fld TIME_STATUS.SERVO == 2))] ++ loHi t
      ++ stampWords (s.stampOf t) ++ [s.reg Reg.TIME_RATE] }

/-- A record that goes to the ring alone (TIME of cause 6, and of cause 1 where TIME_EN is clear). -/
def State.ringOnly (r : Rec) (s : State) : State := s.when (s.noon && s.imago) (State.ringStore r 0)

/-- Two changes of the mapping at one tick give one TIME record of cause 6: the words of an earlier one are replaced
(Table 14.8). -/
def replaceLast (tick : Nat) (ws : List Word) : List RingRec → Option (List RingRec)
  | [] => none
  | [r] =>
    if r.tick = tick ∧ (r.words.headD 0) = header T_TIME 7 0 ∧ bits (r.words.getD 1 0) 0 8 = 6
    then some [{ r with words := ws }] else none
  | r :: rs => (replaceLast tick ws rs).map (r :: ·)

/-- The mapping from tick to stamp has changed: a TIME record of cause 6 in the ring (R239). -/
def State.mappingChanged (s : State) : State :=
  let r := s.timeRec 6 s.tick
  match replaceLast s.tick (r.words 0) s.ring.recs with
  | some rs => { s with ring := { s.ring with recs := rs } }
  | none => s.ringOnly r

/-! ### Medians and vectors -/

/-- Insert into an ascending list. -/
def insertRat (x : Rat) : List Rat → List Rat
  | [] => [x]
  | y :: ys => if x ≤ y then x :: y :: ys else y :: insertRat x ys

/-- Ascending order. -/
def sortRat : List Rat → List Rat
  | [] => []
  | x :: xs => insertRat x (sortRat xs)

/-- The lower median (R37, R84). -/
def lowerMedian (xs : List Rat) : Rat := (sortRat xs).getD ((xs.length - 1) / 2) 0

/-- A vector of three rationals, as a list of its components. -/
def comp (v : List Rat) (k : Nat) : Rat := v.getD k 0

def cross (a b : List Rat) : List Rat :=
  [comp a 1 * comp b 2 - comp a 2 * comp b 1,
   comp a 2 * comp b 0 - comp a 0 * comp b 2,
   comp a 0 * comp b 1 - comp a 1 * comp b 0]

def addV (a b : List Rat) : List Rat := [comp a 0 + comp b 0, comp a 1 + comp b 1, comp a 2 + comp b 2]

def scaleV (k : Rat) (a : List Rat) : List Rat := [k * comp a 0, k * comp a 1, k * comp a 2]

def dot (a b : List Rat) : Rat := comp a 0 * comp b 0 + comp a 1 * comp b 1 + comp a 2 * comp b 2

/-- The mounting rotation, row by row, 2^-30 per LSB (Table 12.8). -/
def State.rotation (s : State) : List (List Rat) :=
  let e (k : Nat) : Rat := (s.boot.mounting.getD k 0).toInt / 2 ^ 30
  [[e 0, e 1, e 2], [e 3, e 4, e 5], [e 6, e 7, e 8]]

/-- The position of the inertial reference point in the robot frame, in metres. -/
def State.leverArm (s : State) : List Rat :=
  let e (k : Nat) : Rat := (s.boot.mounting.getD k 0).toInt / 2 ^ 16 / 1000
  [e 9, e 10, e 11]

def State.rotate (s : State) (v : List Rat) : List Rat := s.rotation.map fun row => dot row v

/-- Rate LSB (2^-19 degrees per second) to radians per second. -/
def toRad (v : List Rat) : List Rat := scaleV (Config.degToRad / 2 ^ 19) v

/-- Metres per second squared to acceleration LSB (2^-26 g). -/
def toAccLsb (v : List Rat) : List Rat := scaleV (2 ^ 26 / Config.gravity) v

/-- alpha x p + omega x (omega x p), rates in rad/s, in acceleration LSB (R15, R51). -/
def leverTerm (omega alpha p : List Rat) : List Rat :=
  toAccLsb (addV (cross alpha p) (cross omega (cross omega p)))

/-- Fused axis words in the robot frame (R15, R105) from the module-frame axes, and the path's new memory. Where the
preceding sample of the path does not exist, alpha is 0. -/
def State.mount (s : State) (t : Nat) (axes : List Rat) (prev : Option PathMem) : List Word × PathMem :=
  let w := s.rotate (axes.drop 3)
  let om := toRad w
  let alpha := match prev with
    | some m => scaleV (40000 / (presetM s.preset : Rat)) (addV om (scaleV (-1) (toRad m.omega)))
    | none => [0, 0, 0]
  let a := addV (s.rotate (axes.take 3)) (scaleV (-1) (leverTerm om alpha s.leverArm))
  (a.map (fun x => wordOfInt (sat32 (roundEven (x / 4)))) ++ w.map (fun x => wordOfInt (sat32 (roundEven (x / 8)))),
    { omega := w, tick := t })

end Sys2Proof.Machine
end

