-- ==== Sys2Proof/Machine/Ixust.lean ====
section
/-!
DEFINITION. The Ixust datapath (chapter 6): instruction words, conditions, checks at load, and what each instruction does
to the state of one machine. Outputs are described here and carried out by the event engine.
-/
namespace Sys2Proof.Machine

/-! ### Instruction words (Tables 6.5 to 6.7) -/

def ixOp (w : Word) : Nat := bits w 26 6
def ixD (w : Word) : Nat := bits w 23 3
def ixS (w : Word) : Nat := bits w 20 3
def ixCond (w : Word) : Nat := bits w 16 4
def ixImm (w : Word) : Nat := bits w 0 16

/-- An instruction word from its fields. -/
def ixWord (op d s cond imm : Nat) : Word :=
  w32 (op * 2 ^ 26 + d % 8 * 2 ^ 23 + s % 8 * 2 ^ 20 + cond % 16 * 2 ^ 16 + imm % 2 ^ 16)

/-- Opcodes of Table 6.7. -/
def ixDefined (op : Nat) : Bool :=
  decide (op ≤ 0x14) || (decide (0x18 ≤ op) && decide (op ≤ 0x1D)) || (decide (0x20 ≤ op) && decide (op ≤ 0x24))
    || (decide (0x28 ≤ op) && decide (op ≤ 0x2D))

/-- Streams of Table 6.4. -/
def streamDefined (i : Nat) : Bool :=
  decide (i ≤ 0x0E) || (decide (0x10 ≤ i) && decide (i ≤ 0x18)) || (decide (0x20 ≤ i) && decide (i ≤ 0x22))
    || (decide (0x24 ≤ i) && decide (i ≤ 0x28)) || (decide (0x30 ≤ i) && decide (i ≤ 0x3F))
    || (decide (0x40 ≤ i) && decide (i ≤ 0x47)) || (decide (0x50 ≤ i) && decide (i ≤ 0x56))

/-- The fields of a word are permitted by Table 6.7 (Table 6.10, reason 2). -/
def ixFieldsOk (w : Word) : Bool :=
  let op := ixOp w
  let d := ixD w
  let sr := ixS w
  let imm := ixImm w
  let noImm := imm == 0
  if op = 0x00 ∨ op = 0x21 ∨ op = 0x23 ∨ op = 0x24 then d == 0 && sr == 0 && noImm
  else if op = 0x01 ∨ op = 0x02 ∨ op = 0x06 ∨ op = 0x09 then sr == 0
  else if op = 0x04 then sr == 0 && streamDefined imm
  else if op = 0x0A ∨ op = 0x11 ∨ op = 0x12 ∨ op = 0x14 then decide (imm < 32)
  else if op = 0x13 then decide (sr ≤ 5) && noImm
  else if op ≤ 0x10 then noImm
  else if op = 0x18 then decide (d ≤ 3) && sr == 0
  else if op = 0x19 then decide (d ≤ 3) && noImm
  else if op = 0x1A ∨ op = 0x1B then decide (d ≤ 3) && sr == 0 && noImm
  else if op = 0x1C then decide (d ≤ 1) && sr == 0
  else if op = 0x1D then decide (d ≤ 1) && sr == 0 && noImm
  else if op = 0x20 ∨ op = 0x22 then d == 0 && sr == 0 && decide (imm < 8192)
  else if op = 0x28 then true
  else if op = 0x29 then d == 0 && sr == 0 && decide (imm < 256)
  else if op = 0x2A then d == 0 && decide (imm < 4)
  else if op = 0x2B then d == 0 && sr == 0 && (imm == 0 || (decide (120 ≤ imm) && decide (imm ≤ 127)))
  else if op = 0x2C then d == 0 && sr == 0 && decide (imm < 4)
  else d == 0 && sr == 0 && decide (imm < 2)

/-- Reasons 1 and 2 of Table 6.10 for a word, the lower first. -/
def ixReason (w : Word) : Option Nat :=
  if ¬ ixDefined (ixOp w) then some 1 else if ¬ ixFieldsOk w then some 2 else none

/-- Instructions marked Opens in Table 6.7. -/
def ixOpens (op : Nat) : Bool := op == 0x23 || op == 0x24 || (decide (0x28 ≤ op) && decide (op ≤ 0x2D))

/-! ### State of a machine -/

/-- The state a start gives (R129): next entry is the region's entry. -/
def MState.start (entry : Nat) : MState :=
  { v := List.replicate 8 0, t := List.replicate 4 none, c := [0, 0], z := false, n := false, cy := false, o := false
    next := entry }

def MState.getV (m : MState) (k : Nat) : Word := m.v.getD k 0
def MState.setV (k : Nat) (w : Word) (m : MState) : MState := { m with v := m.v.set k w }
def MState.getT (m : MState) (k : Nat) : Option Nat := (m.t.getD k none)
def MState.setT (k : Nat) (d : Option Nat) (m : MState) : MState := { m with t := m.t.set k d }
def MState.getC (m : MState) (k : Nat) : Word := m.c.getD k 0
def MState.setC (k : Nat) (w : Word) (m : MState) : MState := { m with c := m.c.set k w }

/-- Z and N of a result. -/
def MState.zn (w : Word) (m : MState) : MState := { m with z := w == 0, n := w.msb }

/-- The condition of Table 6.6; `spec` is a speculative run, `first` the start tick. -/
def ixHolds (cond : Nat) (spec first : Bool) (m : MState) : Bool :=
  match cond with
  | 0 => true
  | 1 => m.z
  | 2 => !m.z
  | 3 => m.n != m.o
  | 4 => m.n == m.o
  | 5 => !m.z && m.n == m.o
  | 6 => m.z || m.n != m.o
  | 7 => !m.cy
  | 8 => m.cy
  | 9 => m.n
  | 10 => !m.n
  | 11 => m.o
  | 12 => !m.o
  | 13 => spec
  | 14 => !spec
  | _ => first

/-- What an instruction asks for beside its state change. -/
inductive IxNext where
  | seq
  | jump (target : Nat)
  | stop (next : Option Nat)
  | out (e : Effect)
deriving DecidableEq, Repr

/-- What a run reads: its machine, its tick, and each stream's word with C. -/
structure IxIn where
  tick : Nat
  read : MState → Nat → Word × Bool

/-- The 16-bit immediate sign-extended. -/
def simm (imm : Nat) : Word := BitVec.ofInt 32 (signed 16 imm)

/-- ADD and ADDI: sum modulo 2^32, carry out, signed overflow. -/
def ixAdd (a b : Word) (m : MState) : Word × MState :=
  let r := a + b
  (r, { m.zn r with cy := decide (2 ^ 32 ≤ a.toNat + b.toNat), o := decide (r.toInt ≠ a.toInt + b.toInt) })

/-- SUB, CMP and CMPI: difference, no borrow, signed overflow. -/
def ixSub (a b : Word) (m : MState) : Word × MState :=
  let r := a - b
  (r, { m.zn r with cy := decide (b.toNat ≤ a.toNat), o := decide (r.toInt ≠ a.toInt - b.toInt) })

/-- A saturating result: the word, Z, N and O. -/
def ixSat (x : Int) (m : MState) : Word × MState :=
  let r := wordOfInt (sat32 x)
  (r, { m.zn r with o := decide (sat32 x ≠ x) })

/-- A quotient by 2^k, rounded to nearest with ties to even (R105). -/
def divPow (x : Int) (k : Nat) : Int := roundEven ((x : Rat) / (2 ^ k : Nat))

/-- The square root of a natural number rounded to the nearest integer, by binary digits from bit 17 down. -/
def magGo (n : Nat) : Nat → Nat → Nat
  | 0, r => r
  | k + 1, r => if (r + 2 ^ k) * (r + 2 ^ k) ≤ n then magGo n k (r + 2 ^ k) else magGo n k r

/-- Nearest integer to a square root, for numbers below 2^72 (a tie cannot occur). -/
def magRound (n : Nat) : Nat :=
  let r := magGo n 36 0
  if r * r + r < n then r + 1 else r

/-- The magnitude of three signed words. -/
def mag3 (a b c : Word) : Nat :=
  magRound (a.toInt.natAbs ^ 2 + b.toInt.natAbs ^ 2 + c.toInt.natAbs ^ 2)

/-- Instructions 0x00 to 0x14: registers and flags. -/
def ixRegOp (op d sr imm : Nat) (i : IxIn) (m : MState) : MState :=
  let vd := m.getV d
  let vs := m.getV sr
  let k := imm % 32
  match op with
  | 0x01 => (m.zn (simm imm)).setV d (simm imm)
  | 0x02 => let r := putBits vd 16 16 imm
            (m.zn r).setV d r
  | 0x03 => (m.zn vs).setV d vs
  | 0x04 => let x := i.read m (imm % 256)
            ({ m.zn x.1 with cy := x.2 }).setV d x.1
  | 0x05 => let x := ixAdd vd vs m
            x.2.setV d x.1
  | 0x06 => let x := ixAdd vd (simm imm) m
            x.2.setV d x.1
  | 0x07 => let x := ixSub vd vs m
            x.2.setV d x.1
  | 0x08 => (ixSub vd vs m).2
  | 0x09 => (ixSub vd (simm imm) m).2
  | 0x0A => let x := ixSat (divPow (vd.toInt * vs.toInt) k) m
            x.2.setV d x.1
  | 0x0B => let x := ixSat (vs.toInt.natAbs : Int) m
            x.2.setV d x.1
  | 0x0C => let r := if vs.toInt < vd.toInt then vs else vd
            (m.zn r).setV d r
  | 0x0D => let r := if vd.toInt < vs.toInt then vs else vd
            (m.zn r).setV d r
  | 0x0E => (m.zn (vd &&& vs)).setV d (vd &&& vs)
  | 0x0F => (m.zn (vd ||| vs)).setV d (vd ||| vs)
  | 0x10 => (m.zn (vd ^^^ vs)).setV d (vd ^^^ vs)
  | 0x11 => let r := wordOfInt (divPow vs.toInt k)
            (m.zn r).setV d r
  | 0x12 => let x := ixSat (vs.toInt * 2 ^ k) m
            x.2.setV d x.1
  | 0x13 => let x := ixSat (mag3 vs (m.getV (sr + 1)) (m.getV (sr + 2)) : Nat) m
            ({ x.2 with n := false }).setV d x.1
  | 0x14 => let r := wordOfInt (vd.toInt + divPow (vs.toInt - vd.toInt) k)
            (m.zn r).setV d r
  | _ => m

/-- Instructions 0x18 to 0x1D: timers and counters (R144). -/
def ixTimerOp (op d sr imm : Nat) (i : IxIn) (m : MState) : MState :=
  match op with
  | 0x18 => m.setT d (some (i.tick + imm))
  | 0x19 => m.setT d (some (i.tick + (m.getV sr).toNat))
  | 0x1A => m.setT d none
  | 0x1B =>
    let expired := match m.getT d with
      | some t => decide (t ≤ i.tick)
      | none => false
    { m with z := expired, cy := (m.getT d).isNone, n := false }
  | 0x1C =>
    let x : Int := (m.getC d).toNat + signed 16 imm
    let y := clampInt 0 0xFFFFFFFF x
    { m.setC d (wordOfInt y) with z := decide (y = 0), o := decide (x ≠ y) }
  | _ => { m.setC d 0 with z := true }

/-- One executed instruction: the new state and what follows (R143, Table 6.7). -/
def ixStep (w : Word) (i : IxIn) (m : MState) : MState × IxNext :=
  let op := ixOp w
  let d := ixD w
  let sr := ixS w
  let imm := ixImm w
  if op < 0x18 then (ixRegOp op d sr imm i m, .seq)
  else if op < 0x20 then (ixTimerOp op d sr imm i m, .seq)
  else match op with
    | 0x20 => (m, .jump (imm % 8192))
    | 0x21 => (m, .stop none)
    | 0x22 => (m, .stop (some (imm % 8192)))
    | 0x23 => (m, .out .halt)
    | 0x28 => (m, .out (.emit imm (m.getV d) (m.getV sr)))
    | 0x29 => (m, .out (.safeoff (imm % 256)))
    | 0x2A => (m, .out (.piow (imm % 4) (m.getV sr)))
    | 0x2B => (m, .out (.bell imm))
    | 0x2C => (m, .out (.capt (imm % 4)))
    | 0x2D => (m, .out (.vote (imm % 2 == 1)))
    | _ => (m, .seq)

/-- The ticks-remaining word of a timer (streams TMR_0 to TMR_3, EM_T_k): the value and C. -/
def timerWord (tick : Nat) : Option Nat → Word × Bool
  | none => (0xFFFFFFFF, true)
  | some t => (w32 (min (t - tick) 0xFFFFFFFE), false)

end Sys2Proof.Machine
end

