-- ==== Sys2Proof/Machine/Engine.lean ====
section
/-!
DEFINITION. The event engine (chapters 6 and 7): runs of the machines, checkpoints, verification, replay, speculative
actions and their decision, faults and stops.
-/
namespace Sys2Proof.Machine

/-! ### Machines -/

/-- Machine states (Table 6.2). -/
abbrev M_OFF : Nat := 0
abbrev M_STOPPED : Nat := 1
abbrev M_RUNNING : Nat := 2
abbrev M_FAULT : Nat := 3

/-- A machine that has never been configured. -/
def defaultMach : Mach :=
  { state := M_OFF, fault := 0, faultAddr := 0, conly := 0, flags := 0, entry := 0, len := 0
    conf := MState.start 0, cur := MState.start 0, lastCount := 0, maxCount := 0, startTick := 0, starting := false
    params := List.replicate 8 0, changes := [], waiting := [], pos := 0, runs := [], run := none, acts := [], haltTick := none }

def State.mach (s : State) (n : Nat) : Mach := s.eng.machs.getD n defaultMach

def State.putEng (e : EnginePart) (s : State) : State := { s with eng := e }

def State.setMach (n : Nat) (f : Mach → Mach) (s : State) : State :=
  s.putEng { s.eng with machs := s.eng.machs.set n (f (s.mach n)) }

def State.running (s : State) (n : Nat) : Bool := (s.mach n).state == M_RUNNING

/-- EM_FLAGS: SPEC_ACT, FAULT_SAFE, FORCE_CONLY. -/
def Mach.specAct (m : Mach) : Bool := m.flags.testBit 0
def Mach.faultSafe (m : Mach) : Bool := m.flags.testBit 1
def Mach.forceConly (m : Mach) : Bool := m.flags.testBit 2

/-- Open checkpoints (EM_STATE.CKPT). -/
def Mach.ckpts (m : Mach) : Nat :=
  m.runs.countP (·.opened) + (match m.run with | some r => b01 r.opened | none => 0)

/-- EM_RUN, EM_CONLY and EM_VOTE bits of a machine. -/
def State.emBit (a n : Nat) (b : Bool) (s : State) : State := s.setF (bitF a n) (b01 b)

/-- Machine states and the EM_RUN bit change together (R130). -/
def State.setMachState (n st : Nat) (s : State) : State :=
  (s.setMach n fun m => { m with state := st }).emBit Reg.EM_RUN n (st == M_RUNNING)

/-! ### Ticks of the engine (R156) -/

def State.engTick (s : State) (t : Nat) : Option EngTick := s.eng.ticks.find? (·.tick == t)

def State.setTick (t : Nat) (f : EngTick → EngTick) (s : State) : State :=
  s.putEng { s.eng with ticks := s.eng.ticks.map fun e => if e.tick = t then f e else e }

/-- Insert a tick in ascending order. -/
def insertTick (e : EngTick) : List EngTick → List EngTick
  | [] => [e]
  | x :: xs => if e.tick < x.tick then e :: x :: xs else x :: insertTick e xs

/-- UNRESOLVED ticks (SPEC_STATUS.DEPTH). -/
def State.depth (s : State) : Nat := s.eng.ticks.countP fun e => !e.resolved

/-- The first grid tick whose fast sample has still to reach the engine (R131, R139, R200); it takes 10 base ticks. -/
def State.nextFast (s : State) : Nat :=
  let lo := match s.eng.lastFast with
    | some t => max (s.tick - 10) (t + 1)
    | none => s.tick - 10
  gridFrom s.filt.tSync (presetM s.preset) lo

/-! ### Streams (Table 6.4) -/

/-- A parameter word in force at a tick (R139). -/
def Mach.param (m : Mach) (t k : Nat) : Word :=
  match (m.changes.filter fun c => decide (c.1 ≤ t) && c.2.1 == k).getLast? with
  | some c => c.2.2
  | none => m.params.getD k 0

def axisWord (f : Fused) (k : Nat) : Word := f.axes.getD k 0

/-- The axes of a mask that are INVALID on the sample. -/
def Fused.invalid (f : Fused) (mask : Nat) : Bool := decide (mask &&& (63 - bits f.status 0 6) ≠ 0)

/-- Streams that have a fast and a committed form. -/
def sampleStream (f : Fused) (comm : Bool) (id : Nat) : Word × Bool :=
  if id ≤ 5 then (axisWord f id, f.invalid (2 ^ id))
  else if id = 6 then (w32 (mag3 (axisWord f 0) (axisWord f 1) (axisWord f 2)), f.invalid 7)
  else if id = 7 then (w32 (mag3 (axisWord f 3) (axisWord f 4) (axisWord f 5)), f.invalid 56)
  else if id = 0x0B then (f.status, false)
  else if comm ∧ ¬ f.alpha.isEmpty then (f.alpha.getD (id - 8) 0, false)
  else (0, true)

/-- Latched streams (R137). -/
def latchedStream (l : Latched) (id : Nat) : Word × Bool :=
  if id ≤ 0x22 then (l.sent.getD (id - 0x20) 0, false)
  else if id ≤ 0x27 then (l.ports.getD (id - 0x24) 0, l.stopped.testBit (id - 0x24))
  else if id = 0x28 then (w32 l.blade, l.tachLost)
  else (l.hk.getD (id - 0x30) 0, !l.hkOn.testBit (id - 0x30))

/-- What a run of machine `n` reads at a tick, on committed data or on the fast sample. -/
def State.inputs (s : State) (n : Nat) (e : EngTick) (comm : Bool) : IxIn where
  tick := e.tick
  read := fun ms id =>
    let f : Fused := ((if comm then e.comm else e.fast)).getD { tick := e.tick, axes := [], status := 0 }
    if id ≤ 0x0B then sampleStream f comm id
    else if id = 0x0C then (w32 e.tick, false)
    else if id = 0x0D then (w32 (e.tick / 2 ^ 32), false)
    else if id = 0x0E then (w32 e.preset, false)
    else if id ≤ 0x18 then
      ((if comm then e.recC else e.recF).getD (id - 0x10) 0, !e.recMask.testBit (id - 0x10))
    else if id ≤ 0x3F then latchedStream e.latched id
    else if id ≤ 0x47 then ((s.mach n).param e.tick (id - 0x40), false)
    else if id ≤ 0x51 then (ms.getC (id - 0x50), false)
    else if id ≤ 0x55 then timerWord e.tick (ms.getT (id - 0x52))
    else (w32 n, false)

/-! ### Records of the engine -/

/-- An EVENT record (Table 10.5). -/
def eventRec (origin detail code tick : Nat) (a b : Word) (mach basis : Bool) : Rec :=
  { typ := T_EVENT, tick := tick
    payload := [w32 (origin + 2 ^ 8 * (detail % 256) + 2 ^ 16 * code)] ++ loHi tick
      ++ [a, b, w32 (b01 mach + 2 * b01 basis)] }

/-- A FALSESTOP record (Table 7.5). -/
def falsestopRec (origin action detail resolution tick addr : Nat) (value : Word) : Rec :=
  { typ := T_FALSESTOP, tick := tick
    payload := [w32 (origin + 2 ^ 8 * action + 2 ^ 16 * detail + 2 ^ 24 * resolution)] ++ loHi tick
      ++ [w32 (addr % 8192), value] }

/-- What a FALSESTOP record sets (R173). -/
def State.falsestopMarks (s : State) : State :=
  (s.raise Reg.SPEC_EVENTS 0).incSat FALSESTOP_COUNT.COUNT

/-- An action decided against: its record goes with the records of its tick (R173). -/
def State.falsestopHeld (key origin action detail tick addr : Nat) (value : Word) (s : State) : State :=
  (s.hold 4 key (falsestopRec origin action detail 1 tick addr value)).falsestopMarks

/-- An action still pending as its function stops: the record is emitted committed (R174). -/
def State.falsestopNow (origin action detail tick addr : Nat) (value : Word) (s : State) : State :=
  (s.commitOne (falsestopRec origin action detail 2 tick addr value)).falsestopMarks

/-- The order key of a machine's records within a tick (R134). -/
def machKey (n : Nat) : Nat := 64 + n

/-! ### PIO machine ports (R390) -/

def defaultPio : PioEngine :=
  { state := 0, pc := 0, x := 0, y := 0, port := 0, nport := 0, mport := 0, tcnt := 0, entry := 0, mem := [] }

def State.pioEngine (s : State) (k : Nat) : PioEngine := s.pio.getD k defaultPio

def State.setPio (k : Nat) (f : PioEngine → PioEngine) (s : State) : State :=
  { s with pio := s.pio.set k (f (s.pioEngine k)) }

def State.putMport (k : Nat) (w : Word) (s : State) : State := s.setPio k fun e => { e with mport := w }

/-! ### Stops -/

/-- Report every pending action of a stopping machine (R174), unless a control-pair reset stops it. -/
def State.reportActs (n : Nat) (report : Bool) (s : State) : State :=
  let acts := (s.mach n).acts
  let s := s.setMach n fun m => { m with acts := [] }
  if report then s.each (fun a s => s.falsestopNow n a.action a.detail a.tick a.addr a.value) acts else s

/-- Stop a RUNNING machine (R132): the run is abandoned, packets and held actions go, the vote is withdrawn. -/
def State.stopMach (n : Nat) (report : Bool) (s : State) : State :=
  if s.running n then
    let s := s.reportActs n report
    let s := s.setMach n fun m =>
      { m with run := none, runs := [], haltTick := none, starting := false, cur := m.conf }
    (s.setMachState n M_STOPPED).emBit Reg.EM_VOTE n false
  else s

/-- A fault (R149): the machine stops, frozen as after its last confirmed run; STATUS record, EM_FAULT, SAFE request. -/
def State.machFault (n code addr tick : Nat) (s : State) : State :=
  if s.running n then
    let s := (s.stopMach n true).setMachState n M_FAULT
    let s := s.setMach n fun m => { m with fault := code, faultAddr := addr % 8192 }
    let s := s.hold 5 0 (statusRec 0x10 (n + 2 ^ 8 * code) tick [w32 (addr % 8192)])
    let s := s.raise Reg.EM_FAULT n
    s.when (s.mach n).faultSafe (State.faultSafe n tick)
  else s

/-- A fallback (R170): the run is abandoned, its packets and held actions go, the entry image returns. -/
def State.fallback (n reason : Nat) (r : OpenRun) (s : State) : State :=
  let s := s.setMach n fun m => { m with run := none, cur := r.entry, conly := reason }
  let s := (s.emBit Reg.EM_CONLY n true).incSat SPEC_FALLBACK.FALLBACKS
  let s := s.hold 5 0 (statusRec 0x11 (n + 2 ^ 8 * reason) r.tick [])
  s.when (reason == 4) (State.raise Reg.SPEC_EVENTS 1)

/-! ### Outputs (Table 6.8) -/

/-- Carry an output out (R146): `basis` marks records confirmed on fast data alone. -/
def State.perform (n tick : Nat) (basis : Bool) (e : Effect) (s : State) : State :=
  match e with
  | .emit code a b => s.hold 4 (machKey n) (eventRec n 0 code tick a b true basis)
  | .safeoff reason => s.machineSafe n reason tick
  | .piow k w => s.putMport k w
  | .bell src => if src = 0 then s.raise Reg.EM_BELL n else s.post src
  | .capt d => s.captureTrigger d tick 0 n
  | .vote v => s.emBit Reg.EM_VOTE n v
  | .halt => s.stopMach n true

/-- An address was executed in a trace. -/
def executed (tr : List TraceEntry) (addr : Nat) : Bool := tr.any fun e => e.taken && e.addr == addr

/-- The action has been taken already on speculation: the runs of the tick acted at this address more often than this
run has executed it (R172). -/
def Mach.acted (m : Mach) (tick addr : Nat) (tr : List TraceEntry) : Bool :=
  decide (tr.countP (fun e => e.taken && e.addr == addr) < m.acts.countP fun a => a.tick == tick && a.addr == addr)

/-- SAFEOFF and PIOW, the outputs that may act on speculation. -/
def Effect.specActs : Effect → Option (Nat × Nat × Word)
  | .safeoff reason => some (1, reason, 0)
  | .piow k w => some (2, k, w)
  | _ => none

/-- An output of a run whose tick is decided by the run itself: it acts at once, unless it matches an action already
taken on speculation (R172). -/
def State.outNow (n : Nat) (r : OpenRun) (addr : Nat) (basis : Bool) (e : Effect) (s : State) : State :=
  let matched := e.specActs.isSome && (s.mach n).acts.any fun a => a.tick == r.tick && a.addr == addr
  if matched then s else s.perform n r.tick basis e

/-- An output of a speculative run under SPEC_ACT: SAFEOFF and PIOW act at once, and are kept until decided. -/
def State.outSpecAct (n : Nat) (r : OpenRun) (addr : Nat) (e : Effect) (s : State) : State :=
  match e.specActs with
  | some (action, detail, value) =>
    let s := s.setMach n fun m => { m with acts := m.acts ++ [SpecAct.mk r.tick addr action detail value] }
    s.perform n r.tick false e
  | none => s

/-- A provisional packet can be given (R169, R232). -/
def State.poolGrants (s : State) : Bool := decide (s.poolUsed < 64) && decide (7 ≤ s.freeWords)

def Effect.isEmit : Effect → Bool
  | .emit _ _ _ => true
  | _ => false

/-- SPEC_STATUS.POOL_PEAK. -/
def State.poolPeak (s : State) : State := s.maxF SPEC_STATUS.POOL_PEAK s.poolUsed

/-! ### Runs -/

/-- Actions of a decided tick (R172, R173): upheld where the decided run executed their address. -/
def State.decideActs (n tick : Nat) (tr : List TraceEntry) (s : State) : State :=
  let mine := (s.mach n).acts.filter (·.tick == tick)
  let s := s.setMach n fun m => { m with acts := m.acts.filter (·.tick != tick) }
  s.each (fun a s => s.when (!executed tr a.addr)
    (State.falsestopHeld (machKey n) n a.action a.detail a.tick a.addr a.value)) mine

/-- The state and counts after a confirmed run. -/
def Mach.confirm (m : Mach) (after : MState) (count : Nat) : Mach :=
  { m with conf := after, lastCount := count, maxCount := max m.maxCount count }

/-- A run ends (R133): `halted` is HALT. -/
def State.endRun (n : Nat) (r : OpenRun) (after : MState) (halted : Bool) (s : State) : State :=
  match r.kind with
  | .spec =>
    s.setMach n fun m => { m with
      run := none, cur := after, pos := r.tick + 1
      haltTick := if halted then some r.tick else m.haltTick
      runs := m.runs ++ [RunRec.mk r.tick r.entry after r.count r.opened r.trace r.outs] }
  | .committed =>
    let s := s.setMach n fun m => ({ m with run := none, cur := after, pos := r.tick + 1 }).confirm after r.count
    let s := s.decideActs n r.tick r.trace
    s.when halted (State.stopMach n true)
  | .void =>
    let s := s.setMach n fun m => ({ m with
      run := none, cur := after, pos := r.tick + 1
      acts := m.acts.filter (·.tick != r.tick) }).confirm after r.count
    s.when halted (State.stopMach n true)

/-- The address after the last word of the region is its entry (R128). -/
def Mach.wrap (m : Mach) (pc : Nat) : Nat := if m.entry + m.len ≤ pc then m.entry else pc

/-- The run goes on at `pc`; a run of 64 fetches without an end is a fault (R135). -/
def State.advance (n : Nat) (r : OpenRun) (pc : Nat) (s : State) : State :=
  let pc := (s.mach n).wrap pc
  if 64 ≤ r.count then s.machFault n 1 pc r.tick
  else s.setMach n fun m => { m with run := some { r with pc := pc } }

/-- An output instruction of a run. `r` has the instruction in its trace already, `tr` is the trace before it. -/
def State.output (n addr : Nat) (r : OpenRun) (tr : List TraceEntry) (e : Effect) (s : State) : State :=
  let halted := decide (e = .halt)
  let go (r : OpenRun) (s : State) : State :=
    if halted then s.endRun n r r.live true else s.advance n r (addr + 1)
  match r.kind with
  | .spec =>
    if e.isEmit && !s.poolGrants then s.fallback n 4 r
    else if (s.mach n).specAct && e.specActs.isSome then
      go r (if (s.mach n).acted r.tick addr tr then s else s.outSpecAct n r addr e)
    else go { r with outs := r.outs ++ [⟨addr, e⟩] } s
  | .committed => go r (if halted then s else s.outNow n r addr false e)
  | .void => go r (if halted then s else s.outNow n r addr true e)

/-- One fetched instruction of the run in progress of machine `n` (R135, R141, R145, R169). -/
def State.runWord (n : Nat) (w : Word) (s : State) : State :=
  match (s.mach n).run with
  | none => s
  | some r =>
    match s.engTick r.tick with
    | none => s
    | some e =>
      let m := s.mach n
      let spec := r.kind != .committed
      let taken := ixHolds (ixCond w) spec (r.tick == m.startTick) r.live
      let r1 : OpenRun := { r with count := r.count + 1, trace := r.trace ++ [⟨r.pc, w, taken⟩] }
      if ¬ taken then s.advance n r1 (r.pc + 1)
      else
        let opens := r.kind == .spec && ixOpens (ixOp w)
        if opens && !r.opened && decide (4 ≤ m.ckpts) then s.fallback n 3 r
        else
          let x := ixStep w (s.inputs n e (r.kind == .committed)) r.live
          let r2 : OpenRun := { r1 with opened := r.opened || opens, live := x.1 }
          match x.2 with
          | .seq => s.advance n r2 (r.pc + 1)
          | .jump t => s.advance n r2 t
          | .stop nx => s.endRun n r2 { r2.live with next := nx.getD m.entry } false
          | .out f => (s.output n r.pc r2 r.trace f).poolPeak

/-- Program memory word, if loaded. -/
def State.pmemAt (s : State) (a : Nat) : Option Word := s.eng.pmem.lookup a

/-- Fetch and run one word; a word that is not there is an uncorrectable one (Table 6.9, PMEM). -/
def State.fetchStep (n : Nat) (s : State) : State :=
  match (s.mach n).run with
  | none => s
  | some r =>
    match s.pmemAt r.pc with
    | some w => s.runWord n w
    | none => s.machFault n 3 r.pc r.tick

/-- The run in progress goes to its end: at most 64 fetches. -/
def State.finishRun (n : Nat) : Nat → State → State
  | 0, s => s
  | k + 1, s => if (s.mach n).run.isSome then (s.fetchStep n).finishRun n k else s

/-- Complete the run in progress of a machine. -/
def State.endOpen (n : Nat) (s : State) : State := s.finishRun n 65

def State.endAll (s : State) : State := s.forUpTo State.endOpen 32

/-- A tick that a machine never runs: VOID without a fast sample, or VOID in committed-only execution (R158). -/
def skips (conly : Nat) (e : EngTick) : Bool := e.void && e.comm.isNone && (e.fast.isNone || conly != 0)

/-- How a machine can run its next tick now (R165), if it can. -/
def Mach.nextRun (m : Mach) (ticks : List EngTick) : Option (Nat × RunKind) :=
  if m.state ≠ M_RUNNING ∨ m.run.isSome ∨ m.haltTick.isSome then none
  else match ticks.find? fun e => decide (m.pos ≤ e.tick) && !skips m.conly e with
    | none => none
    | some e =>
      if e.comm.isSome then (if e.alphaWait && m.conly == 2 then none else some (e.tick, .committed))
      else if e.fast.isNone then none
      else if e.resolved then some (e.tick, .void)
      else if m.conly = 0 then some (e.tick, .spec) else none

/-- Start the next run of a machine where it can (R165). -/
def State.openNext (n : Nat) (s : State) : State :=
  match (s.mach n).nextRun s.eng.ticks with
  | none => s
  | some (t, kind) => s.setMach n fun m => { m with
      run := some { tick := t, kind := kind, pc := m.cur.next, entry := m.cur, live := m.cur, count := 0
                    opened := false, trace := [], outs := [] } }

/-- Runs back to back through tick `t` (R165, R166). -/
def State.catchUp (n t : Nat) : Nat → State → State
  | 0, s => s
  | k + 1, s =>
    let s := s.endOpen n
    match (s.mach n).nextRun s.eng.ticks with
    | none => s
    | some (u, _) => if u ≤ t then ((s.openNext n).endOpen n).catchUp n t k else s

/-! ### Verification and resolution (R161 to R164) -/

/-- What verification of a trace finds: the address at which the paths diverge, or the outputs with their values. -/
def verifyTrace (i : IxIn) (first : Bool) (m : MState) (outs : List Output) : List TraceEntry → Except Nat (List Output)
  | [] => .ok outs
  | e :: rest =>
    let taken := ixHolds (ixCond e.word) true first m
    if taken ≠ e.taken then .error e.addr
    else if ¬ taken then verifyTrace i first m outs rest
    else
      let x := ixStep e.word i m
      match x.2 with
      | .out f => verifyTrace i first x.1 (outs ++ [⟨e.addr, f⟩]) rest
      | _ => verifyTrace i first x.1 outs rest

/-- Perform the held outputs of a confirmed run; those taken on speculation are not repeated. -/
def State.performHeld (n tick : Nat) (basis : Bool) (acts : List SpecAct) (outs : List Output) (s : State) : State :=
  s.each (fun o s =>
    if o.effect.specActs.isSome ∧ acts.any (fun a => a.tick == tick && a.addr == o.addr) then s
    else s.perform n tick basis o.effect) outs

/-- A tick is confirmed for a machine: the checkpoint goes, held actions are performed (R162, R163). HALT comes last. -/
def State.confirmRun (n : Nat) (rr : RunRec) (basis : Bool) (outs : List Output) (s : State) : State :=
  let acts := (s.mach n).acts
  let s := s.setMach n fun m => ({ m with
    runs := m.runs.filter (·.tick != rr.tick)
    haltTick := if m.haltTick = some rr.tick then none else m.haltTick }).confirm rr.after rr.count
  let s := if basis then s.setMach n fun m => { m with acts := m.acts.filter (·.tick != rr.tick) }
    else s.decideActs n rr.tick rr.trace
  s.performHeld n rr.tick basis acts outs

/-- SPEC_LAST_* at a refutation. -/
def State.specLast (tick origin addr : Nat) (s : State) : State :=
  ((s.setReg Reg.SPEC_LAST_LO (w32 tick)).setReg Reg.SPEC_LAST_HI (w32 (tick / 2 ^ 32))).setReg Reg.SPEC_LAST_ORIGIN
    (w32 (origin + 2 ^ 8 * (addr % 8192)))

/-- Refutation (R164): later checkpoints go, the entry image returns, and the committed run of the tick starts. -/
def State.refute (n : Nat) (rr : RunRec) (addr : Nat) (s : State) : State :=
  let s := (s.incSat SPEC_REFUTED.COUNT).specLast rr.tick n addr
  let s := s.setMach n fun m => { m with
    run := none, runs := m.runs.filter (fun r => decide (r.tick < rr.tick)), cur := rr.entry, pos := rr.tick
    haltTick := none }
  s.openNext n

/-- The committed sample of a tick meets one machine (R161 to R165). -/
def State.resolveMach (n : Nat) (e : EngTick) (s : State) : State :=
  let m := s.mach n
  if m.state ≠ M_RUNNING then s
  else match m.runs.find? (·.tick == e.tick) with
    | some rr =>
      if rr.opened then
        match verifyTrace (s.inputs n e true) (e.tick == m.startTick) rr.entry [] rr.trace with
        | .ok outs => (s.incSat SPEC_CONFIRMED.COUNT).confirmRun n rr false outs
        | .error addr => s.refute n rr addr
      else s.confirmRun n rr false []
    | none => s.openNext n

/-- A VOID tick is confirmed on fast data alone for one machine (R158). -/
def State.voidMach (n : Nat) (e : EngTick) (s : State) : State :=
  match (s.mach n).runs.find? (·.tick == e.tick) with
  | some rr => s.confirmRun n rr true rr.outs
  | none => s

/-- Ticks that every RUNNING machine has passed and that are resolved need no place any longer; parameter words that
hold for every tick left are folded in. -/
def State.pruneTicks (s : State) : State :=
  let gone (e : EngTick) : Bool := e.resolved && s.eng.machs.all fun m =>
    m.state != M_RUNNING || (decide (e.tick < m.pos) &&
      (match m.run with | some r => r.tick != e.tick | none => true))
  let ticks := s.eng.ticks.filter fun e => !gone e
  let fold (m : Mach) : Mach :=
    let old := m.changes.filter fun c => decide (c.1 ≤ s.tick) && ticks.all fun e => decide (c.1 ≤ e.tick)
    { m with
      params := old.foldl (fun ps c => ps.set c.2.1 c.2.2) m.params
      changes := m.changes.filter fun c => !old.contains c }
  s.putEng { s.eng with ticks := ticks, machs := s.eng.machs.map fold }

end Sys2Proof.Machine
end

