-- ==== Sys2Proof/Machine/Recognize.lean ====
section
/-!
DEFINITION. The fixed recognizers (chapter 8): estimators of a path, conditions, decision states, their speculative
evaluation and its verification.
-/
namespace Sys2Proof.Machine

/-- Recognizer states (Table 8.2). -/
abbrev R_IDLE : Nat := 0
abbrev R_PENDING : Nat := 1
abbrev R_ACTIVE : Nat := 2
abbrev R_LOST : Nat := 3

def defaultDec : Dec :=
  { st := R_IDLE, acc := 0, racc := none, prev := none, onset := 0, decl := 0, peak := 0, phase := 0, base := 0, low := 0
    span := 0, due := 0, detail := 0, mag := 0, a := 0, b := 0 }

def noDone : RecDone := { evs := [], req := none }

/-! ### Settings (R200) -/

/-- Settings as the registers hold them, from tick `tp` on. -/
def State.snapCfg (s : State) (tp clear : Nat) : RecCfg :=
  { tp := tp, enable := s.fld REC_ENABLE.MASK, wheel := s.reg Reg.REC_WHEEL, cpm := s.fld REC_COUNTS_PER_M.COUNTS
    geom := s.reg Reg.REC_GEOM
    blocks := (List.range 9).map fun i =>
      [s.reg (Reg.REC_CTRL i), s.reg (Reg.REC_PAR_A i), s.reg (Reg.REC_PAR_B i), s.reg (Reg.REC_PAR_C i),
        s.reg (Reg.REC_PAR_D i)]
    clear := clear, applied := false }

/-- The settings in force at a tick: the last whose t_p is not later. -/
def State.recCfg (s : State) (t : Nat) : RecCfg :=
  ((s.eng.cfgs.filter fun c => c.applied && decide (c.tp ≤ t)).getLast?).getD (s.snapCfg 0 0)

/-- Word `j` of a block: 0 CTRL, 1 to 4 PAR_A to PAR_D. -/
def RecCfg.word (c : RecCfg) (i j : Nat) : Word := (c.blocks.getD i []).getD j 0
def RecCfg.lo (c : RecCfg) (i j : Nat) : Nat := bits (c.word i j) 0 16
def RecCfg.hi (c : RecCfg) (i j : Nat) : Nat := bits (c.word i j) 16 16
def RecCfg.on (c : RecCfg) (i : Nat) : Bool := c.enable.testBit i
def RecCfg.specAct (c : RecCfg) (i : Nat) : Bool := bit (c.word i 0) 0
def RecCfg.safeEn (c : RecCfg) (i : Nat) : Bool := bit (c.word i 0) 1
def RecCfg.endEvent (c : RecCfg) (i : Nat) : Bool := bit (c.word i 0) 2
def RecCfg.lostSafe (c : RecCfg) (i : Nat) : Bool := bit (c.word i 0) 3

/-- PERSIST in ms (Tables 8.6 to 8.14). -/
def RecCfg.persist (c : RecCfg) (i : Nat) : Nat :=
  match i with
  | 0 => c.hi 0 1
  | 1 => c.lo 1 2
  | 2 => c.lo 2 2
  | 3 => c.hi 3 1
  | 5 => c.lo 5 3
  | 6 => c.lo 6 2
  | 7 => c.lo 7 3
  | 8 => c.hi 8 2
  | _ => 0

/-- RELEASE in ms. -/
def RecCfg.release (c : RecCfg) (i : Nat) : Nat :=
  match i with
  | 0 => c.lo 0 2
  | 1 => c.hi 1 3
  | 2 => c.hi 2 2
  | 3 => c.lo 3 2
  | 5 => c.hi 5 3
  | 6 => c.hi 6 2
  | 8 => c.lo 8 3
  | _ => 0

/-! ### Estimators (R187 to R189, R194, R197) -/

/-- One sample of a path: acceleration in g, rate in degrees per second, invalid axes. -/
structure RecIn where
  f : List Rat
  w : List Rat
  invalid : Nat

def Fused.recIn (s : Fused) : RecIn :=
  { f := (List.range 3).map fun k => ((axisWord s k).toInt : Rat) / 2 ^ 24
    w := (List.range 3).map fun k => ((axisWord s (3 + k)).toInt : Rat) / 2 ^ 16
    invalid := 63 - bits s.status 0 6 }

/-- Seconds in a number of base ticks. -/
def secs (ticks : Nat) : Rat := (ticks : Rat) / 40000

def norm2 (v : List Rat) : Rat := dot v v

/-- v / norm(v); a vector of 0 gives a value that R187 does not state. -/
def unitV (v : List Rat) : List Rat := if norm2 v = 0 then Config.unitOfZero else scaleV (1 / Config.sqrt (norm2 v)) v

def subV (a b : List Rat) : List Rat := addV a (scaleV (-1) b)

/-- One first-order step toward `x` with time constant `tau` in seconds. -/
def lpStep (y x dt tau : Rat) : Rat := y + (x - y) * dt / tau

/-- Standard gravity of R187. -/
def gStd : Rat := 980665 / 100000

/-- One step of R187: gravity, then the vertical channel where LIFT or STEP is enabled. -/
def estStep (cfg : RecCfg) (t : Nat) (i : RecIn) (e : Est) : Est :=
  let dt := secs (t - e.last)
  let att : Rat := (bits cfg.geom 16 16 : Nat) / 1000
  let leak : Rat := (cfg.hi 1 2 : Nat) / 1000
  let g1 := unitV (addV e.g (scaleV dt (cross e.g (scaleV Config.degToRad i.w))))
  let g2 := unitV (addV g1 (scaleV (dt / att) (subV (unitV i.f) g1)))
  let av := dot i.f g2 - 1
  if cfg.on 1 || cfg.on 4 then
    let v := e.v + (av * gStd - e.v / leak) * dt
    { g := g2, v := v, h := e.h + (v - e.h / leak) * dt, av := av, last := t }
  else { g := g2, v := 0, h := 0, av := av, last := t }

def estSeed (t : Nat) (i : RecIn) : Est :=
  let g := unitV i.f
  { g := g, v := 0, h := 0, av := dot i.f g - 1, last := t }

/-- Signed difference of two 32-bit running counts (R188). -/
def countDiff (new old : Nat) (inv : Bool) : Int :=
  let d := signed 32 (new + (2 ^ 32 - old % 2 ^ 32))
  if inv then -d else d

/-- Wheel speeds and wheel acceleration (R188). -/
def wheelStep (cfg : RecCfg) (t : Nat) (l : Latched) (w : Option Wheel) : Wheel :=
  let cl := (l.ports.getD (bits cfg.wheel 0 2) 0).toNat
  let cr := (l.ports.getD (bits cfg.wheel 2 2) 0).toNat
  match w with
  | none => { cl := cl, cr := cr, sl := 0, sr := 0, aw := 0, last := t }
  | some w =>
    let dt := secs (t - w.last)
    let tau : Rat := (bits cfg.wheel 8 8 : Nat) / 1000
    let speed (d : Int) : Rat := (d : Rat) / (cfg.cpm : Rat) * 1000 / dt
    let sl := lpStep w.sl (speed (countDiff cl w.cl (bit cfg.wheel 4))) dt tau
    let sr := lpStep w.sr (speed (countDiff cr w.cr (bit cfg.wheel 5))) dt tau
    let aw := ((sl + sr) / 2 - (w.sl + w.sr) / 2) / 1000 / dt / gStd
    { cl := cl, cr := cr, sl := sl, sr := sr, aw := aw, last := t }

/-- Horizontal acceleration: f - g without its component along g (R194). -/
def horizontal (f g : List Rat) : List Rat :=
  let d := subV f g
  subV d (scaleV (dot d g) g)

def stuckStep (cfg : RecCfg) (t : Nat) (i : RecIn) (g : List Rat) (p : Option StuckEst) : StuckEst :=
  let a := horizontal i.f g
  match p with
  | none => { acc := a, rate := i.w, win := [(t, a, i.w)], age := 0, last := t }
  | some e =>
    let lp (prev x : List Rat) : List Rat :=
      (List.range 3).map fun k => Config.lowpass10 (t - e.last) (comp prev k) (comp x k)
    let acc := lp e.acc a
    let rate := lp e.rate i.w
    let keep := e.win.filter fun x => decide (t < x.1 + 40 * cfg.hi 5 2)
    { acc := acc, rate := rate, win := keep ++ [(t, acc, rate)], age := e.age + (t - e.last), last := t }

/-- Mean square deviation of a list of vectors from its mean. -/
def meanDev2 (vs : List (List Rat)) : Rat :=
  let n : Rat := (vs.length : Nat)
  let m := scaleV (1 / n) (vs.foldl addV [0, 0, 0])
  vs.foldl (fun s v => s + norm2 (subV v m)) 0 / n

/-- STUCK and SLIP have lost a wheel engine or the odometry (R183). -/
def wheelLost (cfg : RecCfg) (l : Latched) : Bool :=
  l.stopped.testBit (bits cfg.wheel 0 2) || l.stopped.testBit (bits cfg.wheel 2 2) || cfg.cpm == 0

/-- The input of a recognizer is lost at this tick (R183). -/
def lostNow (cfg : RecCfg) (l : Latched) (i : Nat) : Bool :=
  if i = 5 ∨ i = 6 then wheelLost cfg l else if i = 8 then l.tachLost else false

def absR (x : Rat) : Rat := if x < 0 then -x else x

/-- Mean wheel speed s of R188. -/
def wheelMean (w : Wheel) : Rat := (absR w.sl + absR w.sr) / 2

/-- One path's estimators after a sample, and the measured values of recognizers 0 to 6 on it. -/
def pathStep (cfg : RecCfg) (t : Nat) (l : Latched) (i : RecIn) (p : PathEst) : PathEst × List (Option (List Rat)) :=
  let all := i.invalid == 0
  let acc := i.invalid % 8 == 0
  let users := cfg.on 1 || cfg.on 2 || cfg.on 4 || cfg.on 5 || cfg.on 6
  let est := if ¬ users then none else if ¬ all then p.est else
    some (match p.est with | some e => estStep cfg t i e | none => estSeed t i)
  let flp := match p.impact with | some x => x.1 | none => i.f
  let impact := if ¬ cfg.on 0 then none else if ¬ acc then p.impact else
    some (match p.impact with
      | some x => (addV x.1 (scaleV (secs (t - x.2) / ((cfg.hi 0 2 : Nat) / 1000)) (subV i.f x.1)), t)
      | none => (i.f, t))
  let odo := (cfg.on 5 || cfg.on 6) && !wheelLost cfg l
  let wheel := if ¬ odo then none else if ¬ all then p.wheel else some (wheelStep cfg t l p.wheel)
  let g := match est with | some e => e.g | none => [0, 0, 0]
  let stuck := if ¬ cfg.on 5 then none else if ¬ all then p.stuck else some (stuckStep cfg t i g p.stuck)
  let only (b : Bool) (xs : List Rat) : Option (List Rat) := if b then some xs else none
  let e := est.getD (estSeed t i)
  let d := subV i.f flp
  let w := wheel.getD { cl := 0, cr := 0, sl := 0, sr := 0, aw := 0, last := 0 }
  let win := match stuck with | some x => x.win | none => []
  let ready := match stuck with | some x => decide (40 * cfg.hi 5 2 ≤ x.age) | none => false
  ({ est := est, impact := impact, wheel := wheel, stuck := stuck },
    [only (cfg.on 0 && acc) ([norm2 d] ++ d),
     only (cfg.on 1 && all) [e.h, e.v, e.av],
     only (cfg.on 2 && all) [Config.acosDeg (comp e.g 2),
       if comp e.g 0 = 0 ∧ comp e.g 1 = 0 then 0 else Config.azimuthDeg (- comp e.g 0) (- comp e.g 1)],
     only (cfg.on 3 && all) [norm2 i.f, norm2 i.w],
     only (cfg.on 4 && all) [e.av, e.h],
     only (cfg.on 5 && all) [wheelMean w, meanDev2 (win.map (·.2.1)), meanDev2 (win.map (·.2.2)),
       (b01 ready : Nat), w.sl, w.sr],
     only (cfg.on 6 && all) [w.sl, w.sr, w.aw, comp i.f 0 - comp e.g 0, comp i.w 2]])

/-- IMBALANCE's demodulator on the fast AX and AY of a tick (R197), and its measured values: square of amp, f. -/
def demodStep (cfg : RecCfg) (t blade : Nat) (ax ay : Rat) (p : Option Demod) : Demod :=
  match p with
  | none => { phi := 0, ix := 0, qx := 0, iy := 0, qy := 0, last := t }
  | some d =>
    let dt := secs (t - d.last)
    let tau : Rat := (cfg.lo 8 2 : Nat) / 1000
    let x := d.phi + (blade : Rat) / 16 * dt
    let phi := x - (x.floor : Rat)
    let c := Config.cosTurn phi
    let q := Config.sinTurn phi
    { phi := phi, ix := lpStep d.ix (ax * c) dt tau, qx := lpStep d.qx (ax * q) dt tau
      iy := lpStep d.iy (ay * c) dt tau, qy := lpStep d.qy (ay * q) dt tau, last := t }

def demodAmp2 (d : Demod) : Rat := 4 * max (d.ix * d.ix + d.qx * d.qx) (d.iy * d.iy + d.qy * d.qy)

/-! ### Decisions -/

/-- A measured value. -/
def mv (m : List Rat) (k : Nat) : Rat := m.getD k 0

/-- Rounded to an integer and saturated to an unsigned 16-bit magnitude (Table 8.3). -/
def magOf (x : Rat) : Nat := (clampInt 0 0xFFFF (roundEven x)).toNat

/-- Nearest integer to a square root of a rational, as an integer. -/
def rootOf (x : Rat) : Int :=
  let r := magGo x.floor.toNat 40 0
  let h : Rat := (r : Rat) + 1 / 2
  if h * h < x ∨ (h * h = x ∧ r % 2 = 1) then (r : Int) + 1 else r

/-- The dominant axis of IMPACT's deviation: the largest component, the lowest axis among equals (Table 8.5). -/
def dominant (m : List Rat) : Nat :=
  let a (k : Nat) : Rat := absR (mv m (k + 1))
  if a 1 ≤ a 0 ∧ a 2 ≤ a 0 then 0 else if a 2 ≤ a 1 then 1 else 2

/-- SLIP's yaw error, where the yaw criterion is evaluated (R195), in degrees per second. -/
def yawError (cfg : RecCfg) (m : List Rat) : Rat :=
  let track : Rat := (bits cfg.geom 0 16 : Nat)
  if track = 0 ∨ (absR (mv m 0) + absR (mv m 1)) / 2 < (cfg.lo 6 3 : Nat) then 0
  else absR ((mv m 1 - mv m 0) / track / Config.degToRad - mv m 4)

def lonError (m : List Rat) : Rat := absR (mv m 2 - mv m 3)

/-- Condition and release condition of a recognizer (R189 to R197); `rate` is the output rate in hertz. LIFT releases
by its phase. -/
def recCond (cfg : RecCfg) (rate : Rat) (i : Nat) (m : List Rat) : Bool × Bool :=
  let lo (j : Nat) : Rat := (cfg.lo i j : Nat)
  let hi (j : Nat) : Rat := (cfg.hi i j : Nat)
  match i with
  | 0 => let th := lo 1 / 1000
         (decide (th * th ≤ mv m 0), decide (mv m 0 < th * th / 4))
  | 1 => (decide (lo 1 / 1000 ≤ mv m 0) && decide (hi 1 / 1000 ≤ mv m 1), false)
  | 2 => (decide (lo 1 / 10 ≤ mv m 0), decide (mv m 0 < (lo 1 - hi 1) / 10))
  | 3 => let th := lo 1 / 1000
         (decide (mv m 0 < th * th), decide (4 * th * th ≤ mv m 0))
  | 5 => let c := decide (mv m 3 ≠ 0) && decide (lo 1 ≤ mv m 0) && decide (mv m 1 < hi 1 / 1000 * (hi 1 / 1000))
                    && decide (mv m 2 < lo 2 / 10 * (lo 2 / 10))
         (c, !c)
  | 6 => let yaw := decide (bits cfg.geom 0 16 ≠ 0) && decide ((cfg.lo 6 3 : Nat) ≤ (absR (mv m 0) + absR (mv m 1)) / 2)
                      && decide (lo 1 / 10 ≤ yawError cfg m)
         let c := yaw || decide (hi 1 / 1000 ≤ lonError m)
         (c, !c)
  | 7 => (decide (hi 2 / 10 ≤ mv m 1) && decide (mv m 2 = 0), false)
  | 8 => let th := lo 1 / 1000
         let low := th * (1 - hi 3 / 100)
         let f := mv m 1
         (decide (hi 1 ≤ f) && decide (f < 4 / 10 * rate * 16) && decide (th * th ≤ mv m 0),
          decide (mv m 0 < low * low) || decide (f < hi 1))
  | _ => (false, false)

/-- Table 8.5: DETAIL, MAG, VALUE_A and VALUE_B of a recognizer at a sample. -/
def recValues (cfg : RecCfg) (rate : Rat) (i t : Nat) (m : List Rat) (d : Dec) : Dec :=
  match i with
  | 0 =>
    let k := dominant m
    { d with detail := 2 * k + b01 (decide (mv m (k + 1) < 0)), mag := min 0xFFFF (rootOf (mv m 0 * 2 ^ 22)).toNat
             a := rootOf (mv m 0 * 2 ^ 48), b := roundEven (mv m (k + 1) * 2 ^ 24) }
  | 1 => { d with detail := if d.st = R_ACTIVE then d.phase else 0, mag := magOf (mv m 0 * 1000)
                  a := roundEven (mv m 0 * 1000000), b := roundEven (mv m 1 * 1000000) }
  | 2 => { d with detail := (roundEven (mv m 1 * 256 / 360)).toNat % 256, mag := magOf (mv m 0 * 100)
                  a := roundEven (mv m 0 * 2 ^ 16), b := roundEven (mv m 1 * 2 ^ 16) }
  | 3 =>
    let span := t - d.onset
    if d.st = R_IDLE then { d with detail := 0, mag := 0, a := rootOf (mv m 0 * 2 ^ 48), b := 0 }
    else { d with detail := if d.st = R_ACTIVE then d.phase else b01 (decide (((cfg.hi 3 2 : Nat) : Rat) ^ 2 ≤ mv m 1))
                  mag := magOf (gStd / 2 * secs span * secs span * 1000)
                  a := rootOf (d.low * 2 ^ 48), b := span }
  | 4 => if d.st = R_IDLE then { d with detail := 0, mag := 0, a := 0, b := 0 }
         else { d with detail := 0, mag := magOf ((d.base - d.low) * 1000)
                       a := roundEven ((d.base - d.low) * 1000000), b := d.span }
  | 5 =>
    let th : Rat := (cfg.lo 5 1 : Nat)
    { d with detail := b01 (decide (th ≤ absR (mv m 4))) + 2 * b01 (decide (th ≤ absR (mv m 5)))
             mag := magOf (mv m 0), a := roundEven (mv m 0), b := rootOf (mv m 2 * 2 ^ 32) }
  | 6 =>
    let yaw := yawError cfg m
    let lon := lonError m
    let byYaw := decide (((cfg.lo 6 1 : Nat) : Rat) / 10 ≤ yaw) && decide (yaw ≠ 0)
    let bl := decide (((cfg.hi 6 1 : Nat) : Rat) / 1000 ≤ lon)
    { d with detail := b01 byYaw + 2 * b01 bl + 4 * b01 (decide (mv m 3 < mv m 2))
             mag := if byYaw then magOf (yaw * 10) else magOf (lon * 1000)
             a := roundEven (yaw * 2 ^ 16), b := roundEven (lon * 2 ^ 24) }
  | 7 => { d with detail := b01 (decide ((cfg.hi 7 1 : Nat) ≤ mv m 0)) + 2 * b01 (recCond cfg rate 7 m).1
                    + 128 * b01 (decide (mv m 2 ≠ 0))
                  mag := magOf (mv m 1 * 100), a := roundEven (mv m 0), b := roundEven (mv m 1 * 2 ^ 16) }
  | _ => { d with detail := b01 (decide (4 / 10 * rate * 16 ≤ mv m 1)), mag := min 0xFFFF (rootOf (mv m 0 * 1000000)).toNat
                  a := rootOf (mv m 0 * 2 ^ 48), b := roundEven (mv m 1) }

/-- LIFT's phase while ACTIVE (R190). -/
def liftPhase (cfg : RecCfg) (m : List Rat) (p : Nat) : Nat :=
  let vel : Rat := (cfg.hi 1 1 : Nat) / 1000
  let v := mv m 1
  if p ≠ 0 ∧ vel ≤ v then 0
  else if p ≤ 1 ∧ v ≤ -vel then 2
  else if p = 0 ∧ absR v < vel / 2 then 1
  else if p = 2 ∧ (cfg.lo 1 3 : Nat) / 1000 ≤ mv m 2 then 3 else p

/-- STEP (R193): `step` is the duration to add, `fall` says that FALL declares at this sample. -/
def stepDec (cfg : RecCfg) (t step : Nat) (fall : Bool) (m : List Rat) (d : Dec) : Dec :=
  let low := decide (mv m 0 ≤ -((cfg.lo 4 1 : Nat) : Rat) / 1000)
  let h := mv m 1
  if d.st = R_ACTIVE then { defaultDec with prev := d.prev }
  else if d.st = R_IDLE then
    if d.phase = 2 then (if low then d else { d with phase := 0 })
    else if low then { d with st := R_PENDING, acc := 0, onset := t, phase := 0, base := h, low := h, span := 0 } else d
  else if d.phase = 0 then
    let acc := d.acc + step
    let d := { d with acc := acc, low := min d.low h, span := acc }
    if fall then { d with st := R_IDLE, phase := 2 }
    else if low then
      if 40 * cfg.lo 4 3 < acc then { d with st := R_IDLE, phase := 2 } else d
    else if acc < 40 * cfg.hi 4 1 ∨ 40 * cfg.lo 4 3 < acc then { d with st := R_IDLE, phase := 0 }
    else
      let d := { d with phase := 1, acc := 0 }
      if (cfg.lo 4 2 : Nat) / 1000 ≤ mv m 0 then { d with due := 1 } else d
  else
    let acc := d.acc + step
    let d := { d with acc := acc, low := min d.low h }
    if 40 * cfg.hi 4 2 < acc then { d with st := R_IDLE, phase := 0 }
    else if (cfg.lo 4 2 : Nat) / 1000 ≤ mv m 0 then { d with due := 1 } else d

/-- The decision state of a recognizer with a condition and a release (R179). -/
def holdDec (cfg : RecCfg) (i t step : Nat) (cond rel : Bool) (d : Dec) : Dec :=
  if d.st = R_ACTIVE then
    if rel then
      let r := match d.racc with | none => 0 | some r => r + step
      { d with racc := some r, due := if 40 * cfg.release i ≤ r then 2 else 0 }
    else { d with racc := none }
  else
    let d := if ¬ cond then { d with st := R_IDLE, acc := 0 }
      else if d.st = R_IDLE then { d with st := R_PENDING, acc := 0, onset := t } else { d with acc := d.acc + step }
    if d.st = R_PENDING ∧ 40 * cfg.persist i ≤ d.acc then { d with due := 1 } else d

/-- One usable sample of a recognizer (R179, R189 to R197). -/
def sampleDec (cfg : RecCfg) (rate : Rat) (i t : Nat) (fall : Bool) (m : List Rat) (d : Dec) : Dec :=
  let step := match d.prev with | some p => t - p | none => 0
  let d := { d with prev := some t }
  let c := recCond cfg rate i m
  let d :=
    if i = 4 then stepDec cfg t step fall m d
    else if i = 1 then
      let d := if d.st = R_ACTIVE then { d with phase := liftPhase cfg m d.phase } else d
      holdDec cfg 1 t step c.1 (d.phase == 3) d
    else if i = 7 then
      let d := if d.st = R_ACTIVE then d else holdDec cfg 7 t step c.1 false d
      if d.st ≠ R_ACTIVE ∧ (cfg.hi 7 1 : Nat) ≤ mv m 0 then { d with st := R_PENDING, due := 1 } else d
    else if i = 3 then
      let was := d.st
      let d := holdDec cfg 3 t step c.1 c.2 d
      { d with low := if was = R_IDLE then mv m 0 else min d.low (mv m 0) }
    else holdDec cfg i t step c.1 c.2 d
  let d := recValues cfg rate i t m d
  if d.st = R_ACTIVE then { d with peak := max d.peak d.a } else d

/-- Entry to ACTIVE, or release (R180); the deciding sample is the last one evaluated. -/
def finishDec (cfg : RecCfg) (i : Nat) (d : Dec) : Dec × RecDone :=
  let t := d.prev.getD 0
  if d.due = 1 then
    let phase := if i = 3 then d.detail % 2 else 0
    ({ d with st := R_ACTIVE, decl := t, peak := d.a, racc := none, phase := phase, due := 0 },
      { evs := [⟨1, d.detail, d.a, d.b⟩], req := if cfg.safeEn i then some (C_RECOGNIZER, 0xE0 + i) else none })
  else if d.due = 2 then
    ({ d with st := R_IDLE, racc := none, acc := 0, phase := 0, due := 0, detail := if i = 1 then 0 else d.detail },
      { evs := if cfg.endEvent i then [⟨2, d.detail, d.peak, ((t - d.decl : Nat) : Int)⟩] else [], req := none })
  else (d, noDone)

/-- One recognizer at an evaluated tick (R179 to R183, R200); what is due is still to be finished. -/
def tickDec (cfg : RecCfg) (rate : Rat) (i t : Nat) (fall : Bool) (l : Latched) (m : Option (List Rat)) (d : Dec) :
    Dec × RecDone :=
  if ¬ cfg.on i then (defaultDec, noDone)
  else
    let clear := cfg.clear.testBit i && cfg.tp == t && d.st == R_ACTIVE
    let evs : List RecEv := if clear && cfg.endEvent i then [⟨2, d.detail, d.peak, ((t - d.decl : Nat) : Int)⟩] else []
    let d := if clear then { defaultDec with prev := d.prev } else d
    if lostNow cfg l i then
      if d.st = R_LOST then ({ d with prev := some t }, { evs := evs, req := none })
      else ({ defaultDec with st := R_LOST, prev := some t },
        { evs := evs ++ [⟨0xF0, 0, 0, 0⟩], req := if cfg.lostSafe i then some (C_INPUT_LOST, 0xF0 + i) else none })
    else if d.st = R_LOST then ({ defaultDec with prev := some t }, { evs := evs ++ [⟨0xF1, 0, 0, 0⟩], req := none })
    else match m with
      | none => ({ d with prev := some t }, { evs := evs, req := none })
      | some m => (sampleDec cfg rate i t fall m d, { evs := evs, req := none })

/-- The nine recognizers at a tick, in ascending index; FALL's declaration ends STEP's drop (R193). -/
def tickAll (cfg : RecCfg) (rate : Rat) (t : Nat) (l : Latched) (ms : List (Option (List Rat))) (ds : List Dec) :
    List (Dec × RecDone) :=
  let go (fall : Bool) (i : Nat) : Dec × RecDone :=
    tickDec cfg rate i t fall l (ms.getD i none) (ds.getD i defaultDec)
  let fall := (go false 3).1.due == 1
  (List.range 9).map (go fall)

def RecDone.add (a b : RecDone) : RecDone := { evs := a.evs ++ b.evs, req := b.req.or a.req }

/-- Finish what is due of an evaluation. -/
def finishOne (cfg : RecCfg) (i : Nat) (x : Dec × RecDone) : Dec × RecDone :=
  let y := finishDec cfg i x.1
  (y.1, x.2.add y.2)

/-- The state word of Table 8.3. -/
def Dec.word (d : Dec) (on_ : Bool) : Word :=
  if on_ then w32 (d.st + 2 ^ 8 * (d.detail % 256) + 2 ^ 16 * d.mag) else 0

def wordsOf (cfg : RecCfg) (ds : List Dec) : List Word := (List.range 9).map fun i => (ds.getD i defaultDec).word (cfg.on i)

/-! ### The recognizers in the engine -/

/-- The output rate of a preset in hertz. -/
def rateOf (preset : Nat) : Rat := 40000 / (presetM preset : Rat)

/-- A recognizer's EVENT record (R185). -/
def recRec (i tick : Nat) (basis : Bool) (e : RecEv) : Rec :=
  eventRec (0x40 + i) e.detail e.code tick (wordOfInt e.a) (wordOfInt e.b) false basis

/-- Provisional packets for events of a speculative evaluation (R168): those granted; the others are counted. -/
def State.grantRecs (n : Nat) (s : State) : State × Nat :=
  let free := min (64 - s.poolUsed) (s.freeWords / 7)
  if n ≤ free then (s, n)
  else
    let s := (s.addSat SPEC_STATUS.POOL_DENIED (n - free)).raise Reg.SPEC_EVENTS 1
    (s, free)

/-- A speculative evaluation's SAFE request under SPEC_ACT acts at once, once per tick (R172, R181). -/
def State.specRequest (cfg : RecCfg) (i t : Nat) (req : Option (Nat × Nat)) (s : State) : State :=
  match req with
  | some (cause, reason) =>
    if cfg.specAct i ∧ ¬ s.eng.acts.any (fun a => a.1 == i && a.2.1 == t) then
      (s.putEng { s.eng with acts := s.eng.acts ++ [(i, t, reason)] }).recognizerSafe cause i reason t
    else s
  | none => s

/-- Record one recognizer's speculative evaluation of a tick. -/
def State.putSpec (cfg : RecCfg) (i t : Nat) (x : Dec × RecDone) (s : State) : State :=
  let g := s.grantRecs x.2.evs.length
  let s := g.1.setTick t fun e => { e with
    after := e.after.set i x.1, done := e.done.set i x.2, prov := e.prov.set i g.2
    recF := e.recF.set i (x.1.word (cfg.on i)) }
  let s := s.putEng { s.eng with dec := s.eng.dec.set i x.1 }
  (s.specRequest cfg i t x.2.req).poolPeak

/-- Finish what is due of recognizer `i` at tick `t` (R180). -/
def State.finishDue (i t : Nat) (s : State) : State :=
  match s.engTick t with
  | none => s
  | some e =>
    let d := s.eng.dec.getD i defaultDec
    if d.due = 0 then s
    else
      let cfg := s.recCfg t
      let s := s.setTick t fun e => { e with prov := e.prov.set i 0 }
      s.putSpec cfg i t (finishOne cfg i (d, e.done.getD i noDone))

/-- Everything due at the last fast tick, in ascending index. -/
def State.finishAllDue (s : State) : State :=
  match s.eng.lastFast with
  | some t => s.forUpTo (fun i s => s.finishDue i t) 9
  | none => s

/-- Evaluate a tick speculatively from the decision states of the chain (R168, R181), leaving what is due open unless
`now`. -/
def State.evalSpec (t : Nat) (now : Bool) (s : State) : State :=
  match s.engTick t with
  | none => s
  | some e =>
    let cfg := s.recCfg t
    let xs := tickAll cfg (rateOf e.preset) t e.latched e.meas s.eng.dec
    s.forUpTo (fun i s =>
      let x := xs.getD i (defaultDec, noDone)
      s.putSpec cfg i t (if now then finishOne cfg i x else x)) 9

/-- Settings that come into force by tick `t` (R200): disabled recognizers report pending actions; THEFT takes a new
reference at its enable and at REC_CLEAR. -/
def State.applyCfg (t : Nat) (s : State) : State :=
  let new := s.eng.cfgs.filter fun c => !c.applied && decide (c.tp ≤ t)
  let s := s.putEng { s.eng with cfgs := s.eng.cfgs.map fun c => if c.tp ≤ t then { c with applied := true } else c }
  s.each (fun c s =>
    let off := s.eng.acts.filter fun a => !c.on a.1
    let s := s.putEng { s.eng with acts := s.eng.acts.filter fun a => c.on a.1 }
    let s := s.each (fun a s => s.falsestopNow (0x40 + a.1) 1 a.2.2 a.2.1 0 0) off
    let th := s.eng.theft
    let fresh := c.on 7 && (th.from_.isNone && th.ref.isNone || c.clear.testBit 7)
    if fresh then
      s.putEng { s.eng with theft := { th with ref := none, from_ := some s.tick, recent := [], hits := [] } }
    else if ¬ c.on 7 then
      s.putEng { s.eng with theft := { th with ref := none, from_ := none, recent := [], hits := [] } }
    else s) new

/-- The decision and the transition of an evaluation, which verification compares (R168). -/
def recKey (x : Dec × RecDone) : Nat × List Nat × Option (Nat × Nat) := (x.1.st, x.2.evs.map (·.code), x.2.req)

/-- REC_EVENTS, REC_ACTIVE, REC_LOST and REC_STATE follow a resolved tick (R180, R183, R184). -/
def State.recSettle (cfg : RecCfg) (i t : Nat) (basis : Bool) (x : Dec × RecDone) (s : State) : State :=
  let s := s.each (fun ev s => s.hold 4 i (recRec i t basis ev)) x.2.evs
  let s := s.when (x.2.evs.any fun e => e.code != 0xF1) (State.raise Reg.REC_EVENTS i)
  let s := (s.setF (bitF Reg.REC_ACTIVE i) (b01 (x.1.st == R_ACTIVE))).setF (bitF Reg.REC_LOST i) (b01 (x.1.st == R_LOST))
  let s := s.setReg (Reg.REC_STATE i) (x.1.word (cfg.on i))
  s.putEng { s.eng with conf := s.eng.conf.set i x.1 }

/-- A SAFE request on decided data: a pending speculative one is upheld or reported, a held one acts (R172, R173). -/
def State.recDecide (i t : Nat) (basis : Bool) (req : Option (Nat × Nat)) (s : State) : State :=
  let acted := s.eng.acts.find? fun a => a.1 == i && a.2.1 == t
  let s := s.putEng { s.eng with acts := s.eng.acts.filter fun a => !(a.1 == i && a.2.1 == t) }
  match acted, req with
  | some a, none => if basis then s else s.falsestopHeld i (0x40 + i) 1 a.2.2 t 0 0
  | none, some (cause, reason) => s.recognizerSafe cause i reason t
  | _, _ => s

/-- Evaluate again, on their fast samples, the UNRESOLVED ticks after `t` (R168). -/
def State.replayRecs (t : Nat) (s : State) : State :=
  let later := s.eng.ticks.filter fun e => decide (t < e.tick) && !e.resolved && e.fast.isSome
  let s := s.each (fun e s => s.setTick e.tick fun x => { x with prov := List.replicate 9 0 }) later
  s.each (fun e s => s.evalSpec e.tick true) later

/-- The committed sample of a tick meets the recognizers (R168): re-evaluation, comparison, records, requests. -/
def State.resolveRecs (e : EngTick) (f : Fused) (s : State) : State :=
  let t := e.tick
  let cfg := s.recCfg t
  let p := pathStep cfg t e.latched f.recIn s.eng.commEst
  let s := s.putEng { s.eng with commEst := p.1 }
  let ms := p.2 ++ [e.meas.getD 7 none, e.meas.getD 8 none]
  let xs := ((List.range 9).zip (tickAll cfg (rateOf e.preset) t e.latched ms s.eng.conf)).map
    fun y => finishOne cfg y.1 y.2
  let at_ (i : Nat) : Dec × RecDone := xs.getD i (defaultDec, noDone)
  let spec (i : Nat) : Dec × RecDone := (e.after.getD i defaultDec, e.done.getD i noDone)
  let bad (i : Nat) : Bool := e.fast.isNone || recKey (spec i) != recKey (at_ i)
  let s := s.setTick t fun e => { e with prov := List.replicate 9 0, recC := wordsOf cfg (xs.map (·.1)) }
  let s := s.forUpTo (fun i s =>
    let s := if ¬ cfg.on i ∨ e.fast.isNone then s
      else if bad i then (s.incSat SPEC_REFUTED.COUNT).specLast t (0x40 + i) 0 else s.incSat SPEC_CONFIRMED.COUNT
    (s.recSettle cfg i t false (at_ i)).recDecide i t false (at_ i).2.req) 9
  if (List.range 9).any bad then
    let start := (List.range 9).map fun i => if bad i then (at_ i).1 else e.after.getD i defaultDec
    let s := s.putEng { s.eng with dec := start }
    s.replayRecs t
  else s

/-- A VOID tick is confirmed on fast data alone (R158). -/
def State.voidRecs (e : EngTick) (s : State) : State :=
  if e.fast.isNone then s
  else
    let cfg := s.recCfg e.tick
    let s := s.setTick e.tick fun e => { e with prov := List.replicate 9 0 }
    s.forUpTo (fun i s =>
      let x := (e.after.getD i defaultDec, e.done.getD i noDone)
      (s.recSettle cfg i e.tick true x).recDecide i e.tick true x.2.req) 9

/-! ### VOID ticks -/

/-- Resolve one VOID tick for every recognizer and machine (R158). -/
def State.voidTick (t : Nat) (s : State) : State :=
  let s := s.finishAllDue.endAll
  match s.engTick t with
  | none => s
  | some e =>
    let s := (s.voidRecs e).setTick t fun e => { e with resolved := true, void := true }
    s.forUpTo (fun n s => s.voidMach n e) 32

/-- Ticks resolve in ascending order (R156): the VOID ones at the head of the UNRESOLVED ones. -/
def State.resolveVoids : Nat → State → State
  | 0, s => s
  | k + 1, s =>
    match s.eng.ticks.find? (fun e => !e.resolved) with
    | some e => if e.void then (s.voidTick e.tick).resolveVoids k else s
    | none => s

/-- The module establishes that no committed sample will come for some ticks (R156, R158). -/
def State.voidWhere (p : Nat → Bool) (s : State) : State :=
  let s := s.putEng { s.eng with ticks := s.eng.ticks.map fun e =>
    if !e.resolved && e.comm.isNone && p e.tick then { e with void := true } else e }
  (s.resolveVoids s.eng.ticks.length).pruneTicks

end Sys2Proof.Machine
end

