-- ==== Sys2Proof/Machine/Array.lean ====
section
/-!
DEFINITION. The inertial array (chapter 3) and the triad states of chapter 4: identifiers, profiles, drive loops,
temperature models, self-test and reinstatement; their commands and events.
-/
namespace Sys2Proof.Machine

/-- Triad states (Table 4.1). -/
abbrev HEALTHY : Nat := 0
abbrev SUSPECT_ : Nat := 1
abbrev RETIRED_ : Nat := 2
abbrev PARKED : Nat := 3
abbrev TESTING : Nat := 4
abbrev STARTING : Nat := 5

/-- The die of a triad (Table 3.1). -/
def dieOf (k : Nat) : Nat := if k < 48 then k / 12 else (k - 48) / 6

def isGyro (k : Nat) : Bool := decide (48 ≤ k)

/-- The partner of a gyroscope triad in its opposed pair (R53). -/
def partnerOf (k : Nat) : Nat := if (k - 48) % 6 < 3 then k + 3 else k - 3

/-- Triads a profile makes active (Table 3.6). -/
def profileActive (p k : Nat) : Bool :=
  if k < 48 then decide (k % 12 < (if p = 0 then 12 else if p = 1 then 6 else 3))
  else
    let j := (k - 48) % 6
    p == 0 || (p == 1 && (j == 0 || j == 1 || j == 3 || j == 4)) || (p == 2 && (j == 0 || j == 3))

/-- N of R95: triads a profile makes active for a sensor. -/
def profileCount (p : Nat) (gyro : Bool) : Nat :=
  if gyro then (if p = 0 then 24 else if p = 1 then 16 else 8)
  else (if p = 0 then 48 else if p = 1 then 24 else 12)

/-- The profile in force. -/
def State.profile (s : State) : Nat := s.fld ARRAY_PROFILE.ACTIVE_PROFILE

def defaultTriad : Triad :=
  { state := PARKED, p := 0, onset := 0, devUntil := 0, quiet := none, devCh := 0, devAxes := 0, peak2 := 0
    peakCh := 0xFF, reason := 0, cause := 0, driveFault := false, testFail := false, validFrom := 0, before := 0 }

def State.triad (s : State) (k : Nat) : Triad := s.array.triads.getD k defaultTriad

def defaultChan : Chan :=
  { s2 := 0, zNeg := false, z2 := 0, bias := 0, scale := 1, dBias := 0, dScale := 0 }

def State.chan (s : State) (c : Nat) : Chan := s.array.chans.getD c defaultChan

def State.putArray (a : ArrayPart) (s : State) : State := { s with array := a }

/-- Change one triad. -/
def State.setTriad (k : Nat) (f : Triad → Triad) (s : State) : State :=
  s.putArray { s.array with triads := s.array.triads.set k (f (s.triad k)) }

/-- Change one channel. -/
def State.setChan (c : Nat) (f : Chan → Chan) (s : State) : State :=
  s.putArray { s.array with chans := s.array.chans.set c (f (s.chan c)) }

/-- The drive of a gyroscope triad is in lock; an accelerometer triad needs none. -/
def State.driven (s : State) (k : Nat) : Bool := !isGyro k || (s.fld DRIVE_STATUS.LOCKED).testBit (k - 48)

/-- The triad contributes in the sample of tick `t` (R83, R58, R113). -/
def State.contributes (s : State) (t k : Nat) : Bool :=
  let tr := s.triad k
  tr.state == HEALTHY && !tr.driveFault && decide (tr.validFrom ≤ t) && s.driven k

/-- Quorum of the accelerometer or of the gyroscope axes over a set of contributing triads (R92). -/
def quorumOf (contrib : Nat → Bool) (gyro : Bool) : Bool :=
  if gyro then
    let ks := (List.range 24).filter fun j => contrib (48 + j)
    decide (4 ≤ ks.length) && ks.any fun j => j % 6 < 3 && contrib (48 + j + 3)
  else
    let ks := (List.range 48).filter contrib
    decide (8 ≤ ks.length) && ks.any fun j => ks.any fun k => dieOf j != dieOf k

/-- Map of the triads in a state, one register's 32 of them (ACTIVE_j, SUSPECT_j, RETIRED_j). -/
def State.triadMap (s : State) (st j : Nat) : Word :=
  w32 (maskOf ((List.range 32).map fun n => decide (32 * j + n < 72) && (s.triad (32 * j + n)).state == st))

/-- First tick whose whole window is valid when base samples are valid from tick `v` (R106, R113). -/
def State.windowFrom (s : State) (v : Nat) : Nat := v + s.tapsN - 1 - s.delayD

/-! ### Square roots of exact values -/

/-- Binary digits of an integer square root, from bit `k - 1` down. -/
def sqrtGo (n : Nat) : Nat → Nat → Nat
  | 0, r => r
  | k + 1, r => if (r + 2 ^ k) * (r + 2 ^ k) ≤ n then sqrtGo n k (r + 2 ^ k) else sqrtGo n k r

/-- Floor of a square root, for numbers below 2^160. -/
def isqrt (n : Nat) : Nat := sqrtGo n 80 0

/-- The square root of a rational rounded to the nearest integer, ties to even (R105). -/
def sqrtRound (q : Rat) : Nat :=
  let n := isqrt q.floor.toNat
  let h : Rat := (n : Rat) + 1 / 2
  if h * h < q then n + 1 else if q = h * h ∧ n % 2 = 1 then n + 1 else n

/-! ### HEALTH records (Table 4.4) -/

/-- The axes of a triad's channel mask, as AXES bits. -/
def axesOf (k mask : Nat) : Nat := if isGyro k then 8 * (mask % 8) else mask % 8

/-- A HEALTH record. -/
def healthRec (kind triad channel die axes tick peak detail : Nat) : Rec :=
  { typ := T_HEALTH, tick := tick
    payload := [w32 (kind + 2 ^ 8 * triad + 2 ^ 16 * channel + 2 ^ 24 * die + 2 ^ 26 * axes)] ++ loHi tick
      ++ [w32 (min peak 0xFFFF + 2 ^ 16 * detail)] }

/-- A HEALTH record of one triad: its axes since the onset, its peak; the record is held for tick `at_` and carries
tick `tick`. -/
def State.triadHealth (kind k at_ tick detail : Nat) (s : State) : State :=
  let tr := s.triad k
  let r := healthRec kind k tr.peakCh (dieOf k) (axesOf k tr.devAxes) tick (sqrtRound (tr.peak2 * 65536)) detail
  { s with held := s.held ++ [{ rank := 3, key := 0, typ := r.typ, tick := at_, payload := r.payload }] }

/-- The tick whose commit point carries what is raised now: the last vote's tick. -/
def State.voteTick (s : State) : Nat := s.array.lastVote.getD s.tick

/-! ### Settling and drive loops (R57, R58, R114, R116) -/

/-- Emit the SETTLING record of the open interval (Table 5.6); the ticks it covers become VOID (R158). -/
def State.settlingRecord (v : Settling) (resume preset : Nat) (s : State) : State :=
  let r : Rec := { typ := T_SETTLING, tick := s.tick
                   payload := [w32 (v.cause + 2 ^ 8 * preset)] ++ loHi v.first ++ loHi resume }
  ((s.commitOne r).raise Reg.FILT_EVENTS 0).voidWhere fun u => decide (v.first ≤ u) && decide (u < resume)

/-- Fix or move the resume tick of an open interval; a SETTLING record is emitted only where it moves (R116). -/
def State.settleResume (resume preset : Nat) (s : State) : State :=
  match s.filt.settling with
  | some v =>
    if v.resume = some resume then s
    else ({ s with filt := { s.filt with settling := some { v with resume := some resume } } }).settlingRecord
      v resume preset
  | none => s

/-- Every active gyroscope triad has locked or is in DRIVE_FAULT. -/
def State.drivesReady (s : State) : Bool :=
  (List.range 24).all fun j =>
    let tr := s.triad (48 + j)
    !(tr.state == HEALTHY || tr.state == STARTING || tr.state == SUSPECT_) || s.driven (48 + j) || tr.driveFault

/-- At the drive lock of the last gyroscope triad, the resume tick of a FIRST_START or DAWN interval is fixed. -/
def State.settleAtLock (s : State) : State :=
  match s.filt.settling with
  | some v =>
    if (v.cause = 1 ∨ v.cause = 2) ∧ s.drivesReady ∧ v.bound = none then
      let b := s.windowFrom (s.tick + 4)
      let s := { s with filt := { s.filt with settling := some { v with bound := some b } } }
      s.settleResume (gridFrom s.filt.tSync (presetM s.preset) b) s.preset
    else s
  | none => s

/-- ARRAY_STATUS.DRIVE_FAULT: 1 while any gyroscope triad is in DRIVE_FAULT. -/
def State.syncDriveFault (s : State) : State :=
  s.setF ARRAY_STATUS.DRIVE_FAULT (b01 ((List.range 24).any fun j => (s.triad (48 + j)).driveFault))

def State.setLock (k : Nat) (on_ : Bool) (s : State) : State := s.setF (bitF Reg.DRIVE_STATUS (k - 48)) (b01 on_)

/-- DRIVE_LOCK (R57): gyroscope triad 48 + `g` locks; its window fills from the fourth CIC output on. -/
def execDriveLock (g : Fin 24) : State → Host.Outcome State Fault Refusal := act fun s =>
  let k := 48 + g.val
  let st := (s.triad k).state
  if st = PARKED ∨ st = RETIRED_ then s
  else
    let from_ := s.windowFrom (s.tick + 4)
    (((s.setLock k true).setTriad k fun tr => { tr with driveFault := false, validFrom := from_ }).syncDriveFault).settleAtLock

/-- DRIVE_FAULT (R58): the triad leaves the consensus from the next base sample and counts as deviant. -/
def execDriveFault (g : Fin 24) : State → Host.Outcome State Fault Refusal := act fun s =>
  let k := 48 + g.val
  let st := (s.triad k).state
  if st = PARKED ∨ st = RETIRED_ then s
  else
    let s := ((s.setLock k false).setTriad k fun tr => { tr with driveFault := true }).syncDriveFault
    (s.raise Reg.ARRAY_EVENTS 18).settleAtLock

/-! ### Temperatures (R63, R64) -/

/-- A temperature register half, in degrees Celsius. -/
def tempOf (s : State) (f : Fld) : Rat := signed 16 (s.fld f) / 128

def State.dieTemp (s : State) (d : Nat) : Rat :=
  tempOf s (if d = 0 then TEMP_01.T_LOW else if d = 1 then TEMP_01.T_HIGH else if d = 2 then TEMP_23.T_LOW
    else TEMP_23.T_HIGH)

/-- The bias and scale of a channel at the temperatures of the update (R63). -/
def modelOf (c : Nat) (tDie tAsic : Rat) : Rat × Rat :=
  let dt := tDie - 25
  let grad := tAsic - tDie
  let b (k : Nat) : Rat := Config.biasCoef c k
  let g (k : Nat) : Rat := Config.scaleCoef c k
  (b 0 + b 1 / 2 ^ 6 * dt + b 2 / 2 ^ 12 * dt * dt + b 3 / 2 ^ 18 * dt * dt * dt + b 4 / 2 ^ 6 * grad,
   1 + g 0 / 2 ^ 20 + g 1 / 2 ^ 26 * dt + g 2 / 2 ^ 32 * dt * dt + g 3 / 2 ^ 38 * dt * dt * dt)

/-- The die of a channel. -/
def dieOfChan (c : Nat) : Nat := dieOf (c / 3)

/-- TEMP_MODEL_UPDATE (R63): once per millisecond the models of all 216 channels are re-evaluated. A stale die keeps
its last temperature (its register is not updated); a stale ASIC temperature holds the gradient term the same way. -/
def execTempModelUpdate : State → Host.Outcome State Fault Refusal := act fun s =>
  let tAsic := tempOf s TEMP_ASIC.T_LOW
  s.putArray { s.array with chans := (List.range 216).map fun c =>
    let m := modelOf c (s.dieTemp (dieOfChan c)) tAsic
    { s.chan c with bias := m.1, scale := m.2 } }

/-- ARRAY_STATUS.UNCOMP follows the flagged dies (R64). -/
def State.syncUncomp (s : State) : State := s.setF ARRAY_STATUS.UNCOMP (b01 (s.array.uncomp != 0))

/-- DIE_TEMP_STALE (R64): dies 0 to 3; 4 stands for the ASIC temperature. -/
def execDieTempStale (d : Fin 5) : State → Host.Outcome State Fault Refusal := act fun s =>
  if d.val = 4 then s.putArray { s.array with asicStale := true }
  else
    let new := !s.array.uncomp.testBit d.val
    let s := (s.putArray { s.array with uncomp := s.array.uncomp ||| 2 ^ d.val }).syncUncomp
    s.when new (State.raise Reg.ARRAY_EVENTS 16)

/-- The first fresh temperature of a die, or of the ASIC (4), clears its mark (R64). -/
def State.freshTemp (d : Nat) (s : State) : State :=
  if d = 4 then s.putArray { s.array with asicStale := false }
  else (s.putArray { s.array with uncomp := s.array.uncomp &&& (15 - 2 ^ d) }).syncUncomp

/-! ### Profiles (R67 to R69) -/

/-- Request a profile (R68): pending until the next committed sample boundary, or behind the change in progress. -/
def State.requestProfile (p : Nat) (s : State) : State :=
  if s.on ARRAY_PROFILE.CHANGE_PENDING then
    (s.putArray { s.array with profileNext := some p }).setF ARRAY_PROFILE.PROFILE p
  else
    ((s.putArray { s.array with profileReq := some p }).setF ARRAY_PROFILE.PROFILE p).setF ARRAY_PROFILE.CHANGE_PENDING 1

/-- A triad leaves PARKED: powered, it fills its window from the fourth CIC output on (R113). -/
def State.startTriad (k : Nat) (s : State) : State :=
  let v := s.windowFrom (s.tick + 4)
  s.setTriad k fun tr => { tr with state := STARTING, p := 0, validFrom := v, driveFault := false }

/-- A triad is parked (Table 4.5): P is 0; a SUSPECT triad gives a CLEARED record with DETAIL 0. -/
def State.parkTriad (t k : Nat) (s : State) : State :=
  let was := (s.triad k).state
  let s := if was = SUSPECT_ then
      ((s.triadHealth 0x02 k t (s.triad k).onset 0).raise Reg.VOTE_EVENTS 6).incSat VOTE_COUNTS.CLEARED
    else s
  let s := s.setTriad k fun tr =>
    { tr with state := PARKED, p := 0, quiet := none, devUntil := 0, devCh := 0, devAxes := 0, driveFault := false }
  (if isGyro k then s.setLock k false else s).syncDriveFault

/-- One triad under a new profile (R68); a retired one stays retired, one under test changes what it returns to. -/
def State.profileTriad (p t k : Nat) (s : State) : State :=
  let st := (s.triad k).state
  let want := profileActive p k
  if st = TESTING then
    let b := (s.triad k).before
    if b = RETIRED_ then s
    else s.setTriad k fun tr => { tr with before := if want then (if b = PARKED then STARTING else b) else PARKED }
  else if st = RETIRED_ then s
  else if want ∧ st = PARKED then
    let s := s.startTriad k
    s.putArray { s.array with joining := s.array.joining ++ [k] }
  else if ¬ want ∧ st ≠ PARKED then
    let s := s.parkTriad t k
    s.putArray { s.array with joining := s.array.joining.filter (· != k) }
  else s

/-- The change completes when the last joining triad has entered the vote; a request kept behind it follows. -/
def State.profileDone (s : State) : State :=
  if s.array.joining.isEmpty ∧ s.array.profileReq = none then
    let s := s.setF ARRAY_PROFILE.CHANGE_PENDING 0
    match s.array.profileNext with
    | some p => (s.putArray { s.array with profileReq := some p, profileNext := none }).setF
        ARRAY_PROFILE.CHANGE_PENDING 1
    | none => s
  else s

/-- PROFILE_BOUNDARY (R68) at the committed sample boundary of tick `t`. -/
def execProfileBoundary (t : BitVec 64) : State → Host.Outcome State Fault Refusal := act fun s =>
  match s.array.profileReq with
  | some p =>
    let old := s.profile
    let s := s.putArray { s.array with profileReq := none, joining := [], subs := [] }
    let s := s.forUpTo (fun k s => s.profileTriad p t.toNat k) 72
    let s := s.setF ARRAY_PROFILE.ACTIVE_PROFILE p
    (s.hold 5 0 (statusRec 0x01 (old + 4 * p) t.toNat [])).profileDone
  | none => s

/-- TRIAD_JOIN (R113): a STARTING triad whose whole window is valid at tick `t` enters the vote as HEALTHY. -/
def execTriadJoin (k : Fin 72) (t : BitVec 64) : State → Host.Outcome State Fault Refusal := act fun s =>
  let tr := s.triad k.val
  if tr.state = STARTING ∧ tr.validFrom ≤ t.toNat ∧ s.driven k.val ∧ ¬ tr.driveFault then
    let s := s.setTriad k.val fun tr => { tr with state := HEALTHY, p := 0, devUntil := 0, devCh := 0, testFail := false }
    if s.array.joining.contains k.val then
      let s := s.putArray { s.array with joining := s.array.joining.filter (· != k.val) }
      if s.array.joining.isEmpty then
        (s.hold 5 0 (statusRec 0x01 (s.profile + 4 * s.profile + 16) t.toNat [])).profileDone
      else s
    else s
  else s

/-! ### Self-test and reinstatement (R76 to R79, R99, R100) -/

/-- Result codes of SELFTEST_RESULT. -/
abbrev R_PASS : Nat := 1
abbrev R_SKIPPED : Nat := 2
abbrev R_INCONCLUSIVE : Nat := 3
abbrev R_FAIL : Nat := 4

/-- Whether excluding a triad would bring an axis below quorum (R78). -/
def State.testWouldBreak (s : State) (k : Nat) : Bool :=
  let t := s.voteTick
  s.contributes t k && !quorumOf (fun j => j != k && s.contributes t j) (isGyro k)

/-- The triads of a die in ascending number. -/
def dieTriads (d : Nat) : List Nat := (List.range 72).filter fun k => dieOf k == d

/-- Report one triad's result: its HEALTH record, the counts of the scope (R77, R100). -/
def State.testReport (k code : Nat) (s : State) : State :=
  match s.array.test with
  | none => s
  | some tr =>
    let kind := if tr.reinstate then (if code = R_PASS then 0x05 else 0x06) else 0x0A
    let detail := if kind = 0x05 then 0 else code
    let s := s.triadHealth kind k s.tick s.tick detail
    let s := if tr.reinstate then s.raise Reg.VOTE_EVENTS 5 else s
    s.putArray { s.array with test := some { tr with
      worst := max tr.worst code, last := k
      fails := tr.fails + b01 (code == R_FAIL)
      skips := tr.skips + b01 (code == R_SKIPPED || code == R_INCONCLUSIVE)
      passed := tr.passed + b01 (code == R_PASS), refused := tr.refused + b01 (code != R_PASS) } }

/-- Take the next triad of one branch under test: triads whose exclusion would break quorum are SKIPPED (R78). -/
def State.testNext (branch : Nat) : List Nat → State → State
  | [], s =>
    match s.array.test with
    | some tr => s.putArray { s.array with test := some { tr with queues := tr.queues.set branch [] } }
    | none => s
  | k :: rest, s =>
    if s.testWouldBreak k then (s.testReport k R_SKIPPED).testNext branch rest
    else
      match s.array.test with
      | some tr =>
        let s := s.putArray { s.array with test := some { tr with
          queues := tr.queues.set branch rest, current := tr.current ++ [(k, false, branch)] } }
        s.setTriad k fun x => { x with before := x.state, state := TESTING }
      | none => s

/-- The end of a scope: SELFTEST_RESULT or REINSTATE_RESULT is set (R77, R100). -/
def State.testEnd (s : State) : State :=
  match s.array.test with
  | some tr =>
    if tr.current.isEmpty ∧ tr.queues.all List.isEmpty then
      let s := s.putArray { s.array with test := none }
      if tr.reinstate then
        ((s.setF REINSTATE_RESULT.REINSTATED tr.passed).setF REINSTATE_RESULT.FAILED tr.refused).setF
          REINSTATE_RESULT.BUSY 0
      else
        let s := (s.setF SELFTEST_RESULT.RESULT tr.worst).setF SELFTEST_RESULT.LAST_TRIAD tr.last
        let s := (s.setF SELFTEST_RESULT.FAIL_COUNT tr.fails).setF SELFTEST_RESULT.SKIP_COUNT tr.skips
        (s.setF ARRAY_STATUS.SELFTEST_BUSY 0).raise Reg.ARRAY_EVENTS 17
    else s
  | none => s

/-- Start a scope's branches. -/
def State.testStart (reinstate : Bool) (die : Option Nat) (queues : List (List Nat)) (s : State) : State :=
  let run : TestRun := { reinstate := reinstate, die := die, queues := queues, current := [], worst := 0, last := 0
                         fails := 0, skips := 0, passed := 0, refused := 0 }
  let s := s.putArray { s.array with test := some run }
  let s := if reinstate then (s.setF REINSTATE_RESULT.BUSY 1).setF REINSTATE_RESULT.REFUSED 0
    else s.setF ARRAY_STATUS.SELFTEST_BUSY 1
  let s := s.forUpTo (fun b s => s.testNext b (queues.getD b [])) queues.length
  s.testEnd

/-- The die bit of VOTE_DIE clears once every triad of the die has been reinstated (R100). -/
def State.dieRestored (d : Nat) (s : State) : State :=
  if (dieTriads d).all fun k => (s.triad k).state != RETIRED_ then s.setF (bitF Reg.VOTE_DIE d) 0 else s

/-- A reinstated triad enters STARTING with P = 0 and s at its floor, or PARKED where its place is filled (R100). -/
def State.reinstateTriad (k : Nat) (s : State) : State :=
  let filled := s.array.subs.any (fun q => q.1 == k) || !profileActive s.profile k
  let s := if filled then s.setTriad k fun tr => { tr with state := PARKED, p := 0 }
    else
      let s := s.startTriad k
      s.forUpTo (fun a s => s.setChan (3 * k + a) fun ch =>
        { ch with s2 := Config.sigmaFloorSq (3 * k + a) s.preset }) 3
  s.dieRestored (dieOf k)

/-- A triad under test returns to its previous state (R78). -/
def State.testReturn (k : Nat) (s : State) : State :=
  let b := (s.triad k).before
  if b = STARTING then s.startTriad k else s.setTriad k fun tr => { tr with state := b }

/-- The measured outcome of one triad's test (R76, R79). -/
def finishTest (k code : Nat) (s : State) : State :=
  match s.array.test with
  | none => s
  | some tr =>
    match tr.current.find? (fun q => q.1 == k) with
    | none => s
    | some (_, retried, branch) =>
      if code = R_INCONCLUSIVE ∧ ¬ retried then
        s.putArray { s.array with test := some { tr with
          current := tr.current.map fun q => if q.1 = k then (k, true, branch) else q } }
      else
        let s := s.putArray { s.array with test := some { tr with current := tr.current.filter fun q => q.1 != k } }
        let s := s.testReturn k
        let s := s.testReport k code
        let s := if tr.reinstate then (if code = R_PASS then s.reinstateTriad k else s)
          else if code = R_FAIL then s.setTriad k fun x => { x with testFail := true } else s
        (s.testNext branch (tr.queues.getD branch [])).testEnd

/-- SELFTEST_TRIAD_DONE (R76, R79): PASS, FAIL or INCONCLUSIVE as measured on the triad under test. -/
def execSelftestTriadDone (k : Fin 72) (result : TestResult) : State → Host.Outcome State Fault Refusal :=
  act (finishTest k.val (match result with | .pass => R_PASS | .fail => R_FAIL | .inconclusive => R_INCONCLUSIVE))

/-- The queues of a self-test scope: 0 one triad, 1 one die, 2 the array (R77). -/
def scopeQueues (scope index : Nat) : List (List Nat) :=
  if scope = 0 then [[index]] else if scope = 1 then [dieTriads index] else (List.range 4).map dieTriads

/-- A self-test or reinstatement runs. -/
def State.testing (s : State) : Bool := s.array.test.isSome

/-- Refusals of SELFTEST (Table 11.5). -/
def selftestCheck (scope index : Nat) (s : State) : Option Verdict :=
  refusals [(decide (2 < scope) || (scope == 0 && decide (71 < index)) || (scope == 1 && decide (3 < index))
      || (scope == 2 && index != 0), (BAD_PARAM, [])),
    (s.testing, (BUSY, []))]

def cmdSelftest : Cmd where
  op := 0xD0
  stages := stagesI
  len := lenIs 4
  check := fun r s => selftestCheck (byteAt r.params 0) (byteAt r.params 1) s
  effect := fun r s => (s.testStart false none (scopeQueues (byteAt r.params 0) (byteAt r.params 1)), [])

def execSelftest (r : Req) : State → Host.Outcome State Fault Refusal := act (cmdSelftest.run r)

/-- Refusals of REINSTATE (R99). -/
def reinstateCheck (scope index : Nat) (s : State) : Option Verdict :=
  let bad := decide (1 < scope) || (scope == 0 && (decide (71 < index) || (s.triad index).state != RETIRED_))
    || (scope == 1 && (decide (3 < index) || !s.on (bitF Reg.VOTE_DIE index)))
  refusals [(bad, (BAD_PARAM, [])), (s.testing, (BUSY, []))]

/-- The triads a reinstatement tests: the named one, or the die's RETIRED ones in ascending order (R100). -/
def State.reinstateQueue (s : State) (scope index : Nat) : List (List Nat) :=
  if scope = 0 then [[index]] else [(dieTriads index).filter fun k => (s.triad k).state == RETIRED_]

def cmdReinstate : Cmd where
  op := 0xD1
  stages := stagesI
  len := lenIs 4
  check := fun r s => reinstateCheck (byteAt r.params 0) (byteAt r.params 1) s
  effect := fun r s =>
    let scope := byteAt r.params 0
    let i := byteAt r.params 1
    (s.testStart true (if scope = 1 then some i else none) (s.reinstateQueue scope i), [])

def execReinstate (r : Req) : State → Host.Outcome State Fault Refusal := act (cmdReinstate.run r)

/-- ABORT with the DIAG scope (Table 11.6): triads under test go back with the result SKIPPED; the scope ends. -/
def State.abortDiag (s : State) : State :=
  match s.array.test with
  | none => s
  | some tr =>
    let s := s.each (fun q s => (s.testReturn q.1).testReport q.1 R_SKIPPED) tr.current
    match s.array.test with
    | some tr' => (s.putArray { s.array with test := some { tr' with current := [], queues := [] } }).testEnd
    | none => s

/-! ### Sensing commands (Table 11.5) -/

def cmdSetProfile : Cmd where
  op := 0x20
  stages := stagesI
  len := lenIs 4
  check := fun r _ => refusals [(decide (2 < byteAt r.params 0), (BAD_PARAM, []))]
  effect := fun r s => (s.requestProfile (byteAt r.params 0), [])

def execSetProfile (r : Req) : State → Host.Outcome State Fault Refusal := act (cmdSetProfile.run r)

/-- A range field: 0xFF leaves it unchanged (Table 11.5). -/
def putRange (f : Fld) (code : Nat) (s : State) : State := if code = 0xFF then s else s.setF f code

def rangesCheck (a g : Nat) : Option Verdict :=
  refusals [((decide (4 < a) && a != 0xFF) || (decide (5 < g) && g != 0xFF), (BAD_PARAM, []))]

def cmdSetRanges : Cmd where
  op := 0x21
  stages := stagesI
  len := lenIs 4
  check := fun r _ => rangesCheck (byteAt r.params 0) (byteAt r.params 1)
  effect := fun r s => (putRange ARRAY_RANGE.GYR_RANGE (byteAt r.params 1)
    (putRange ARRAY_RANGE.ACC_RANGE (byteAt r.params 0) s), [])

def execSetRanges (r : Req) : State → Host.Outcome State Fault Refusal := act (cmdSetRanges.run r)

/-- The maps that read from the triads' states. -/
def State.activeMap (s : State) (j : Nat) : Word := s.triadMap HEALTHY j

def cmdArrayStatus : Cmd where
  op := 0x22
  stages := stagesI
  len := lenIs 0
  check := fun _ _ => none
  effect := fun _ s => (s, s.regBytes [Reg.ARRAY_PROFILE, Reg.ARRAY_RANGE, Reg.ARRAY_STATUS]
    ++ bytesOfWords [s.activeMap 0, s.activeMap 1, s.activeMap 2]
    ++ s.regBytes [Reg.TEMP_01, Reg.TEMP_23, Reg.TEMP_ASIC, Reg.DRIVE_STATUS])

def execArrayStatus (r : Req) : State → Host.Outcome State Fault Refusal := act (cmdArrayStatus.run r)

/-- The deltas of SET_CAL_DELTA: channel, bias delta, scale delta. -/
def deltasOf (p : List Byte) : List (Nat × Int × Int) :=
  (List.range (byteAt p 1)).map fun i =>
    (byteAt p 0 + i, (wordAt p (4 + 8 * i)).toInt, (wordAt p (8 + 8 * i)).toInt)

/-- A delta lies within the limits of R65 (Table 11.5). -/
def deltaOk (d : Nat × Int × Int) : Bool :=
  let lim : Int := if d.1 < 144 then 671088 else 131072
  decide (-lim ≤ d.2.1) && decide (d.2.1 ≤ lim) && decide (-83886 ≤ d.2.2) && decide (d.2.2 ≤ 83886)

def calDeltaLen (p : List Byte) : Bool := decide (4 ≤ p.length) && p.length == 4 + 8 * byteAt p 1

def calDeltaCheck (p : List Byte) : Option Verdict :=
  let n := byteAt p 1
  if n = 0 ∨ 126 < n ∨ 216 < byteAt p 0 + n then some (BAD_PARAM, [])
  else match (deltasOf p).find? (fun d => !deltaOk d) with
    | some d => some (BAD_PARAM, reason d.1)
    | none => none

/-- New deltas wait for the next committed sample boundary (R65). -/
def calDeltaApply (p : List Byte) (s : State) : State :=
  s.putArray { s.array with newDeltas := s.array.newDeltas ++ deltasOf p }

def cmdSetCalDelta : Cmd where
  op := 0x23
  stages := stagesI
  len := calDeltaLen
  check := fun r _ => calDeltaCheck r.params
  effect := fun r s => (calDeltaApply r.params s, [])

def execSetCalDelta (r : Req) : State → Host.Outcome State Fault Refusal := act (cmdSetCalDelta.run r)

/-- A bit outside the defined fields is set. -/
def reservedSet (a : Nat) (w : Word) : Bool := w &&& ~~~ rwMask a != 0

def sentinelCheck (p : List Byte) : Option Verdict :=
  refusals [(reservedSet Reg.SENTINEL_CTRL (wordAt p 0) || bits (wordAt p 0) 0 2 == 3, (BAD_PARAM, []))]

def cmdSentinelConfig : Cmd where
  op := 0x24
  stages := stagesLCI
  len := lenIs 4
  check := fun r _ => sentinelCheck r.params
  effect := fun r s => (s.putWritable Reg.SENTINEL_CTRL (wordAt r.params 0), [])

def execSentinelConfig (r : Req) : State → Host.Outcome State Fault Refusal := act (cmdSentinelConfig.run r)

/-- z of a channel as TRIAD_Z shows it: int16, 1/256 per LSB, saturating. -/
def Chan.zWord (c : Chan) : Nat :=
  let m : Int := sqrtRound (c.z2 * 65536)
  (BitVec.ofInt 16 (clampInt (-32768) 32767 (if c.zNeg then -m else m))).toNat

/-- TRIAD_INFO, TRIAD_Z_XY and TRIAD_Z_Z of a triad; a number above 71 reads 0. -/
def State.triadWords (s : State) (k : Nat) : List Word :=
  if 71 < k then [0, 0, 0]
  else
    let tr := s.triad k
    let z (a : Nat) : Nat := (s.chan (3 * k + a)).zWord
    [w32 (tr.state + 2 ^ 8 * min (tr.p / 40) 255 + 2 ^ 16 * tr.reason), w32 (z 0 + 2 ^ 16 * z 1), w32 (z 2)]

def cmdTriadRead : Cmd where
  op := 0xD2
  stages := stagesI
  len := lenIs 1
  check := fun r _ => refusals [(decide (71 < byteAt r.params 0), (BAD_PARAM, []))]
  effect := fun r s => (s, bytesOfWords (s.triadWords (byteAt r.params 0)))

def execTriadRead (r : Req) : State → Host.Outcome State Fault Refusal := act (cmdTriadRead.run r)

end Sys2Proof.Machine
end

