-- ==== Sys2Proof/Machine/Time.lean ====
section
/-!
DEFINITION. Module time and its servo (chapter 14): steps and rates, timestamps, peer delay; the time commands and
events.
-/
namespace Sys2Proof.Machine

def State.putTime (p : TimePart) (s : State) : State := { s with mtime := p }

/-- Servo states (TIME_STATUS.SERVO). -/
abbrev SV_FREE : Nat := 0
abbrev SV_ACQUIRING : Nat := 1
abbrev SV_LOCKED : Nat := 2
abbrev SV_HOLDOVER : Nat := 3

/-! ### Instants -/

/-- Units of 2^-16 ns per nanosecond. -/
abbrev nsFrac : Nat := 65536

/-- The instant of a 96-bit layout word in 2^-16 ns; nanoseconds of a whole second or more are left open. -/
def ofLayout (w : Nat) : Nat :=
  let ns := w / 2 ^ 16 % 2 ^ 32
  if ns < 1000000000 then (w / 2 ^ 48 * 1000000000 + ns) * nsFrac + w % 2 ^ 16 else Config.timeOfExcess w

/-- Module time in 2^-16 ns, rounded (R317). -/
def State.nowFrac (s : State) : Int := roundEven ((s.time : Rat) / 2 ^ 32)

/-- Module time now in the layout of R112. -/
def State.nowLayout (s : State) : Nat := layout s.nowFrac

/-- TIME_NOW_0 to TIME_NOW_2 (R317). -/
def State.timeNow (s : State) : List Word := stampWords s.nowFrac

/-- A timestamp latched at the MAC, referred to the medium (R320): 296 ns later on egress, 612 ns earlier on ingress. -/
def egressTime (latched : Nat) : Nat := layout (ofLayout latched + 296 * nsFrac)
def ingressTime (latched : Nat) : Nat := layout ((ofLayout latched : Int) - 612 * nsFrac)

/-! ### Applying steps and rates (R318) -/

/-- Store module time in 2^-48 ns, modulo 2^48 s. -/
def State.setTime (t : Int) (s : State) : State := { s with time := (t % (timeModulus : Int)).toNat }

/-- A step has been made, by the servo or by TIME_SET (R321, R325). -/
def State.stepMade (s : State) : State :=
  ((s.setF TIME_STATUS.NIGHT_ESTIMATE 0).incSat TIME_COUNTS.STEPS).raise Reg.TIME_EVENTS 0

/-- A pending step of the servo (R321 rule 1). -/
def State.applyDelta (s : State) : State :=
  match s.mtime.delta with
  | some d =>
    let s := (s.putTime { s.mtime with delta := none }).setTime ((s.time : Int) + d * 2 ^ 32)
    (s.setF TIME_STATUS.STEP_ARMED 0).stepMade
  | none => s

/-- TIME_SET's tick T has come. -/
def State.setDue (s : State) : Bool :=
  match s.mtime.set with
  | some p => decide (p.1 ≤ s.tick)
  | none => false

def State.applySet (s : State) : State :=
  match s.mtime.set with
  | some p =>
    if p.1 ≤ s.tick then ((s.putTime { s.mtime with set := none }).setTime ((p.2 : Int) * 2 ^ 32)).stepMade else s
  | none => s

/-- Pending rates: TIME_ADJUST's and the servo's. -/
def State.applyRate (s : State) : State :=
  match s.mtime.hostRate.or s.mtime.servoRate with
  | some r => (s.putTime { s.mtime with hostRate := none, servoRate := none }).setReg Reg.TIME_RATE (wordOfInt r)
  | none => s

/-- TIME_STEP_APPLY (R318, R326): at tick t_s every step and rate change that is due takes effect; one TIME record, and
one of cause 6 in the ring. -/
def execTimeStepApply : State → Host.Outcome State Fault Refusal := act fun s =>
  let step := s.mtime.delta.isSome || s.setDue
  let rate := (s.mtime.hostRate.or s.mtime.servoRate).isSome
  if step || rate then
    let s := s.applyDelta.applySet.applyRate
    (s.commitOne (s.timeRec (if step then 2 else 3) s.tick)).mappingChanged
  else s

/-- TIME_SECOND_RECORD (R239): at a tick that is a whole multiple of 40 000. -/
def execTimeSecondRecord : State → Host.Outcome State Fault Refusal := act fun s =>
  if s.noon then
    let r := s.timeRec 1 s.tick
    if s.on QUEUE_CFG.TIME_EN then s.commitOne r else s.ringOnly r
  else s

/-! ### The servo (R319, R321, R322) -/

def State.servoState (s : State) : Nat := s.fld TIME_STATUS.SERVO

/-- Change the servo's state; entry to LOCKED and exit from it set TIME_EVENTS.LOCK. -/
def State.setServo (v : Nat) (s : State) : State :=
  let old := s.servoState
  let s := s.setF TIME_STATUS.SERVO v
  s.when ((old == SV_LOCKED) != (v == SV_LOCKED)) (State.raise Reg.TIME_EVENTS 2)

/-- The servo runs: firmware in Imago, SOURCE = GPTP or the pair domain. -/
def State.servoOn (s : State) : Bool :=
  s.noon && s.imago && (s.fld TIME_CFG.SOURCE == 1 || s.mtime.override)

/-- A change of SOURCE or DOMAIN (R319): the step is armed, pending changes of the servo go, and the servo starts
again. -/
def State.rearm (s : State) : State :=
  let s := s.setF TIME_STATUS.STEP_ARMED 1
  let s := s.putTime { s.mtime with delta := none, servoRate := none, good := 0, bad := 0 }
  s.setServo (if s.fld TIME_CFG.SOURCE = 1 ∨ s.mtime.override = true then SV_ACQUIRING else SV_FREE)

/-- Lock counting of R322: `below` says |o| < TIME_LOCK_TH, `refused` that the jump was refused. -/
def State.countLock (below refused : Bool) (s : State) : State :=
  let s := s.when (s.servoState == SV_HOLDOVER || s.servoState == SV_FREE) (State.setServo SV_ACQUIRING)
  let good := if below then s.mtime.good + 1 else 0
  let bad := if below then 0 else s.mtime.bad + 1
  let leave := s.servoState == SV_LOCKED && (refused || decide (2 ≤ bad))
  let enter := s.servoState != SV_LOCKED && decide (8 ≤ good)
  let s := s.putTime { s.mtime with good := if leave then 0 else good, bad := bad }
  if leave then s.setServo SV_ACQUIRING else if enter then s.setServo SV_LOCKED else s

/-- A jump is refused (R321 rule 2). -/
def State.refuseJump (s : State) : State :=
  let s := (s.setF TIME_STATUS.JUMP_REFUSED 1).commitOne (s.timeRec 4 s.tick)
  (s.incSat TIME_COUNTS.REFUSED).raise Reg.TIME_EVENTS 1

/-- The bound of RATE: 200 ppm. -/
abbrev rateLimit : Int := 858993

/-- Rate correction (R321 rule 3). -/
def State.correctRate (o : Int) (s : State) : State :=
  let now := s.mtime.servoRate.getD s.rate
  let p := Config.servoStep s.mtime.integral o now
  let r := clampInt (-rateLimit) rateLimit p.2
  let s := (s.setF TIME_STATUS.RATE_LIMIT (b01 (r != p.2))).setF TIME_STATUS.JUMP_REFUSED 0
  s.putTime { s.mtime with integral := p.1, servoRate := if r = s.rate then none else some r }

/-- An offset in 2^-16 ns (R321): the first rule that applies. -/
def State.measure (o : Int) (s : State) : State :=
  let s := s.setReg Reg.TIME_OFFSET (wordOfInt (sat32 (roundEven ((o : Rat) / nsFrac))))
  let below := decide (o.natAbs < s.fld TIME_LOCK_TH.LOCK_TH * nsFrac)
  if s.on TIME_STATUS.STEP_ARMED && !below then
    (s.putTime { s.mtime with delta := some (-o) }).countLock below false
  else if s.fld TIME_STEP_TH.STEP_TH * nsFrac < o.natAbs then s.refuseJump.countLock below true
  else (s.correctRate o).countLock below false

/-- SYNC_FOLLOW_UP (R321): `latched` is module time at the MAC on Sync ingress, `origin` is preciseOriginTimestamp +
correctionField; `oneStep` is a one-step Sync, discarded and counted (R307). -/
def execSyncFollowUp (latched origin : BitVec 96) (oneStep : Bool) : State → Host.Outcome State Fault Refusal :=
  act fun s =>
    if oneStep then s.when s.noon (State.incSat T1S_DISCARDS.ONE_STEP)
    else if s.servoOn then
      s.measure (((ofLayout (ingressTime latched.toNat) : Nat) : Int) - (ofLayout origin.toNat : Nat) - s.mtime.linkDelay)
    else s

/-- SERVO_HOLDOVER (R322). -/
def execServoHoldover : State → Host.Outcome State Fault Refusal := act fun s =>
  s.when s.servoOn fun s => (s.putTime { s.mtime with good := 0, bad := 0 }).setServo SV_HOLDOVER

/-- AON_CALIBRATION (R324): the 1 s average of the AON period, 2^-12 ns. -/
def execAonCalibration (period : Word) : State → Host.Outcome State Fault Refusal := act fun s =>
  s.when s.noon (State.setReg Reg.NIGHT_AON period)

/-! ### gPTP messages and the TX timestamp queue (R320, R323) -/

/-- The EtherType and the destination of gPTP (Table 14.2): 01-80-C2-00-00-0E, first byte transmitted lowest. -/
abbrev PTP_ETHERTYPE : Nat := 0x88F7
abbrev PTP_DEST : BitVec 48 := 0x0E0000C28001

/-- The domain the module follows. -/
def State.ptpDomain (s : State) : Nat := if s.mtime.override then s.fld PAIR_CFG.DOMAIN else s.fld TIME_CFG.DOMAIN

/-- A gPTP frame. -/
def ptpFrame (kind domain seq time : Nat) (stamp frees : Option (Nat × Nat)) : Frame :=
  { etherType := PTP_ETHERTYPE, dest := PTP_DEST, payload := Config.ptpMessage kind domain seq time
    stamp := stamp, frees := frees }

/-- PTP is served: the firmware of Imago in Noon. -/
def State.ptpOn (s : State) : Bool := s.noon && s.imago

/-- Free the first entry of a kind and identifier. -/
def freeTs (k : Nat × Nat) : List TsEntry → List TsEntry
  | [] => []
  | e :: es => if (e.kind, e.id) = k then es else e :: freeTs k es

/-- PDELAY_REQ (R307): the module answers as responder; `latched` is module time at the MAC on ingress. -/
def execPdelayReq (latched : BitVec 96) (seq : BitVec 16) : State → Host.Outcome State Fault Refusal := act fun s =>
  s.when s.ptpOn (State.sendFrame
    (ptpFrame 3 s.ptpDomain seq.toNat (ingressTime latched.toNat) (some (2, seq.toNat)) none))

/-- PDELAY_REQ_TRANSMIT (R307): a new Pdelay_Req; the timestamp of an earlier one is of no more use. -/
def execPdelayReqTransmit : State → Host.Outcome State Fault Refusal := act fun s =>
  s.when s.ptpOn fun s =>
    let q := s.mtime.reqSeq
    let s := s.putTime { s.mtime with reqSeq := q + 1, ts := s.mtime.ts.filter (·.kind != 3) }
    s.sendFrame (ptpFrame 2 s.ptpDomain q.toNat 0 (some (3, q.toNat)) none)

/-- PDELAY_RESP (R321): Pdelay_Resp and its follow-up give t2 and t3; `latched` is module time at the MAC on ingress of
the Pdelay_Resp. -/
def execPdelayResp (latched t2 t3 : BitVec 96) : State → Host.Outcome State Fault Refusal := act fun s =>
  let id := (s.mtime.reqSeq - 1).toNat
  match s.mtime.ts.find? (fun e => e.kind == 3 && e.id == id) with
  | some e =>
    s.when s.ptpOn fun s => s.putTime { s.mtime with
      linkDelay := Config.linkDelay e.time t2.toNat t3.toNat (ingressTime latched.toNat)
      ts := freeTs (3, id) s.mtime.ts }
  | none => s

/-- TX_TIMESTAMP (R323): the egress timestamp of the oldest frame that waits for one completes. Full: it is dropped and
no follow-up is sent. -/
def execTxTimestamp (latched : BitVec 96) : State → Host.Outcome State Fault Refusal := act fun s =>
  match s.mtime.awaiting with
  | [] => s
  | (kind, id) :: rest =>
    let s := s.putTime { s.mtime with awaiting := rest }
    if 4 ≤ s.mtime.ts.length then (s.incSat TS_QUEUE.OVERFLOWS).raise Reg.T1S_EVENTS 3
    else
      let t := egressTime latched.toNat
      let s := s.putTime { s.mtime with ts := s.mtime.ts ++ [{ kind := kind, id := id, time := t }] }
      let s := s.raise Reg.T1S_EVENTS 2
      if kind = 1 then s.sendFrame (ptpFrame 1 (s.fld PAIR_CFG.DOMAIN) id t none (some (1, id)))
      else if kind = 2 then s.sendFrame (ptpFrame 4 s.ptpDomain id t none (some (2, id)))
      else s

/-- HOST_TS_EXPIRY (R323): the oldest HOST entry has gone unread for 1 s. -/
def execHostTsExpiry : State → Host.Outcome State Fault Refusal := act fun s =>
  match s.mtime.ts.find? (·.kind == 0) with
  | some e => (s.putTime { s.mtime with ts := freeTs (0, e.id) s.mtime.ts }).incSat TS_QUEUE.EXPIRED
  | none => s

/-- TS_QUEUE as it reads. -/
def State.tsQueue (s : State) : Word :=
  putBits (putBits (s.reg Reg.TS_QUEUE) 0 3 s.mtime.ts.length) 4 3 (s.mtime.ts.countP (·.kind == 0))

/-! ### The time commands (R325) -/

def cmdTimeGet : Cmd where
  op := 0x90
  stages := stagesLCI
  len := lenIs 4
  check := fun r _ => if numAt r.params 0 4 < 2 then none else some (BAD_PARAM, [])
  effect := fun r s =>
    let wire := r.origin == .twoWire
    (s, leBytes 12 (if wire then s.nowLayout else r.ingress) ++ leBytes 8 s.tick ++ bytesOf (s.reg Reg.TIME_STATUS)
      ++ [BitVec.ofNat 8 (b01 !wire), 0, 0, 0])

/-- Mark the frame queued last for a HOST timestamp. -/
def stampLast (id : Nat) : List Frame → List Frame
  | [] => []
  | [f] => [{ f with stamp := some (0, id) }]
  | f :: fs => f :: stampLast id fs

/-- TIME_GET (Table 14.6): with TX_TS over T1S the reply frame asks for its egress timestamp. -/
def execTimeGet (r : Req) : State → Host.Outcome State Fault Refusal := act fun s =>
  let ask := cmdTimeGet.accepts r s && decide (byteAt r.params 0 = 1) && r.origin != .twoWire
  let s := cmdTimeGet.run r s
  s.when ask fun s => s.putLink { s.link with txFrames := stampLast (0x90 * 256 + r.tag.toNat) s.link.txFrames }

def timeSetCheck (p : List Byte) (s : State) : Option Verdict :=
  let t := numAt p 12 8
  refusals [(t != 0 && (decide (t ≤ s.tick) || decide (s.tick + 2 ^ 32 < t)), (BAD_PARAM, [])),
    (s.fld TIME_CFG.SOURCE != 2, (REJECTED, reason 1))]

def cmdTimeSet : Cmd where
  op := 0x91
  stages := stagesI
  len := lenIs 20
  check := fun r s => timeSetCheck r.params s
  effect := fun r s =>
    let t := numAt r.params 12 8
    (s.putTime { s.mtime with set := some (if t = 0 then s.tick + 1 else t, ofLayout (numAt r.params 0 12)) }, [])

def execTimeSet (r : Req) : State → Host.Outcome State Fault Refusal := act (cmdTimeSet.run r)

/-- The RATE of TIME_ADJUST; none for unchanged. -/
def adjustRate (p : List Byte) : Option Int := if numAt p 0 4 = 0x80000000 then none else some (wordAt p 0).toInt

def timeAdjustCheck (p : List Byte) (s : State) : Option Verdict :=
  match adjustRate p with
  | some r => refusals [(decide (rateLimit < r) || decide (r < -rateLimit), (BAD_PARAM, [])),
      (s.fld TIME_CFG.SOURCE != 2, (REJECTED, reason 1))]
  | none => none

def timeAdjustApply (p : List Byte) (s : State) : State :=
  let s := match adjustRate p with
    | some r => s.putTime { s.mtime with hostRate := some r }
    | none => s
  s.when (bit (wordAt p 4) 0) (State.setF TIME_STATUS.STEP_ARMED 1)

def cmdTimeAdjust : Cmd where
  op := 0x92
  stages := stagesI
  len := lenIs 8
  check := fun r s => timeAdjustCheck r.params s
  effect := fun r s => (timeAdjustApply r.params s, [])

def execTimeAdjust (r : Req) : State → Host.Outcome State Fault Refusal := act (cmdTimeAdjust.run r)

def stepThOk (n : Nat) : Bool := decide (10000 ≤ n) && decide (n ≤ 1000000000)
def lockThOk (n : Nat) : Bool := decide (20 ≤ n) && decide (n ≤ 100000)

/-- Store TIME_CFG; a change of SOURCE or DOMAIN arms the step (R319). -/
def State.putTimeCfg (w : Word) (s : State) : State :=
  let old := s.reg Reg.TIME_CFG
  let s := s.putWritable Reg.TIME_CFG w
  s.when (s.reg Reg.TIME_CFG != old) State.rearm

def cmdTimeConfig : Cmd where
  op := 0x93
  stages := stagesI
  len := lenIs 12
  check := fun r _ => if bits (wordAt r.params 0) 0 2 ≠ 3 ∧ stepThOk (numAt r.params 4 4) ∧ lockThOk (numAt r.params 8 4)
    then none else some (BAD_PARAM, [])
  effect := fun r s => (((s.putTimeCfg (wordAt r.params 0)).setReg Reg.TIME_STEP_TH (wordAt r.params 4)).setReg
    Reg.TIME_LOCK_TH (wordAt r.params 8), [])

def execTimeConfig (r : Req) : State → Host.Outcome State Fault Refusal := act (cmdTimeConfig.run r)

/-- The HOST entries as TS_READ returns them. -/
def hostEntries (ts : List TsEntry) : List Byte :=
  (ts.filter (·.kind == 0)).flatMap fun e => leBytes 4 e.id ++ leBytes 12 e.time

def cmdTsRead : Cmd where
  op := 0x94
  stages := stagesI
  len := lenIs 0
  check := fun _ _ => none
  effect := fun _ s => (s.putTime { s.mtime with ts := s.mtime.ts.filter (·.kind != 0) },
    leBytes 4 (s.mtime.ts.countP (·.kind == 0)) ++ hostEntries s.mtime.ts)

def execTsRead (r : Req) : State → Host.Outcome State Fault Refusal := act (cmdTsRead.run r)

/-- A bus write to a register of page 0x05 (Table 14.8): a value out of range leaves the field as it was. -/
def State.writeTime (a : Nat) (w : Word) (s : State) : State :=
  if a = Reg.TIME_CFG then
    s.putTimeCfg (if bits w 0 2 = 3 then putBits w 0 2 (s.fld TIME_CFG.SOURCE) else w)
  else if a = Reg.TIME_STEP_TH then s.when (stepThOk w.toNat) (State.setReg a w)
  else if a = Reg.TIME_LOCK_TH then s.when (lockThOk w.toNat) (State.setReg a w)
  else s

end Sys2Proof.Machine
end

