-- ==== Sys2Proof/Machine/T1s.lean ====
section
/-!
DEFINITION. The T1S link (chapter 14): PLCA, transmit opportunities, the record stream, corrupted frames.
-/
namespace Sys2Proof.Machine

def State.putT1s (t : T1sPart) (s : State) : State := { s with t1s := t }

/-! ### PLCA (R309, R310) -/

/-- PLCA is enabled by the word in force; node ID 0 makes the module coordinator. -/
def State.plcaOn (s : State) : Bool := bit s.t1s.plca 0
def State.plcaCoordinator (s : State) : Bool := s.plcaOn && bits s.t1s.plca 1 3 == 0

/-- The written word takes effect; a role without PLCA sends by CSMA/CD. -/
def State.plcaApply (s : State) : State :=
  let s := s.putT1s { s.t1s with plca := s.reg Reg.T1S_PLCA }
  let s := if s.plcaOn then s else (s.setF T1S_STATUS.PLCA_OK 0).setF T1S_STATUS.CSMA 1
  if s.plcaCoordinator then s else s.setF T1S_STATUS.COORDINATOR 0

/-- PLCA is in step: PLCA_OK is set, and source 100 pends where it was clear. -/
def State.plcaInStep (s : State) : State :=
  let was := s.on T1S_STATUS.PLCA_OK
  let s := (s.setF T1S_STATUS.PLCA_OK 1).setF T1S_STATUS.CSMA 0
  s.when (!was) (State.raise Reg.T1S_EVENTS 0)

/-- BEACON_RECEIVED (R309, R310). -/
def execBeaconReceived : State → Host.Outcome State Fault Refusal := act fun s =>
  s.when s.noon fun s =>
    let s := s.plcaApply
    s.when s.plcaOn State.plcaInStep

/-- BEACON_TRANSMIT (R309, R310): the module's own BEACON as coordinator. A written role applies with it. -/
def execBeaconTransmit : State → Host.Outcome State Fault Refusal := act fun s =>
  if s.noon && s.plcaCoordinator then
    (s.plcaInStep.setF T1S_STATUS.COORDINATOR 1).plcaApply
  else s

/-- BEACON_LOSS (R310). -/
def execBeaconLoss : State → Host.Outcome State Fault Refusal := act fun s =>
  if s.noon && s.on T1S_STATUS.PLCA_OK then
    ((s.setF T1S_STATUS.PLCA_OK 0).setF T1S_STATUS.CSMA 1).raise Reg.T1S_EVENTS 0
  else s

/-- A write to T1S_PLCA (R309). -/
def State.writePlca (w : Word) (s : State) : State :=
  let n := bits w 8 4
  if n = 0 ∨ 8 < n ∨ bits w 16 8 < 16 then s.setF T1S_STATUS.REFUSED BAD_PARAM
  else
    let s := s.putWritable Reg.T1S_PLCA w
    if s.plcaOn then s else s.plcaApply

/-- T1S_PLCA_WRITE (R309). -/
def execT1sPlcaWrite (w : Word) : State → Host.Outcome State Fault Refusal := act fun s => s.when s.noon (State.writePlca w)

/-- CORRUPTED_FRAME (R313). -/
def execCorruptedFrame (fcs : Bool) : State → Host.Outcome State Fault Refusal := act fun s =>
  s.when s.noon fun s =>
    (s.incSat (if fcs then T1S_COUNTS_RX.FCS else T1S_COUNTS_RX.CODING)).raise Reg.T1S_EVENTS 1

/-! ### The record stream (R315) -/

/-- The EtherType of stream frames. -/
abbrev STREAM_ETHERTYPE : Nat := 0x88B6

/-- NODE of the stream header (Table 14.3). -/
def State.nodeByte (s : State) : Nat := if s.plcaOn then bits s.t1s.plca 1 3 else 0xFF

/-- The stream header (Table 14.3). -/
def streamHeader (typ node fseq bytes count : Nat) : List Byte :=
  leBytes 2 (typ + 2 ^ 8 * node) ++ leBytes 2 fseq ++ leBytes 2 bytes ++ leBytes 2 (count % 256)

/-- Record bytes a frame may hold: MAX_BYTES, 274 while a pair is active. -/
def State.streamLimit (s : State) : Nat :=
  let m := s.fld STREAM_CFG.MAX_BYTES
  if s.on T1S_STATUS.PAIR_LIMIT then min m 274 else m

/-- How many of the first records fit in a number of bytes. -/
def fitCount (limit : Nat) : List (List Word) → Nat
  | [] => 0
  | r :: rs => if 4 * r.length ≤ limit then 1 + fitCount (limit - 4 * r.length) rs else 0

/-- Records of the open stream frame; a record longer than the limit goes alone. -/
def State.streamCount (s : State) : Nat :=
  if s.queue.visible.isEmpty then 0 else max 1 (fitCount s.streamLimit (s.queue.visible.map (·.words)))

/-- The streamer drains the queue (R234). -/
def State.streaming (s : State) : Bool := s.queue.sink == 1 && s.imago

/-- Records of the stream frame that is closed and ready; 0 for none: by age, or because the next record does not
fit. -/
def State.streamReady (s : State) : Nat :=
  if ¬ s.streaming then 0
  else if s.t1s.closed ≠ 0 then min s.t1s.closed s.queue.visible.length
  else if s.streamCount < s.queue.visible.length then s.streamCount else 0

/-- The stream frame of the first `n` visible records. -/
def State.streamFrame (s : State) (n : Nat) : Frame :=
  let ws := (s.queue.visible.take n).flatMap (·.words)
  { etherType := STREAM_ETHERTYPE
    dest := BitVec.ofNat 48 ((s.reg Reg.STREAM_DEST_LO).toNat + 2 ^ 32 * (s.fld STREAM_DEST_HI.MAC))
    payload := streamHeader 1 s.nodeByte (s.fld STREAM_SEQ.FSEQ) (4 * ws.length) n ++ bytesOfWords ws }

/-- The first `n` visible records leave the queue. -/
def State.dropStream (n : Nat) (s : State) : State :=
  (({ s with queue := { s.queue with visible := s.queue.visible.drop n } }).putT1s { s.t1s with closed := 0 }).syncSink

/-- STREAM_FRAME_AGE (R315): the first record of the open frame has waited MAX_AGE ms. -/
def execStreamFrameAge : State → Host.Outcome State Fault Refusal := act fun s =>
  if s.noon && s.streaming && s.fld STREAM_CFG.MAX_AGE != 0 && s.t1s.closed == 0 then
    s.putT1s { s.t1s with closed := s.streamCount }
  else s

/-! ### Transmit opportunities (R307, R310, R312) -/

/-- A frame has been sent: it stands as the last one; its egress timestamp is awaited; it frees an entry. -/
def State.frameSent (f : Frame) (s : State) : State :=
  let s := s.putT1s { s.t1s with sent := some f }
  let s := match f.stamp with
    | some k => s.putTime { s.mtime with awaiting := s.mtime.awaiting ++ [k] }
    | none => s
  match f.frees with
  | some k => s.putTime { s.mtime with ts := freeTs k s.mtime.ts }
  | none => s

/-- The partner's MAC address (PAIR_PARTNER). -/
def State.partnerMac (s : State) : BitVec 48 :=
  BitVec.ofNat 48 ((s.reg Reg.PAIR_PARTNER_LO).toNat + 2 ^ 32 * s.fld PAIR_PARTNER_HI.MAC)

/-- The hindwing's frame of ready contributions, up to 6 (R333). -/
def State.contribFrame (s : State) : Frame :=
  let cs := s.pair.ready.take 6
  { etherType := STREAM_ETHERTYPE, dest := s.partnerMac
    payload := streamHeader 2 s.nodeByte s.t1s.seq2.toNat (40 * cs.length) cs.length ++ cs.flatten }

/-- The contributions of one frame leave. -/
def State.dropContribs (s : State) : State := { s with pair := { s.pair with ready := s.pair.ready.drop 6 } }

/-- A hindwing's opportunity with contributions ready. -/
def State.sendContribs (outcome : TxOutcome) (s : State) : State :=
  match outcome with
  | .sent =>
    let f := s.contribFrame
    let s := (s.dropContribs.frameSent f)
    s.putT1s { s.t1s with seq2 := s.t1s.seq2 + 1 }
  | .tooLate => s.incSat T1S_COUNTS_TX.DEFERRALS
  | .collisions => s.dropContribs.incSat T1S_COUNTS_TX.COLLISIONS

/-- TRANSMIT_OPPORTUNITY (R307, R312, R333): one ready frame at most; a hindwing's contributions first, then queued
frames, then the stream. -/
def execTransmitOpportunity (outcome : TxOutcome) : State → Host.Outcome State Fault Refusal := act fun s =>
  if ¬ s.noon then s
  else if ¬ s.pair.ready.isEmpty then s.sendContribs outcome
  else
    let n := s.streamReady
    match s.link.txFrames, n with
    | [], 0 => s
    | [], n + 1 =>
      match outcome with
      | .sent =>
        let f := s.streamFrame (n + 1)
        ((s.dropStream (n + 1)).frameSent f).setF STREAM_SEQ.FSEQ (s.fld STREAM_SEQ.FSEQ + 1)
      | .tooLate => s.incSat T1S_COUNTS_TX.DEFERRALS
      | .collisions => (s.dropStream (n + 1)).incSat T1S_COUNTS_TX.COLLISIONS
    | f :: rest, _ =>
      match outcome with
      | .sent => (s.putLink { s.link with txFrames := rest }).frameSent f
      | .tooLate => s.incSat T1S_COUNTS_TX.DEFERRALS
      | .collisions => (s.putLink { s.link with txFrames := rest }).incSat T1S_COUNTS_TX.COLLISIONS

/-- A bus write to a register of page 0x06 (Table 14.8). -/
def State.writeT1s (a : Nat) (w : Word) (s : State) : State :=
  if a = Reg.T1S_PLCA then s.writePlca w
  else if a = Reg.STREAM_CFG then
    (if 64 ≤ bits w 0 11 ∧ bits w 0 11 ≤ 1492 then s.putWritable a w else s.setF T1S_STATUS.REFUSED BAD_PARAM)
  else if a = Reg.STREAM_DEST_LO ∨ a = Reg.STREAM_DEST_HI then s.putWritable a w
  else s

end Sys2Proof.Machine
end

