-- ==== Sys2Proof/Machine/PairBase.lean ====
section
/-!
DEFINITION. Wingpair (chapter 15): roles, messages, the fusion of a PAIRSAMPLE, and the end of a join or a pair.
-/
namespace Sys2Proof.Machine

def State.putPair (p : PairPart) (s : State) : State := { s with pair := p }

/-- Pair states and roles (PAIR_STATE). -/
abbrev P_OFF : Nat := 0
abbrev P_IDLE : Nat := 1
abbrev P_JOINING : Nat := 2
abbrev P_PAIRED : Nat := 3
abbrev FOREWING : Nat := 1
abbrev HINDWING : Nat := 2

def State.pairState (s : State) : Nat := s.fld PAIR_STATE.STATE
def State.pairRole (s : State) : Nat := s.fld PAIR_STATE.ROLE

/-- JOINING or PAIRED. -/
def State.pairBusy (s : State) : Bool := decide (2 ≤ s.pairState)

/-- A MAC address with its first transmitted byte most significant (R328). -/
def macOrder (m : BitVec 48) : Nat := (leBytes 6 m.toNat).foldl (fun n b => n * 256 + b.toNat) 0

/-- The role in force (R328): auto elects the lower address as forewing. -/
def roleOf (cfg : Nat) (own partner : BitVec 48) : Nat :=
  if cfg = 3 then
    (if macOrder own < macOrder partner then FOREWING else if macOrder partner < macOrder own then HINDWING else 0)
  else cfg

/-- PAIR_STATE follows the configuration while no join or pair is in progress. -/
def State.syncPair (s : State) : State :=
  let role := roleOf (s.fld PAIR_CFG.ROLE) Config.mac s.partnerMac
  (s.setF PAIR_STATE.STATE (if s.fld PAIR_CFG.ROLE = 0 then P_OFF else P_IDLE)).setF PAIR_STATE.ROLE role

/-! ### Noise and geometry (R329, R337) -/

/-- Squares of the profile ratios q of R337. -/
def accRatio2 (p : Nat) : Rat := if p = 0 then 1 else if p = 1 then 2 else 4
def gyrRatio2 (p : Nat) : Rat := if p = 0 then 1 else if p = 1 then 3 / 2 else 3

/-- Squares of q f of this module, accelerometer and gyroscope, f in 1/256. -/
def State.ownNoise2 (s : State) : Rat × Rat :=
  let a : Rat := s.fld VOTE_NOISE.ACC
  let g : Rat := s.fld VOTE_NOISE.GYR
  (accRatio2 s.profile * a * a, gyrRatio2 s.profile * g * g)

/-- Squares of the factors of a received NOISE word. -/
def noise2 (w : Word) : Rat × Rat :=
  let a : Rat := (bits w 0 16 : Nat)
  let g : Rat := (bits w 16 16 : Nat)
  (a * a, g * g)

/-- This module's NOISE word (Table 15.1). -/
def State.noiseWord (s : State) : Word :=
  let n := s.ownNoise2
  w32 (min 0xFFFF (sqrtRound n.1) + 2 ^ 16 * min 0xFFFF (sqrtRound n.2))

/-- 1 / sqrt of the sum of weights, in 1/256. -/
def pairFactor (f h : Rat) : Nat := if f = 0 ∨ h = 0 then 0 else min 0xFFFF (sqrtRound (1 / (1 / f + 1 / h)))

/-- The pair noise word for a partner's NOISE word. -/
def State.pairNoise (s : State) (partner : Word) : Word :=
  let f := s.ownNoise2
  let h := noise2 partner
  w32 (pairFactor f.1 h.1 + 2 ^ 16 * pairFactor f.2 h.2)

/-- This module's reference point in the robot frame, int32, 2^-16 mm (Table 12.8). -/
def State.ownPos (s : State) : List Int := (List.range 3).map fun k => (s.boot.mounting.getD (9 + k) 0).toInt

/-- The lever arm r in 2^-16 mm. -/
def State.leverOf (s : State) (pos : List Int) : List Int :=
  (List.range 3).map fun k => pos.getD k 0 - s.ownPos.getD k 0

def normSq (v : List Int) : Int := v.foldl (fun n x => n + x * x) 0

/-- A length in metres from 2^-16 mm. -/
def metres (v : List Int) : List Rat := v.map fun x => (x : Rat) / 65536000

/-! ### Messages (Tables 15.1 and 15.2) -/

/-- A time of module time at a tick in the layout of R112. -/
def State.layoutAt (s : State) (t : Nat) : Nat := layout (roundEven ((s.timeAt t : Rat) / 2 ^ 32))

/-- The 40 bytes of a stream type 3 message. -/
def State.pairMessage (s : State) (msg reason time : Nat) : List Byte :=
  leBytes 4 (msg + 2 ^ 8 * reason + 2 ^ 16 * s.preset + 2 ^ 24 * s.profile) ++ leBytes 12 time
    ++ leBytes 4 (s.fld FILT_DELAY_NS.NS) ++ leBytes 2 (s.fld FILT_DELAY_FRAC.FRAC) ++ [0, 0]
    ++ bytesOfWords (s.ownPos.map wordOfInt) ++ bytesOf s.noiseWord

/-- Send a stream type 3 message to the partner. -/
def State.sendPair (msg reason time : Nat) (s : State) : State :=
  let body := streamHeader 3 s.nodeByte s.t1s.seq3.toNat 40 1 ++ s.pairMessage msg reason time
  let s := s.sendFrame { etherType := STREAM_ETHERTYPE, dest := s.partnerMac, payload := body }
  s.putT1s { s.t1s with seq3 := s.t1s.seq3 + 1 }

/-- The hindwing's contribution for a committed sample (Table 15.1). -/
def State.contribution (s : State) (stamp : Int) (axes : List Rat) (status : Word) : List Byte :=
  let n := layout stamp
  leBytes 4 (n / 2 ^ 16) ++ leBytes 2 (n / 2 ^ 48) ++ leBytes 2 s.pair.cseq.toNat
    ++ bytesOfWords (axes.map fun x => wordOfInt (sat32 (roundEven x))) ++ bytesOf status ++ bytesOf s.noiseWord

/-- A contribution from its 40 bytes. -/
def contribOf (p : List Byte) : Contrib :=
  { stamp := (numAt p 4 2 * 1000000000 + numAt p 0 4) * nsFrac, cseq := half p 6
    axes := (List.range 6).map fun k => (wordAt p (8 + 4 * k)).toInt, status := wordAt p 32, noise := wordAt p 36 }

/-! ### Fusion (R336 to R338) -/

/-- Stamps of contributions wrap at 2^16 s. -/
abbrev stampWrap : Int := 65536 * 1000000000 * 65536

/-- The difference of two stamps, nearest to zero. -/
def stampDiff (a b : Int) : Int :=
  let d := (a - b) % stampWrap
  if stampWrap < 2 * d then d - stampWrap else d

/-- The sample period T in 2^-16 ns. -/
def State.periodFrac (s : State) : Int := presetM s.preset * 25000 * 65536

/-- delta of a contribution against a forewing stamp. -/
def Contrib.delta (c : Contrib) (stamp : Int) : Int := stampDiff c.stamp stamp

/-- The contribution matches the sample: within half a period. -/
def State.matching (s : State) (w : PairWait) (c : Contrib) : Bool :=
  decide (2 * (c.delta w.stamp).natAbs ≤ s.periodFrac.toNat)

/-- One module's part of a fusion: axes, VALID mask, squared noise factors, reference point in metres. -/
structure Wing where
  axes : List Rat
  valid : Nat
  noise : Rat × Rat
  pos : List Rat
  status : Word

/-- The weight of one axis of a module (R337): 0 where INVALID. -/
def Wing.weight (m : Wing) (a : Nat) : Rat :=
  if m.valid.testBit a then 1 / (if a < 3 then m.noise.1 else m.noise.2) else 0

/-- The weighted value of one axis. -/
def weighted (f h : Wing) (a : Nat) (x y : Rat) : Rat :=
  let wf := f.weight a
  let wh := h.weight a
  if wf + wh = 0 then Config.pairUnweighted x y else (wf * x + wh * y) / (wf + wh)

/-- Rates in 2^-16 degrees per second to rad/s; accelerations in 2^-24 g to m/s^2 and back. -/
def wingRad (v : List Rat) : List Rat := toRad (scaleV 8 v)
def wingAcc (v : List Rat) : List Rat := scaleV (Config.gravity / 2 ^ 24) v
def wingLsb (v : List Rat) : List Rat := scaleV (1 / 4) v

/-- The fused sample: axes in record units, rates, angular acceleration in rad/s^2 (R337). `before` are the rates of the
preceding sample, `fout` the output rate, `formed` says ALPHA is formed. -/
def fuseWings (f h : Wing) (before : Option (List Rat)) (fout : Rat) (formed : Bool) :
    List Rat × List Rat × List Rat :=
  let om := [3, 4, 5].map fun a => weighted f h a (comp f.axes a) (comp h.axes a)
  let w := wingRad om
  let r := addV h.pos (scaleV (-1) f.pos)
  let d := addV (addV (wingAcc h.axes) (scaleV (-1) (wingAcc f.axes))) (scaleV (-1) (cross w (cross w r)))
  let rr := dot r r
  let diff := match before with
    | some b => scaleV fout (addV w (scaleV (-1) (wingRad b)))
    | none => [0, 0, 0]
  let alpha := if formed then addV (scaleV (1 / rr) (cross r d)) (scaleV (dot r diff / rr) r) else [0, 0, 0]
  let origin (m : Wing) : List Rat := addV m.axes (scaleV (-1) (wingLsb (leverTerm w alpha m.pos)))
  let af := origin f
  let ah := origin h
  ([0, 1, 2].map (fun a => weighted f h a (comp af a) (comp ah a)) ++ om, om, alpha)

/-- The status word of R338. -/
def pairStatus (f h : Word) (clip : Nat) : Word :=
  let vf := bits f 0 6
  let vh := bits h 0 6
  let pick (a : Nat) : Bool :=
    let sf := (bits f 6 6).testBit a
    let sh := (bits h 6 6).testBit a
    (sf && (vf.testBit a || !vh.testBit a)) || (sh && vh.testBit a)
  let reasons := (List.range 6).foldl (fun n a =>
    n + (if vf.testBit a || vh.testBit a then 0 else bits f (18 + 2 * a) 2) * 2 ^ (18 + 2 * a)) 0
  let uncomp := (bit f 30 && vf != 0) || (bit h 30 && vh != 0)
  w32 ((vf ||| vh) + 2 ^ 6 * maskOf ((List.range 6).map pick) + 2 ^ 12 * clip + reasons + 2 ^ 30 * b01 uncomp + 2 ^ 31)

/-- CLIP of an axis word against the range in force (R61, Table 3.3). -/
def clips (acc gyr axis : Nat) (w : Word) : Bool :=
  let lim : Int := if axis < 3 then 2 ^ (25 + acc) else 125 * 2 ^ (16 + gyr)
  decide (lim < w.toInt) || decide (w.toInt < -lim)

/-- The PAIRSAMPLE record (Table 10.3). -/
def pairRec (t : Nat) (stamp : Int) (axes alpha : List Word) (status : Word) : Rec :=
  { typ := T_PAIRSAMPLE, tick := t, payload := stampWords stamp ++ axes ++ alpha ++ [status] }

/-- The hindwing's side of the fusion: aligned to the forewing's instant, with h_prev where it is the sample before. -/
def State.hindWing (s : State) (w : PairWait) (c : Contrib) : Wing :=
  let k : Rat := (c.delta w.stamp : Rat) / s.periodFrac
  let hs := c.axes.map fun x => (x : Rat)
  let axes := match s.pair.prev with
    | some p => if p.cseq + 1 = c.cseq ∨ (p.cseq = 65535 ∧ c.cseq = 0)
        then (List.range 6).map fun a => comp hs a - k * (comp hs a - ((p.axes.getD a 0 : Int) : Rat)) else hs
    | none => hs
  { axes := axes, valid := bits c.status 0 6, noise := noise2 c.noise, pos := metres s.pair.partnerPos
    status := c.status }

/-- The rates of the sample before one that waits: of the PAIRSAMPLE before it, else its own module's. -/
def State.ratesBefore (s : State) (w : PairWait) : Option (List Rat) :=
  match s.pair.omegaPrev with
  | some p => if p.2 + presetM s.preset = w.own.tick then some p.1 else w.before
  | none => w.before

/-- A sample has its ALPHA: committed-only machines that read it run now (R338). -/
def State.alphaReady (t : Nat) (alpha : List Word) (s : State) : State :=
  let put (f : Fused) : Fused := if f.tick = t then { f with alpha := alpha } else f
  let s := { s with committed := s.committed.map put }
  let s := s.setTick t fun e => { e with alphaWait := false, comm := e.comm.map put }
  s.forUpTo State.openNext 32

/-- The PAIRSAMPLE of a waiting sample with its contribution (R337, R338). -/
def State.formPair (w : PairWait) (c : Contrib) (s : State) : State :=
  let f : Wing := { axes := w.body, valid := bits w.own.status 0 6, noise := s.ownNoise2, pos := s.leverArm
                    status := w.own.status }
  let h := s.hindWing w c
  let formed := f.valid == 63 && h.valid == 63
  let x := fuseWings f h (s.ratesBefore w) (40000 / (presetM s.preset : Rat)) formed
  let axes := x.1.map fun v => wordOfInt (sat32 (roundEven v))
  let alpha := (List.range 3).map fun k => wordOfInt (sat32 (roundEven (comp x.2.2 k / Config.degToRad * 2 ^ 12)))
  let clip := maskOf ((List.range 6).map fun a => clips s.array.accRange s.array.gyrRange a (axes.getD a 0))
  let t := w.own.tick
  let s := s.hold 1 0 (pairRec t w.stamp axes alpha (pairStatus w.own.status c.status clip))
  let s := (s.setReg Reg.PAIR_DELTA (wordOfInt (roundEven ((c.delta w.stamp : Rat) / 256)))).setF PAIR_STATE.MISSED 0
  let s := s.setReg Reg.PAIR_NOISE (s.pairNoise c.noise)
  let s := s.putPair { s.pair with
    waiting := s.pair.waiting.filter (·.own.tick != t), prev := some c, omegaPrev := some (x.2.1, t), firstMissed := none }
  s.alphaReady t alpha

/-- A contribution is counted as discarded or missing (R336). -/
def State.pairLate (s : State) : State := (s.incSat PAIR_COUNTS.LATE).raise Reg.PAIR_EVENTS 3

/-- The PAIRSAMPLE of a waiting sample without a contribution: the forewing's own values. -/
def State.formAlone (w : PairWait) (s : State) : State :=
  let t := w.own.tick
  let s := s.hold 1 0 (pairRec t w.stamp w.own.axes [0, 0, 0] w.own.status)
  let s := s.putPair { s.pair with
    waiting := s.pair.waiting.filter (·.own.tick != t), omegaPrev := some (w.body.drop 3, t)
    firstMissed := some (s.pair.firstMissed.getD t) }
  (s.alphaReady t []).pairLate

/-! ### The end of a join or of a pair (R339, R340) -/

/-- Back to IDLE: the frame limit goes, and a hindwing returns to its own time source (R330). -/
def State.pairIdle (s : State) : State :=
  let s := ((s.setF PAIR_STATE.STATE P_IDLE).setF PAIR_STATE.MISSED 0).setF T1S_STATUS.PAIR_LIMIT 0
  let s := s.putPair { s.pair with
    contribs := [], prev := none, waiting := [], omegaPrev := none, firstMissed := none, ready := [], announced := none
    acked := false, tries := 0 }
  if s.mtime.override then (s.putTime { s.mtime with override := false }).rearm else s

/-- A join fails (R339): reason and event, no record. -/
def State.failJoin (reason : Nat) (s : State) : State :=
  ((s.setF PAIR_STATE.REASON reason).raise Reg.PAIR_EVENTS 0).pairIdle

/-- A join ends for a cause to which Table 15.6 gives no reason: the reason is left open. -/
def State.failOpen (s : State) : State := (s.failJoin ((Config.freeWord s.free).toNat % 16)).draw

/-- A PAIR_JOIN or PAIR_LEAVE record (Table 10.6). -/
def State.pairStatusRec (s : State) (kind tick : Nat) (noise : Word) : Rec :=
  statusRec kind (s.fld PAIR_STATE.NODE) tick [noise]

/-- The first tick without a contribution: the first missed, the first that waits, or the one after the last vote. -/
def State.lackTick (s : State) : Nat :=
  (s.pair.firstMissed.or (s.pair.waiting.head?.map (·.own.tick))).getD (s.voteTick + presetM s.preset)

/-- A pair ends (R340). `tell` sends a LEAVE message. A sample that still waits is formed alone; where it is the third
without a contribution the lower cause stands (Table 15.8). -/
def State.pairLeave (cause : Nat) (tell : Bool) (s : State) : State :=
  if s.pairState = P_PAIRED then
    let first := s.lackTick
    let cause := if ¬ s.pair.waiting.isEmpty ∧ s.fld PAIR_STATE.MISSED = 2 then min cause 1 else cause
    let s := s.each (fun w s => s.formAlone w) s.pair.waiting
    let noise := s.reg Reg.VOTE_NOISE
    let s := (s.setF PAIR_STATE.CAUSE cause).incSat PAIR_COUNTS.LEAVES
    let r := s.pairStatusRec 0x41 first noise
    let s := { s with held := s.held ++ [HeldRec.mk 5 0 r.typ s.voteTick r.payload] }
    let s := (s.raise Reg.PAIR_EVENTS 1).setReg Reg.PAIR_NOISE noise
    let s := s.when tell (State.sendPair 5 cause (s.layoutAt first))
    s.pairIdle
  else s

/-- PAIR_LEAVE or ABORT with the PAIR scope (R340, Table 15.6 reason 8). -/
def State.pairCommandLeave (s : State) : State :=
  if s.pairState = P_JOINING then s.failJoin 8 else s.pairLeave 2 true

/-- A configuration change on this module (Table 15.7 cause 3; during JOINING, Table 15.6 reason 2). -/
def State.pairConfigLeave (s : State) : State :=
  if s.pairState = P_JOINING then s.failJoin 2 else s.pairLeave 3 true

/-- Exit from Imago (Table 15.7 cause 5); no message leaves on a control-pair reset (Table 15.8). -/
def State.pairPowerLeave (tell : Bool) (s : State) : State :=
  if s.pairState = P_JOINING then s.failOpen else s.pairLeave 5 tell

/-! ### A committed sample in the pair (R333, R336) -/

/-- Tick `t` of a forewing takes a PAIRSAMPLE: paired, at or after B. -/
def State.boundaryTick (s : State) : Nat :=
  (s.reg Reg.PAIR_BOUNDARY_LO).toNat + 2 ^ 32 * (s.reg Reg.PAIR_BOUNDARY_HI).toNat

def State.forewingPaired (s : State) (t : Nat) : Bool :=
  s.pairState == P_PAIRED && s.pairRole == FOREWING && decide (s.boundaryTick ≤ t)

/-- The hindwing contributes from the sample before B on (R339). -/
def State.contributing (s : State) (t : Nat) : Bool :=
  s.pairBusy && s.pairRole == HINDWING && decide (s.boundaryTick ≤ t + presetM s.preset)

/-- Contributions older than a forewing sample by more than half a period match none. -/
def State.dropOldContribs (stamp : Int) (s : State) : State :=
  let old (c : Contrib) : Bool := decide (s.periodFrac < -(2 * c.delta stamp))
  let n := (s.pair.contribs.filter old).length
  let s := s.putPair { s.pair with contribs := s.pair.contribs.filter fun c => !old c }
  s.forUpTo (fun _ s => s.pairLate) n

/-- A committed sample meets the pair: a forewing waits for, or takes, its contribution; a hindwing makes one. -/
def State.pairSample (values omega : List Rat) (before : Option (List Rat)) (own : Fused) (s : State) : State :=
  let t := own.tick
  let stamp := s.stampOf t
  let body := scaleV (1 / 4) (s.rotate (values.take 3)) ++ scaleV (1 / 8) omega
  let s := if s.contributing t then
      s.putPair { s.pair with ready := s.pair.ready ++ [s.contribution stamp body own.status] } else s
  let s := s.putPair { s.pair with cseq := s.pair.cseq + 1 }
  if s.forewingPaired t then
    let w : PairWait := { stamp := stamp, body := body, before := before.map (scaleV (1 / 8)), own := own }
    let s := s.putPair { s.pair with waiting := s.pair.waiting ++ [w] }
    let s := s.dropOldContribs stamp
    match s.pair.contribs.find? (s.matching w) with
    | some c => (s.putPair { s.pair with contribs := s.pair.contribs.filter (· != c) }).formPair w c
    | none => s
  else s

/-- The sample of a tick waits for its contribution. -/
def State.pairWaits (s : State) (t : Nat) : Bool := s.pair.waiting.any (·.own.tick == t)

/-- Records commit only below the first tick that waits (R338). -/
def State.pairLimit (s : State) (t : Nat) : Nat :=
  match s.pair.waiting with
  | w :: _ => min t (w.own.tick - 1)
  | [] => t

end Sys2Proof.Machine
end

