-- ==== Sys2Proof/Machine/Voter.lean ====
section
/-!
DEFINITION. The consensus voter (chapter 4): one vote per committed sample, deviance, quorum, SPLIT, validity, and the
triad transitions it leads to.
-/
namespace Sys2Proof.Machine

/-- One channel as it enters the vote of an axis: its number, value, square of sigma, whether it votes (else it only
gets a residual, SUSPECT). -/
structure Voter where
  ch : Nat
  x : Rat
  sig2 : Rat
  votes : Bool

/-- The square of sigma of R85: the larger of the floor and s. -/
def State.sigma2 (s : State) (c : Nat) : Rat := max (Config.sigmaFloorSq c s.preset) (s.chan c).s2

/-- Trim of R84: within 4 sigma of the median. -/
def Voter.kept (v : Voter) (m : Rat) : Bool := v.votes && decide ((v.x - m) * (v.x - m) ≤ 16 * v.sig2)

/-- The consensus of R84 over the voting channels; the median where no channel survives the trim. -/
def consensus (vs : List Voter) : Rat :=
  let m := lowerMedian ((vs.filter (·.votes)).map (·.x))
  let ks := vs.filter fun v => v.kept m
  let w := ks.foldl (fun a v => a + 1 / v.sig2) 0
  if ks.isEmpty ∨ w = 0 then m else ks.foldl (fun a v => a + v.x / v.sig2) 0 / w

def medianOf (vs : List Voter) : Rat := lowerMedian ((vs.filter (·.votes)).map (·.x))

/-- The channel of a triad on an axis (0 AX to 5 GZ), and the triads of the axis's sensor. -/
def axisChannel (axis k : Nat) : Nat := 3 * k + axis % 3

def axisTriads (axis : Nat) : List Nat := if axis < 3 then List.range 48 else (List.range 24).map (48 + ·)

/-- The linear limit of R60 in raw LSB with 8 fraction bits: 32 g or 4000 degrees per second. -/
def linearLimit (axis : Nat) : Rat := if axis < 3 then 32 * 2 ^ 26 else 4000 * 2 ^ 19

/-- The value of an axis whose every active channel is SAT (R60): the limit with the majority's sign; an even split
takes the sign of the previous value, positive where that was 0. -/
def satValue (axis : Nat) (xs : List Rat) (prev : Rat) : Rat :=
  let pos := (xs.filter fun x => 0 ≤ x).length
  let neg := xs.length - pos
  let plus := if pos = neg then decide (0 ≤ prev) else decide (neg < pos)
  if plus then linearLimit axis else - linearLimit axis

/-- A channel input after the deltas of R65. -/
def State.withDelta (s : State) (c : Nat) (x : Int) : Rat :=
  let ch := s.chan c
  ((x : Rat) - ch.dBias) / (1 + (ch.dScale : Rat) / 2 ^ 24)

/-- The cell position of R50 in metres. -/
def cellPos (k : Nat) : List Rat := (List.range 3).map fun a => (Config.position k a : Rat) / 100000

/-- R51: an accelerometer channel corrected to the reference point with a rate and its derivative in rad/s. -/
def corrected (k axis : Nat) (omega alpha : List Rat) (x : Rat) : Rat :=
  x - comp (leverTerm omega alpha (cellPos k)) axis

/-- What a sample brings for one channel. -/
abbrev Sample := Int × Bool

def sampleAt (xs : List Sample) (c : Nat) : Sample := xs.getD c (0, false)

/-- The channels of one axis that vote or get a residual at tick `t`: contributing triads and SUSPECT ones, SAT
channels left out (R83, R84). `value` gives a channel's corrected value. -/
def State.axisVoters (s : State) (t : Nat) (xs : List Sample) (value : Nat → Nat → Rat) (axis : Nat) : List Voter :=
  (axisTriads axis).filterMap fun k =>
    let c := axisChannel axis k
    let vote := s.contributes t k
    let susp := (s.triad k).state == SUSPECT_
    if (vote || susp) && !(sampleAt xs c).2 then some { ch := c, x := value k c, sig2 := s.sigma2 c, votes := vote }
    else none

/-- SAT channels of contributing triads on an axis. -/
def State.axisSat (s : State) (t : Nat) (xs : List Sample) (axis : Nat) : List Nat :=
  ((axisTriads axis).filter fun k => s.contributes t k && (sampleAt xs (axisChannel axis k)).2)

/-- The fused value of an axis: consensus, the linear limit under R60, or the last value where nothing remains
(R93). -/
def State.axisValue (s : State) (t : Nat) (xs : List Sample) (vs : List Voter) (axis : Nat) : Rat :=
  let prev := (s.array.axes.getD axis { validity := 0, reason := 0, split := false, okSince := none, value := 0 }).value
  if vs.any (·.votes) then consensus vs
  else
    let sat := s.axisSat t xs axis
    if sat.isEmpty then prev
    else satValue axis (sat.map fun k => ((sampleAt xs (axisChannel axis k)).1 : Rat)) prev

/-- The six axes' values and voters: gyroscope axes first, then accelerometer axes from cells corrected by R51 with
this tick's rate and its first difference (R82). -/
def State.formAxes (s : State) (t : Nat) (xs : List Sample) : List Rat × List (List Voter) :=
  let raw (_ c : Nat) : Rat := s.withDelta c (sampleAt xs c).1
  let gv := [3, 4, 5].map fun a => s.axisVoters t xs raw a
  let g := [3, 4, 5].map fun a => s.axisValue t xs (gv.getD (a - 3) []) a
  let om := toRad g
  let alpha := match s.array.lastVote with
    | some t0 =>
      if t0 < t then
        scaleV (40000 / ((t : Rat) - (t0 : Rat)))
          (addV om (scaleV (-1) (toRad ((s.array.axes.drop 3).map (·.value)))))
      else [0, 0, 0]
    | none => [0, 0, 0]
  let cor (k c : Nat) : Rat := corrected k (c % 3) om alpha (s.withDelta c (sampleAt xs c).1)
  let av := [0, 1, 2].map fun a => s.axisVoters t xs cor a
  let a := [0, 1, 2].map fun ax => s.axisValue t xs (av.getD ax []) ax
  (a ++ g, av ++ gv)

/-- Residual and noise of one channel after the vote (R84, R85): s moves only where the triad is HEALTHY and the
channel is kept. -/
def voteChan (ticks : Nat) (c m : Rat) (v : Voter) (ch : Chan) : Chan :=
  let r := v.x - c
  { ch with
    zNeg := decide (r < 0), z2 := r * r / v.sig2
    s2 := if v.kept m then Config.rmsStep ticks ch.s2 (r * r) else ch.s2 }

/-- All channels of one axis after the vote. -/
def State.voteAxisChans (ticks : Nat) (c : Rat) (vs : List Voter) (s : State) : State :=
  let m := medianOf vs
  s.each (fun v s => s.setChan v.ch (voteChan ticks c m v)) vs

/-- A channel's deviance by residual (1) or by noise (2), 0 for none (R87). -/
def State.chanDeviance (s : State) (c : Nat) : Nat :=
  if 36 < (s.chan c).z2 then 1 else if 9 * Config.sigmaFloorSq c s.preset < (s.chan c).s2 then 2 else 0

/-- The deviant channels of a triad in this sample: 3 bits; SAT channels have no residual. -/
def State.devMask (s : State) (xs : List Sample) (k : Nat) : Nat :=
  maskOf ((List.range 3).map fun a => !(sampleAt xs (3 * k + a)).2 && s.chanDeviance (3 * k + a) != 0)

/-- The cause of a triad's deviance (Table 4.4, DETAIL). -/
def State.devCause (s : State) (k : Nat) : Nat :=
  let tr := s.triad k
  if tr.driveFault then 3 else if tr.testFail then 4
  else if (List.range 3).any fun a => s.chanDeviance (3 * k + a) == 1 then 1 else 2

/-- The largest |z| of a triad's channels in this sample: its square and channel. -/
def State.peakOf (s : State) (k : Nat) : Rat × Nat :=
  (List.range 3).foldl (fun best a =>
    if best.1 < (s.chan (3 * k + a)).z2 then ((s.chan (3 * k + a)).z2, 3 * k + a) else best) (0, 0xFF)

/-- The deviance window of R87 in ticks. -/
def State.devWindow (s : State) : Nat := max 80 (2 * presetM s.preset)

/-- One triad's deviance and timers at tick `t` (R87, R88). `dt` is the interval since the last vote, `paused` says
that an axis of the triad is SPLIT (R90). -/
def stepTriad (t dt window mask cause : Nat) (allSat paused : Bool) (peak : Rat × Nat) (tr : Triad) : Triad :=
  let now := decide (mask ≠ 0) || tr.driveFault || tr.testFail
  if !now && allSat && decide (tr.devCh ≠ 0) then tr
  else
    let dev := now || decide (t < tr.devUntil)
    if dev then
      let fresh := tr.p = 0 ∧ tr.devCh = 0
      let tr1 := if fresh then { tr with onset := t, devAxes := 0, peak2 := 0, peakCh := 0xFF } else tr
      let tr2 := { tr1 with
        devUntil := if now then t + window else tr1.devUntil
        devCh := if now then (if mask ≠ 0 then mask else 7) else tr1.devCh
        devAxes := if now then tr1.devAxes ||| (if mask ≠ 0 then mask else 7) else tr1.devAxes
        cause := if now then cause else tr1.cause
        peak2 := max tr1.peak2 peak.1
        peakCh := if tr1.peak2 < peak.1 then peak.2 else tr1.peakCh
        quiet := none }
      if fresh ∨ paused ∨ tr.quiet.isSome then tr2
      else { tr2 with p := tr2.p + dt }
    else if tr.state = HEALTHY then { tr with p := 0, devCh := 0, quiet := none }
    else { tr with devCh := 0, quiet := some (tr.quiet.getD t) }

/-- Axes a triad's deviant channels lie on. -/
def triadOnAxis (k axis : Nat) (mask : Nat) : Bool := isGyro k == decide (3 ≤ axis) && mask.testBit (axis % 3)

/-- SPLIT of an axis (R90): the deviant triads on it number at least half of those that would contribute. -/
def State.axisSplit (s : State) (t : Nat) (xs : List Sample) (axis : Nat) : Bool :=
  let would := (axisTriads axis).filter fun k =>
    (s.triad k).state == HEALTHY && decide ((s.triad k).validFrom ≤ t)
  let dev := would.filter fun k =>
    (s.devMask xs k).testBit (axis % 3) || (s.triad k).driveFault || (s.triad k).testFail
  decide (dev.length ≠ 0) && decide (would.length ≤ 2 * dev.length)

def defaultAxis : Axis := { validity := 0, reason := 0, split := false, okSince := none, value := 0 }

def State.axis (s : State) (a : Nat) : Axis := s.array.axes.getD a defaultAxis

/-- One axis's validity at tick `t` (R93, R94): loss at once, return only by QUORUM_RESTORED. -/
def stepAxis (t : Nat) (value : Rat) (quorum split : Bool) (ax : Axis) : Axis :=
  let ok := quorum && !split
  { validity := if ok then (if ax.validity = 2 then 2 else 1) else 2
    reason := if ok then (if ax.validity = 2 then ax.reason else 0) else if split then 2 else 1
    split := split
    okSince := if ok then some (ax.okSince.getD t) else none
    value := value }

/-- VOTE_STATUS from the axes (Table 4.7). -/
def State.syncVoteStatus (s : State) : State :=
  let m (f : Axis → Bool) : Nat := maskOf ((List.range 6).map fun a => f (s.axis a))
  ((s.setF VOTE_STATUS.VALID (m fun x => x.validity == 1)).setF VOTE_STATUS.SPLIT (m fun x => x.split)).setF
    VOTE_STATUS.STALE (m fun x => x.validity == 2 && x.reason == 3)

/-- The factor of R95 in 1/256: sqrt(N / n), saturating. -/
def noiseFactor (total n : Nat) : Nat :=
  if n = 0 then 0xFFFF else min 0xFFFF (sqrtRound ((65536 * total : Nat) / (n : Rat)))

/-- VOTE_QUORUM and VOTE_NOISE of a vote (Table 4.7). -/
def State.syncQuorum (t : Nat) (s : State) : State :=
  let acc := (List.range 48).filter (s.contributes t)
  let gyr := (List.range 24).filter fun j => s.contributes t (48 + j)
  let pairs := gyr.filter fun j => decide (j % 6 < 3) && s.contributes t (48 + j + 3)
  let dies := maskOf ((List.range 4).map fun d => acc.any fun k => dieOf k == d)
  let s := ((s.setF VOTE_QUORUM.ACC_COUNT acc.length).setF VOTE_QUORUM.ACC_DIES dies)
  let s := (s.setF VOTE_QUORUM.GYR_COUNT gyr.length).setF VOTE_QUORUM.GYR_PAIRS pairs.length
  (s.setF VOTE_NOISE.ACC (noiseFactor (profileCount s.profile false) acc.length)).setF
    VOTE_NOISE.GYR (noiseFactor (profileCount s.profile true) gyr.length)

/-- The status word of Table 10.4. -/
def State.statusWord (s : State) (sat clip : Nat) (uncomp : Bool) : Word :=
  let valid := maskOf ((List.range 6).map fun a => (s.axis a).validity == 1)
  let reasons := (List.range 6).foldl (fun n a =>
    n + (if (s.axis a).validity = 1 then 0 else (s.axis a).reason) * 2 ^ (18 + 2 * a)) 0
  w32 (valid + 2 ^ 6 * sat + 2 ^ 12 * clip + reasons + 2 ^ 30 * b01 uncomp)

/-- The SAMPLE record of a committed fused sample (Table 10.3). -/
def State.sampleRec (s : State) (f : Fused) : Rec :=
  { typ := T_SAMPLE, tick := f.tick, payload := stampWords (s.stampOf f.tick) ++ f.axes ++ [f.status] }

/-- The CELL record of R98 (Table 10.5). -/
def State.cellRec (s : State) (t k : Nat) (xs : List Sample) (value : Nat → Rat) : Rec :=
  let sat := maskOf ((List.range 3).map fun a => (sampleAt xs (3 * k + a)).2)
  { typ := T_CELL, tick := t
    payload := [w32 (k + 2 ^ 8 * (s.triad k).state + 2 ^ 16 * sat)] ++ loHi t
      ++ (List.range 3).map fun a => wordOfInt (sat32 (roundEven (value (3 * k + a)))) }

/-- Deltas and ranges take effect at the sample boundary (R61, R65). -/
def State.boundary (s : State) : State :=
  let s := s.each (fun d s => s.setChan d.1 fun ch => { ch with dBias := d.2.1, dScale := d.2.2 }) s.array.newDeltas
  s.putArray { s.array with
    newDeltas := [], accRange := s.fld ARRAY_RANGE.ACC_RANGE, gyrRange := s.fld ARRAY_RANGE.GYR_RANGE }

/-- Onsets of SAT and CLIP, per axis, and ARRAY_STATUS (Table 3.12). -/
def State.flagEvents (sat clip : Nat) (s : State) : State :=
  let oldSat := s.fld ARRAY_STATUS.SAT
  let oldClip := s.fld ARRAY_STATUS.CLIP
  let s := (s.setF ARRAY_STATUS.SAT sat).setF ARRAY_STATUS.CLIP clip
  let s := s.forUpTo (fun a s => s.when (sat.testBit a && !oldSat.testBit a) (State.raise Reg.ARRAY_EVENTS a)) 6
  s.forUpTo (fun a s => s.when (clip.testBit a && !oldClip.testBit a) (State.raise Reg.ARRAY_EVENTS (8 + a))) 6

/-- Axes of a mask that an earlier and a later list of axes tell apart. -/
def axisMask (f : Nat → Bool) : Nat := maskOf ((List.range 6).map f)

/-- Quorum loss (R93, R94): one QUORUM_LOST record, source 51, and the QUORUM path for named axes. -/
def State.quorumLost (t lost : Nat) (s : State) : State :=
  if lost = 0 then s
  else
    let s := s.hold 3 1 (healthRec 0x07 0x7F 0xFF 0 lost t 0 0)
    let s := s.raise Reg.VOTE_EVENTS 3
    if lost &&& s.fld SAFE_CFG.QUORUM ≠ 0 then s.safePath C_QUORUM 0 0xFF t true else s

/-- Onset of SPLIT episodes (R90): one record, source 52 once, each axis counted. -/
def State.splitOnset (t began : Nat) (s : State) : State :=
  if began = 0 then s
  else
    let s := (s.hold 3 0 (healthRec 0x09 0x7F 0xFF 0 began t 0 0)).raise Reg.VOTE_EVENTS 4
    s.addSat VOTE_COUNTS.SPLITS ((List.range 6).filter (began.testBit ·)).length

/-- Committed samples can be formed: Imago in Noon, on the grid, outside an open settling interval (R106, R114). -/
def State.canSample (s : State) (t : Nat) : Bool :=
  s.noon && s.imago && s.onGrid t &&
    (match s.filt.settling with
     | some v => (match v.resume with | some r => decide (r ≤ t) | none => false)
     | none => true)

/-- The settling interval ends with the first sample after it. -/
def State.endSettling (s : State) : State :=
  (({ s with filt := { s.filt with settling := none } }).setF FILT_STATUS.SETTLING 0)

/-- The vote of one committed sample (R81 to R95). -/
def State.vote (t : Nat) (xs : List Sample) (s : State) : State :=
  let s := s.boundary.endSettling
  let dt := match s.array.lastVote with
    | some t0 => t - t0
    | none => 0
  let f := s.formAxes t xs
  let values := f.1
  -- residuals and noise
  let s := s.forUpTo (fun a s => s.voteAxisChans dt (values.getD a 0) (f.2.getD a [])) 6
  -- SPLIT, then deviance and timers
  let split (a : Nat) : Bool := s.axisSplit t xs a
  let splitMask := axisMask split
  let window := s.devWindow
  let stepped := (List.range 72).map fun k =>
    let tr := s.triad k
    if tr.state = HEALTHY ∨ tr.state = SUSPECT_ then
      let mask := s.devMask xs k
      let satAll := (List.range 3).all fun a => !tr.devCh.testBit a || (sampleAt xs (3 * k + a)).2
      let paused := (List.range 6).any fun a => splitMask.testBit a && triadOnAxis k a (mask ||| tr.devCh)
      stepTriad t dt window mask (s.devCause k) satAll paused (s.peakOf k) tr
    else tr
  let old := s.array.axes
  let quorum (a : Nat) : Bool := quorumOf (s.contributes t) (decide (3 ≤ a))
  let axes := (List.range 6).map fun a => stepAxis t (values.getD a 0) (quorum a) (splitMask.testBit a) (s.axis a)
  let s := s.putArray { s.array with triads := stepped, axes := axes, lastVote := some t }
  let was (a : Nat) : Axis := old.getD a defaultAxis
  let lost := axisMask fun a => (was a).validity != 2 && (s.axis a).validity == 2
  let began := axisMask fun a => !(was a).split && splitMask.testBit a
  let s := (s.syncVoteStatus).syncQuorum t
  -- the fused sample
  let m := s.mount t values s.commMem
  let sat := axisMask fun a => !(s.axisSat t xs a).isEmpty
  let clip := axisMask fun a => clips s.array.accRange s.array.gyrRange a (m.1.getD a 0)
  let uncomp := (List.range 72).any fun k => s.contributes t k && s.array.uncomp.testBit (dieOf k)
  let fused : Fused := { tick := t, axes := m.1, status := s.statusWord sat clip uncomp }
  let before := s.commMem.map (·.omega)
  let s := { s with committed := some fused, commMem := some { m.2 with axes := values } }
  let s := s.flagEvents sat clip
  let s := if s.forewingPaired t then s else s.hold 1 0 (s.sampleRec fused)
  let s : State := s.pairSample values m.2.omega before fused
  let k : Nat := s.fld VOTE_CTRL.CELL_TRIAD
  let s := if s.on VOTE_CTRL.CELL_EN ∧ k < 72 then
      s.hold 2 0 (s.cellRec t k xs fun c => s.withDelta c (sampleAt xs c).1) else s
  (s.splitOnset t began).quorumLost t lost

/-- COMMITTED_VOTE (R84): the 216 committed channel values of tick `t`, calibrated (R62, R63), int32 with 8 fraction
bits, each with its SAT flag. -/
def execCommittedVote (t : BitVec 64) (xs : List (Word × Bool)) (s : State) : Host.Outcome State Fault Refusal :=
  if xs.length ≠ 216 then .fault .operandLength
  else act (fun s => s.when (s.canSample t.toNat) (State.vote t.toNat (xs.map fun x => (x.1.toInt, x.2)))) s

/-! ### Transitions -/

/-- SUSPECT_ENTRY (R88): P has reached 50 ms at the committed sample of the last vote. -/
def execSuspectEntry (k : Fin 72) : State → Host.Outcome State Fault Refusal := act fun s =>
  let tr := s.triad k.val
  if tr.state = HEALTHY ∧ 2000 ≤ tr.p then
    let t := s.voteTick
    let s := s.setTriad k.val fun tr => { tr with state := SUSPECT_, quiet := none }
    let s := s.putArray { s.array with entries := s.array.entries ++ [(t, k.val, tr.devAxes)] }
    (s.triadHealth 0x01 k.val t tr.onset 0).raise Reg.VOTE_EVENTS 0
  else s

/-- SUSPECT_CLEAR (R88): 50 ms without deviance. -/
def execSuspectClear (k : Fin 72) : State → Host.Outcome State Fault Refusal := act fun s =>
  let tr := s.triad k.val
  let t := s.voteTick
  let quiet := match tr.quiet with
    | some q => decide (q + 2000 ≤ t)
    | none => false
  if tr.state = SUSPECT_ ∧ quiet = true then
    let s := (s.triadHealth 0x02 k.val t tr.onset 0).raise Reg.VOTE_EVENTS 6
    let s := s.setTriad k.val fun tr => { tr with state := HEALTHY, p := 0, quiet := none, devAxes := 0 }
    s.incSat VOTE_COUNTS.CLEARED
  else s

/-- RETIREMENT_REQUEST (R88, R89): P has reached 200 ms; an unanswered request is repeated every 10 ms. -/
def execRetirementRequest (k : Fin 72) : State → Host.Outcome State Fault Refusal := act fun s =>
  let tr := s.triad k.val
  if tr.state = SUSPECT_ ∧ 8000 ≤ tr.p ∧ ¬ s.array.requests.contains k.val then
    s.putArray { s.array with requests := s.array.requests ++ [k.val] }
  else s

/-- SUSPECT entries of a die within 10 ms that retire it (Table 4.2). -/
def dieNeed (profile : Nat) : Nat := if profile = 0 then 5 else if profile = 1 then 3 else 2

/-- The die rule of R91: the entries of the last 10 ms that meet it, if they do. -/
def State.dieRule (s : State) (d : Nat) : Option (List (Nat × Nat × Nat)) :=
  let es := s.array.entries.filter fun e => dieOf e.2.1 == d
  match es.getLast? with
  | some last =>
    let win := es.filter fun e => decide (last.1 ≤ e.1 + 400)
    if dieNeed s.profile ≤ win.length then some win else none
  | none => none

/-- RETIREMENT_DECISION (R89, R91): the firmware decides a requested retirement, or a die retirement under the
common-cause rule. -/
def execRetirementDecision (what : Retire) : State → Host.Outcome State Fault Refusal := act fun s =>
  match what with
  | .triad k =>
    if s.array.requests.contains k.val then
      s.putArray { s.array with
        requests := s.array.requests.filter (· != k.val), decided := s.array.decided ++ [k.val] }
    else s
  | .die d =>
    if (s.dieRule d.val).isSome ∧ ¬ s.on (bitF Reg.VOTE_DIE d.val) then
      s.putArray { s.array with decidedDies := s.array.decidedDies ++ [d.val] }
    else s

/-- A triad becomes RETIRED: its drive stops, its timers end, a test of it ends SKIPPED (R89, Table 4.5). -/
def State.retireTriad (k detail : Nat) (s : State) : State :=
  let testing := match s.array.test with
    | some tr => tr.current.any fun q => q.1 == k
    | none => false
  let s := if testing then finishTest k R_SKIPPED s else s
  let s := s.setTriad k fun tr =>
    { tr with state := RETIRED_, p := 0, reason := detail, driveFault := false, quiet := none, devUntil := 0, devCh := 0 }
  let s := (if isGyro k then s.setLock k false else s).syncDriveFault
  let s := s.putArray { s.array with
    requests := s.array.requests.filter (· != k), entries := s.array.entries.filter fun e => e.2.1 != k }
  s.incSat VOTE_COUNTS.RETIRED

/-- A parked triad that can serve (R69). -/
def State.parkedHealthy (s : State) (k : Nat) : Bool := (s.triad k).state == PARKED && !(s.triad k).testFail

/-- The substitute of a retired active triad (R69): the triads to start, and the partner to park. -/
def State.substituteFor (s : State) (k : Nat) : Option (Nat × Option Nat) :=
  if isGyro k then
    let firsts := (List.range 24).filterMap fun j =>
      if j % 6 < 3 ∧ s.parkedHealthy (48 + j) ∧ s.parkedHealthy (48 + j + 3) then some (48 + j) else none
    ((firsts.find? fun j => dieOf j == dieOf k).or firsts.head?).map fun j =>
      (j, if (s.triad (partnerOf k)).state = RETIRED_ then none else some (partnerOf k))
  else
    let ks := (List.range 48).filter s.parkedHealthy
    ((ks.find? fun j => dieOf j == dieOf k).or ks.head?).map fun j => (j, none)

/-- Substitution (R69): in HALF and QUARTER, one STATUS record names the substitute and the parked partner. -/
def State.substitute (t k : Nat) (s : State) : State :=
  if s.profile = 0 then s
  else match s.substituteFor k with
    | none => s
    | some (j, partner) =>
      let s := s.startTriad j
      let s := if isGyro k then s.startTriad (partnerOf j) else s
      let s := match partner with
        | some p => s.parkTriad t p
        | none => s
      let s := s.putArray { s.array with subs := s.array.subs ++ [(k, j)] }
      let s := s.hold 5 0 (statusRec 0x02 (k + 2 ^ 8 * j + 2 ^ 16 * partner.getD 0x7F) t [])
      s.raise Reg.ARRAY_EVENTS 19

/-- One decided triad at the boundary of tick `t`. -/
def State.applyRetire (t k : Nat) (s : State) : State :=
  if (s.triad k).state = RETIRED_ then s
  else
    let tr := s.triad k
    let s := (s.triadHealth 0x03 k t tr.onset tr.cause).raise Reg.VOTE_EVENTS 1
    (s.retireTriad k tr.cause).substitute t k

/-- A decided die at the boundary of tick `t` (R91). -/
def State.applyDie (t d : Nat) (s : State) : State :=
  let win := (s.dieRule d).getD []
  let axes := win.foldl (fun m e => m ||| axesOf e.2.1 e.2.2) 0
  let tick := (win.getLast?.map (·.1)).getD t
  let r := healthRec 0x04 0x7F 0xFF d axes tick 0 5
  let s := { s with held := s.held ++ [HeldRec.mk 3 0 r.typ t r.payload] }
  let s := s.raise Reg.VOTE_EVENTS 2
  let ks := (dieTriads d).filter fun k => (s.triad k).state != RETIRED_
  let active := ks.filter fun k => (s.triad k).state != PARKED
  let s := s.each (fun k s => s.retireTriad k 5) ks
  let s := (s.setF (bitF Reg.VOTE_DIE d) 1).incSat VOTE_COUNTS.DIES
  let s := s.putArray { s.array with decided := s.array.decided.filter fun k => dieOf k != d }
  s.each (fun k s => s.substitute t k) active

/-- RETIREMENT_APPLY (R89, R91): the decisions apply at the committed sample boundary of tick `t`, a die's before a
single one of the same die. -/
def execRetirementApply (t : BitVec 64) : State → Host.Outcome State Fault Refusal := act fun s =>
  let dies := s.array.decidedDies
  let s := s.putArray { s.array with decidedDies := [] }
  let s := s.each (fun d s => s.applyDie t.toNat d) dies
  let ks := s.array.decided
  let s := s.putArray { s.array with decided := [] }
  s.each (fun k s => s.applyRetire t.toNat k) ks

/-- QUORUM_RESTORED (R94): every INVALID axis that has met quorum and been neither SPLIT nor STALE for 2 ms returns,
with one record and source 51. -/
def execQuorumRestored : State → Host.Outcome State Fault Refusal := act fun s =>
  let t := s.voteTick
  let back (a : Nat) : Bool := (s.axis a).validity == 2 &&
    (match (s.axis a).okSince with | some q => decide (q + 80 ≤ t) | none => false)
  let mask := axisMask back
  if mask = 0 then s
  else
    let axes := (List.range 6).map fun a => if back a then { s.axis a with validity := 1, reason := 0 } else s.axis a
    let s := (s.putArray { s.array with axes := axes }).syncVoteStatus
    (s.hold 3 1 (healthRec 0x08 0x7F 0xFF 0 mask t 0 0)).raise Reg.VOTE_EVENTS 3

/-- A committed sample is missing (R47): the status of the last complete vote is held for one sample; then the axes
are INVALID with reason STALE. `first` says it is the first missing one. -/
def State.staleVote (t : Nat) (first : Bool) (s : State) : State :=
  if first then s
  else
    let lost := axisMask fun a => (s.axis a).validity != 2
    let s := s.putArray { s.array with axes := s.array.axes.map fun x =>
      { x with validity := 2, reason := 3, okSince := none } }
    (s.syncVoteStatus).quorumLost t lost

end Sys2Proof.Machine
end

