-- ==== Sys2Proof/Machine/Filters.lean ====
section
/-!
DEFINITION. Filter chains (chapter 5): presets, settling, decimator resets, coefficient sets and banks, the tracking
notch; their commands and events.
-/
namespace Sys2Proof.Machine

def State.putFilt (f : FilterPart) (s : State) : State := { s with filt := f }

/-- The first base tick after now that is a whole multiple of 40 (R109). -/
def State.nextTa (s : State) : Nat := (s.tick / 40 + 1) * 40

/-! ### Sets, banks and slots (R119 to R121) -/

def defaultSet : CoefSet := { coefs := [], tag := 0, taps := 0, delay := 0, frac := 0, fLo := 0, fHi := 0 }

def State.coefSet (s : State) (i : Nat) : CoefSet := s.filt.sets.getD i defaultSet

/-- The place of a COEFF_WRITE target: banks 0 to 3, slots 4 to 19. -/
def targetIx (t : Nat) : Option Nat :=
  if t < 4 then some t else if 0x10 ≤ t ∧ t ≤ 0x1F then some (t - 0x10 + 4) else none

/-- The FILT_VALID bit of a set. -/
def validF (i : Nat) : Fld := if i < 4 then bitF Reg.FILT_VALID i else bitF Reg.FILT_VALID (16 + (i - 4))

/-- The set is the bank a group has selected, or the notch slot in use (R120). -/
def State.setInUse (s : State) (i : Nat) : Bool :=
  if i < 4 then
    let sel := s.fld (if i < 2 then FILT_BANK.ACC_SEL else FILT_BANK.GYR_SEL)
    let act := s.fld (if i < 2 then FILT_BANK.ACC_ACTIVE else FILT_BANK.GYR_ACTIVE)
    sel == i % 2 + 1 || act == i % 2 + 1
  else s.on FILT_STATUS.NOTCH_ACTIVE && s.fld FILT_STATUS.NOTCH_SET == i - 4

/-- Signed value of a 3-byte coefficient. -/
def coef24 (p : List Byte) (i : Nat) : Int := signed 24 (numAt p i 3)

def putCoef (k : Nat) (v : Int) (cs : List (Nat × Int)) : List (Nat × Int) := (k, v) :: cs.filter (·.1 != k)

def coeffWriteLen (p : List Byte) : Bool := decide (6 ≤ p.length) && p.length == 6 + 3 * half p 4

def coeffWriteCheck (p : List Byte) (s : State) : Option Verdict :=
  match targetIx (byteAt p 0) with
  | none => some (BAD_PARAM, [])
  | some i =>
    let first := half p 2
    let n := half p 4
    refusals [(n == 0 || decide (336 < n) || decide (382 < first) || decide (383 < first + n), (BAD_PARAM, [])),
      (s.setInUse i, (REJECTED, []))]

def coeffWriteApply (p : List Byte) (s : State) : State :=
  match targetIx (byteAt p 0) with
  | none => s
  | some i =>
    let c := s.coefSet i
    let kept := if s.on (validF i) then [] else c.coefs
    let coefs := (List.range (half p 4)).foldl (fun cs k => putCoef (half p 2 + k) (coef24 p (6 + 3 * k)) cs) kept
    (s.putFilt { s.filt with sets := s.filt.sets.set i { c with coefs := coefs } }).setF (validF i) 0

/-- The first reason of Table 5.7 for which a commit fails. -/
def commitReason (i tag n d f lo hi : Nat) (c : CoefSet) : Option Nat :=
  let std := presetN tag
  let sum := (List.range n).foldl (fun a k => a + ((c.coefs.lookup k).getD 0)) (0 : Int)
  if 4 < tag then some 7
  else if n = 0 ∨ std < n then some 1
  else if ¬ (List.range n).all (fun k => (c.coefs.lookup k).isSome) then some 2
  else if 128 < sum - 2 ^ 23 ∨ sum - 2 ^ 23 < -128 then some 3
  else if (std - 1) / 2 < d ∨ n - 1 < d ∨ 24999 < f then some 4
  else if 4 ≤ i ∧ (hi ≤ lo ∨ 0xFFF0 < hi) then some 5
  else if 4 ≤ i ∧ (d ≠ (std - 1) / 2 ∨ f ≠ 0) then some 6
  else none

def coeffCommitCheck (p : List Byte) (s : State) : Option Verdict :=
  match targetIx (byteAt p 0) with
  | none => some (BAD_PARAM, [])
  | some i => (commitReason i (byteAt p 1) (half p 2) (half p 4) (half p 6) (half p 8) (half p 10) (s.coefSet i)).map
      fun r => (REJECTED, reason r)

/-! ### Notch candidates (R123, R124) -/

/-- Slots that are valid and tagged for the active preset. -/
def State.candidate (s : State) (k : Nat) : Bool :=
  s.on (validF (4 + k)) && (s.coefSet (4 + k)).tag == s.preset

def State.hasCandidate (s : State) : Bool := (List.range 16).any s.candidate

/-- The lowest-numbered candidate whose band contains a frequency in 1/16 Hz. -/
def State.slotFor (s : State) (f : Rat) : Option Nat :=
  (List.range 16).find? fun k =>
    s.candidate k && decide (((s.coefSet (4 + k)).fLo : Rat) ≤ f) && decide (f < ((s.coefSet (4 + k)).fHi : Rat))

/-- FILT_STATUS.NOTCH_SUSPENDED and source 61 (R124). -/
def State.syncSuspended (s : State) : State :=
  let now := s.on NOTCH_CTRL.EN && !s.hasCandidate
  let was := s.on FILT_STATUS.NOTCH_SUSPENDED
  let s := s.setF FILT_STATUS.NOTCH_SUSPENDED (b01 now)
  s.when (now && !was) (State.raise Reg.FILT_EVENTS 5)

/-- The slot in use, if one is. -/
def State.notchSlot (s : State) : Option Nat :=
  if s.on FILT_STATUS.NOTCH_ACTIVE then some (s.fld FILT_STATUS.NOTCH_SET) else none

/-- Put a slot, or pass, in use: source 59 and one STATUS record naming both (R123). -/
def State.useSlot (new : Option Nat) (s : State) : State :=
  let old := s.notchSlot
  if new = old then s
  else
    let s := s.setF FILT_STATUS.NOTCH_ACTIVE (b01 new.isSome)
    let s := (s.setF FILT_STATUS.NOTCH_SET (new.getD 0)).setF NOTCH_FREQ.SET (new.getD 0)
    let upper := old.getD 0 + 2 ^ 4 * new.getD 0 + 2 ^ 8 * b01 old.isNone + 2 ^ 9 * b01 new.isNone
    let s := (s.raise Reg.FILT_EVENTS 3).hold 5 0 (statusRec 0x20 upper s.tick [w32 (s.fld NOTCH_FREQ.FREQ)])
    s.pairConfigLeave

/-- The band of a slot widened by the hysteresis contains a frequency (R123); HYST above 25 acts as 25. -/
def State.inWideBand (s : State) (k : Nat) (f : Rat) : Bool :=
  let h : Rat := (min 25 (s.fld NOTCH_CTRL.HYST) : Nat) / 100
  let c := s.coefSet (4 + k)
  decide ((c.fLo : Rat) * (1 - h) ≤ f) && decide (f < (c.fHi : Rat) * (1 + h))

/-- A tachometer period word for the notch (R122, R123). -/
def State.notchPeriod (engine : Nat) (period : Word) (s : State) : State :=
  if s.fld NOTCH_CTRL.ENGINE ≠ engine ∨ period.toNat < 480 then s
  else
    let f : Rat := (48000000 * 16 : Nat) / ((period.toNat * max 1 (s.fld NOTCH_CTRL.PPR) : Nat) : Rat)
    let s := s.setF NOTCH_FREQ.FREQ (min 0xFFFF (roundEven f).toNat)
    let s := s.setF FILT_STATUS.TACH_LOST 0
    let s := s.putFilt { s.filt with lastF := some f, tach := true }
    if ¬ s.on NOTCH_CTRL.EN ∨ ¬ s.hasCandidate then s
    else
      let stay := match s.notchSlot with
        | some k => s.inWideBand k f
        | none => (s.slotFor f).isNone
      if stay then s.putFilt { s.filt with outside := 0, target := none }
      else
        let n := s.filt.outside + 1
        if max 1 (s.fld NOTCH_CTRL.CONFIRM) ≤ n then
          s.putFilt { s.filt with outside := 0, target := some (s.slotFor f) }
        else s.putFilt { s.filt with outside := n }

/-! ### Selection and reset -/

/-- The declared delay of a selection: D_u and F_u, or the standard D and 0 (R121). -/
def State.selDelay (s : State) (gyro : Bool) (sel : Nat) : Nat × Nat :=
  if sel = 1 ∨ sel = 2 then
    let c := s.coefSet ((if gyro then 2 else 0) + (sel - 1))
    (c.delay, c.frac)
  else (presetD s.preset, 0)

/-- A named bank is invalid, or tagged for another preset (R121). -/
def State.selBad (s : State) (gyro : Bool) (sel : Nat) : Bool :=
  if sel = 1 ∨ sel = 2 then
    let i := (if gyro then 2 else 0) + (sel - 1)
    !s.on (validF i) || (s.coefSet i).tag != s.preset
  else false

/-- The refusals of a bank selection (R121, R125). -/
def bankCheck (a g : Nat) (s : State) : Option Verdict :=
  let code (x : Nat) : Bool := decide (x ≤ 2) || x == 0xFF
  let a' := if a = 0xFF then s.fld FILT_BANK.ACC_SEL else a
  let g' := if g = 0xFF then s.fld FILT_BANK.GYR_SEL else g
  let std := (presetD s.preset, 0)
  refusals [(!code a || !code g, (BAD_PARAM, [])),
    (s.filt.change.isSome, (BUSY, [])),
    (s.selBad false a' || s.selBad true g', (REJECTED, [])),
    (s.selDelay false a' != s.selDelay true g', (REJECTED, [])),
    (s.on NOTCH_CTRL.EN && s.selDelay false a' != std, (REJECTED, []))]

/-- An accepted selection waits for its output tick. -/
def bankApply (a g : Nat) (s : State) : State :=
  let a' := if a = 0xFF then s.fld FILT_BANK.ACC_SEL else a
  let g' := if g = 0xFF then s.fld FILT_BANK.GYR_SEL else g
  let s := (s.setF FILT_BANK.ACC_SEL a').setF FILT_BANK.GYR_SEL g'
  (s.putFilt { s.filt with swap := some (a', g') }).setF FILT_BANK.SWAP_PENDING 1

/-- The grid and delay in force, kept for ticks up to `last`. -/
def State.keepGrid (last : Nat) (s : State) : State :=
  let o : OldGrid := { last := last, sync := s.filt.tSync, m := presetM s.preset, d := s.delayD, const := s.delayConst }
  s.putFilt { s.filt with old := some o }

/-- The open interval's resume tick on the grid in force (R116, R125). -/
def State.settleMove (s : State) : State :=
  match s.filt.settling with
  | some v =>
    match v.bound with
    | some b => s.settleResume (gridFrom s.filt.tSync (presetM s.preset) b) s.preset
    | none => s
  | none => s

/-- Ticks that lie on no grid any longer lose their committed sample and become VOID (Table 7.6). -/
def State.voidOffGrid (s : State) : State := s.voidWhere fun u => !s.onGrid u

/-- A decimator reset to tick `t` (R117, R118). -/
def State.decimReset (t : Nat) (s : State) : State :=
  let s := s.keepGrid (t - 1)
  let s := s.putFilt { s.filt with tSync := t, reset := none, lastReset := some t }
  let s := { s with commMem := none, fastMem := none }
  (((s.raise Reg.FILT_EVENTS 6).mappingChanged).settleMove).voidOffGrid

/-- A reset that does not belong to a pair's alignment ends the pair (Table 15.7). -/
def State.decimResetAlone (t : Nat) (s : State) : State := (s.decimReset t).pairConfigLeave

/-- A reset request replaces a pending one (R117). -/
def State.requestReset (t : Nat) (s : State) : State := s.putFilt { s.filt with reset := some t }

/-- An edge within 1 ms of the last applied reset is ignored (R117). -/
def State.edgeTooSoon (s : State) : Bool :=
  match s.filt.lastReset with
  | some t => decide (s.tick < t + 40)
  | none => false

/-! ### Presets (R109) -/

/-- A preset request by command or register: BUSY while a swap is pending. -/
def State.requestPreset (c : Nat) (s : State) : State :=
  let goal := (s.filt.change.map (·.code)).getD s.preset
  let s := s.setF FILT_PRESET.PRESET c
  if c = goal then s.putFilt { s.filt with queued := none }
  else if s.filt.change.isSome then s.putFilt { s.filt with queued := some c }
  else
    let ch : PresetChange := { code := c, ta := s.nextTa, applied := false, tL := 0, first := 0 }
    (s.putFilt { s.filt with change := some ch }).setF FILT_PRESET.CHANGE_PENDING 1

/-- The notch at a preset change: the slot whose band contains the last f applies without confirmation (R124). -/
def State.notchAtPreset (s : State) : State :=
  if s.on NOTCH_CTRL.EN then
    let s := s.putFilt { s.filt with outside := 0, target := none }
    (s.useSlot (match s.filt.lastF with | some f => s.slotFor f | none => none)).syncSuspended
  else s

/-- s follows the bandwidth at the boundary (R85). -/
def State.rescaleNoise (old new : Nat) (s : State) : State :=
  s.putArray { s.array with chans := s.array.chans.map fun ch =>
    { ch with s2 := ch.s2 * (presetBw new : Rat) / (presetBw old : Rat) } }

/-- The change takes effect at t_a (R109): last old sample, first new sample, settling, standard sets. -/
def State.presetApply (c : PresetChange) (s : State) : State :=
  let old := s.preset
  let sync := s.filt.tSync
  let nOld := s.tapsN
  let tL := gridTo sync (presetM old) (c.ta - s.delayD)
  let inStart := match s.filt.settling with
    | some v => v.cause == 1 || v.cause == 2
    | none => false
  let bound := max (tL + 1) (tL + (presetN c.code - nOld) / 2)
  let first := gridFrom sync (presetM c.code) bound
  let firstGap := gridFrom sync (presetM c.code) (tL + 1)
  let s := if inStart then s else s.keepGrid tL
  let s := s.rescaleNoise old c.code
  let s := s.setF FILT_PRESET.ACTIVE c.code
  let s := ((s.setF FILT_BANK.ACC_ACTIVE 0).setF FILT_BANK.GYR_ACTIVE 0)
  let s := (s.setF FILT_BANK.ACC_SEL 0).setF FILT_BANK.GYR_SEL 0
  let s := { s with commMem := none, fastMem := none }
  let s := s.notchAtPreset
  let s := s.syncDelay.mappingChanged
  let s := s.putFilt { s.filt with change := some { c with applied := true, tL := tL, first := first } }
  let s := if inStart then
    match s.filt.settling with
    | some v =>
      let shift : Int := ((presetN c.code : Int) - nOld) - ((presetD c.code : Int) - (nOld - 1) / 2)
      let s := s.putFilt { s.filt with settling := some { v with bound := v.bound.map fun b => ((b : Int) + shift).toNat } }
      s.settleMove
    | none => s
  else if firstGap < first then
    let v : Settling := { cause := 3, first := firstGap, bound := some bound, resume := none }
    ((s.putFilt { s.filt with settling := some v }).setF FILT_STATUS.SETTLING 1).settleMove
  else s
  s.voidOffGrid.pairConfigLeave

/-- PRESET_APPLY (R109): the change in progress applies at its t_a. -/
def execPresetApply : State → Host.Outcome State Fault Refusal := act fun s =>
  match s.filt.change with
  | some c => if c.applied then s else s.presetApply c
  | none => s

/-- PRESET_CHANGE_COMPLETE (R109): the first new-preset sample has been computed; a queued value follows. -/
def execPresetChangeComplete : State → Host.Outcome State Fault Refusal := act fun s =>
  match s.filt.change with
  | some c =>
    if ¬ c.applied then s
    else
      let q := s.filt.queued
      let s := s.putFilt { s.filt with change := none, queued := none }
      match q with
      | some code => s.requestPreset code
      | none => s.setF FILT_PRESET.CHANGE_PENDING 0
  | none => s

/-- BANK_SWAP_APPLY (R121): at one output tick for every channel of the groups concerned. -/
def execBankSwapApply : State → Host.Outcome State Fault Refusal := act fun s =>
  match s.filt.swap with
  | some (a, g) =>
    let s := (s.setF FILT_BANK.ACC_ACTIVE a).setF FILT_BANK.GYR_ACTIVE g
    let s := (s.putFilt { s.filt with swap := none }).setF FILT_BANK.SWAP_PENDING 0
    ((s.syncDelay.mappingChanged).raise Reg.FILT_EVENTS 2).pairConfigLeave
  | none => s

/-- NOTCH_PERIOD_WORD (R122): a period word of an engine's notch port. -/
def execNotchPeriodWord (engine : Fin 4) (period : Word) : State → Host.Outcome State Fault Refusal :=
  act (State.notchPeriod engine.val period)

/-- NOTCH_SET_CHANGE (R123): the confirmed change applies at one committed output tick. -/
def execNotchSetChange : State → Host.Outcome State Fault Refusal := act fun s =>
  match s.filt.target with
  | some new => (s.putFilt { s.filt with target := none }).useSlot new
  | none => s

/-- TACH_LOST (R124): the notch holds its last set; a confirmation in progress is abandoned. -/
def execTachLost : State → Host.Outcome State Fault Refusal := act fun s =>
  let s := (s.setF FILT_STATUS.TACH_LOST 1).setF NOTCH_FREQ.FREQ 0
  (s.putFilt { s.filt with outside := 0, target := none, tach := false }).raise Reg.FILT_EVENTS 4

/-- DECIM_SYNC_APPLY (R117): the requested reset reaches its tick. -/
def execDecimSyncApply : State → Host.Outcome State Fault Refusal := act fun s =>
  match s.filt.reset with
  | some t => s.decimResetAlone t
  | none => s

/-! ### Commands (Table 5.10) -/

def presetCheck (c : Nat) (s : State) : Option Verdict :=
  refusals [(decide (4 < c), (BAD_PARAM, [])), (s.filt.swap.isSome, (BUSY, []))]

def cmdSetPreset : Cmd where
  op := 0x30
  stages := stagesI
  len := lenIs 4
  check := fun r s => presetCheck (byteAt r.params 0) s
  effect := fun r s => (s.requestPreset (byteAt r.params 0), [])

def execSetPreset (r : Req) : State → Host.Outcome State Fault Refusal := act (cmdSetPreset.run r)

def cmdCoeffWrite : Cmd where
  op := 0x31
  stages := stagesI
  len := coeffWriteLen
  check := fun r s => coeffWriteCheck r.params s
  effect := fun r s => ((coeffWriteApply r.params s).syncSuspended, [])

def execCoeffWrite (r : Req) : State → Host.Outcome State Fault Refusal := act (cmdCoeffWrite.run r)

/-- A set is validated with its declared properties (R120). -/
def coeffCommitApply (p : List Byte) (s : State) : State :=
  match targetIx (byteAt p 0) with
  | none => s
  | some i =>
    let c : CoefSet := { s.coefSet i with tag := byteAt p 1, taps := half p 2, delay := half p 4, frac := half p 6
                                          fLo := half p 8, fHi := half p 10 }
    (s.putFilt { s.filt with sets := s.filt.sets.set i c }).setF (validF i) 1

def cmdCoeffCommit : Cmd where
  op := 0x32
  stages := stagesI
  len := lenIs 12
  check := fun r s => coeffCommitCheck r.params s
  effect := fun r s => ((coeffCommitApply r.params s).syncSuspended, [])

def execCoeffCommit (r : Req) : State → Host.Outcome State Fault Refusal := act (cmdCoeffCommit.run r)

def cmdBankSelect : Cmd where
  op := 0x33
  stages := stagesI
  len := lenIs 2
  check := fun r s => bankCheck (byteAt r.params 0) (byteAt r.params 1) s
  effect := fun r s => (bankApply (byteAt r.params 0) (byteAt r.params 1) s, [])

def execBankSelect (r : Req) : State → Host.Outcome State Fault Refusal := act (cmdBankSelect.run r)

/-- T = 0, or between 40 and 2^32 base ticks after the current one (R117). -/
def decimCheck (t : Nat) (s : State) : Option Verdict :=
  refusals [(t != 0 && (decide (t < s.tick + 40) || decide (s.tick + 2 ^ 32 < t)), (BAD_PARAM, []))]

def cmdDecimSync : Cmd where
  op := 0x34
  stages := stagesI
  len := lenIs 8
  check := fun r s => decimCheck (numAt r.params 0 8) s
  effect := fun r s =>
    let t := numAt r.params 0 8
    (s.requestReset (if t = 0 then s.tick + 1 else t), [])

def execDecimSync (r : Req) : State → Host.Outcome State Fault Refusal := act (cmdDecimSync.run r)

/-- An enable is refused while a selected set has a non-standard delay (R124). -/
def notchCheck (w : Word) (s : State) : Option Verdict :=
  let std := (presetD s.preset, 0)
  let odd := s.selDelay false (s.fld FILT_BANK.ACC_SEL) != std || s.selDelay true (s.fld FILT_BANK.GYR_SEL) != std
  refusals [(bit w 0 && odd, (REJECTED, []))]

/-- NOTCH_CTRL is stored; a disable puts the banks back in use (R123, R124). -/
def notchApply (w : Word) (s : State) : State :=
  let s := s.putWritable Reg.NOTCH_CTRL w
  let s := if s.on NOTCH_CTRL.EN then s
    else (s.putFilt { s.filt with outside := 0, target := none }).useSlot none
  s.syncSuspended

def cmdNotchConfig : Cmd where
  op := 0x35
  stages := stagesI
  len := lenIs 4
  check := fun r s => notchCheck (wordAt r.params 0) s
  effect := fun r s => (notchApply (wordAt r.params 0) s, [])

def execNotchConfig (r : Req) : State → Host.Outcome State Fault Refusal := act (cmdNotchConfig.run r)

end Sys2Proof.Machine
end

