-- ==== Sys2Proof/Machine/Housekeeping.lean ====
section
/-!
DEFINITION. The housekeeping converter (chapter 18): sequence, windows, slices; its commands and events.
-/
namespace Sys2Proof.Machine

def State.putHk (h : HkPart) (s : State) : State := { s with hk := h }

def defaultHk : HkEntry := { res := 0, at_ := none, run := 0 }

def State.hkEntry (s : State) (k : Nat) : HkEntry := s.hk.entries.getD k defaultHk

/-- Fields of an HK_SEQ word. -/
def seqEn (w : Word) : Bool := bit w 31
def seqChannel (w : Word) : Nat := bits w 0 5
def seqWmode (w : Word) : Nat := bits w 10 2
def seqPersist (w : Word) : Nat := bits w 12 4
def seqSample (w : Word) : Nat := bits w 16 8

/-- The entry is enabled in the pass in force and not dropped (R382, R385); user entries are disabled outside Imago
(R380). -/
def State.hkEnabled (s : State) (k : Nat) : Bool :=
  seqEn (s.hk.seq.getD k 0) && !(s.fld HK_STATUS.DROPPED).testBit k && (decide (k < 9) || s.imago)

/-- A result word as it reads now, with its AGE (Table 18.4). -/
def State.hkWord (s : State) (k : Nat) : Word :=
  let e := s.hkEntry k
  match e.at_ with
  | some t => putBits e.res 24 8 (min 255 (s.tick - t))
  | none => e.res

/-- Active slices (HK_STATUS.ACTIVE). -/
def State.sliceState (s : State) (k : Nat) : Nat := s.fld ⟨Reg.HK_SLICE, 3 * k, 3⟩
def State.setSlice (k v : Nat) (s : State) : State := s.setF ⟨Reg.HK_SLICE, 3 * k, 3⟩ v

/-- Time of an entry in 0.25 us: SAMPLE + 1.0 us (R381). -/
def entryTime (w : Word) : Nat := seqSample w + 4

/-- A sequence fits in a pass with `n` active slices (R381), in 0.25 us. -/
def fitsIn (seq : List Word) (pass n : Nat) : Bool :=
  let ts := (seq.filter seqEn).map entryTime
  let tot := ts.foldl (· + ·) 0
  let top := ts.foldl max 0
  decide (n ≠ 0) && decide ((tot - top) + n * top ≤ n * (pass * 100))

/-- The sequence of the registers, as it will be in force. -/
def State.hkSeqRegs (s : State) : List Word := (List.range 16).map fun k => s.reg (Reg.HK_SEQ k)

/-- Slices that convert. -/
def State.activeSlices (s : State) : Nat := ((List.range 5).filter fun k => s.sliceState k == 0).length

/-- Drop user entries from SEQ_15 downward until the sequence fits (R385); `k` counts entries still in. -/
def dropUntil (seq : List Word) (pass n : Nat) : Nat → Nat → Nat
  | 0, d => d
  | k + 1, d =>
    let live := (List.range 16).map fun j => if d.testBit j then (0 : Word) else seq.getD j 0
    if fitsIn live pass n then d else dropUntil seq pass n k (if seqEn (seq.getD (9 + k) 0) then d ||| 2 ^ (9 + k) else d)

/-- HK_STATUS follows the slices (R385). -/
def State.syncSlices (s : State) : State :=
  let n := s.activeSlices
  let retired := (List.range 5).any fun k => s.sliceState k == 3
  let spare := (List.range 5).any fun k => s.sliceState k == 1 || s.sliceState k == 2
  let s := (s.setF HK_STATUS.ACTIVE n).setF HK_STATUS.DEGRADED (b01 retired)
  let s := s.setF HK_STATUS.NO_SPARE (b01 (!spare))
  s.setF HK_STATUS.DROPPED (if n < 4 ∧ n ≠ 0 then dropUntil s.hk.seq (s.fld HK_CTRL.PASS) n 7 0 else 0)

/-- A slice is retired until power-up (R385). -/
def State.retireSlice (k : Nat) (s : State) : State :=
  let s := (s.setSlice k 3).incSat HK_SLICE.RETIRED
  let s := s.putHk { s.hk with order := s.hk.order.filter (· != k), doubt := s.hk.doubt.filter (· != k)
                               shadow := if s.hk.shadow = some k then none else s.hk.shadow }
  -- a retired active slice is replaced by the spare, which then converts
  let spare := (List.range 5).find? fun j => s.sliceState j == 1
  let s := match spare with
    | some j => if s.activeSlices < 4 then s.setSlice j 0 else s
    | none => s
  s.syncSlices

/-- A window change restarts its count (R383). -/
def State.restartWindow (k : Nat) (s : State) : State :=
  s.putHk { s.hk with entries := s.hk.entries.set k { s.hkEntry k with run := 0 } }

/-- HK_PASS (R381): a pass begins; accepted changes of sequence and windows apply, the slices of R385 too. -/
def execHkPass : State → Host.Outcome State Fault Refusal := act fun s =>
  let seq := s.hkSeqRegs
  let win := (List.range 16).map fun k => s.reg (Reg.HK_WIN k)
  let changed (k : Nat) : Bool :=
    decide (win.getD k 0 ≠ s.hk.win.getD k 0) || decide (seq.getD k 0 ≠ s.hk.seq.getD k 0)
  let s := s.each (fun k s => s.restartWindow k) ((List.range 16).filter changed)
  let s := s.putHk { s.hk with seq := seq, win := win, passTick := s.tick }
  s.syncSlices

/-- The window condition of R383: temperatures compare signed. -/
def windowParts (w win : Word) (v : Nat) : Bool × Bool :=
  let num (x : Nat) : Int := if seqChannel w ≤ 4 then signed 16 x else (x : Int)
  (decide (num v < num (bits win 0 16)), decide (num (bits win 16 16) < num v))

def windowHolds (w : Word) (parts : Bool × Bool) : Bool :=
  if seqWmode w = 1 then parts.1 || parts.2 else if seqWmode w = 2 then !parts.1 && !parts.2 else false

/-- Consumers of the fixed entries: die and ASIC temperatures, input, reservoir and output voltages (Table 18.3). -/
def State.publish (k v : Nat) (s : State) : State :=
  if k = 0 then (s.setF TEMP_01.T_LOW v).freshTemp 0
  else if k = 1 then (s.setF TEMP_01.T_HIGH v).freshTemp 1
  else if k = 2 then (s.setF TEMP_23.T_LOW v).freshTemp 2
  else if k = 3 then (s.setF TEMP_23.T_HIGH v).freshTemp 3
  else if k = 4 then (s.setF TEMP_ASIC.T_LOW v).freshTemp 4
  else if k = 5 then s.setF CONV_VIN.VBAT v
  else if k = 6 then s.setF CONV_VIN.VHOLD v
  else if k = 7 then s.setF CONV_AUX.VAUX v
  else if k = 8 then s.setF CONV_AUX.IAUX v else s

/-- HK_CONVERSION_DONE (R382, R383): entry `k` of the pass gives VALUE; `sat` says the input was beyond full scale. -/
def execHkConversionDone (k : Fin 16) (value : BitVec 16) (sat : Bool) : State → Host.Outcome State Fault Refusal :=
  act fun s =>
    let w := s.hk.seq.getD k.val 0
    if ¬ s.hkEnabled k.val then s
    else
      let parts := windowParts w (s.hk.win.getD k.val 0) value.toNat
      let holds := windowHolds w parts
      let need := max 1 (seqPersist w)
      let run := if holds then min (s.hkEntry k.val).run 15 + 1 else 0
      let res := w32 (value.toNat + 2 ^ 16 * b01 parts.1 + 2 ^ 17 * b01 parts.2 + 2 ^ 18 * b01 (decide (need ≤ run))
        + 2 ^ 19 * b01 (s.on HK_STATUS.DEGRADED) + 2 ^ 20 * b01 sat)
      let s := s.putHk { s.hk with entries := s.hk.entries.set k.val { res := res, at_ := some s.tick, run := run } }
      let s := s.when (run == need && holds) (State.raise Reg.HK_WEVENTS k.val)
      let dur := ((s.hk.seq.take (k.val + 1)).filter seqEn).foldl (fun n w => n + entryTime w) 0
      let s := s.setF HK_PASS_TIME.LAST (dur / max 1 s.activeSlices)
      (s.maxF HK_PASS_TIME.MAX (s.fld HK_PASS_TIME.LAST)).publish k.val value.toNat

/-- SLICE_CALIBRATION (R384): the spare is calibrated; `good` is false for an offset or a gain beyond its limit. -/
def execSliceCalibration (good : Bool) : State → Host.Outcome State Fault Refusal := act fun s =>
  match (List.range 5).find? (fun k => s.sliceState k == 1 || s.sliceState k == 2) with
  | none => s
  | some k =>
    if good then
      let s := s.setSlice k 1
      s.putHk { s.hk with order := s.hk.order.filter (· != k) ++ [k] }
    else s.retireSlice k

/-- SLICE_SWAP (R384, R385): the spare takes the place of the active slice calibrated longest ago, which converts the
first pass in parallel; `disagree` is the outcome of that shadow check. -/
def execSliceSwap (disagree : Bool) : State → Host.Outcome State Fault Refusal := act fun s =>
  match (List.range 5).find? (fun k => s.sliceState k == 1), s.hk.order.find? (fun k => s.sliceState k == 0) with
  | some sp, some old =>
    let s := (s.setSlice sp 0).setSlice old 1
    let s := (s.incSat HK_SLICE.SWAPS).putHk { s.hk with shadow := some old }
    if ¬ disagree then s.putHk { s.hk with shadow := none, doubt := s.hk.doubt.filter (· != old) }
    else if s.hk.doubt.contains old then s.retireSlice old
    else
      let s := s.setSlice old 2
      s.putHk { s.hk with shadow := none, doubt := s.hk.doubt ++ [old] }
  | _, _ => s

/-! ### Commands (Table 18.11) -/

/-- A pin is analog (R387). -/
def State.pinMux (s : State) (p : Nat) : Nat := s.fld ⟨Reg.PIO_PINMUX, 3 * p, 3⟩

/-- The channels a user entry may name (R380). -/
def userChannel (c : Nat) : Bool := (decide (9 ≤ c) && decide (c ≤ 0x0B)) || (decide (0x10 ≤ c) && decide (c ≤ 0x15))

/-- The words of HK_SEQ a user entry stores: the window fields stay. -/
def userWord (new old : Word) : Word :=
  let keep : Word := 0x0000FC00
  (new &&& 0x80FF031F) ||| (old &&& keep)

/-- A user entry is badly formed: a channel not permitted, or SAMPLE 0 with EN. -/
def userBad (w : Word) : Bool := !userChannel (seqChannel w) && (seqEn w || seqChannel w != 0) || (seqEn w && seqSample w == 0)

/-- An enabled entry names a PIO channel whose pin is not analog (R380). -/
def State.pinNotAnalog (s : State) (w : Word) : Bool :=
  seqEn w && decide (0x10 ≤ seqChannel w) && s.pinMux (seqChannel w - 0x10) != 5

def hkSeqCheck (p : List Byte) (s : State) : Option Verdict :=
  let pass := byteAt p 0 % 64
  let ws := (List.range 7).map fun j => wordAt p (4 + 4 * j)
  let seq := (List.range 9).map (fun k => s.reg (Reg.HK_SEQ k)) ++ ws
  refusals [(decide (pass < 4) || decide (40 < pass) || ws.any userBad || ws.any (fun w => bits w 10 6 != 0),
      (BAD_PARAM, [])),
    (!fitsIn seq pass 4, (REJECTED, reason 1)),
    (ws.any s.pinNotAnalog, (REJECTED, reason 2))]

def hkSeqApply (p : List Byte) (s : State) : State :=
  let s := s.setF HK_CTRL.PASS (byteAt p 0)
  s.each (fun j s => s.setReg (Reg.HK_SEQ (9 + j)) (userWord (wordAt p (4 + 4 * j)) (s.reg (Reg.HK_SEQ (9 + j)))))
    (List.range 7)

def cmdHkSequence : Cmd where
  op := 0xC0
  stages := stagesI
  len := lenIs 32
  check := fun r s => hkSeqCheck r.params s
  effect := fun r s => (hkSeqApply r.params s, [])

def execHkSequence (r : Req) : State → Host.Outcome State Fault Refusal := act (cmdHkSequence.run r)

/-- LOW lies above HIGH under the comparison of R383. -/
def windowBad (temp : Bool) (w : Word) : Bool :=
  let num (x : Nat) : Int := if temp then signed 16 x else (x : Int)
  decide (num (bits w 16 16) < num (bits w 0 16))

def hkWindowCheck (p : List Byte) (s : State) : Option Verdict :=
  let k := byteAt p 0
  refusals [(decide (15 < k) || decide (3 ≤ byteAt p 1) || decide (15 < byteAt p 2)
      || windowBad (decide (seqChannel (s.reg (Reg.HK_SEQ k)) ≤ 4) && decide (k < 5)) (wordAt p 4), (BAD_PARAM, []))]

def hkWindowApply (p : List Byte) (s : State) : State :=
  let k := byteAt p 0
  let s := (s.setF (HK_SEQ.WMODE k) (byteAt p 1)).setF (HK_SEQ.PERSIST k) (byteAt p 2)
  s.setReg (Reg.HK_WIN k) (wordAt p 4)

def cmdHkWindow : Cmd where
  op := 0xC1
  stages := stagesI
  len := lenIs 8
  check := fun r s => hkWindowCheck r.params s
  effect := fun r s => (hkWindowApply r.params s, [])

def execHkWindow (r : Req) : State → Host.Outcome State Fault Refusal := act (cmdHkWindow.run r)

def cmdHkRead : Cmd where
  op := 0xC2
  stages := stagesI
  len := lenIs 2
  check := fun r _ => if half r.params 0 = 0 then some (BAD_PARAM, []) else none
  effect := fun r s => (s, bytesOfWords (((List.range 16).filter ((half r.params 0).testBit ·)).map s.hkWord))

def execHkRead (r : Req) : State → Host.Outcome State Fault Refusal := act (cmdHkRead.run r)

def cmdHkStatus : Cmd where
  op := 0xC3
  stages := stagesI
  len := lenIs 0
  check := fun _ _ => none
  effect := fun _ s => (s, s.regBytes [Reg.HK_CTRL, Reg.HK_STATUS, Reg.HK_WEVENTS, Reg.HK_SLICE, Reg.HK_PASS_TIME])

def execHkStatus (r : Req) : State → Host.Outcome State Fault Refusal := act (cmdHkStatus.run r)

/-- A write to a register of page 0x08 (R397): refused ones store nothing and are recorded. -/
def State.writeHk (a : Nat) (w : Word) (s : State) : State :=
  let no (st : Nat) : State := s.setF HK_STATUS.REFUSED st
  if a = Reg.HK_CTRL then
    let pass := w.toNat % 64
    if pass < 4 ∨ 40 < pass then no BAD_PARAM
    else if ¬ fitsIn s.hkSeqRegs pass 4 then no REJECTED else s.setF HK_CTRL.PASS pass
  else if a < Reg.HK_WIN 0 then
    let k := (a - Reg.HK_SEQ 0) / 4
    if seqWmode w = 3 then no BAD_PARAM
    else if k < 9 then (s.setF (HK_SEQ.WMODE k) (seqWmode w)).setF (HK_SEQ.PERSIST k) (seqPersist w)
    else if userBad w then no BAD_PARAM
    else if ¬ fitsIn (s.hkSeqRegs.set k w) (s.fld HK_CTRL.PASS) 4 ∨ s.pinNotAnalog w then no REJECTED
    else s.setReg a (w &&& 0x80FFFF1F)
  else
    let k := (a - Reg.HK_WIN 0) / 4
    if windowBad (decide (k < 5)) w then no BAD_PARAM else s.setReg a w

end Sys2Proof.Machine
end

