-- ==== Sys2Proof/Machine/Machines.lean ====
section
/-!
DEFINITION. Commands of the event machines and of the recognizers (Tables 6.12, 8.16), the Ixust instructions as steps
of a run in progress, and the engine's own steps that need no sample.
-/
namespace Sys2Proof.Machine

/-- Machines named in a mask, ascending. -/
def maskList (n mask : Nat) : List Nat := (List.range n).filter (mask.testBit ·)

/-! ### Program memory (R150) -/

/-- Replace or insert a loaded word, addresses rising. -/
def insertWord (a : Nat) (w : Word) : List (Nat × Word) → List (Nat × Word)
  | [] => [(a, w)]
  | (b, x) :: rest =>
    if a < b then (a, w) :: (b, x) :: rest else if a = b then (a, w) :: rest else (b, x) :: insertWord a w rest

def State.putPmem (a : Nat) (w : Word) (s : State) : State :=
  s.putEng { s.eng with pmem := insertWord a w s.eng.pmem }

/-- The range overlaps the region of a RUNNING machine (reason 4). -/
def State.overlapsRunning (s : State) (first count : Nat) : Bool :=
  s.eng.machs.any fun m =>
    m.state == M_RUNNING && decide (first < m.entry + m.len) && decide (m.entry < first + count)

/-- The first failing word of a load: reason and address. -/
def badWord : Nat → List Word → Option (Nat × Nat)
  | _, [] => none
  | a, w :: ws => match ixReason w with
    | some r => some (r, a)
    | none => badWord (a + 1) ws

/-- The first failure of a load in the order of R150: reason and address. -/
def State.loadReason (s : State) (first : Nat) (ws : List Word) : Option (Nat × Nat) :=
  if 8192 < first + ws.length then some (3, first)
  else if s.overlapsRunning first ws.length then some (4, first) else badWord first ws

/-- Reply data of an event machine refusal: reason, machine, word address (R150, R151). -/
def emData (reason n addr : Nat) : List Byte := [BitVec.ofNat 8 reason, BitVec.ofNat 8 n] ++ leBytes 2 addr

def emLoadLen (p : List Byte) : Bool := decide (4 ≤ p.length) && p.length == 4 + 4 * half p 2

def emLoadCheck (p : List Byte) (s : State) : Option Verdict :=
  let n := half p 2
  if n = 0 ∨ 253 < n then some (BAD_PARAM, [])
  else (s.loadReason (half p 0) (wordsOfBytes (p.drop 4))).map fun r => (REJECTED, emData r.1 0 r.2)

def emLoadApply (p : List Byte) (s : State) : State :=
  let ws := wordsOfBytes (p.drop 4)
  s.each (fun x s => s.putPmem (half p 0 + x.1) x.2) ((List.range ws.length).zip ws)

def cmdEmLoad : Cmd where
  op := 0x40
  stages := stagesI
  len := emLoadLen
  check := fun r s => emLoadCheck r.params s
  effect := fun r s => (emLoadApply r.params s, [])

def execEmLoad (r : Req) : State → Host.Outcome State Fault Refusal := act (cmdEmLoad.run r)

/-! ### Configuration, start, stop, parameters (R130 to R132, R139, R151) -/

/-- A new region moves OFF and FAULT to STOPPED (Table 6.2). -/
def State.emRegion (n entry len : Nat) (s : State) : State :=
  let st := (s.mach n).state
  let s := s.setMach n fun m => { m with entry := entry, len := len }
  if st = M_OFF ∨ st = M_FAULT then s.setMachState n M_STOPPED else s

def emConfigCheck (p : List Byte) (s : State) : Option Verdict :=
  let n := byteAt p 0
  let entry := half p 2
  let len := half p 4
  refusals [(decide (31 < n) || decide (8191 < entry) || len == 0 || decide (8192 < entry + len), (BAD_PARAM, [])),
    (s.running n, (REJECTED, emData 8 n 0))]

def emConfigApply (p : List Byte) (s : State) : State :=
  (s.setMach (byteAt p 0) fun m => { m with flags := byteAt p 1 % 8 }).emRegion (byteAt p 0) (half p 2) (half p 4)

def cmdEmConfig : Cmd where
  op := 0x41
  stages := stagesI
  len := lenIs 6
  check := fun r s => emConfigCheck r.params s
  effect := fun r s => (emConfigApply r.params s, [])

def execEmConfig (r : Req) : State → Host.Outcome State Fault Refusal := act (cmdEmConfig.run r)

/-- A JMP or NEXT of the region whose target lies outside it, or an unloaded word, at an address. -/
def State.jumpsOut (s : State) (m : Mach) (a : Nat) : Bool :=
  match s.pmemAt a with
  | some w =>
    let t := ixImm w % 8192
    (ixOp w == 0x20 || ixOp w == 0x22) && (decide (t < m.entry) || decide (m.entry + m.len ≤ t))
  | none => false

/-- The lowest start reason of one machine with its word address (R151). -/
def State.startReason (s : State) (n : Nat) : Option (Nat × Nat) :=
  let m := s.mach n
  let region := (List.range m.len).map (m.entry + ·)
  if m.state = M_OFF then some (5, 0)
  else match region.find? (fun a => (s.pmemAt a).isNone), region.find? (fun a => s.jumpsOut m a) with
    | some a, _ => some (6, a)
    | none, some a => some (7, a)
    | none, none => if m.state = M_RUNNING then some (8, 0) else none

/-- The refusal of a start: the lowest-numbered machine that fails (R151). -/
def State.startRefusal (s : State) (mask : Nat) : Option (Nat × Nat × Nat) :=
  (maskList 32 mask).findSome? fun n => (s.startReason n).map fun r => (r.1, n, r.2)

/-- The region holds an RD of a committed-only stream (R138). -/
def State.commOnlyRegion (s : State) (m : Mach) : Bool :=
  (List.range m.len).any fun k =>
    match s.pmemAt (m.entry + k) with
    | some w => ixOp w == 0x04 && decide (8 ≤ ixImm w) && decide (ixImm w ≤ 10)
    | none => false

/-- One machine starts (R129, R131): its state is cleared; its first run is on tick `t0`. -/
def State.startMach (t0 n : Nat) (s : State) : State :=
  let m := s.mach n
  let conly := if m.forceConly then 1 else if s.commOnlyRegion m then 2 else 0
  let st := MState.start m.entry
  let s := s.setMach n fun m => { m with
    fault := 0, conly := conly, conf := st, cur := st, lastCount := 0, maxCount := 0, startTick := t0, starting := true
    pos := t0, runs := [], run := none, acts := [], haltTick := none }
  ((s.setMachState n M_RUNNING).emBit Reg.EM_CONLY n (conly != 0)).emBit Reg.EM_VOTE n false

def emStartCheck (mask : Nat) (s : State) : Option Verdict :=
  if mask = 0 then some (BAD_PARAM, [])
  else (s.startRefusal mask).map fun r => (REJECTED, emData r.1 r.2.1 r.2.2)

def emStartApply (mask : Nat) (s : State) : State := s.each (State.startMach s.nextFast) (maskList 32 mask)

def cmdEmStart : Cmd where
  op := 0x42
  stages := stagesI
  len := lenIs 4
  check := fun r s => emStartCheck (numAt r.params 0 4) s
  effect := fun r s => (emStartApply (numAt r.params 0 4) s, leBytes 8 s.nextFast)

def execEmStart (r : Req) : State → Host.Outcome State Fault Refusal := act (cmdEmStart.run r)

/-- Each named RUNNING machine stops (R132). -/
def emStopApply (mask : Nat) (s : State) : State := s.each (fun n s => s.stopMach n true) (maskList 32 mask)

def cmdEmStop : Cmd where
  op := 0x43
  stages := stagesI
  len := lenIs 4
  check := fun r _ => if numAt r.params 0 4 = 0 then some (BAD_PARAM, []) else none
  effect := fun r s => (emStopApply (numAt r.params 0 4) s, [])

def execEmStop (r : Req) : State → Host.Outcome State Fault Refusal := act (cmdEmStop.run r)

/-- A parameter word waits for its tick t_p (R139). -/
def State.emParam (n k : Nat) (w : Word) (s : State) : State :=
  let tp := s.nextFast
  s.setMach n fun m => { m with waiting := m.waiting ++ [(tp, k, w)] }

def emParamLen (p : List Byte) : Bool := decide (4 ≤ p.length) && p.length == 4 + 4 * byteAt p 2

def emParamCheck (p : List Byte) (_ : State) : Option Verdict :=
  let n := byteAt p 2
  refusals [(decide (31 < byteAt p 0) || n == 0 || decide (8 < n) || decide (8 < byteAt p 1 + n), (BAD_PARAM, []))]

def emParamApply (p : List Byte) (s : State) : State :=
  s.each (fun k s => s.emParam (byteAt p 0) (byteAt p 1 + k) (wordAt p (4 + 4 * k))) (List.range (byteAt p 2))

def cmdEmParam : Cmd where
  op := 0x44
  stages := stagesI
  len := emParamLen
  check := fun r s => emParamCheck r.params s
  effect := fun r s => (emParamApply r.params s, leBytes 8 s.nextFast)

def execEmParam (r : Req) : State → Host.Outcome State Fault Refusal := act (cmdEmParam.run r)

/-- Parameter words whose tick has come hold from it on (R139). -/
def State.applyParams (t : Nat) (s : State) : State :=
  s.putEng { s.eng with machs := s.eng.machs.map fun m => { m with
    changes := m.changes ++ m.waiting.filter fun c => decide (c.1 ≤ t)
    waiting := m.waiting.filter fun c => !decide (c.1 ≤ t) } }

/-- EM_PARAM_APPLY (R139) at tick `t`. -/
def execEmParamApply (t : BitVec 64) : State → Host.Outcome State Fault Refusal := act (State.applyParams t.toNat)

/-! ### Reading machines (R154, R155) -/

def b4 (z n c o : Bool) : Nat := b01 z + 2 * b01 n + 4 * b01 c + 8 * b01 o

def State.emStateWord (s : State) (n : Nat) : Word :=
  let m := s.mach n
  w32 (m.state + 2 ^ 4 * m.fault + 2 ^ 8 * m.conly + 2 ^ 11 * m.ckpts + 2 ^ 16 * m.lastCount + 2 ^ 24 * m.maxCount)

def State.emPcWord (s : State) (n : Nat) : Word :=
  let m := s.mach n
  w32 ((if m.state = M_FAULT then m.faultAddr else m.conf.next) + 2 ^ 16 * b4 m.conf.z m.conf.n m.conf.cy m.conf.o)

/-- The 20 words of EM_READ_STATE. -/
def State.emWords (s : State) (n : Nat) : List Word :=
  let m := (s.mach n).conf
  [s.emStateWord n, s.emPcWord n] ++ m.v ++ m.c ++ m.t.flatMap fun d => loHi (d.getD (2 ^ 64 - 1))

def cmdEmReadState : Cmd where
  op := 0x45
  stages := stagesI
  len := lenIs 1
  check := fun r _ => if 31 < byteAt r.params 0 then some (BAD_PARAM, []) else none
  effect := fun r s => (s, bytesOfWords (s.emWords (byteAt r.params 0)))

def execEmReadState (r : Req) : State → Host.Outcome State Fault Refusal := act (cmdEmReadState.run r)

def emCrcCheck (p : List Byte) (s : State) : Option Verdict :=
  let first := half p 0
  let n := half p 2
  if n = 0 ∨ 8192 < first + n then some (BAD_PARAM, [])
  else match (List.range n).find? fun k => (s.pmemAt (first + k)).isNone with
    | some k => some (REJECTED, emData 6 0 (first + k))
    | none => none

def cmdEmCrc : Cmd where
  op := 0x46
  stages := stagesI
  len := lenIs 4
  check := fun r s => emCrcCheck r.params s
  effect := fun r s =>
    let ws := (List.range (half r.params 2)).map fun k => (s.pmemAt (half r.params 0 + k)).getD 0
    (s, bytesOf (crc32 (bytesOfWords ws)))

def execEmCrc (r : Req) : State → Host.Outcome State Fault Refusal := act (cmdEmCrc.run r)

/-! ### Register forms (R155) -/

def State.emRefused (status reason addr : Nat) (s : State) : State :=
  ((s.setF EM_REFUSED.STATUS status).setF EM_REFUSED.REASON reason).setF EM_REFUSED.ADDR addr

/-- A write to EM_REGION. -/
def State.writeEmRegion (w : Word) (s : State) : State :=
  let n := s.fld EM_SEL.MACH
  let entry := bits w 0 13
  let len := bits w 16 14
  if s.running n then s.emRefused REJECTED 8 0
  else if len = 0 ∨ 8192 < entry + len then s.emRefused BAD_PARAM 0 0
  else s.emRegion n entry len

/-- A write to EM_FLAGS. -/
def State.writeEmFlags (w : Word) (s : State) : State :=
  let n := s.fld EM_SEL.MACH
  if s.running n then s.emRefused REJECTED 8 0 else s.setMach n fun m => { m with flags := w.toNat % 8 }

/-- EM_PMEM_ADDR advances after an accepted access, wrapping from 8191 to 0. -/
def State.emStep (s : State) : State := s.setF EM_PMEM_ADDR.ADDR ((s.fld EM_PMEM_ADDR.ADDR + 1) % 8192)

/-- A write to EM_PMEM_DATA (R150). -/
def State.writeEmPmem (w : Word) (s : State) : State :=
  let a := s.fld EM_PMEM_ADDR.ADDR
  match s.loadReason a [w] with
  | some r => s.emRefused REJECTED r.1 r.2
  | none => (s.putPmem a w).emStep

/-- Writing EM_START bits acts as the command (R131). -/
def State.writeEmStart (w : Word) (s : State) : State :=
  if w = 0 then s
  else match s.startRefusal w.toNat with
    | some r => s.emRefused REJECTED r.1 r.2.2
    | none => emStartApply w.toNat s

/-! ### Ixust instructions (Table 6.7) -/

/-- One instruction of the run in progress of machine `n`: its fields as Table 6.5 places them. Decisions that the
recognizers owe for the tick come first (R134). -/
def ixRow (op : Nat) (n : Fin 32) (cond : Fin 16) (d sr : Fin 8) (imm : BitVec 16) :
    State → Host.Outcome State Fault Refusal :=
  act fun s => s.finishAllDue.runWord n.val (ixWord op d.val sr.val cond.val imm.toNat)

def execIxNop (n : Fin 32) (cond : Fin 16) := ixRow 0x00 n cond 0 0 0
def execIxLdi (n : Fin 32) (cond : Fin 16) (d : Fin 8) (imm : BitVec 16) := ixRow 0x01 n cond d 0 imm
def execIxLdh (n : Fin 32) (cond : Fin 16) (d : Fin 8) (imm : BitVec 16) := ixRow 0x02 n cond d 0 imm
def execIxMov (n : Fin 32) (cond : Fin 16) (d sr : Fin 8) := ixRow 0x03 n cond d sr 0
def execIxRd (n : Fin 32) (cond : Fin 16) (d : Fin 8) (stream : BitVec 8) := ixRow 0x04 n cond d 0 (stream.setWidth 16)
def execIxAdd (n : Fin 32) (cond : Fin 16) (d sr : Fin 8) := ixRow 0x05 n cond d sr 0
def execIxAddi (n : Fin 32) (cond : Fin 16) (d : Fin 8) (imm : BitVec 16) := ixRow 0x06 n cond d 0 imm
def execIxSub (n : Fin 32) (cond : Fin 16) (d sr : Fin 8) := ixRow 0x07 n cond d sr 0
def execIxCmp (n : Fin 32) (cond : Fin 16) (d sr : Fin 8) := ixRow 0x08 n cond d sr 0
def execIxCmpi (n : Fin 32) (cond : Fin 16) (d : Fin 8) (imm : BitVec 16) := ixRow 0x09 n cond d 0 imm
def execIxMul (n : Fin 32) (cond : Fin 16) (d sr : Fin 8) (k : BitVec 5) := ixRow 0x0A n cond d sr (k.setWidth 16)
def execIxAbs (n : Fin 32) (cond : Fin 16) (d sr : Fin 8) := ixRow 0x0B n cond d sr 0
def execIxMin (n : Fin 32) (cond : Fin 16) (d sr : Fin 8) := ixRow 0x0C n cond d sr 0
def execIxMax (n : Fin 32) (cond : Fin 16) (d sr : Fin 8) := ixRow 0x0D n cond d sr 0
def execIxAnd (n : Fin 32) (cond : Fin 16) (d sr : Fin 8) := ixRow 0x0E n cond d sr 0
def execIxOr (n : Fin 32) (cond : Fin 16) (d sr : Fin 8) := ixRow 0x0F n cond d sr 0
def execIxXor (n : Fin 32) (cond : Fin 16) (d sr : Fin 8) := ixRow 0x10 n cond d sr 0
def execIxShr (n : Fin 32) (cond : Fin 16) (d sr : Fin 8) (k : BitVec 5) := ixRow 0x11 n cond d sr (k.setWidth 16)
def execIxShl (n : Fin 32) (cond : Fin 16) (d sr : Fin 8) (k : BitVec 5) := ixRow 0x12 n cond d sr (k.setWidth 16)
/-- S is at most 5 (Table 6.7). -/
def execIxMag3 (n : Fin 32) (cond : Fin 16) (d : Fin 8) (sr : Fin 6) := ixRow 0x13 n cond d (sr.castLE (by decide)) 0
def execIxFilt (n : Fin 32) (cond : Fin 16) (d sr : Fin 8) (k : BitVec 5) := ixRow 0x14 n cond d sr (k.setWidth 16)
def execIxTset (n : Fin 32) (cond : Fin 16) (timer : Fin 4) (imm : BitVec 16) :=
  ixRow 0x18 n cond (timer.castLE (by decide)) 0 imm
def execIxTsetv (n : Fin 32) (cond : Fin 16) (timer : Fin 4) (sr : Fin 8) :=
  ixRow 0x19 n cond (timer.castLE (by decide)) sr 0
def execIxTclr (n : Fin 32) (cond : Fin 16) (timer : Fin 4) := ixRow 0x1A n cond (timer.castLE (by decide)) 0 0
def execIxTst (n : Fin 32) (cond : Fin 16) (timer : Fin 4) := ixRow 0x1B n cond (timer.castLE (by decide)) 0 0
def execIxCadd (n : Fin 32) (cond : Fin 16) (ctr : Fin 2) (imm : BitVec 16) :=
  ixRow 0x1C n cond (ctr.castLE (by decide)) 0 imm
def execIxCclr (n : Fin 32) (cond : Fin 16) (ctr : Fin 2) := ixRow 0x1D n cond (ctr.castLE (by decide)) 0 0
def execIxJmp (n : Fin 32) (cond : Fin 16) (target : BitVec 13) := ixRow 0x20 n cond 0 0 (target.setWidth 16)
def execIxEnd (n : Fin 32) (cond : Fin 16) := ixRow 0x21 n cond 0 0 0
def execIxNext (n : Fin 32) (cond : Fin 16) (target : BitVec 13) := ixRow 0x22 n cond 0 0 (target.setWidth 16)
def execIxHalt (n : Fin 32) (cond : Fin 16) := ixRow 0x23 n cond 0 0 0
def execIxCkpt (n : Fin 32) (cond : Fin 16) := ixRow 0x24 n cond 0 0 0
def execIxEmit (n : Fin 32) (cond : Fin 16) (d sr : Fin 8) (code : BitVec 16) := ixRow 0x28 n cond d sr code
def execIxSafeoff (n : Fin 32) (cond : Fin 16) (reason : BitVec 8) := ixRow 0x29 n cond 0 0 (reason.setWidth 16)
def execIxPiow (n : Fin 32) (cond : Fin 16) (sr : Fin 8) (engine : Fin 4) :=
  ixRow 0x2A n cond 0 sr (BitVec.ofNat 16 engine.val)
/-- `source` none: the machine's own source; else a software source 120 to 127. -/
def execIxBell (n : Fin 32) (cond : Fin 16) (source : Option (Fin 8)) :=
  ixRow 0x2B n cond 0 0 (match source with | none => 0 | some k => BitVec.ofNat 16 (120 + k.val))
def execIxCapt (n : Fin 32) (cond : Fin 16) (desc : Fin 4) := ixRow 0x2C n cond 0 0 (BitVec.ofNat 16 desc.val)
def execIxVote (n : Fin 32) (cond : Fin 16) (v : Bool) := ixRow 0x2D n cond 0 0 (BitVec.ofNat 16 (b01 v))

/-! ### Replay and rejoin -/

/-- REPLAY_RUN (R165): in replay or rejoin the machine ends its run in progress and starts its next one. -/
def execReplayRun (n : Fin 32) : State → Host.Outcome State Fault Refusal := act fun s =>
  (s.finishAllDue.endOpen n.val).openNext n.val

/-- SPEC_REJOIN (R171): a fallen-back machine holds no open checkpoint and 16 pool entries are free. -/
def execSpecRejoin (n : Fin 32) : State → Host.Outcome State Fault Refusal := act fun s =>
  let s := s.endOpen n.val
  let m := s.mach n.val
  if m.state = M_RUNNING ∧ (m.conly = 3 ∨ m.conly = 4) ∧ m.ckpts = 0 ∧ s.poolUsed ≤ 48 then
    let t := ((s.eng.ticks.find? fun e => decide (m.pos ≤ e.tick)).map (·.tick)).getD s.nextFast
    let s := (s.setMach n.val fun m => { m with conly := 0 }).emBit Reg.EM_CONLY n.val false
    ((s.incSat SPEC_FALLBACK.REJOINS).hold 5 0 (statusRec 0x12 n.val t [])).openNext n.val
  else s

/-! ### Recognizer settings (R200, R202, R203) -/

/-- Accepted settings wait for t_p; changes of one t_p join. -/
def State.pushCfg (clear : Nat) (s : State) : State :=
  let tp := s.nextFast
  match s.eng.cfgs.getLast? with
  | some c =>
    if ¬ c.applied ∧ c.tp = tp then
      s.putEng { s.eng with cfgs := s.eng.cfgs.dropLast ++ [s.snapCfg tp (c.clear ||| clear)] }
    else s.putEng { s.eng with cfgs := s.eng.cfgs ++ [s.snapCfg tp clear] }
  | none => s.putEng { s.eng with cfgs := [s.snapCfg tp clear] }

/-- Ranges of Tables 8.6 to 8.14: word (1 PAR_A to 4 PAR_D), upper half, least, greatest. -/
def recRanges (i : Nat) : List (Nat × Bool × Nat × Nat) :=
  match i with
  | 0 => [(1, false, 500, 32000), (1, true, 0, 50), (2, false, 10, 1000), (2, true, 100, 5000)]
  | 1 => [(1, false, 5, 500), (1, true, 20, 2000), (2, false, 0, 500), (2, true, 100, 5000), (3, false, 100, 4000),
          (3, true, 50, 5000)]
  | 2 => [(1, false, 50, 900), (1, true, 10, 200), (2, false, 0, 5000), (2, true, 0, 5000)]
  | 3 => [(1, false, 50, 800), (1, true, 5, 1000), (2, false, 10, 1000), (2, true, 20, 4000)]
  | 4 => [(1, false, 100, 900), (1, true, 2, 200), (2, false, 200, 16000), (2, true, 10, 500), (3, false, 10, 500)]
  | 5 => [(1, false, 10, 5000), (1, true, 1, 1000), (2, false, 1, 1000), (2, true, 50, 2000), (3, false, 50, 10000),
          (3, true, 10, 5000)]
  | 6 => [(1, false, 10, 1000), (1, true, 20, 4000), (2, false, 0, 5000), (2, true, 10, 5000), (3, false, 0, 2000)]
  | 7 => [(1, false, 16, 2000), (1, true, 1, 255), (2, false, 250, 60000), (2, true, 20, 900), (3, false, 0, 10000)]
  | 8 => [(1, false, 50, 8000), (1, true, 16, 16000), (2, false, 100, 10000), (2, true, 0, 30000),
          (3, false, 0, 30000), (3, true, 0, 50)]
  | _ => []

/-- The lowest parameter word of a block with a field outside its range; `par` gives words 1 to 4. -/
def recBadWord (i : Nat) (par : Nat → Word) : Option Nat :=
  let bad (r : Nat × Bool × Nat × Nat) : Bool :=
    let v := bits (par r.1) (if r.2.1 then 16 else 0) 16
    decide (v < r.2.2.1) || decide (r.2.2.2 < v)
  match (recRanges i).find? bad with
  | some r => some r.1
  | none => if i = 2 ∧ bits (par 1) 0 16 ≤ bits (par 1) 16 16 then some 1 else none

/-- Reply data of a recognizer refusal (R202). -/
def recData (rec_ word : Nat) : List Byte := [BitVec.ofNat 8 rec_, BitVec.ofNat 8 word, 0, 0]

/-- SPEC_ACT on THEFT or IMBALANCE (R181). -/
def specBarred (i : Nat) (ctrl : Word) : Bool := (i == 7 || i == 8) && bit ctrl 0

def recConfigCheck (p : List Byte) (_ : State) : Option Verdict :=
  let i := byteAt p 0
  if 8 < i then some (BAD_PARAM, recData i 0)
  else match recBadWord i (fun j => wordAt p (4 + 4 * j)) with
    | some w => some (BAD_PARAM, recData i w)
    | none => if specBarred i (wordAt p 4) then some (REJECTED, recData i 0) else none

def recConfigApply (p : List Byte) (s : State) : State :=
  let i := byteAt p 0
  let s := s.putWritable (Reg.REC_CTRL i) (wordAt p 4)
  let s := (s.putWritable (Reg.REC_PAR_A i) (wordAt p 8)).putWritable (Reg.REC_PAR_B i) (wordAt p 12)
  let s := (s.putWritable (Reg.REC_PAR_C i) (wordAt p 16)).putWritable (Reg.REC_PAR_D i) (wordAt p 20)
  s.pushCfg 0

def cmdRecConfig : Cmd where
  op := 0x51
  stages := stagesI
  len := lenIs 24
  check := fun r s => recConfigCheck r.params s
  effect := fun r s => (recConfigApply r.params s, leBytes 8 s.nextFast)

def execRecConfig (r : Req) : State → Host.Outcome State Fault Refusal := act (cmdRecConfig.run r)

def recEnableCheck (p : List Byte) (_ : State) : Option Verdict :=
  if 512 ≤ numAt p 0 4 then some (BAD_PARAM, recData 0x0F 0) else none

def recEnableApply (p : List Byte) (s : State) : State := (s.setF REC_ENABLE.MASK (numAt p 0 4)).pushCfg 0

def cmdRecEnable : Cmd where
  op := 0x50
  stages := stagesI
  len := lenIs 4
  check := fun r s => recEnableCheck r.params s
  effect := fun r s => (recEnableApply r.params s, leBytes 8 s.nextFast)

def execRecEnable (r : Req) : State → Host.Outcome State Fault Refusal := act (cmdRecEnable.run r)

/-- The first common register with a field outside its range: 5 REC_WHEEL, 6 REC_COUNTS_PER_M, 7 REC_GEOM. -/
def recCommonBad (wheel cpm geom : Word) : Option Nat :=
  let tau := bits wheel 8 8
  let track := bits geom 0 16
  let att := bits geom 16 16
  if tau < 5 ∨ 200 < tau then some 5
  else if cpm ≠ 0 ∧ (cpm.toNat < 100 ∨ 10000000 < cpm.toNat) then some 6
  else if (track ≠ 0 ∧ (track < 100 ∨ 5000 < track)) ∨ att < 200 ∨ 20000 < att then some 7 else none

def recWheelCheck (p : List Byte) (_ : State) : Option Verdict :=
  (recCommonBad (wordAt p 0) (wordAt p 4) (wordAt p 8)).map fun w => (BAD_PARAM, recData 0x0F w)

def recWheelApply (p : List Byte) (s : State) : State :=
  (((s.putWritable Reg.REC_WHEEL (wordAt p 0)).putWritable Reg.REC_COUNTS_PER_M (wordAt p 4)).putWritable
    Reg.REC_GEOM (wordAt p 8)).pushCfg 0

def cmdRecWheel : Cmd where
  op := 0x52
  stages := stagesI
  len := lenIs 12
  check := fun r s => recWheelCheck r.params s
  effect := fun r s => (recWheelApply r.params s, leBytes 8 s.nextFast)

def execRecWheel (r : Req) : State → Host.Outcome State Fault Refusal := act (cmdRecWheel.run r)

def cmdRecClear : Cmd where
  op := 0x53
  stages := stagesI
  len := lenIs 1
  check := fun r _ => if 8 < byteAt r.params 0 then some (BAD_PARAM, recData (byteAt r.params 0) 0) else none
  effect := fun r s => (s.pushCfg (2 ^ byteAt r.params 0), leBytes 8 s.nextFast)

def execRecClear (r : Req) : State → Host.Outcome State Fault Refusal := act (cmdRecClear.run r)

def cmdRecRead : Cmd where
  op := 0x54
  stages := stagesI
  len := lenIs 1
  check := fun r _ => if 8 < byteAt r.params 0 then some (BAD_PARAM, recData (byteAt r.params 0) 0) else none
  effect := fun r s =>
    let i := byteAt r.params 0
    (s, s.regBytes [Reg.REC_CTRL i, Reg.REC_PAR_A i, Reg.REC_PAR_B i, Reg.REC_PAR_C i, Reg.REC_PAR_D i, Reg.REC_STATE i])

def execRecRead (r : Req) : State → Host.Outcome State Fault Refusal := act (cmdRecRead.run r)

def State.recRefused (status rec_ word : Nat) (s : State) : State :=
  ((s.setF REC_REFUSED.STATUS status).setF REC_REFUSED.REC rec_).setF REC_REFUSED.WORD word

/-- A write to a register of page 0x0F (R203): refused ones store nothing and are recorded. -/
def State.writeRec (a : Nat) (w : Word) (s : State) : State :=
  let new := (s.reg a &&& ~~~ rwMask a) ||| (w &&& rwMask a)
  if a = Reg.REC_ENABLE then (s.putWritable a w).pushCfg 0
  else if a = Reg.REC_WHEEL ∨ a = Reg.REC_COUNTS_PER_M ∨ a = Reg.REC_GEOM then
    let pick (b : Nat) : Word := if a = b then new else s.reg b
    match recCommonBad (pick Reg.REC_WHEEL) (pick Reg.REC_COUNTS_PER_M) (pick Reg.REC_GEOM) with
    | some k => s.recRefused BAD_PARAM 0x0F k
    | none => (s.setReg a new).pushCfg 0
  else
    let i := (a - Reg.REC_CTRL 0) / 24
    let j := (a - Reg.REC_CTRL 0) % 24 / 4
    if j = 0 then
      if specBarred i new then s.recRefused REJECTED i 0 else (s.setReg a new).pushCfg 0
    else
      match recBadWord i (fun k => if k = j then new else s.reg (Reg.REC_CTRL i + 4 * k)) with
      | some k => s.recRefused BAD_PARAM i k
      | none => (s.setReg a new).pushCfg 0

/-- REC_CONFIG_APPLY (R200) at tick `t`. -/
def execRecConfigApply (t : BitVec 64) : State → Host.Outcome State Fault Refusal := act (State.applyCfg t.toNat)

/-- REC_DECLARE (R180): the deciding sample of recognizer `i` has been evaluated. -/
def execRecDeclare (i : Fin 9) : State → Host.Outcome State Fault Refusal := act fun s =>
  match s.eng.lastFast with
  | some t => s.when ((s.eng.dec.getD i.val defaultDec).due == 1) (State.finishDue i.val t)
  | none => s

/-- REC_RELEASE (R180): the release duration of recognizer `i` is complete. -/
def execRecRelease (i : Fin 9) : State → Host.Outcome State Fault Refusal := act fun s =>
  match s.eng.lastFast with
  | some t => s.when ((s.eng.dec.getD i.val defaultDec).due == 2) (State.finishDue i.val t)
  | none => s

/-- The mean of vectors. -/
def meanV (vs : List (List Rat)) : List Rat := scaleV (1 / (vs.length : Rat)) (vs.foldl addV [0, 0, 0])

/-- THEFT_REFERENCE (R196): one second after the enable or REC_CLEAR the mean sentinel vector is the reference. -/
def execTheftReference : State → Host.Outcome State Fault Refusal := act fun s =>
  let th := s.eng.theft
  if th.from_.isSome ∧ th.recent ≠ [] then
    s.putEng { s.eng with theft := { th with ref := some (meanV (th.recent.map (·.2))), from_ := none } }
  else s

end Sys2Proof.Machine
end

