-- ==== Sys2Proof/Machine/Pio.lean ====
section
/-!
DEFINITION. Programmable I/O (chapter 18): pins, engines, instructions, legacy mode; commands and events.
-/
namespace Sys2Proof.Machine

/-! ### Pins (R387, R391, R220) -/

/-- Engine that owns a pin, by its PIO_PINMUX code. -/
def State.pinOwner (s : State) (p : Nat) : Option Nat :=
  let c := s.pinMux p
  if 1 ≤ c ∧ c ≤ 4 then some (c - 1) else none

/-- Mask of the pins an engine owns. -/
def State.owned (s : State) (k : Nat) : Nat := maskOf ((List.range 6).map fun p => s.pinOwner p == some k)

/-- Mask of analog pins: engines read them as 0. -/
def State.analogPins (s : State) : Nat := maskOf ((List.range 6).map fun p => s.pinMux p == 5)

def State.putPins (p : PinPart) (s : State) : State := { s with pins := p }

/-- Filtered levels of the digital pins. -/
def State.pinLevels (s : State) : Nat := s.pins.inp &&& (63 - s.analogPins)

/-- Replace the bits of a mask. -/
def mergeBits (old new mask : Nat) : Nat := (old &&& (63 - mask % 64)) ||| (new &&& (mask % 64))

/-- The pins of a mask take their PIO_SAFE_LEVEL: 1 low and 2 high drive, else high-Z (Table 9.9). -/
def State.applySafeLevel (mask : Nat) (s : State) : State :=
  let level (p : Nat) : Nat := s.fld ⟨Reg.PIO_SAFE_LEVEL, 2 * p, 2⟩
  let oe := maskOf ((List.range 6).map fun p => level p == 1 || level p == 2)
  let out := maskOf ((List.range 6).map fun p => level p == 2)
  s.putPins { s.pins with oe := mergeBits s.pins.oe oe mask, out := mergeBits s.pins.out out mask }

/-- PIO_PINS as it reads; a held pin shows its PIO_SAFE_LEVEL. -/
def State.pioPins (s : State) : Word :=
  let h := (s.applySafeLevel s.pins.held).pins
  w32 (s.pinLevels + 2 ^ 8 * h.oe + 2 ^ 16 * h.out + 2 ^ 24 * s.pins.held)

/-- Release held pins: those of a mask, and those no engine owns, unless LOCKED holds them (R220, R391). -/
def State.releasePins (mask : Nat) (s : State) : State :=
  if s.safeState = LOCKED then s
  else
    let free := maskOf ((List.range 6).map fun p => (s.pinOwner p).isNone)
    let gone := s.pins.held &&& (mask ||| free)
    s.putPins { s.pins with
      held := s.pins.held &&& (63 - gone), oe := s.pins.oe &&& (63 - (gone &&& free)) }

/-! ### Instruction words (Table 18.5) -/

def pOp (w : Word) : Nat := bits w 28 4
def pA (w : Word) : Nat := bits w 25 3
def pB (w : Word) : Nat := bits w 22 3
def pM (w : Word) : Nat := bits w 16 6
def pI (w : Word) : Nat := bits w 0 16

/-- An instruction word from its fields. -/
def pWord (op a b m i : Nat) : Word :=
  w32 (op * 2 ^ 28 + a % 8 * 2 ^ 25 + b % 8 * 2 ^ 22 + m % 64 * 2 ^ 16 + i % 2 ^ 16)

/-- A word never loaded reads HALT (R389). -/
abbrev P_HALT : Word := 0xF0000000

/-- Reasons 2 and 3 of Table 18.7 for an instruction word. -/
def pioReason (w : Word) : Option Nat :=
  let a := pA w
  let b := pB w
  let m := pM w
  let i := pI w
  let need (ok : Bool) : Option Nat := if ok then none else some 2
  match pOp w with
  | 0x0 => need (w == 0)
  | 0x1 => if ¬ (m = 0 ∧ (if a = 5 ∨ a = 6 then b < 6 else b = 0)) then some 2 else if 63 < i then some 3 else none
  | 0x2 => need (a == 0 && b == 0 && decide (i < 64))
  | 0x3 => need (a == 0 && b == 0 && decide (i < 64))
  | 0x4 => need (decide (a < 4) && decide (b < 6) && m == 0 && i == 0)
  | 0x5 => if ¬ (a = 0 ∧ b = 0 ∧ m = 0) then some 2 else if 48 < i then some 3 else none
  | 0x6 => if ¬ (a < 3 ∧ b = 0) then some 2 else if 63 < i then some 3 else none
  | 0x7 => need (decide (a < 3) && b == 0 && m == 0)
  | 0x8 => need (decide (a < 3) && b == 0 && m == 0)
  | 0x9 => need (decide (a < 3) && b == 0 && m == 0 && i == 0)
  | 0xA => need (a == 0 && b == 0 && i == 0)
  | 0xB => need (w == 0xB0000000)
  | 0xF => need (w == P_HALT)
  | _ => some 2

/-- The pins an instruction would drive or turn. -/
def pioMask (w : Word) : Nat := if pOp w = 2 ∨ pOp w = 3 ∨ pOp w = 0xA then pM w else 0

/-- The bits of a legacy ACTION word that must be 0 (R393). -/
def actionBad (w : Word) : Bool := decide (w &&& ~~~ (0x00073F3F : Word) ≠ 0)

/-! ### Engines -/

def pioGet (k : Nat) (e : PioEngine) : Word := if k = 0 then e.x else if k = 1 then e.y else e.port
def pioPut (k : Nat) (w : Word) (e : PioEngine) : PioEngine :=
  if k = 0 then { e with x := w } else if k = 1 then { e with y := w } else { e with port := w }

def PioEngine.word (e : PioEngine) (a : Nat) : Word := (e.mem.lookup a).getD P_HALT

def State.legacy (s : State) (k : Nat) : Bool := s.on (bitF Reg.PIO_MODE k)

/-- JMP's condition. -/
def pioCond (a b pins : Nat) (e : PioEngine) : Bool :=
  match a with
  | 0 => true
  | 1 => e.x == 0
  | 2 => e.x != 0
  | 3 => e.y == 0
  | 4 => e.y != 0
  | 5 => pins.testBit b
  | 6 => !pins.testBit b
  | _ => e.x != e.y

/-- The next PC of an instruction, where it is a jump that is taken. -/
def pioTarget (w : Word) (pins : Nat) (e : PioEngine) : Option Nat :=
  match pOp w with
  | 0x1 => if pioCond (pA w) (pB w) pins e then some (pI w % 64) else none
  | 0x5 => some ((pI w + bits e.x 0 4) % 64)
  | 0x6 => some (pI w % 64)
  | _ => none

/-- What an instruction does to its engine's registers. -/
def pioRegs (w : Word) (pins : Nat) (e : PioEngine) : PioEngine :=
  match pOp w with
  | 0x4 =>
    let width := pA w + 1
    { e with x := (e.x <<< width) ||| w32 (pins >>> pB w % 2 ^ width) }
  | 0x6 => pioPut (pA w) (pioGet (pA w) e + BitVec.ofInt 32 (signed 6 (pM w))) e
  | 0x7 => pioPut (pA w) (w32 (pI w)) e
  | 0x8 => pioPut (pA w) (w32 (pI w)) { e with nport := pioGet (pA w) e }
  | 0x9 => pioPut (pA w) e.mport e
  | _ => e

/-- What an instruction does to the pins: owned ones that no safety hold keeps (R387, R391). -/
def State.pioDrive (k : Nat) (w : Word) (s : State) : State :=
  let mask := pM w &&& s.owned k &&& (63 - s.pins.held)
  match pOp w with
  | 0x2 => s.putPins { s.pins with out := mergeBits s.pins.out (pI w) mask }
  | 0x3 => s.putPins { s.pins with oe := mergeBits s.pins.oe (pI w) mask }
  | 0xA => s.putPins { s.pins with out := mergeBits s.pins.out (bits (s.pioEngine k).x 0 6) mask }
  | _ => s

/-- Change an engine's state, with PIO_RUN. -/
def State.setPioState (k st : Nat) (s : State) : State :=
  ((s.setPio k fun e => { e with state := st }).setF (bitF Reg.PIO_RUN k) (b01 (st == 1))).setF
    (bitF Reg.PIO_RUN (4 + k)) (b01 (st == 2))

/-- Execute one word in an engine: pins, registers, events, the period word of PUT (R389, R390). The PC is the
caller's. -/
def State.pioExec (k : Nat) (w : Word) (s : State) : State :=
  let pins := s.pinLevels
  let period := pioGet (pA w) (s.pioEngine k)
  let s := (s.pioDrive k w).setPio k (pioRegs w pins)
  match pOp w with
  | 0x8 => s.notchPeriod k period
  | 0xB => s.raise Reg.PIO_EVENTS k
  | 0xF => (s.setPioState k 2).raise Reg.PIO_EVENTS k
  | _ => s

/-- One 48 MHz cycle of a RUNNING engine that fetches a word. -/
def State.pioCycle (k : Nat) (w : Word) (s : State) : State :=
  let e := s.pioEngine k
  let pc := (pioTarget w s.pinLevels e).getD ((e.pc + 1) % 64)
  let s := s.pioExec k w
  let halted := pOp w == 0xF
  s.setPio k fun e => { e with pc := if halted then e.pc else pc, tcnt := e.tcnt + 1 }

/-- An instruction row: engine `k` is RUNNING on instructions and fetched this word; `pins` are the filtered levels it
sees where it reads pins. -/
def pioRow (k : Fin 4) (w : Word) : State → Host.Outcome State Fault Refusal := act fun s =>
  if (s.pioEngine k.val).state = 1 ∧ ¬ s.legacy k.val then s.pioCycle k.val w else s

def pioRowPins (k : Fin 4) (pins : BitVec 6) (w : Word) : State → Host.Outcome State Fault Refusal := act fun s =>
  let s := s.putPins { s.pins with inp := pins.toNat }
  if (s.pioEngine k.val).state = 1 ∧ ¬ s.legacy k.val then s.pioCycle k.val w else s

def execPioNop (k : Fin 4) := pioRow k (pWord 0x0 0 0 0 0)
def execPioJmp (k : Fin 4) (pins : BitVec 6) (cond : Fin 8) (pin target : BitVec 6) :=
  pioRowPins k pins (pWord 0x1 cond.val (if cond.val = 5 ∨ cond.val = 6 then pin.toNat % 6 else 0) 0 target.toNat)
def execPioSet (k : Fin 4) (mask levels : BitVec 6) := pioRow k (pWord 0x2 0 0 mask.toNat levels.toNat)
def execPioDir (k : Fin 4) (mask dirs : BitVec 6) := pioRow k (pWord 0x3 0 0 mask.toNat dirs.toNat)
/-- `width` is w - 1. -/
def execPioShin (k : Fin 4) (pins : BitVec 6) (width : Fin 4) (pin : Fin 6) :=
  pioRowPins k pins (pWord 0x4 width.val pin.val 0 0)
def execPioJtab (k : Fin 4) (base : Fin 49) := pioRow k (pWord 0x5 0 0 0 base.val)
def execPioAddj (k : Fin 4) (reg : Fin 3) (delta target : BitVec 6) :=
  pioRow k (pWord 0x6 reg.val 0 delta.toNat target.toNat)
def execPioLdi (k : Fin 4) (reg : Fin 3) (value : BitVec 16) := pioRow k (pWord 0x7 reg.val 0 0 value.toNat)
def execPioPut (k : Fin 4) (reg : Fin 3) (reload : BitVec 16) := pioRow k (pWord 0x8 reg.val 0 0 reload.toNat)
def execPioGet (k : Fin 4) (reg : Fin 3) := pioRow k (pWord 0x9 reg.val 0 0 0)
def execPioSetx (k : Fin 4) (mask : BitVec 6) := pioRow k (pWord 0xA 0 0 mask.toNat 0)
def execPioIrq (k : Fin 4) := pioRow k (pWord 0xB 0 0 0 0)
def execPioHalt (k : Fin 4) := pioRow k P_HALT

/-! ### Legacy mode (R393) -/

/-- The current entry of a legacy table is due. -/
def PioEngine.due (e : PioEngine) : Bool := decide ((e.tcnt - e.word (2 * e.entry)).toNat < 2 ^ 31)

/-- The current entry fires: pins, IRQ, then the next entry, the halt after LAST or the RESTART. -/
def State.legacyFire (k : Nat) (s : State) : State :=
  let e := s.pioEngine k
  let a := e.word (2 * e.entry + 1)
  let mask := bits a 0 6 &&& s.owned k &&& (63 - s.pins.held)
  let s := s.putPins { s.pins with out := mergeBits s.pins.out (bits a 8 6) mask }
  let s := s.when (bit a 16) (State.raise Reg.PIO_EVENTS k)
  if bit a 18 then s.setPio k fun e => { e with entry := 0, tcnt := 0 }
  else if bit a 17 ∨ 31 ≤ e.entry then s.setPioState k 2
  else s.setPio k fun e => { e with entry := e.entry + 1, tcnt := e.tcnt + 1 }

/-- LEGACY_ACTION_FIRE (R393): TCNT has reached the current entry's TIME. -/
def execLegacyActionFire (k : Fin 4) : State → Host.Outcome State Fault Refusal := act fun s =>
  if (s.pioEngine k.val).state = 1 ∧ s.legacy k.val then
    let s := s.setPio k.val fun e => if e.due then e else { e with tcnt := e.word (2 * e.entry) }
    s.legacyFire k.val
  else s

/-- One cycle of an engine on its own: fetch and execute, or the legacy table. -/
def State.pioTick (k : Nat) (s : State) : State :=
  let e := s.pioEngine k
  if e.state ≠ 1 then s
  else if s.legacy k then
    (if e.due then s.legacyFire k else s.setPio k fun e => { e with tcnt := e.tcnt + 1 })
  else s.pioCycle k (e.word e.pc)

/-- Cycles of all four engines together. -/
def State.pioRun : Nat → State → State
  | 0, s => s
  | n + 1, s => ((((s.pioTick 0).pioTick 1).pioTick 2).pioTick 3).pioRun n

/-! ### Commands (Table 18.11) -/

/-- PIO_REFUSED: status, reason, word address. -/
def State.pioRefused (status reason addr : Nat) (s : State) : State :=
  ((s.setF PIO_REFUSED.STATUS status).setF PIO_REFUSED.REASON reason).setF PIO_REFUSED.WORD addr

/-- The reason that bars a word of an engine's memory: instruction checks, or those of a legacy ACTION. -/
def State.pioWordReason (s : State) (k a : Nat) (w : Word) : Option Nat :=
  if s.legacy k then (if a % 2 = 1 ∧ actionBad w then some 2 else none) else pioReason w

def State.pioLoadReason (s : State) (k first : Nat) (ws : List Word) : Option Nat :=
  if (s.pioEngine k).state = 1 then some 1
  else if 64 < first + ws.length then some 3
  else ((List.range ws.length).zip ws).findSome? fun x => s.pioWordReason k (first + x.1) x.2

def pioLoadLen (p : List Byte) : Bool := decide (4 ≤ p.length) && p.length == 4 + 4 * byteAt p 2

def pioLoadCheck (p : List Byte) (s : State) : Option Verdict :=
  let n := byteAt p 2
  if 3 < byteAt p 0 ∨ n = 0 ∨ 64 < n then some (BAD_PARAM, [])
  else (s.pioLoadReason (byteAt p 0) (byteAt p 1) (wordsOfBytes (p.drop 4))).map fun r => (REJECTED, reason r)

def State.putPioWord (k a : Nat) (w : Word) (s : State) : State :=
  s.setPio k fun e => { e with mem := insertWord a w e.mem }

def pioLoadApply (p : List Byte) (s : State) : State :=
  let ws := wordsOfBytes (p.drop 4)
  s.each (fun x s => s.putPioWord (byteAt p 0) (byteAt p 1 + x.1) x.2) ((List.range ws.length).zip ws)

def cmdPioLoad : Cmd where
  op := 0xB0
  stages := stagesI
  len := pioLoadLen
  check := fun r s => pioLoadCheck r.params s
  effect := fun r s => (pioLoadApply r.params s, [])

def execPioLoad (r : Req) : State → Host.Outcome State Fault Refusal := act (cmdPioLoad.run r)

/-- A word of the engine drives a pin it does not own under a pin map (reason 4). -/
def PioEngine.foreign (e : PioEngine) (legacy : Bool) (owned : Nat) : Bool :=
  e.mem.any fun x =>
    let m := if legacy then (if x.1 % 2 = 1 then bits x.2 0 6 else 0) else pioMask x.2
    decide (m &&& (63 - owned) ≠ 0)

def pioMaskBad (p : List Byte) : Bool := numAt p 0 4 == 0 || decide (16 ≤ numAt p 0 4)

def pioStartCheck (p : List Byte) (s : State) : Option Verdict :=
  if pioMaskBad p then some (BAD_PARAM, [])
  else if (maskList 4 (numAt p 0 4)).any fun k => (s.pioEngine k).foreign (s.legacy k) (s.owned k) then
    some (REJECTED, reason 4)
  else none

/-- The named engines start on one cycle (R388); their pins are inputs, and the hold on them ends (R391). -/
def pioStartApply (p : List Byte) (s : State) : State :=
  let s := s.each (fun k s =>
    let s := s.putPins { s.pins with oe := s.pins.oe &&& (63 - s.owned k) }
    let s := s.setPio k fun e => { e with pc := 0, x := 0, y := 0, tcnt := 0, entry := 0 }
    (s.setPioState k 1).releasePins (s.owned k)) (maskList 4 (numAt p 0 4))
  s

def cmdPioStart : Cmd where
  op := 0xB1
  stages := stagesI
  len := lenIs 4
  check := fun r s => pioStartCheck r.params s
  effect := fun r s => (pioStartApply r.params s, [])

def execPioStart (r : Req) : State → Host.Outcome State Fault Refusal := act (cmdPioStart.run r)

/-- An engine stops: its owned output pins go to their PIO_SAFE_LEVEL (R388). -/
def State.pioStop (k : Nat) (s : State) : State :=
  (s.applySafeLevel (s.owned k &&& s.pins.oe)).setPioState k 0

def cmdPioStop : Cmd where
  op := 0xB2
  stages := stagesI
  len := lenIs 4
  check := fun r _ => if pioMaskBad r.params then some (BAD_PARAM, []) else none
  effect := fun r s => (s.each State.pioStop (maskList 4 (numAt r.params 0 4)), [])

def execPioStop (r : Req) : State → Host.Outcome State Fault Refusal := act (cmdPioStop.run r)

def pioInjectCheck (p : List Byte) (s : State) : Option Verdict :=
  let k := byteAt p 0
  let w := wordAt p 4
  if 3 < k then some (BAD_PARAM, [])
  else match pioReason w with
    | some r => some (REJECTED, reason r)
    | none => refusals [(decide (pioMask w &&& (63 - s.owned k) ≠ 0), (REJECTED, reason 4)),
        (s.legacy k, (REJECTED, reason 5))]

/-- One word in an engine (R392): RUNNING, in place of a fetch, the PC moving only for a jump taken; else at once. -/
def pioInjectApply (p : List Byte) (s : State) : State :=
  let k := byteAt p 0
  let w := wordAt p 4
  let e := s.pioEngine k
  if e.state = 1 then
    let pc := (pioTarget w s.pinLevels e).getD e.pc
    (s.pioExec k w).setPio k fun e => { e with pc := pc, tcnt := e.tcnt + 1 }
  else s.pioExec k w

def cmdPioInject : Cmd where
  op := 0xB3
  stages := stagesI
  len := lenIs 8
  check := fun r s => pioInjectCheck r.params s
  effect := fun r s => (pioInjectApply r.params s, [])

def execPioInject (r : Req) : State → Host.Outcome State Fault Refusal := act (cmdPioInject.run r)

/-- Pin functions of a PIO_PINMUX word. -/
def muxOf (mux : Word) (p : Nat) : Nat := bits mux (3 * p) 3

def muxOwned (mux : Word) (k : Nat) : Nat := maskOf ((List.range 6).map fun p => muxOf mux p == k + 1)

/-- The reason that bars a pin configuration (R392, Table 18.7). -/
def State.pioConfigReason (s : State) (mux filt mode : Word) : Option Nat :=
  let running (k : Nat) : Bool := (s.pioEngine k).state == 1
  let old := s.reg Reg.PIO_PINMUX
  let oldF := s.reg Reg.PIO_FILTER
  let touched (p : Nat) : Bool := muxOf mux p != muxOf old p || bits filt (4 * p) 4 != bits oldF (4 * p) 4
  let ownedBy (k p : Nat) : Bool := muxOf old p == k + 1 || muxOf mux p == k + 1
  let busy := (List.range 4).any fun k => running k &&
    (bit mode k != s.legacy k || (List.range 6).any fun p => ownedBy k p && touched p)
  let alien := (List.range 4).any fun k => (s.pioEngine k).foreign (bit mode k) (muxOwned mux k)
  let named := (List.range 6).any fun p => muxOf old p == 5 && muxOf mux p != 5 &&
    (List.range 7).any fun j =>
      let w := s.reg (Reg.HK_SEQ (9 + j))
      seqEn w && seqChannel w == 0x10 + p
  if busy then some 1 else if alien then some 4 else if named then some 6 else none

def pioConfigCheck (p : List Byte) (s : State) : Option Verdict :=
  if 2 ^ 18 ≤ (wordAt p 0).toNat ∨ 2 ^ 24 ≤ (wordAt p 4).toNat ∨ 16 ≤ (wordAt p 8).toNat then some (BAD_PARAM, [])
  else (s.pioConfigReason (wordAt p 0) (wordAt p 4) (wordAt p 8)).map fun r => (REJECTED, reason r)

def pioConfigApply (p : List Byte) (s : State) : State :=
  (((s.setReg Reg.PIO_PINMUX (wordAt p 0)).setReg Reg.PIO_FILTER (wordAt p 4)).setReg Reg.PIO_MODE (wordAt p 8)).releasePins 0

def cmdPioConfig : Cmd where
  op := 0xB4
  stages := stagesI
  len := lenIs 12
  check := fun r s => pioConfigCheck r.params s
  effect := fun r s => (pioConfigApply r.params s, [])

def execPioConfig (r : Req) : State → Host.Outcome State Fault Refusal := act (cmdPioConfig.run r)

/-- PIO_STATE of an engine (Table 18.13). -/
def State.pioStateWord (s : State) (k : Nat) : Word :=
  let e := s.pioEngine k
  w32 (e.state + 2 ^ 8 * (if s.legacy k then 2 * e.entry % 64 else e.pc) + 2 ^ 16 * b01 (s.legacy k))

def cmdPioStatus : Cmd where
  op := 0xB5
  stages := stagesI
  len := lenIs 0
  check := fun _ _ => none
  effect := fun _ s => (s, bytesOfWords ([s.reg Reg.PIO_RUN, s.pioPins] ++
    (List.range 4).flatMap fun k => [s.pioStateWord k, (s.pioEngine k).port]))

def execPioStatus (r : Req) : State → Host.Outcome State Fault Refusal := act (cmdPioStatus.run r)

/-! ### Register forms (R398) -/

/-- PIO_PMEM_ADDR.ADDR advances after an accepted access, wrapping from 63 to 0. -/
def State.pioStep (s : State) : State := s.setF PIO_PMEM_ADDR.ADDR ((s.fld PIO_PMEM_ADDR.ADDR + 1) % 64)

/-- A write to PIO_PMEM_DATA (R392). -/
def State.writePioPmem (w : Word) (s : State) : State :=
  let k := s.fld PIO_PMEM_ADDR.ENGINE
  let a := s.fld PIO_PMEM_ADDR.ADDR
  match s.pioLoadReason k a [w] with
  | some r => s.pioRefused REJECTED r a
  | none => (s.putPioWord k a w).pioStep

/-- A read of PIO_PMEM_DATA. -/
def State.readPioPmem (s : State) : Word := (s.pioEngine (s.fld PIO_PMEM_ADDR.ENGINE)).word (s.fld PIO_PMEM_ADDR.ADDR)

/-- A write to PIO_PINMUX, PIO_FILTER or PIO_MODE. -/
def State.writePioConfig (a : Nat) (w : Word) (s : State) : State :=
  let new := (s.reg a &&& ~~~ rwMask a) ||| (w &&& rwMask a)
  let pick (b : Nat) : Word := if a = b then new else s.reg b
  match s.pioConfigReason (pick Reg.PIO_PINMUX) (pick Reg.PIO_FILTER) (pick Reg.PIO_MODE) with
  | some r => s.pioRefused REJECTED r 0
  | none => (s.setReg a new).releasePins 0

end Sys2Proof.Machine
end

