-- ==== Sys2Proof/Machine/Arrivals.lean ====
section
/-!
DEFINITION. Samples on their two paths: the fast and the committed sample of a tick reach the engine, the tick commits,
and stages that are late (R36 to R39, R44, R45, R156 to R159, R231).
-/
namespace Sys2Proof.Machine

/-! ### The fast sample (R37, R110) -/

/-- What a fast or committed sample latches (R137). -/
def State.latchStreams (s : State) : Latched :=
  { sent := s.eng.sent
    ports := s.pio.map (·.port)
    stopped := maskOf (s.pio.map fun e => e.state != 1)
    blade := s.fld NOTCH_FREQ.FREQ
    tachLost := s.on FILT_STATUS.TACH_LOST
    hk := (List.range 16).map s.hkWord
    hkOn := maskOf ((List.range 16).map s.hkEnabled) }

/-- The fast value of an axis (R37, R60): the lower median over surviving channels; the linear limit where every one is
SAT; the path's last value where no channel takes part. -/
def State.fastAxis (s : State) (t : Nat) (xs : List Sample) (value : Nat → Nat → Rat) (axis : Nat) : Rat :=
  let prev := ((s.fastMem.map (·.axes)).getD []).getD axis 0
  let vs := (s.axisVoters t xs value axis).filter (·.votes)
  if ¬ vs.isEmpty then lowerMedian (vs.map (·.x))
  else
    let sat := s.axisSat t xs axis
    if sat.isEmpty then prev else satValue axis (sat.map fun k => ((sampleAt xs (axisChannel axis k)).1 : Rat)) prev

/-- The fast fused sample and the path's memory: gyroscope axes first, then accelerometer axes less the centripetal
term (R51), then the mounting (R15). -/
def State.fastFused (s : State) (t : Nat) (xs : List Sample) : Fused × PathMem :=
  let raw (_ c : Nat) : Rat := s.withDelta c (sampleAt xs c).1
  let g := [3, 4, 5].map (s.fastAxis t xs raw)
  let om := toRad g
  let cor (k c : Nat) : Rat := corrected k (c % 3) om [0, 0, 0] (raw k c)
  let axes := [0, 1, 2].map (s.fastAxis t xs cor) ++ g
  let m := s.mount t axes s.fastMem
  let valid (a : Nat) : Bool := quorumOf (s.contributes t) (decide (3 ≤ a))
  let sat := axisMask fun a => !(s.axisSat t xs a).isEmpty
  let clip := axisMask fun a => clips s.array.accRange s.array.gyrRange a (m.1.getD a 0)
  let reasons := (List.range 6).foldl (fun n a => n + (if valid a then 0 else 1) * 2 ^ (18 + 2 * a)) 0
  let uncomp := (List.range 72).any fun k => s.contributes t k && s.array.uncomp.testBit (dieOf k)
  let status := w32 (axisMask valid + 2 ^ 6 * sat + 2 ^ 12 * clip + reasons + 2 ^ 30 * b01 uncomp)
  ({ tick := t, axes := m.1, status := status }, { m.2 with axes := axes })

/-- The tick falls in a settling interval whose SETTLING record is out (R158). -/
def State.settledVoid (s : State) (t : Nat) : Bool :=
  match s.filt.settling with
  | some v => (match v.resume with
    | some r => decide (v.first ≤ t) && decide (t < r)
    | none => false)
  | none => false

/-- A tick in the engine before anything is known of it. -/
def newTick (t preset : Nat) (l : Latched) (mask : Nat) : EngTick :=
  { tick := t, preset := preset, latched := l, fast := none, comm := none, void := false, resolved := false
    meas := List.replicate 9 none, after := List.replicate 9 defaultDec, done := List.replicate 9 noDone
    prov := List.replicate 9 0, recF := List.replicate 9 0, recC := List.replicate 9 0, recMask := mask }

def State.addTick (e : EngTick) (s : State) : State := s.putEng { s.eng with ticks := insertTick e s.eng.ticks }

/-- What is still open of earlier ticks is completed: decisions due and runs in progress. -/
def State.engineSettle (s : State) : State := s.finishAllDue.endAll

/-- IMBALANCE's demodulator at a fast sample (R182, R183, R197). -/
def State.nextDemod (s : State) (cfg : RecCfg) (t : Nat) (l : Latched) (i : RecIn) : Option Demod :=
  if ¬ cfg.on 8 ∨ l.tachLost then none
  else if i.invalid % 4 ≠ 0 then s.eng.demod
  else some (demodStep cfg t l.blade (comp i.f 0) (comp i.f 1) s.eng.demod)

/-- THEFT's measured values (R196): samples above TH in WINDOW, angle to the reference, reference pending. -/
def State.theftMeas (s : State) (cfg : RecCfg) : Option (List Rat) :=
  if cfg.on 7 then some [(s.eng.theft.count : Nat), s.eng.theft.angle, (b01 s.eng.theft.ref.isNone : Nat)] else none

/-- The fast sample of tick `t` reaches the engine (R38, R133, R156, R165). -/
def State.fastArrive (t : Nat) (xs : List Sample) (s : State) : State :=
  let s := ((s.engineSettle.applyParams t).applyCfg t).pruneTicks
  let cfg := s.recCfg t
  let l := s.latchStreams
  let f := s.fastFused t xs
  let i := f.1.recIn
  let p := pathStep cfg t l i s.eng.fastEst
  let demod := s.nextDemod cfg t l i
  let imb : Option (List Rat) := match demod with
    | some d => if i.invalid % 4 = 0 then some [demodAmp2 d, (l.blade : Nat)] else none
    | none => none
  let e : EngTick := { newTick t s.preset l cfg.enable with
    fast := some f.1, void := s.settledVoid t, meas := p.2 ++ [s.theftMeas cfg, imb] }
  let s := { s with fast := some f.1, fastMem := some f.2 }
  let s := (s.addTick e).putEng { (s.addTick e).eng with fastEst := p.1, demod := demod, lastFast := some t }
  let s := s.evalSpec t false
  let s := s.putEng { s.eng with machs := s.eng.machs.map fun m =>
    if m.starting ∧ m.pos ≤ t then { m with startTick := t, starting := false } else m }
  let s := s.maxF SPEC_STATUS.POOL_PEAK s.poolUsed
  (s.forUpTo State.openNext 32).resolveVoids s.eng.ticks.length

/-- Samples exist at all: Imago in Noon, on the grid. -/
def State.sampling (s : State) (t : Nat) : Bool := s.noon && s.imago && s.onGrid t

/-- A fast sample later than the last one of its path. -/
def State.freshFast (s : State) (t : Nat) : Bool :=
  match s.eng.lastFast with
  | some t0 => decide (t0 < t)
  | none => true

/-- FAST_SAMPLE_ARRIVAL (R37): the 216 fast channel values of tick `t`, int32 with 8 fraction bits, with SAT flags. -/
def execFastSampleArrival (t : BitVec 64) (xs : List (Word × Bool)) (s : State) : Host.Outcome State Fault Refusal :=
  if xs.length ≠ 216 then .fault .operandLength
  else act (fun s => s.when (s.sampling t.toNat && s.freshFast t.toNat)
    (State.fastArrive t.toNat (xs.map fun x => (x.1.toInt, x.2)))) s

/-! ### The committed sample (R156 to R165) -/

/-- The committed sample `f` reaches the engine: lower ticks that will have none are VOID; the tick is verified for
every recognizer and machine in ascending order. -/
def State.commArrive (f : Fused) (s : State) : State :=
  let t := f.tick
  let s := s.engineSettle.voidWhere fun u => decide (u < t)
  let s := if (s.engTick t).isSome then s
    else s.addTick (newTick t s.preset s.latchStreams (s.recCfg t).enable)
  let wait := s.pairWaits t
  let s := s.setTick t fun e => if e.resolved then e else { e with comm := some f, alphaWait := wait }
  match s.engTick t with
  | none => s
  | some e =>
    if e.resolved then s
    else
      let s := s.resolveRecs e f
      let s := s.setTick t fun e => { e with resolved := true }
      let e' := (s.engTick t).getD e
      s.forUpTo (fun n s => s.resolveMach n e') 32

/-- COMMITTED_SAMPLE_ARRIVAL (R156, R161): the last fused committed sample, of tick `t`, reaches the engine. -/
def execCommittedSampleArrival (t : BitVec 64) : State → Host.Outcome State Fault Refusal := act fun s =>
  match s.committed with
  | some f => s.when (f.tick == t.toNat) (State.commArrive f)
  | none => s

/-! ### The commit point of a tick (R166, R231) -/

/-- Order within a tick (R231, R134): rank, then key; records of equal place keep their order. -/
def insertHeld (h : HeldRec) : List HeldRec → List HeldRec
  | [] => [h]
  | x :: xs =>
    if h.tick < x.tick ∨ (h.tick = x.tick ∧ (h.rank < x.rank ∨ (h.rank = x.rank ∧ h.key < x.key))) then h :: x :: xs
    else x :: insertHeld h xs

/-- Held records in the order in which they commit. -/
def sortHeld (hs : List HeldRec) : List HeldRec := hs.foldl (fun out h => insertHeld h out) []

/-- The sample record of a tick, or the GAP record in its place. -/
def HeldRec.isSample (h : HeldRec) : Bool := h.rank == 1

/-- SAMPLE_DIV (Table 10.11): whether the next sample enters the queue, and the count for the one after it. -/
def State.divStep (s : State) : Bool × Nat :=
  let n := s.fld QUEUE_CFG.SAMPLE_DIV
  if n = 0 then (false, 0) else if s.queue.skip = 0 then (true, n - 1) else (false, s.queue.skip - 1)

/-- One tick's records commit together. A sample that SAMPLE_DIV skips goes to the ring alone; a GAP in its place is
not written (Table 10.9). -/
def State.commitTick (hs : List HeldRec) (s : State) : State :=
  let sample := hs.filter HeldRec.isSample
  let others := hs.filter fun h => !h.isSample
  if sample.isEmpty then s.commitAll (others.map HeldRec.toRec)
  else
    let d := s.divStep
    let s := { s with queue := { s.queue with skip := d.2 } }
    if d.1 then s.commitAll (hs.map HeldRec.toRec)
    else
      let s := s.ringConfigPoint
      let s := s.each (fun h s => if h.typ = T_GAP then s else s.ringOnly h.toRec) sample
      s.commitAll (others.map HeldRec.toRec)

/-- The held records in groups of one tick. -/
def groupTicks : List HeldRec → List (List HeldRec)
  | [] => []
  | h :: hs =>
    match groupTicks hs with
    | (g :: gs) :: rest => if g.tick = h.tick then (h :: g :: gs) :: rest else [h] :: (g :: gs) :: rest
    | rest => [h] :: rest

/-- A TIME record of cause 5 is owed at the first commit after Dawn (R239). -/
def State.dawnTime (t : Nat) (s : State) : State :=
  if s.ring.dawnRecord then
    let s := { s with ring := { s.ring with dawnRecord := false } }
    s.commitOne (s.timeRec 5 t)
  else s

/-- The records of ticks up to `t` commit. -/
def State.commitHeld (t : Nat) (s : State) : State :=
  let due := s.held.filter fun h => decide (h.tick ≤ t)
  let s := { s with held := s.held.filter fun h => !decide (h.tick ≤ t) }
  s.each State.commitTick (groupTicks (sortHeld due))

/-- A GAP record is held for the tick. -/
def State.hasGap (s : State) (t : Nat) : Bool := s.held.any fun h => h.tick == t && h.typ == T_GAP

/-- TICK_COMMIT (R166, R231): the commit point of tick `t`. A machine that refuted the tick ends its committed run of
it first; a GAP record makes the tick VOID as it is emitted. -/
def execTickCommit (t : BitVec 64) : State → Host.Outcome State Fault Refusal := act fun s =>
  let t := t.toNat
  let s := s.finishAllDue
  let s := s.forUpTo (fun n s => s.catchUp n t (s.eng.ticks.length + 1)) 32
  let s := if s.hasGap t then s.voidWhere (· == t) else s
  -- a forewing commits the records of a tick after its PAIRSAMPLE (R338)
  let t := s.pairLimit t
  ((s.dawnTime t).commitHeld t).pruneTicks

/-! ### Late stages (R39, R45, R47) -/

/-- The GAP record of a late tick (Table 10.5). -/
def lateGap (stage t : Nat) : Rec := { typ := T_GAP, tick := t, payload := [w32 (1 + 2 ^ 8 * stage)] ++ loHi t ++ loHi t }

/-- The tick has no fast sample (R159). -/
def State.loseFast (t : Nat) (s : State) : State :=
  if s.sampling t && s.freshFast t then
    let s := (s.engineSettle.applyParams t).applyCfg t
    let s := { s with fastMem := none }
    let s := s.addTick { newTick t s.preset s.latchStreams (s.recCfg t).enable with void := s.settledVoid t }
    s.putEng { s.eng with lastFast := some t }
  else s

/-- The tick has no SAMPLE record: a GAP record stands in its place. -/
def State.loseCommitted (stage t : Nat) (s : State) : State :=
  if s.canSample t then
    let s := { s with held := s.held.filter fun h => !(h.tick == t && h.isSample) }
    let s := s.hold 1 0 (lateGap stage t)
    let s := if stage ≤ 5 then { s with commMem := none } else s
    if stage = 1 ∨ stage = 4 then
      let first := match s.array.lastVote with
        | some t0 => decide (t ≤ t0 + presetM s.preset)
        | none => false
      s.staleVote t first
    else s
  else s

/-- A stage has missed its deadline for a tick (R39): 1 modulator and CIC to 7 queue. -/
def State.lateStage (stage t : Nat) (s : State) : State :=
  let s := (s.setF FILT_STATUS.LATE_STAGE stage).raise Reg.FILT_EVENTS 1
  let s := if stage ≤ 3 then s.loseFast t else s
  if stage = 2 ∨ stage = 3 then s else s.loseCommitted stage t

/-- LATE_STAGE (R39): `stage` is the code of FILT_STATUS.LATE_STAGE less 1. -/
def execLateStage (stage : Fin 7) (t : BitVec 64) : State → Host.Outcome State Fault Refusal :=
  act (State.lateStage (stage.val + 1) t.toNat)

/-- ARBITRATION_WAIT_EXCEEDED (R45): a request has waited more than two rounds: a late stage, or the fault WAIT of the
machine whose fetch waited. -/
def execArbitrationWaitExceeded (what : ArbWait) : State → Host.Outcome State Fault Refusal := act fun s =>
  match what with
  | .machine n =>
    match (s.mach n.val).run with
    | some r => s.machFault n.val 2 r.pc r.tick
    | none => s.machFault n.val 2 (s.mach n.val).cur.next (s.eng.lastFast.getD s.tick)
  | .stage k t => s.lateStage (k.val + 1) t.toNat

end Sys2Proof.Machine
end

