-- ==== Sys2Proof/Machine/Pair.lean ====
section
/-!
DEFINITION. Wingpair protocol (chapter 15): joins, alignment, contributions; the pair commands and events, and SYNC
edges (R117).
-/
namespace Sys2Proof.Machine

/-- The firmware runs the pair protocol in Imago and Noon. -/
def State.pairOn (s : State) : Bool := s.noon && s.imago

/-! ### SYNC edges (R117, R331) -/

/-- The base tick of an edge's reset: the first that begins at least 2 reference cycles after it. -/
def State.edgeTick (s : State) (cycles : Nat) : Nat := if cycles = 1201 then s.tick + 2 else s.tick + 1

/-- An armed edge is ignored within 1 ms of the last applied reset. -/
def State.edgeIgnored (s : State) : State := (s.incSat SYNC_PHASE.IGNORED).raise Reg.FILT_EVENTS 7

/-- SYNC_CTRL arms this edge (role 1). -/
def State.edgeArmed (s : State) (rising : Bool) : Bool :=
  s.boot.syncRole == 1 && s.on SYNC_CTRL.ARM && s.fld SYNC_CTRL.SRC == (if rising then 1 else 2)

/-- A pulse of the forewing on a hindwing that aligns by SYNC. -/
def State.pairPulse (s : State) (rising : Bool) : Bool :=
  rising && s.boot.syncRole == 2 && s.pairBusy && s.pairRole == HINDWING && !s.on PAIR_STATE.PTP_ONLY

/-- SYNC_EDGE (R117, R331): `cycles` + 2 reference cycles lie between the edge and its base tick. -/
def execSyncEdge (cycles : Fin 1200) (rising : Bool) : State → Host.Outcome State Fault Refusal := act fun s =>
  let n := cycles.val + 2
  let armed := s.edgeArmed rising
  if s.pairOn && (armed || s.pairPulse rising) then
    if s.edgeTooSoon then s.edgeIgnored
    else
      let t := s.edgeTick n
      let s := s.setF SYNC_PHASE.CYCLES n
      if armed then
        let s := if s.on SYNC_CTRL.CONT then s else s.setF SYNC_CTRL.ARM 0
        s.decimResetAlone t
      else s.decimReset t
  else s

/-! ### Joining (R339) -/

/-- The refusals of PAIR_JOIN (Table 15.6). -/
def State.joinReason (s : State) : Option Nat :=
  if s.pairRole ≠ FOREWING ∨ s.partnerMac = 0 then some 1
  else if s.pairBusy then some 6
  else if s.filt.tSync % presetM s.preset ≠ 0 then some 7
  else none

/-- Boundary B: the first whole second at least 20 000 ticks ahead. -/
def State.nextBoundary (s : State) : Nat := (s.tick + 20000 + 39999) / 40000 * 40000

/-- Store boundary B. -/
def State.putBoundary (b : Nat) (s : State) : State :=
  (s.setReg Reg.PAIR_BOUNDARY_LO (w32 b)).setReg Reg.PAIR_BOUNDARY_HI (w32 (b / 2 ^ 32))

/-- JOINING begins on either side: frame limit, alignment by SYNC where this module holds role 2. -/
def State.beginJoin (b : Nat) (s : State) : State :=
  let s := ((s.putBoundary b).setF PAIR_STATE.STATE P_JOINING).setF T1S_STATUS.PAIR_LIMIT 1
  let s := (s.setF PAIR_STATE.SYNC_LOST 0).setF PAIR_STATE.PTP_ONLY (b01 (s.boot.syncRole != 2))
  s.putPair { s.pair with tries := 0, acked := false, contribs := [], prev := none, waiting := [], omegaPrev := none
                          firstMissed := none, ready := [], announced := none }

/-- JOIN_REQ for the boundary in force. -/
def State.sendJoinReq (s : State) : State := s.sendPair 1 0 (s.layoutAt s.boundaryTick)

/-- A forewing starts a join. -/
def State.startJoin (s : State) : State := (s.beginJoin s.nextBoundary).sendJoinReq

/-- AUTO_JOIN (R328): an IDLE forewing with AUTO_JOIN set attempts a join at a pair boundary. -/
def execAutoJoin : State → Host.Outcome State Fault Refusal := act fun s =>
  if s.pairOn && s.on PAIR_CFG.AUTO_JOIN && s.pairState == P_IDLE && s.pairRole == FOREWING then
    match s.joinReason with
    | some r => s.failJoin r
    | none => s.startJoin
  else s

/-- The 40 bytes of a received stream type 3 message, and the NODE of its header. -/
def pairBody (p : List Byte) : List Byte := p.drop 8

/-- POS of a message. -/
def posOf (p : List Byte) : List Int := (List.range 3).map fun k => (wordAt (pairBody p) (24 + 4 * k)).toInt

/-- What a JOIN_REQ or JOIN_ACK says of the partner: NODE, reference point, noise; r = p_h - p_f. -/
def State.learnPartner (p : List Byte) (s : State) : State :=
  let pos := posOf p
  let d := s.leverOf pos
  let r := if s.pairRole = HINDWING then d.map (fun x => -x) else d
  let s := s.putPair { s.pair with partnerPos := pos, partnerNoise := wordAt (pairBody p) 36 }
  let s := s.setF PAIR_STATE.NODE (byteAt p 1)
  s.forUpTo (fun k s => s.setReg (Reg.PAIR_LEVER k) (wordOfInt (r.getD k 0))) 3

/-- The hindwing's refusals of a JOIN_REQ (Table 15.6). -/
def State.joinReqReason (s : State) (mac : BitVec 48) (p : List Byte) : Option Nat :=
  let b := pairBody p
  let len := normSq (s.leverOf (posOf p))
  if s.pairRole ≠ HINDWING ∨ mac ≠ s.partnerMac then some 1
  else if byteAt b 2 ≠ s.preset ∨ numAt b 16 4 ≠ s.fld FILT_DELAY_NS.NS ∨ half b 20 ≠ s.fld FILT_DELAY_FRAC.FRAC then some 2
  else if len < (50 * 65536) ^ 2 ∨ (2000 * 65536) ^ 2 < len then some 4
  else if s.pairBusy then some 6
  else none

/-- The tick of this module at which module time reaches an instant in 2^-16 ns, to the nearest tick. -/
def State.tickAt (s : State) (x : Nat) : Nat :=
  (s.tick + roundEven ((((x : Int) * 2 ^ 32 - s.time : Int) : Rat) / s.tickAdvance)).toNat

/-- JOIN_REQ_RECEIVED (R330, R339): `mac` sent it; the payload is the stream header and the 40 bytes of Table 15.2. -/
def execJoinReqReceived (mac : BitVec 48) (payload : List Byte) : State → Host.Outcome State Fault Refusal :=
  act fun s =>
    if ¬ s.pairOn then s
    else match s.joinReqReason mac payload with
      | some r =>
        let time := numAt (pairBody payload) 4 12
        let body := streamHeader 3 s.nodeByte s.t1s.seq3.toNat 40 1 ++ s.pairMessage 3 r time
        let s := s.sendFrame { etherType := STREAM_ETHERTYPE, dest := mac, payload := body }
        s.putT1s { s.t1s with seq3 := s.t1s.seq3 + 1 }
      | none =>
        let time := numAt (pairBody payload) 4 12
        let s := (s.beginJoin (s.tickAt (ofLayout time))).learnPartner payload
        let s := if s.on PAIR_CFG.LOCAL_MASTER then (s.putTime { s.mtime with override := true }).rearm else s
        s.sendPair 2 0 time

/-- The forewing's join is answered by its partner. -/
def State.joinAnswer (s : State) (mac : BitVec 48) : Bool :=
  s.pairOn && s.pairState == P_JOINING && s.pairRole == FOREWING && mac == s.partnerMac

/-- JOIN_ACK_RECEIVED (R339). -/
def execJoinAckReceived (mac : BitVec 48) (payload : List Byte) : State → Host.Outcome State Fault Refusal :=
  act fun s => s.when (s.joinAnswer mac) fun s =>
    (s.putPair { s.pair with acked := true }).learnPartner payload

/-- JOIN_NAK_RECEIVED (R339): the join fails with the reason of the message. -/
def execJoinNakReceived (mac : BitVec 48) (payload : List Byte) : State → Host.Outcome State Fault Refusal :=
  act fun s => s.when (s.joinAnswer mac) (State.failJoin (byteAt (pairBody payload) 1))

/-- JOIN_ACK_DEADLINE (R339): 4000 ticks before B without JOIN_ACK. -/
def execJoinAckDeadline : State → Host.Outcome State Fault Refusal := act fun s =>
  if s.pairState = P_JOINING ∧ s.pairRole = FOREWING ∧ ¬ s.pair.acked = true then
    let n := s.pair.tries + 1
    if 3 ≤ n then s.failJoin 5
    else ((s.putPair { s.pair with tries := n }).putBoundary (s.boundaryTick + 40000)).sendJoinReq
  else s

/-- PAIR_BOUNDARY (R339): tick B. `locked` says the hindwing's time was LOCKED 4000 ticks before B (Table 15.6
reason 3). -/
def execPairBoundary (locked : Bool) : State → Host.Outcome State Fault Refusal := act fun s =>
  let fore := s.pairRole == FOREWING
  if s.pairState = P_JOINING ∧ (fore = false ∨ s.pair.acked = true) then
    if fore && !locked then s.failJoin 3
    else
      let noise := if fore then s.pairNoise s.pair.partnerNoise else 0x01000100
      let s := (s.setF PAIR_STATE.STATE P_PAIRED).incSat PAIR_COUNTS.JOINS
      let s := s.when fore (State.setReg Reg.PAIR_NOISE noise)
      let b := s.boundaryTick
      (s.raise Reg.PAIR_EVENTS 0).hold 5 0 (s.pairStatusRec 0x40 b noise)
  else s

/-! ### Alignment (R331, R332, R334) -/

/-- SYNC_PULSE (R331, R334): a grid tick that is a whole multiple of 4000: one pulse on SYNC unless alignment is
PTP-only, and one BEAT that announces the next. -/
def execSyncPulse : State → Host.Outcome State Fault Refusal := act fun s =>
  if s.pairOn && s.pairBusy && s.pairRole == FOREWING then
    let off := s.on PAIR_STATE.PTP_ONLY
    let s := s.putPair { s.pair with pulse := if off then s.pair.pulse else some s.tick }
    s.sendPair 4 (b01 off) (s.layoutAt (s.tick + 4000))
  else s

/-- A hindwing in a join or a pair, and a frame of its partner. -/
def State.fromForewing (s : State) (mac : BitVec 48) : Bool :=
  s.pairOn && s.pairBusy && s.pairRole == HINDWING && mac == s.partnerMac

/-- BEAT_RECEIVED (R332, R334). -/
def execBeatReceived (mac : BitVec 48) (payload : List Byte) : State → Host.Outcome State Fault Refusal :=
  act fun s => s.when (s.fromForewing mac) fun s =>
    let b := pairBody payload
    let s := s.putPair { s.pair with announced := some (ofLayout (numAt b 4 12)) }
    s.when (byteAt b 1 % 2 == 1) (State.setF PAIR_STATE.PTP_ONLY 1)

/-- The first base tick that begins at least 2 reference cycles after an instant in 2^-16 ns. -/
def State.tickAfter (s : State) (x : Nat) : Nat :=
  let adv := s.tickAdvance
  let d : Rat := (((x : Int) * 2 ^ 32 - s.time : Int) : Rat) + 2 * (adv : Rat) / 1200
  (s.tick - (-(d / adv)).floor).toNat

/-- PTP_ONLY_RESET (R332). -/
def execPtpOnlyReset : State → Host.Outcome State Fault Refusal := act fun s =>
  match s.pair.announced with
  | some x =>
    s.when (s.pairOn && s.pairBusy && s.pairRole == HINDWING && s.on PAIR_STATE.PTP_ONLY)
      (State.decimReset (s.tickAfter x))
  | none => s

/-- SYNC_LOST (R332). -/
def execSyncLost : State → Host.Outcome State Fault Refusal := act fun s =>
  if s.pairOn && s.pairBusy && !s.on PAIR_STATE.PTP_ONLY then
    ((s.setF PAIR_STATE.SYNC_LOST 1).setF PAIR_STATE.PTP_ONLY 1).raise Reg.PAIR_EVENTS 2
  else s

/-- The partner ends the pair: cause 4; a join it ends has no reason in Table 15.6. -/
def State.partnerLeave (s : State) : State := if s.pairState = P_JOINING then s.failOpen else s.pairLeave 4 false

/-- BEAT_MISSED (R340): three BEAT messages are missing on a hindwing. -/
def execBeatMissed : State → Host.Outcome State Fault Refusal := act fun s =>
  s.when (s.pairOn && s.pairRole == HINDWING && s.pairBusy) State.partnerLeave

/-- LEAVE_RECEIVED (R340). -/
def execLeaveReceived (mac : BitVec 48) : State → Host.Outcome State Fault Refusal := act fun s =>
  s.when (s.pairOn && s.pairBusy && mac == s.partnerMac) State.partnerLeave

/-! ### Contributions (R333, R336) -/

/-- One received contribution: it completes the sample it matches, stands by for a sample to come, gives h_prev where it
lies before B, or is discarded and counted. -/
def State.takeContrib (c : Contrib) (s : State) : State :=
  match s.pair.waiting.find? fun w => s.matching w c with
  | some w => s.formPair w c
  | none =>
    let last := s.stampOf s.voteTick
    let first := s.stampOf s.boundaryTick
    if s.pairState = P_JOINING ∨ 2 * c.delta first < -s.periodFrac then s.putPair { s.pair with prev := some c }
    else if s.periodFrac < 2 * c.delta last then s.putPair { s.pair with contribs := s.pair.contribs ++ [c] }
    else s.pairLate

/-- CONTRIBUTION_RECEIVED (R333, R336): a frame of stream type 2: header and COUNT contributions. -/
def execContributionReceived (mac : BitVec 48) (payload : List Byte) : State → Host.Outcome State Fault Refusal :=
  act fun s =>
    if s.pairOn && s.pairBusy && s.pairRole == FOREWING && mac == s.partnerMac then
      let n := min 6 (byteAt payload 6)
      s.each (fun k s => if s.pairBusy then s.takeContrib (contribOf ((payload.drop (8 + 40 * k)).take 40)) else s)
        (List.range n)
    else s

/-- FUSION_WAIT_EXPIRY (R336, R340): the wait of the oldest waiting sample ends without a contribution. -/
def execFusionWaitExpiry : State → Host.Outcome State Fault Refusal := act fun s =>
  match s.pair.waiting with
  | w :: _ =>
    let n := s.fld PAIR_STATE.MISSED + 1
    let s := s.formAlone w
    if 3 ≤ n then s.pairLeave 1 true else s.setF PAIR_STATE.MISSED n
  | [] => s

/-- PAIR_MASTER_SYNC (R330): every 31.25 ms a pair-local master sends Sync and Announce; Follow_Up follows its egress
timestamp (R323). -/
def execPairMasterSync : State → Host.Outcome State Fault Refusal := act fun s =>
  if s.pairOn && s.pairBusy && s.pairRole == FOREWING && s.on PAIR_CFG.LOCAL_MASTER then
    let q := s.mtime.syncSeq
    let d := s.fld PAIR_CFG.DOMAIN
    let s := s.putTime { s.mtime with syncSeq := q + 1 }
    (s.sendFrame (ptpFrame 0 d q.toNat 0 (some (1, q.toNat)) none)).sendFrame (ptpFrame 5 d q.toNat 0 none none)
  else s

/-! ### Commands (Table 15.9) -/

def pairConfigCheck (p : List Byte) (s : State) : Option Verdict :=
  refusals [(reservedSet Reg.PAIR_CFG (wordAt p 0) || reservedSet Reg.PAIR_PARTNER_HI (wordAt p 8), (BAD_PARAM, [])),
    (s.pairBusy, (REJECTED, reason 6))]

def pairConfigApply (p : List Byte) (s : State) : State :=
  (((s.putWritable Reg.PAIR_CFG (wordAt p 0)).setReg Reg.PAIR_PARTNER_LO (wordAt p 4)).putWritable
    Reg.PAIR_PARTNER_HI (wordAt p 8)).syncPair

def cmdPairConfig : Cmd where
  op := 0xA0
  stages := stagesI
  len := lenIs 12
  check := fun r s => pairConfigCheck r.params s
  effect := fun r s => (pairConfigApply r.params s, [])

def execPairConfig (r : Req) : State → Host.Outcome State Fault Refusal := act (cmdPairConfig.run r)

def cmdPairJoin : Cmd where
  op := 0xA1
  stages := stagesI
  len := lenIs 0
  check := fun _ s => s.joinReason.map fun n => (REJECTED, reason n)
  effect := fun _ s => (s.startJoin, leBytes 8 s.nextBoundary)

def execPairJoin (r : Req) : State → Host.Outcome State Fault Refusal := act (cmdPairJoin.run r)

def cmdPairLeave : Cmd where
  op := 0xA2
  stages := stagesI
  len := lenIs 0
  check := fun _ _ => none
  effect := fun _ s => (s.pairCommandLeave, [])

def execPairLeave (r : Req) : State → Host.Outcome State Fault Refusal := act (cmdPairLeave.run r)

def cmdPairStatus : Cmd where
  op := 0xA3
  stages := stagesI
  len := lenIs 0
  check := fun _ _ => none
  effect := fun _ s => (s, s.regBytes [Reg.PAIR_STATE, Reg.PAIR_NOISE, Reg.PAIR_LEVER 0, Reg.PAIR_LEVER 1,
    Reg.PAIR_LEVER 2, Reg.PAIR_BOUNDARY_LO, Reg.PAIR_BOUNDARY_HI, Reg.PAIR_COUNTS, Reg.PAIR_DELTA, Reg.PAIR_CFG])

def execPairStatus (r : Req) : State → Host.Outcome State Fault Refusal := act (cmdPairStatus.run r)

/-- A bus write to PAIR_CFG or PAIR_PARTNER (R343). -/
def State.writePair (a : Nat) (w : Word) (s : State) : State :=
  if a = Reg.PAIR_CFG ∨ a = Reg.PAIR_PARTNER_LO ∨ a = Reg.PAIR_PARTNER_HI then
    if s.pairBusy then s.setF PAIR_STATE.REFUSED REJECTED else (s.putWritable a w).syncPair
  else s

end Sys2Proof.Machine
end

