-- ==== Sys2Proof/Machine/Queue.lean ====
section
/-!
DEFINITION. The queue and ring commands and events (chapter 10, R232 to R244).
-/
namespace Sys2Proof.Machine

/-! ### Reading the queue (R234 to R236) -/

/-- How many of the first records fit in a number of bytes, all whole. -/
def wholeFit (limit : Nat) (rs : List (List Word)) : Nat := fitCount limit rs

/-- The reply limit over an origin (R253). -/
def State.replyLimit (s : State) (o : Origin) (n : Nat) : Nat := if s.frameLimited o then min n 274 else n

/-- The first `n` visible records leave the queue. -/
def State.takeVisible (n : Nat) (s : State) : State :=
  ({ s with queue := { s.queue with visible := s.queue.visible.drop n } }).syncSink

/-- The reader in force at the reader's record boundary (R234). -/
def State.sinkNow (s : State) : Nat := s.syncSink.queue.sink

def queueReadCheck (p : List Byte) (s : State) : Option Verdict :=
  refusals [(s.sinkNow == 1, (WRONG_STATE, [])),
    (decide (half p 0 < 4) || decide (1016 < half p 0), (BAD_PARAM, []))]

def cmdQueueRead : Cmd where
  op := 0x70
  stages := stagesI
  len := lenIs 2
  check := fun r s => queueReadCheck r.params s
  effect := fun r s =>
    let n := wholeFit (s.replyLimit r.origin (half r.params 0)) (s.queue.visible.map (·.words))
    (s.takeVisible n, bytesOfWords ((s.queue.visible.take n).flatMap (·.words)))

def execQueueRead (r : Req) : State → Host.Outcome State Fault Refusal := act (cmdQueueRead.run r)

def cmdQueueFlush : Cmd where
  op := 0x71
  stages := stagesI
  len := lenIs 0
  check := fun _ _ => none
  effect := fun _ s => (s.queueFlush, [])

def execQueueFlush (r : Req) : State → Host.Outcome State Fault Refusal := act (cmdQueueFlush.run r)

/-- Store QUEUE_CFG: SAMPLE_DIV counts from the first committed sample after the write (Table 10.11). -/
def State.putQueueCfg (w : Word) (s : State) : State :=
  let s := s.putWritable Reg.QUEUE_CFG w
  ({ s with queue := { s.queue with skip := 0 } }).syncSink.watermark

def cmdQueueConfig : Cmd where
  op := 0x72
  stages := stagesI
  len := lenIs 8
  check := fun r _ => if reservedSet Reg.QUEUE_CFG (wordAt r.params 0) then some (BAD_PARAM, []) else none
  effect := fun r s => ((s.putQueueCfg (wordAt r.params 0)).setReg Reg.QUEUE_HK (wordAt r.params 4), [])

def execQueueConfig (r : Req) : State → Host.Outcome State Fault Refusal := act (cmdQueueConfig.run r)

/-- One byte of the queue stream (R235): what is left of an idle word or of a record partly read, then the next visible
record, and the idle item where none stands. A record is freed word by word as its bytes leave. -/
def State.queueByte (s : State) : State :=
  match s.queue.idle with
  | b :: rest => ({ s with queue := { s.queue with idle := rest } }).outByte b
  | [] =>
    match s.queue.partly with
    | b :: rest => (({ s with queue := { s.queue with partly := rest } }).outByte b).syncSink
    | [] =>
      match s.syncSink.queue.sink, s.queue.visible with
      | 0, r :: rs =>
        match bytesOfWords r.words with
        | b :: rest => (({ s with queue := { s.queue with visible := rs, partly := rest } }).outByte b).syncSink
        | [] => s.syncSink
      | _, _ => ({ s.syncSink with queue := { s.syncSink.queue with idle := [0, 0, 0xFC] } }).outByte 0

/-! ### Ring commands (R242) -/

def cmdRingConfig : Cmd where
  op := 0x73
  stages := stagesI
  len := lenIs 20
  check := fun r _ => if reservedSet Reg.RING_CFG (wordAt r.params 0) then some (BAD_PARAM, []) else none
  effect := fun r s =>
    let s := (s.putWritable Reg.RING_CFG (wordAt r.params 0)).ringEnable
    (s.forUpTo (fun k s => s.setReg (Reg.CAP_DESC k) (wordAt r.params (4 + 4 * k))) 4, [])

def execRingConfig (r : Req) : State → Host.Outcome State Fault Refusal := act (cmdRingConfig.run r)

/-- A trigger by command or by RING_CMD: T is the tick of the latest committed sample (R238). -/
def State.commandTrigger (desc : Nat) (s : State) : State := s.captureTrigger desc s.voteTick 1 0xFF

def State.ringRuns (s : State) : Bool := s.fld RING_STATUS.STATE == RING_RUNNING

def cmdRingTrigger : Cmd where
  op := 0x74
  stages := stagesI
  len := lenIs 1
  check := fun r s => refusals [(decide (3 < byteAt r.params 0), (BAD_PARAM, [])), (!s.ringRuns, (NO_RESOURCE, []))]
  effect := fun r s => (s.commandTrigger (byteAt r.params 0), leBytes 8 s.voteTick)

/-- RING_TRIGGER (R238): one that is not accepted counts in LOST_TRIG. -/
def execRingTrigger (r : Req) : State → Host.Outcome State Fault Refusal := act fun s =>
  let f := (s.finish 0x74 r).1
  let lost := f.noon && f.imago && lenIs 1 r.params && decide (byteAt r.params 0 ≤ 3) && !f.ringRuns
  cmdRingTrigger.run r (s.when lost (State.incSat RING_STATUS.LOST_TRIG))

/-- The position a RING_READ names (Table 10.8). -/
def State.ringPos (s : State) (n : Nat) : Nat :=
  if n = 0xFFFFFFFF then s.ring.oldest else if n = 0xFFFFFFFE then s.fld RING_CAP_START.POS else n

/-- The stored records from a position on, oldest first; none where no record starts there. -/
def recsFrom (pos : Nat) : List RingRec → List RingRec
  | [] => []
  | r :: rs => if r.pos = pos then r :: rs else recsFrom pos rs

/-- RING_READ's checks: the write pointer is a position too, at which no record stands yet. -/
def ringReadCheck (p : List Byte) (s : State) : Option Verdict :=
  let pos := s.ringPos (numAt p 0 4)
  let known := pos == s.ring.wr || s.ring.recs.any (·.pos == pos)
  refusals [(decide (half p 4 < 8) || decide (1008 < half p 4), (BAD_PARAM, [])),
    (!known && s.ring.lost.contains pos, (REJECTED, reason 1)),
    (!known, (BAD_PARAM, []))]

/-- Where the record after a list of records starts. -/
def posAfter (pos : Nat) : List RingRec → Nat
  | [] => pos
  | r :: rs => posAfter ((r.pos + r.words.length) % ringSize) rs

def cmdRingRead : Cmd where
  op := 0x75
  stages := stagesI
  len := lenIs 6
  check := fun r s => ringReadCheck r.params s
  effect := fun r s =>
    let pos := s.ringPos (numAt r.params 0 4)
    let rs := recsFrom pos s.ring.recs
    let most := min (half r.params 4) (if s.frameLimited r.origin then 266 else 1008)
    let got := rs.take (wholeFit most (rs.map (·.words)))
    (s, leBytes 4 pos ++ leBytes 4 (posAfter pos got) ++ bytesOfWords (got.flatMap (·.words)))

def execRingRead (r : Req) : State → Host.Outcome State Fault Refusal := act (cmdRingRead.run r)

def cmdRingRelease : Cmd where
  op := 0x76
  stages := stagesI
  len := lenIs 0
  check := fun _ _ => none
  effect := fun _ s => (s.ringRelease, [])

def execRingRelease (r : Req) : State → Host.Outcome State Fault Refusal := act (cmdRingRelease.run r)

/-- A write to RING_CMD: of several bits only the lowest acts (R244). -/
def State.ringCmd (w : Word) (s : State) : State :=
  if bit w 0 then s.commandTrigger (bits w 8 2)
  else if bit w 1 then s.ringRelease
  else if bit w 2 then s.ringEmpty
  else s

/-! ### Queue and ring events -/

/-- OVERFLOW_GAP (R232): in the drop state a commit point finds 64 words free; the GAP record is written and the state
ends. -/
def execOverflowGap : State → Host.Outcome State Fault Refusal := act fun s =>
  match s.queue.drop with
  | some e =>
    if s.noon ∧ s.imago ∧ 64 ≤ s.freeWords then
      (({ s with queue := { s.queue with drop := none } }).commitRec (e.gap s.tick)).watermark
    else s
  | none => s

/-- The record of stored words: type, tick, payload. -/
def QRec.toRec (q : QRec) : Rec := { typ := bits (q.words.headD 0) 26 6, tick := q.tick, payload := q.words.drop 1 }

/-- QUEUE_ECC_ERROR (R232): visible record `k` holds an uncorrectable word and is dropped with cause ECC. -/
def execQueueEccError (k : Fin 1024) : State → Host.Outcome State Fault Refusal := act fun s =>
  match s.noon, s.queue.visible[k.val]? with
  | true, some q =>
    ({ s with queue := { s.queue with visible := s.queue.visible.eraseIdx k.val } }).dropRecs 3 [q.toRec]
  | _, _ => s

/-- RING_CAPTURE_END (R238): the last record of tick T + 40 * POST is stored. -/
def execRingCaptureEnd : State → Host.Outcome State Fault Refusal := act fun s => s.when s.noon State.captureEnd

/-- RING_POINTER_MISMATCH (R240): `oneCopy` says that one copy alone fails parity and is rewritten; else the copies
disagree, or both fail. -/
def execRingPointerMismatch (oneCopy : Bool) : State → Host.Outcome State Fault Refusal := act fun s =>
  if ¬ s.noon then s
  else if oneCopy then s.incSat RING_PTR_ERR.CORRECTED
  else
    let s := (s.ringEmpty.incSat RING_STATUS.RESETS).raise Reg.QUEUE_EVENTS 5
    s.commitOne (statusRec 0x50 (2 ^ 8 * s.fld RING_STATUS.RESETS) s.tick [])

/-- The results as a grid tick latched them last (R137), and that tick. -/
def State.latchedHk (s : State) : Nat × List Word :=
  match s.eng.ticks.getLast? with
  | some e => (e.tick, e.latched.hk)
  | none => (s.voteTick, (List.range 16).map s.hkWord)

/-- HOUSEKEEPING_RECORD (R244): the entries of QUEUE_HK.MASK, in ascending order (Table 10.5). -/
def execHousekeepingRecord : State → Host.Outcome State Fault Refusal := act fun s =>
  if s.noon ∧ s.imago ∧ s.fld QUEUE_HK.PERIOD ≠ 0 then
    let mask := s.fld QUEUE_HK.MASK
    let l := s.latchedHk
    s.commitOne { typ := T_HOUSEKEEPING, tick := l.1
                  payload := w32 mask :: loHi l.1 ++ (maskList 16 mask).map fun k => l.2.getD k 0 }
  else s

end Sys2Proof.Machine
end

