-- ==== Sys2Proof/Machine/Stage.lean ====
section
/-!
DEFINITION. What the boot stages and the power states share (chapters 12 and 16): stopping the functions outside R5,
starting the sensing path, resuming time, the control-pair reset.
-/
namespace Sys2Proof.Machine

/-! ### Stops -/

/-- Every RUNNING machine stops (R132). -/
def State.stopMachines (report : Bool) (s : State) : State := s.forUpTo (fun n s => s.stopMach n report) 32

/-- A list with THEFT's entry kept and the others replaced. -/
def keepTheft {α : Type} (old : List α) (x : α) : List α :=
  (List.range 9).map fun i => if i = 7 then old.getD 7 x else x

/-- Every recognizer but THEFT stops (R200): pending actions are reported, states and estimators go. -/
def State.stopRecs (report : Bool) (s : State) : State :=
  let acts := s.eng.acts
  let s := s.putEng { s.eng with acts := [] }
  let s := if report then s.each (fun a s => s.falsestopNow (0x40 + a.1) 1 a.2.2 a.2.1 0 0) acts else s
  let s := s.putEng { s.eng with
    ticks := [], lastFast := none, fastEst := resetEst, commEst := resetEst, demod := none
    dec := keepTheft s.eng.dec resetDec, conf := keepTheft s.eng.conf resetDec }
  let keep (a : Nat) (s : State) : State := s.setReg a (s.reg a &&& bitWord 7)
  let s := keep Reg.REC_LOST (keep Reg.REC_ACTIVE s)
  s.each (fun i s => s.setReg (Reg.REC_STATE i) (resetDec.word false)) [0, 1, 2, 3, 4, 5, 6, 8]

/-- The sensing path stops: what it holds of samples, changes in progress and tests ends with it. -/
def State.stopSensing (s : State) : State :=
  let s := s.putArray { s.array with
    triads := s.array.triads.map fun t => if t.state = TESTING then { t with state := t.before } else t
    lastVote := none, newDeltas := [], profileReq := none, profileNext := none, joining := [], entries := []
    requests := [], decided := [], decidedDies := [], test := none
    axes := resetArray.axes }
  let s := s.putFilt { s.filt with
    old := none, change := none, queued := none, reset := none, swap := none, settling := none, outside := 0
    target := none, tach := false }
  let s := { s with committed := none, fast := none, commMem := none, fastMem := none, held := [] }
  let s := (s.setReg Reg.DRIVE_STATUS 0).setReg Reg.VOTE_STATUS 0
  let s := ((s.setF FILT_STATUS.SETTLING 0).setF FILT_PRESET.CHANGE_PENDING 0).setF FILT_BANK.SWAP_PENDING 0
  let s := (s.setF ARRAY_PROFILE.CHANGE_PENDING 0).setF ARRAY_STATUS.SELFTEST_BUSY 0
  s.setF REINSTATE_RESULT.BUSY 0

/-- Every PIO engine stops (R388). -/
def State.stopPio (s : State) : State := s.each State.pioStop [0, 1, 2, 3]

/-- On leaving Imago every function outside R5 stops (R273): the pair ends, machines and recognizers stop with their
FALSESTOP records, the STAGE path acts, the records of voted ticks commit and the visible queue is discarded. -/
def State.leaveImago (s : State) : State :=
  let s := s.finishAllDue.pairPowerLeave true
  let s := ((s.stopMachines true).stopRecs true).commitHeld s.voteTick
  let s := (s.safePath C_STAGE 0 0xFF s.tick false).flushVisible
  (s.stopPio.stopSensing).setF BOOT_STAGE.SCHEMA 0

/-! ### Starts -/

/-- Entry to a stage (R273): BOOT_STAGE, the enables of the control target, source 116. -/
def State.enterStage (st entry : Nat) (s : State) : State :=
  ((s.setF BOOT_STAGE.STAGE st).setF BOOT_STAGE.ENTRY entry).cpEnables.raise Reg.BOOT_EVENTS 0

/-- A triad at the start of the sensing path: HEALTHY with P = 0 where it is active (R101), its window filling from the
fourth CIC output on (R113). Retired and parked triads stay so; `fresh`: no triad is active yet, and the profile says
which are. -/
def startState (fresh : Bool) (profile k : Nat) (from_ : Nat) (tr : Triad) : Triad :=
  if tr.state = RETIRED_ then tr
  else { tr with
    state := if fresh then (if profileActive profile k then HEALTHY else PARKED)
      else if tr.state = PARKED then PARKED else HEALTHY
    p := 0, devUntil := 0, quiet := none, devCh := 0, devAxes := 0, peak2 := 0, peakCh := 0xFF, driveFault := false
    validFrom := from_ }

/-- No triad is active. -/
def State.noneActive (s : State) : Bool := s.array.triads.all fun t => t.state == PARKED || t.state == RETIRED_

/-- s of every channel at its floor (R85). -/
def State.noiseAtFloor (s : State) : State :=
  s.putArray { s.array with chans := (List.range 216).map fun c =>
    { s.chan c with s2 := Config.sigmaFloorSq c s.preset } }

/-- The sensing path starts (R114): SETTLING with the cause, the drives not yet in lock. -/
def State.startSensing (cause : Nat) (s : State) : State :=
  let from_ := s.windowFrom (s.tick + 4)
  let fresh := s.noneActive
  let s := s.putArray { s.array with
    triads := (List.range 72).map fun k => startState fresh s.profile k from_ (s.triad k) }
  let v : Settling := { cause := cause, first := gridFrom s.filt.tSync (presetM s.preset) s.tick, bound := none
                        resume := none }
  (((s.putFilt { s.filt with settling := some v }).setF FILT_STATUS.SETTLING 1).syncDriveFault).settleAtLock

/-- Entry to Imago with a block in force (R273, Table 9.1): a LOCKED safety state passes to DISARMED. s starts at its
floor at the first Imago after power-up (R85). -/
def State.enterImago (entry schema : Nat) (s : State) : State :=
  let s := (s.enterStage IMAGO entry).setF BOOT_STAGE.SCHEMA schema
  let s := if s.safeState = LOCKED then
      ({ s with safety := { s.safety with thermal := false } }).disarmedQuiet else s
  if s.boot.started then s
  else { s with boot := { s.boot with started := true } }.noiseAtFloor

/-! ### Module time after Night or brownout hold (R324, R367) -/

/-- Tick and time after a number of AON cycles. -/
def State.resumeTime (tick0 time0 : Nat) (rate : Int) (cycles : Nat) (s : State) : State :=
  let ns : Rat := (cycles : Rat) * ((s.reg Reg.NIGHT_AON).toNat : Rat) / 4096
  let ticks := (roundEven (ns / 25000)).toNat
  let frac := roundEven (((ticks : Int) * 25000 * (2 ^ 32 + rate) : Int) / (2 ^ 16 : Rat))
  let s := ({ s with tick := tick0 + ticks }).setTime ((time0 : Int) + frac * 2 ^ 32)
  let s := (s.setF TIME_STATUS.NIGHT_ESTIMATE 1).setF TIME_STATUS.STEP_ARMED 1
  ({ s with ring := { s.ring with dawnRecord := true } }).raise Reg.TIME_EVENTS 3

/-! ### The control pair (R219, R259, R286, R409) -/

/-- Commands, mailbox, duplicate cache and TX timestamps go with the control pair (R248, R259). -/
def State.dropCommands (s : State) : State :=
  (s.putLink { resetLink with txFrames := s.link.txFrames }).putTime { s.mtime with ts := [], awaiting := [] }

/-- The staged settings block is discarded (Table 12.10). -/
def State.dropStaged (s : State) : State := { s with boot := { s.boot with staged := [], revert := false } }

/-- The restart path begins in Larva; the active slot is still to be verified (R286). -/
def State.restartLarva (brownout : Bool) (s : State) : State :=
  let s := { s with boot := { s.boot with restarting := true, brownout := brownout } }
  ((s.setF CONV_STATUS.BROWNOUT (b01 brownout)).setF BOOT_STAGE.SCHEMA 0).enterStage LARVA 4

/-- The safety state after a control-pair reset (R219): LOCKED by CONTROL_RESET, CP_RESET, ALERT_N asserted anew. -/
def State.safetyReset (s : State) : State :=
  let s := s.safePath C_CONTROL_RESET 0 0xFF s.tick false
  let s := (s.setF SAFE_MON_STATUS.CP_RESET 1).incSat SAFE_MON_STATUS.CP_RESETS
  { s with tw := { s.tw with quiet := false } }

/-- A control-pair reset in Noon (R219): machines stop without FALSESTOP, the pins go to their safe levels, XING_2,
XING_4 and XING_10 discard a transfer in flight where `cut` has their bit. -/
def State.controlReset (cut : Nat) (s : State) : State :=
  let s := s.safetyReset
  let s := (s.pairPowerLeave false).stopMachines false
  let s := ((s.stopRecs false).flushVisible).stopPio
  let s := (s.applySafeLevel 63).holdPins 63
  let s := (s.stopSensing.dropCommands).dropStaged
  let s := s.each (fun k s => s.when (cut.testBit k) (State.xingReset k)) [2, 4, 10]
  (s.clearCp).restartLarva false

end Sys2Proof.Machine
end

