-- ==== Sys2Proof/Machine/Entry.lean ====
section
/-!
DEFINITION. The power entry, hold-up and VAUX (chapter 17): its events and commands; power-up and brownout hold.
-/
namespace Sys2Proof.Machine

def State.putEntry (e : EntryPart) (s : State) : State := { s with entry := e }

/-! ### Phases (R370, R371) -/

/-- Phases that are not retired. -/
def State.healthyPhases (s : State) : List Nat :=
  (List.range 3).filter fun p => !(s.fld PHASE_STATUS.RETIRED).testBit p

/-- One phase switches alone. -/
def State.onePhase (p : Nat) (s : State) : State :=
  (s.setF PHASE_STATUS.ACTIVE (2 ^ p)).setF PHASE_STATUS.LIGHT p

/-- The phase with which the converter starts: a healthy one; which, the manual leaves open. -/
def State.startPhase (s : State) : State :=
  let hs := s.healthyPhases
  match hs[(Config.freeWord s.free).toNat % hs.length]? with
  | some p => (s.onePhase p).draw
  | none => s

/-- The next healthy phase after `p`, in cyclic order. -/
def State.nextPhase (s : State) (p : Nat) : Option Nat :=
  [(p + 1) % 3, (p + 2) % 3, p].find? fun q => s.healthyPhases.contains q

/-! ### Limits and VAUX (R365, R372, R373) -/

/-- CONV_STATUS.LIMIT and LIMIT_CAUSE: the lowest code of the limits in force (Table 17.6). -/
def State.syncLimit (s : State) : State :=
  let m := s.entry.limits
  let cause := if m.testBit 0 then 1 else if m.testBit 1 then 2 else if m.testBit 2 then 3 else 0
  (s.setF CONV_STATUS.LIMIT (b01 (cause != 0))).setF CONV_STATUS.LIMIT_CAUSE cause

/-- A current limit comes into force (R373): 0 overload, 1 one phase, 2 thermal. -/
def State.limitOn (k : Nat) (s : State) : State :=
  if s.entry.limits.testBit k then s
  else
    let s := (s.putEntry { s.entry with limits := s.entry.limits ||| 2 ^ k }).syncLimit
    (s.incSat CONV_COUNTS.LIMITS).raise Reg.CONV_EVENTS 2

def State.limitOff (k : Nat) (s : State) : State :=
  (s.putEntry { s.entry with limits := s.entry.limits &&& (7 - 2 ^ k) }).syncLimit

/-- The converter stops: 1 policy or stop threshold, 2 limit action, 3 thermal, 4 Night choice, 5 no phase left. -/
def State.vauxOff (why : Nat) (s : State) : State :=
  if s.on CONV_STATUS.VAUX_ON then
    let s := (s.putEntry { s.entry with off := why }).limitOff 0
    (s.setF CONV_STATUS.VAUX_ON 0).setF PHASE_STATUS.ACTIVE 0
  else s

/-- The converter starts with its soft start. -/
def State.vauxOn (s : State) : State :=
  if s.healthyPhases.isEmpty then s
  else ((s.putEntry { s.entry with off := 0 }).setF CONV_STATUS.VAUX_ON 1).startPhase

/-- A restart that is counted and pends source 79 (R365). -/
def State.vauxRestart (s : State) : State :=
  (s.vauxOn.incSat CONV_COUNTS.RESTARTS).raise Reg.CONV_EVENTS 5

/-! ### Power-up and the loss of state -/

/-- POWER_UP (R274): VBAT is applied; SYNC is sampled (`strap`: it reads high), the converter starts, the ROM loader
enters Larva. Nothing of an earlier state survives (Table 12.10). -/
def execPowerUp (strap : Bool) (s : State) : Host.Outcome State Fault Refusal :=
  let r := { State.reset with pending := s.pending, free := s.free, tw := { State.reset.tw with strap := strap } }
  .next (r.vauxOn.enterStage LARVA 0)

/-- AON_SUPPLY_LOSS (R222): the module is wholly lost. -/
def execAonSupplyLoss : State → Host.Outcome State Fault Refusal := act fun s =>
  { State.reset with aon := false, pending := s.pending, free := s.free }

/-- The registers held in the AON domain (R348, R377): pages 0x03, 0x07, 0x0B, T1S_PLCA, the sentinel's and THEFT's, and
those of R225. -/
def aonHeld (a : Nat) : Bool :=
  let page := a / 256
  page == 3 || page == 7 || page == 0xB || a == Reg.T1S_PLCA
    || (decide (Reg.SENTINEL_CTRL ≤ a) && decide (a ≤ Reg.SENTINEL_Z))
    || (decide (Reg.REC_CTRL 7 ≤ a) && decide (a < Reg.REC_CTRL 8))
    || [Reg.SAFE_STATE, Reg.SAFE_TRIP, Reg.SAFE_TRIP_TICK_LO, Reg.SAFE_TRIP_TICK_HI, Reg.SAFE_MON_STATUS,
      Reg.PIO_SAFE_LEVEL].contains a

/-- What the firmware knows of its image and slots; it stands with the code RAM (Table 12.10). -/
def bootHeld (a : Nat) : Bool :=
  [Reg.BOOT_STAGE, Reg.BOOT_SLOTS, Reg.BOOT_COUNTS, Reg.BOOT_FW, Reg.BOOT_SCHEMA_01, Reg.BOOT_SCHEMA_23].contains a

/-- The recognizer settings last applied. -/
def lastApplied (cs : List RecCfg) : List RecCfg := ((cs.filter fun c => c.applied).getLast?).toList

/-- The switched domains lose power: only the registers of `held` keep their words, and THEFT its enable and state
(R196). -/
def State.losePower (held : Nat → Bool) (s : State) : State :=
  let theft := bitWord 7
  let en := s.reg Reg.REC_ENABLE &&& theft
  let active := s.reg Reg.REC_ACTIVE &&& theft
  let s := { s with
    regs := s.regs.filter fun p => held p.1
    latch := []
    queue := resetQueue, ring := resetRing, link := resetLink
    array := { resetArray with sentIn := s.array.sentIn, sentHp := s.array.sentHp, sentRun := s.array.sentRun }
    filt := resetFilt
    committed := none, fast := none, commMem := none, fastMem := none, held := []
    eng := { resetEngine with
      cfgs := lastApplied s.eng.cfgs, dec := keepTheft s.eng.dec resetDec, conf := keepTheft s.eng.conf resetDec
      theft := s.eng.theft, sent := s.eng.sent }
    pio := resetPio, hk := resetHk, mtime := resetTime, t1s := { resetT1s with plca := s.t1s.plca }, pair := resetPair
    boot := { s.boot with staged := [], revert := false }, xing := State.reset.xing }
  (s.setReg Reg.REC_ENABLE en).setReg Reg.REC_ACTIVE active

/-- Brownout hold (R366). -/
def State.brownoutHold (s : State) : State :=
  let s := s.putEntry { s.entry with hold := some (s.tick, s.time, s.rate) }
  s.losePower fun a => aonHeld a || bootHeld a || a == Reg.NIGHT_AON || a == Reg.TIME_RATE

/-! ### Input stage (R362) -/

/-- VBAT_REVERSAL (R23): the input stage blocks it; nothing else changes. -/
def execVbatReversal : State → Host.Outcome State Fault Refusal := act id

/-- INPUT_DISCONNECT (R362). -/
def execInputDisconnect : State → Host.Outcome State Fault Refusal := act fun s =>
  (s.setF CONV_STATUS.VBAT_OV 1).raise Reg.CONV_EVENTS 3

/-- INPUT_RECONNECT (R362). -/
def execInputReconnect : State → Host.Outcome State Fault Refusal := act fun s =>
  (s.setF CONV_STATUS.VBAT_OV 0).raise Reg.CONV_EVENTS 3

/-- VBAT_LOW_REPORT (R362). -/
def execVbatLowReport : State → Host.Outcome State Fault Refusal := act fun s =>
  (s.setF CONV_STATUS.VBAT_LOW 1).raise Reg.CONV_EVENTS 3

/-! ### Reservoir and ride-through (R363 to R369) -/

/-- Reports of R33 on the estimate as it stands. -/
def State.reportCap (s : State) : State :=
  let c := s.fld RES_MODEL.CAP
  let low := decide (c < 80)
  let high := decide (1000 < c)
  let s := (s.setF CONV_STATUS.UNDERSIZED (b01 low)).setF CONV_STATUS.OVERSIZED (b01 high)
  s.when (low || high) (State.raise Reg.CONV_EVENTS 4)

/-- C_count of R368: charge in uC over a fall of VHOLD in 10 mV, in uF. -/
def countCap (charge dv : Nat) : Rat := (charge : Rat) * 100 / (dv : Rat)

/-- The estimate after a qualifying ride-through (R368). -/
def State.estimateCap (charge dv : Nat) (s : State) : State :=
  let old : Rat := (s.fld RES_MODEL.CAP : Rat)
  let c := countCap charge dv
  let near := decide (absR (c - old) ≤ old / 4)
  let new := if near then old + (c - old) / 8 else c
  let s := s.setF RES_MODEL.CAP (satBits 16 (roundEven new).toNat)
  let s := s.setF CONV_STATUS.MISMATCH (b01 !near)
  (s.when (!near) (State.raise Reg.CONV_EVENTS 4)).reportCap

/-- RIDE_THROUGH_ENTRY (R363, R368): `esr` is the ESR measured at the step in VHOLD. -/
def execRideThroughEntry (esr : BitVec 16) : State → Host.Outcome State Fault Refusal := act fun s =>
  if s.on CONV_STATUS.RIDE then s
  else
    let s := ((s.setF CONV_STATUS.RIDE 1).incSat CONV_COUNTS.RIDES).raise Reg.CONV_EVENTS 0
    let s := s.when s.noon (State.setF RES_MODEL.ESR esr.toNat)
    s.when (s.fld CONV_CFG.SHED_MODE == 2 && s.fld CONV_CFG.SHED_DELAY == 0) (State.vauxOff 1)

/-- RIDE_THROUGH_END (R363, R368, R369): the lowest VHOLD in 10 mV, the duration in ms, the charge in uC, the fall of
VHOLD in 10 mV; `stale`: the housekeeping entries for VHOLD are more than 20 ms old. Accounting rests in Night. -/
def execRideThroughEnd (low ms : BitVec 16) (charge : Word) (dv : BitVec 16) (stale : Bool) :
    State → Host.Outcome State Fault Refusal := act fun s =>
  if ¬ s.on CONV_STATUS.RIDE then s
  else
    let s := (s.setF CONV_STATUS.RIDE 0).raise Reg.CONV_EVENTS 0
    if ¬ s.noon then s
    else
      let s := ((s.setF RES_LAST.MIN_VHOLD low.toNat).setF RES_LAST.DURATION ms.toNat).setReg Reg.RES_CHARGE charge
      let s := s.setF CONV_STATUS.STALE (b01 stale)
      if stale then s.raise Reg.CONV_EVENTS 4
      else if 200 ≤ dv.toNat then s.estimateCap charge.toNat dv.toNat else s

/-- CAPACITANCE_ESTIMATE (R368): the first charge of a power-up gives C in uF. -/
def execCapacitanceEstimate (cap : BitVec 16) : State → Host.Outcome State Fault Refusal := act fun s =>
  (s.setF RES_MODEL.CAP cap.toNat).reportCap

/-- SHED_THRESHOLD_CROSSING (R361, R365): the RESERVOIR path acts once per setting of SHED. -/
def execShedThresholdCrossing : State → Host.Outcome State Fault Refusal := act fun s =>
  let fresh := !s.on CONV_STATUS.SHED
  let s := { s.setF CONV_STATUS.SHED 1 with rearmed := false }
  let s := s.when fresh (State.safePath C_RESERVOIR 0 0xFF s.tick false)
  s.when (s.on CONV_STATUS.RIDE && s.fld CONV_CFG.SHED_MODE == 1) (State.vauxOff 1)

/-- REARM_THRESHOLD_CROSSING (R361). -/
def execRearmThresholdCrossing : State → Host.Outcome State Fault Refusal := act fun s =>
  { s.setF CONV_STATUS.SHED 0 with rearmed := true }

/-- SHED_DELAY_EXPIRY (R365). -/
def execShedDelayExpiry : State → Host.Outcome State Fault Refusal := act fun s =>
  s.when (s.on CONV_STATUS.RIDE && s.fld CONV_CFG.SHED_MODE == 2) (State.vauxOff 1)

/-- STOP_THRESHOLD_CROSSING (R366, R374): VAUX goes off; in Noon the module enters brownout hold. -/
def execStopThresholdCrossing : State → Host.Outcome State Fault Refusal := act fun s =>
  let s := s.vauxOff 1
  s.when s.noon State.brownoutHold

/-- BROWNOUT_EXIT (R367): `cycles` of the AON clock have passed in the hold. -/
def execBrownoutExit (cycles : BitVec 64) : State → Host.Outcome State Fault Refusal := act fun s =>
  match s.entry.hold with
  | some (t, time, rate) =>
    let s := (s.putEntry { s.entry with hold := none }).resumeTime t time rate cycles.toNat
    let s := (s.vauxOn.incSat CONV_COUNTS.RESTARTS).raise Reg.CONV_EVENTS 5
    (s.safetyReset.holdPins 63).restartLarva true
  | none => s

/-- VAUX_START_THRESHOLD (R365): a restart after a policy, stop or limit shutdown. -/
def execVauxStartThreshold : State → Host.Outcome State Fault Refusal := act fun s =>
  s.when (s.entry.hold.isNone && (s.entry.off == 1 || s.entry.off == 2)) State.vauxRestart

/-- VAUX_LOW (R213). -/
def execVauxLow : State → Host.Outcome State Fault Refusal := act fun s =>
  (s.setF CONV_STATUS.VAUX_OK 0).safePath C_VAUX_LOW 0 0xFF s.tick false

/-- VAUX_OK_REACHED (R31, Table 9.1). -/
def execVauxOkReached : State → Host.Outcome State Fault Refusal := act fun s =>
  let s := s.setF CONV_STATUS.VAUX_OK 1
  if s.safety.thermal ∧ s.safeState = LOCKED ∧ s.imago then
    ({ s with safety := { s.safety with thermal := false } }).disarmedQuiet
  else s

/-! ### Phases and limits (R370 to R373) -/

/-- A phase is retired (R371): cause 1 open, 2 sense mismatch, 3 overcurrent. -/
def State.retirePhase (p cause dev : Nat) (s : State) : State :=
  let active := s.fld PHASE_STATUS.ACTIVE
  let s := s.setF (bitF Reg.PHASE_STATUS p) 1
  let s := (s.setF ⟨Reg.PHASE_STATUS, 12 + 2 * p, 2⟩ cause).setF PHASE_STATUS.DEVIATION dev
  let s := (s.incSat CONV_COUNTS.PHASES).raise Reg.CONV_EVENTS 1
  let rest := active &&& (7 - 2 ^ p)
  let s := if active.testBit p ∧ rest = 0 then
      (match s.nextPhase p with
      | some q => s.onePhase q
      | none => s.setF PHASE_STATUS.ACTIVE 0)
    else s.setF PHASE_STATUS.ACTIVE rest
  match s.healthyPhases.length with
  | 0 => s.vauxOff 5
  | 1 => s.limitOn 1
  | _ => s

/-- PHASE_RETIREMENT (R371): `cause` is the code less 1, `dev` the largest model disagreement in %. -/
def execPhaseRetirement (p cause : Fin 3) (dev : Byte) : State → Host.Outcome State Fault Refusal :=
  act (State.retirePhase p.val (cause.val + 1) dev.toNat)

/-- A retired phase has passed 1024 cycles (R371). With a phase back, VAUX that went off for want of one restarts, and
with two the one-phase limit ends (R372). -/
def State.phaseBack (p : Nat) (s : State) : State :=
  let s := (s.setF (bitF Reg.PHASE_STATUS p) 0).setF ⟨Reg.PHASE_STATUS, 12 + 2 * p, 2⟩ 0
  let s := if s.healthyPhases.length = 1 then s.limitOn 1 else s.limitOff 1
  if s.entry.off = 5 then s.vauxRestart else s

/-- PHASE_RETRY (R371): `light`: the load is below 0.8 A; `again`: the phase fails its 1024 cycles, with the cause less
1 and the deviation. -/
def execPhaseRetry (p : Fin 3) (light : Bool) (again : Option (Fin 3 × Byte)) : State → Host.Outcome State Fault Refusal :=
  act fun s =>
    if ¬ light ∨ ¬ (s.fld PHASE_STATUS.RETIRED).testBit p.val then s
    else match again with
      | some (c, dev) => s.retirePhase p.val (c.val + 1) dev.toNat
      | none => s.phaseBack p.val

/-- PHASE_ROTATION (R370): with one phase active, the next healthy one works. -/
def execPhaseRotation : State → Host.Outcome State Fault Refusal := act fun s =>
  match (List.range 3).find? (fun p => s.fld PHASE_STATUS.ACTIVE == 2 ^ p) with
  | some p =>
    match s.nextPhase p with
    | some q => s.onePhase q
    | none => s
  | none => s

/-- PHASE_SHEDDING (R370): the phases that switch after a phase has been added or shed. -/
def execPhaseShedding (active : Fin 8) : State → Host.Outcome State Fault Refusal := act fun s =>
  let m := active.val &&& (7 - s.fld PHASE_STATUS.RETIRED)
  if ¬ s.on CONV_STATUS.VAUX_ON ∨ m = 0 then s
  else
    let s := s.setF PHASE_STATUS.ACTIVE m
    match (List.range 3).find? (fun p => m == 2 ^ p) with
    | some p => s.setF PHASE_STATUS.LIGHT p
    | none => s

/-- OVERLOAD_LIMIT (R370, R373). -/
def execOverloadLimit : State → Host.Outcome State Fault Refusal := act fun s =>
  s.when (s.on CONV_STATUS.VAUX_ON) (State.limitOn 0)

/-- OVERLOAD_RELEASE (R370). -/
def execOverloadRelease : State → Host.Outcome State Fault Refusal := act (State.limitOff 0)

/-- LIMIT_OFF_EXPIRY (R373): under LIMIT_ACTION OFF. -/
def execLimitOffExpiry : State → Host.Outcome State Fault Refusal := act fun s =>
  s.when (s.on CONV_CFG.LIMIT_ACTION && s.on CONV_STATUS.LIMIT) (State.vauxOff 2)

/-- LIMIT_RESTART_ATTEMPT (R373): deferred during a ride-through until the start threshold (Table 17.6). -/
def execLimitRestartAttempt : State → Host.Outcome State Fault Refusal := act fun s =>
  if s.entry.off = 2 ∧ ¬ s.on CONV_STATUS.RIDE then s.vauxOn.raise Reg.CONV_EVENTS 5 else s

/-- VAUX_START_RETRY (R34): the retry is reported; deferred during a ride-through (Table 17.6). -/
def execVauxStartRetry : State → Host.Outcome State Fault Refusal := act fun s =>
  if s.on CONV_STATUS.RIDE then s.vauxOff 2 else s.raise Reg.CONV_EVENTS 5

/-- THERMAL_LIMIT (R31). -/
def execThermalLimit : State → Host.Outcome State Fault Refusal := act (State.limitOn 2)

/-- THERMAL_SHUTDOWN (R31): SAFE off first, then VAUX. -/
def execThermalShutdown : State → Host.Outcome State Fault Refusal := act fun s =>
  let s := s.safePath C_THERMAL 0 0xFF s.tick false
  let s := { s with safety := { s.safety with thermal := s.safety.thermal || (s.safeState == LOCKED && s.imago) } }
  s.vauxOff 3

/-- THERMAL_RELEASE (R31). -/
def execThermalRelease : State → Host.Outcome State Fault Refusal := act fun s =>
  let s := s.limitOff 2
  s.when (s.entry.off == 3) State.vauxOn

/-! ### Commands and registers (R376, R377) -/

/-- A value R376 refuses. -/
def convBad (w : Word) : Bool := reservedSet Reg.CONV_CFG w || bits w 0 2 == 3 || bits w 24 8 == 0

def cmdConvConfig : Cmd where
  op := 0x83
  stages := stagesI
  len := lenIs 4
  check := fun r _ => if convBad (wordAt r.params 0) then some (BAD_PARAM, []) else none
  effect := fun r s => (s.setReg Reg.CONV_CFG (wordAt r.params 0), [])

def execConvConfig (r : Req) : State → Host.Outcome State Fault Refusal := act (cmdConvConfig.run r)

def cmdConvStatus : Cmd where
  op := 0x84
  stages := stagesLCI
  len := lenIs 0
  check := fun _ _ => none
  effect := fun _ s => (s, s.regBytes [Reg.CONV_CFG, Reg.CONV_STATUS, Reg.PHASE_STATUS, Reg.CONV_VIN, Reg.CONV_AUX,
    Reg.RES_MODEL, Reg.RES_LAST, Reg.RES_CHARGE, Reg.CONV_COUNTS])

def execConvStatus (r : Req) : State → Host.Outcome State Fault Refusal := act (cmdConvStatus.run r)

/-- A write to CONV_CFG: a refused value stores nothing and is recorded. -/
def State.writeConvCfg (w : Word) (s : State) : State :=
  if convBad w then s.setF CONV_STATUS.REFUSED BAD_PARAM else s.setReg Reg.CONV_CFG w

end Sys2Proof.Machine
end

