-- ==== Sys2Proof/Machine/Night.lean ====
section
/-!
DEFINITION. Votes, Dusk, Night and wakes (chapter 16), and the sentinel (R74, R75, R196); the power commands.
-/
namespace Sys2Proof.Machine

/-! ### Votes (R346, R347) -/

/-- A request is outstanding: from its first byte until its reply has been read or sent (R258). -/
def State.commandOpen (s : State) : Bool :=
  !s.link.rx.isEmpty || s.link.executing.isSome || !s.link.waiting.isEmpty || !s.link.replies.isEmpty
    || s.link.txFrames.any (·.etherType == CMD_ETHERTYPE)

/-- A settings block is staged and not complete (R281). -/
def State.stagedOpen (s : State) : Bool :=
  !s.boot.staged.isEmpty && decide (s.boot.staged.length < 20 + numAt s.boot.staged 8 4)

/-- A slot is LOADING. -/
def State.loading (s : State) : Bool := s.fld BOOT_SLOTS.SLOT_0 == 1 || s.fld BOOT_SLOTS.SLOT_1 == 1

/-- FW_REASON (Table 16.2). -/
def State.fwReason (s : State) : Nat :=
  maskOf [!s.imago, s.commandOpen, s.armed, s.testing, s.loading || s.stagedOpen, s.on TW_STATUS.BUSY]

/-- The VOTES field: four domains for each of host, firmware, machines, pair. -/
def State.voteBits (s : State) : Nat :=
  let all (b : Bool) : Nat := if b then 15 else 0
  s.fld PWR_HOST_VOTE.MASK + 2 ^ 4 * all (s.fwReason != 0) + 2 ^ 8 * all (s.reg Reg.EM_VOTE != 0)
    + 2 ^ 12 * all s.pairBusy

/-- PWR_VOTES as it reads. -/
def State.pwrVotes (s : State) : Word := w32 (s.voteBits + 2 ^ 16 * s.fwReason)

/-- No client holds a vote, in Noon. -/
def State.noVote (s : State) : Bool := s.noon && s.voteBits == 0

/-- PWR_STATE as it reads: DUSK_PENDING while no vote stands and DUSK_DELAY runs. -/
def State.pwrState (s : State) : Word :=
  putBits (s.reg Reg.PWR_STATE) 2 1 (b01 (s.noVote && s.fld NIGHT_CFG.DUSK_DELAY != 0))

/-! ### Commands (Table 16.10) -/

def cmdPowerVote : Cmd where
  op := 0x80
  stages := stagesI
  len := lenIs 4
  check := fun r _ => if 16 ≤ byteAt r.params 0 then some (BAD_PARAM, []) else none
  effect := fun r s =>
    let s := s.setF PWR_HOST_VOTE.MASK (byteAt r.params 0)
    (s, bytesOf (w32 (s.voteBits ||| 0xF0) ||| w32 (2 ^ 16 * (s.fwReason ||| 2))))

def execPowerVote (r : Req) : State → Host.Outcome State Fault Refusal := act (cmdPowerVote.run r)

/-- Values of NIGHT_CFG, NIGHT_PIO and NIGHT_TIMER that R358 refuses. -/
def nightCfgBad (w : Word) : Bool := reservedSet Reg.NIGHT_CFG w || decide (10000 < bits w 16 16)
def nightPioBad (w : Word) : Bool := reservedSet Reg.NIGHT_PIO w || (List.range 6).any fun p => decide (4 < bits w (3 * p) 3)
def nightTimerBad (w : Word) : Bool := reservedSet Reg.NIGHT_TIMER w

def cmdNightConfig : Cmd where
  op := 0x81
  stages := stagesI
  len := lenIs 12
  check := fun r _ => if nightCfgBad (wordAt r.params 0) || nightPioBad (wordAt r.params 4)
      || nightTimerBad (wordAt r.params 8) then some (BAD_PARAM, []) else none
  effect := fun r s => (((s.setReg Reg.NIGHT_CFG (wordAt r.params 0)).setReg Reg.NIGHT_PIO (wordAt r.params 4)).setReg
    Reg.NIGHT_TIMER (wordAt r.params 8), [])

def execNightConfig (r : Req) : State → Host.Outcome State Fault Refusal := act (cmdNightConfig.run r)

def cmdPowerStatus : Cmd where
  op := 0x82
  stages := stagesLCI
  len := lenIs 0
  check := fun _ _ => none
  effect := fun _ s => (s, bytesOfWords [s.pwrState, s.pwrVotes] ++ s.regBytes [Reg.NIGHT_CFG, Reg.NIGHT_PIO,
    Reg.PWR_COUNTS, Reg.NIGHT_LAST])

def execPowerStatus (r : Req) : State → Host.Outcome State Fault Refusal := act (cmdPowerStatus.run r)

/-- A write to NIGHT_CFG, NIGHT_PIO or NIGHT_TIMER: a refused value stores nothing (R359). -/
def State.writeNight (a : Nat) (w : Word) (s : State) : State :=
  let bad := if a = Reg.NIGHT_CFG then nightCfgBad w else if a = Reg.NIGHT_PIO then nightPioBad w else nightTimerBad w
  if bad then s else s.setReg a w

/-! ### Dusk and Night (R348 to R354) -/

/-- DUSK_BEGIN (R346, R351): no vote stands and DUSK_DELAY has passed. -/
def execDuskBegin : State → Host.Outcome State Fault Refusal := act fun s =>
  if ¬ s.noVote then s
  else
    let s := s.finishAllDue
    let s := ((s.stopMachines true).stopRecs true).commitHeld s.voteTick
    let s := (s.addSat QUEUE_DROPS.NIGHT s.queue.visible.length).flushVisible
    let s := { s with queue := { s.queue with partly := [], idle := [], drop := none } }
    let s := { s with link := resetLink }
    let s := s.putTime { s.mtime with ts := [], awaiting := [], dusk := some (s.tick, s.time, s.rate) }
    let s := ((s.stopPio.stopSensing).dropStaged).setF PWR_STATE.STATE 1
    (s.clearTarget .host).clearTarget .cp

/-- The registers of the Cocoon save list (Table 16.3). -/
def cocoonHeld (a : Nat) : Bool :=
  [Reg.VOTE_DIE, Reg.VOTE_COUNTS, Reg.ARRAY_PROFILE, Reg.ARRAY_RANGE, Reg.VOTE_CTRL, Reg.FILT_PRESET, Reg.NOTCH_CTRL,
    Reg.SYNC_CTRL, Reg.SAFE_CFG, Reg.SAFE_EM_MASK, Reg.SAFE_REC_MASK, Reg.SAFE_COUNTS, Reg.QUEUE_CFG, Reg.QUEUE_HK,
    Reg.QUEUE_DROPS, Reg.RING_CFG, Reg.CAP_DESC 0, Reg.CAP_DESC 1, Reg.CAP_DESC 2, Reg.CAP_DESC 3, Reg.RING_STATUS].contains a
  || [Reg.NIGHT_AON, Reg.TIME_CFG, Reg.TIME_STEP_TH, Reg.TIME_LOCK_TH, Reg.TIME_COUNTS, Reg.TIME_RATE, Reg.STREAM_CFG,
    Reg.STREAM_DEST_LO, Reg.STREAM_DEST_HI, Reg.STREAM_SEQ, Reg.PAIR_CFG, Reg.PAIR_PARTNER_LO, Reg.PAIR_PARTNER_HI,
    Reg.PAIR_COUNTS].contains a
  || (decide (Reg.INT_HOST_EN 0 ≤ a) && decide (a ≤ Reg.INT_HOST_EN 7))
  || (decide (Reg.INT_CP_EN 0 ≤ a) && decide (a ≤ Reg.INT_CP_EN 7))

/-- With RETAIN_SAMPLE, the capture window and T as well (R241). -/
def windowHeld (a : Nat) : Bool := [Reg.RING_CAP_START, Reg.RING_CAP_END].contains a

/-- A triad through Night (Table 16.3, R101): RETIRED with its DETAIL, PARKED, or active. -/
def nightTriad (t : Triad) : Triad :=
  { resetTriad with
    state := if t.state = RETIRED_ ∨ t.state = PARKED then t.state else HEALTHY
    reason := t.reason, testFail := t.testFail }

/-- The four domains go off; the Cocoon holds its list (R348, R349). -/
def State.intoCocoon (s : State) : State :=
  let keep := s.on NIGHT_CFG.RETAIN_SAMPLE
  let ring := if keep then s.ring else { resetRing with policy := s.ring.policy, content := s.ring.content }
  let n := s.losePower fun a => aonHeld a || bootHeld a || cocoonHeld a || (keep && windowHeld a)
  let n := { n with
    queue := { resetQueue with seq := s.queue.seq, sink := s.queue.sink }
    ring := ring
    mtime := { resetTime with dusk := s.mtime.dusk, linkDelay := s.mtime.linkDelay } }
  let n := n.putFilt { resetFilt with tSync := s.filt.tSync }
  n.putArray { n.array with
    triads := s.array.triads.map nightTriad
    chans := s.array.chans.map fun c => { c with s2 := 0, zNeg := false, z2 := 0 }
    subs := s.array.subs }

/-- The PIO pins in Night (Table 16.6). -/
def State.nightPins (s : State) : State :=
  let level (p : Nat) : Nat :=
    if s.fld ⟨Reg.NIGHT_PIO, 3 * p, 3⟩ = 0 then s.fld ⟨Reg.NIGHT_PIO, 18 + 2 * p, 2⟩ else 0
  s.putPins { s.pins with
    oe := maskOf ((List.range 6).map fun p => level p == 1 || level p == 2)
    out := maskOf ((List.range 6).map fun p => level p == 2), held := 0 }

/-- Dawn begins: LAST_WAKE is the lowest code, WAKE_PINS the pins (R353); VAUX that the Night choice switched off
restarts beside the Dawn steps (R354). -/
def State.startDawn (codes : List Nat) (pins : Nat) (s : State) : State :=
  let s := (s.setF PWR_STATE.STATE 3).setF PWR_STATE.LAST_WAKE (codes.foldl min 7)
  let s := { s.setF PWR_STATE.WAKE_PINS pins with power := { s.power with wakes := [], pins := 0 } }
  s.when (s.entry.off == 4) State.vauxOn

/-- NIGHT_ENTRY (R351, R352): the end of Dusk. -/
def execNightEntry : State → Host.Outcome State Fault Refusal := act fun s =>
  if s.fld PWR_STATE.STATE ≠ 1 then s
  else
    let s := s.intoCocoon.nightPins
    let choice := s.fld NIGHT_CFG.VAUX
    let s := s.when (choice == 0 || choice == 3) (State.vauxOff 4)
    let s := s.setF PWR_STATE.STATE 2
    match s.power.wakes with
    | [] => s
    | ws => (s.incSat PWR_COUNTS.WAKES_DUSK).startDawn ws s.power.pins

/-- A wake of Table 16.5: in Night Dawn starts; in Dusk a held one pends; in Dawn it is absorbed; in Noon nothing
sleeps. -/
def State.wake (code pins : Nat) (s : State) : State :=
  match s.fld PWR_STATE.STATE with
  | 1 => { s with power := { s.power with wakes := s.power.wakes ++ [code], pins := s.power.pins ||| pins } }
  | 2 => s.startDawn [code] pins
  | _ => s

/-- A wake enable: 0 TW, 1 PIO, 2 SENTINEL, 3 THEFT, 4 TIMER. -/
def State.wakeEn (s : State) (k : Nat) : Bool := (s.fld NIGHT_CFG.WAKE_EN).testBit k

/-- The wake code of a pin in NIGHT_PIO. -/
def State.pinWake (s : State) (p : Nat) : Nat := if s.wakeEn 1 then s.fld ⟨Reg.NIGHT_PIO, 3 * p, 3⟩ else 0

/-- WAKE_PIO_LEVEL (R352): pin `p` shows its level. -/
def execWakePioLevel (p : Fin 6) : State → Host.Outcome State Fault Refusal := act fun s =>
  s.when (s.pinWake p.val == 1 || s.pinWake p.val == 2) (State.wake 2 (2 ^ p.val))

/-- WAKE_PIO_EDGE (R352): `late`: inside the last 92 us of Dusk, where it is lost. -/
def execWakePioEdge (p : Fin 6) (late : Bool) : State → Host.Outcome State Fault Refusal := act fun s =>
  let lost := late && s.fld PWR_STATE.STATE == 1
  s.when ((s.pinWake p.val == 3 || s.pinWake p.val == 4) && !lost) (State.wake 3 (2 ^ p.val))

/-- NIGHT_TIMER_EXPIRY (R352). -/
def execNightTimerExpiry : State → Host.Outcome State Fault Refusal := act fun s =>
  s.when (s.wakeEn 4 && s.fld NIGHT_TIMER.SECONDS != 0) (State.wake 6 0)

/-- NIGHT_ADDRESS_MATCH (R299): SCL is held, and the transaction continues after Dawn. -/
def execNightAddressMatch : State → Host.Outcome State Fault Refusal := act fun s =>
  let st := s.fld PWR_STATE.STATE
  s.when (s.wakeEn 0 && (st == 1 || st == 2)) fun s => (s.wake 1 0).twStart

/-! ### The sentinel (R74, R75, R196) -/

/-- AON cycles of a sentinel period (Table 3.10). -/
def State.sentinelPeriod (s : State) : Nat :=
  let r := s.fld SENTINEL_CTRL.RATE
  if r = 0 then 4096 else if r = 1 then 1024 else 256

/-- High-passed values and the wake run after a sample; values in 2^-11 g. -/
def State.sentinelFilter (v : List Rat) (s : State) : State :=
  let rate := s.fld SENTINEL_CTRL.RATE
  let hp := (List.range 3).map fun k => Config.sentinelHighpass rate (comp s.array.sentIn k) (comp s.array.sentHp k) (comp v k)
  let th : Rat := (s.fld SENTINEL_CTRL.WAKE_TH : Rat) * 16 / 1000 * 2048
  let above := decide (th ≠ 0) && hp.any fun h => decide (th < absR h)
  s.putArray { s.array with sentIn := v, sentHp := hp, sentRun := if above then s.array.sentRun + 1 else 0 }

/-- AON cycles of a time in ms. -/
def aonCycles (ms : Nat) : Nat := ms * 32768 / 1000

/-- THEFT's memory after a sample (R196). -/
def TheftMem.step (cfg : RecCfg) (period : Nat) (v hp : List Rat) (m : TheftMem) : TheftMem :=
  let now := m.clock + period
  let recent := (m.recent ++ [(now, v)]).filter fun x => decide (now < x.1 + 32768)
  let th : Rat := (cfg.lo 7 1 : Rat) / 1000 * 2048
  let hits := (if th * th < norm2 hp then m.hits ++ [now] else m.hits).filter
    fun t => decide (now < t + aonCycles (cfg.lo 7 2))
  let angle := match m.ref with
    | some r => Config.angleDeg (meanV (recent.map (·.2))) r
    | none => 0
  { m with clock := now, recent := recent, hits := hits, count := hits.length, angle := angle }

/-- The tick the AON timebase assigns to an instant of Night, `cycles` after Dusk entry (R324). -/
def State.nightTick (s : State) (cycles : Nat) : Nat :=
  let ns : Rat := (cycles : Rat) * ((s.reg Reg.NIGHT_AON).toNat : Rat) / 4096
  s.tick + (roundEven (ns / 25000)).toNat

/-- THEFT evaluates in Night (R196): a declaration is owed until after Dawn and raises a wake. -/
def State.theftNight (t : Nat) (s : State) : State :=
  let cfg := s.recCfg t
  let m : List Rat := [(s.eng.theft.count : Nat), s.eng.theft.angle, (b01 s.eng.theft.ref.isNone : Nat)]
  let d := s.eng.dec.getD 7 defaultDec
  if ¬ cfg.on 7 ∨ d.st = R_ACTIVE then s
  else
    let x := finishDec cfg 7 (sampleDec cfg 0 7 t false m d)
    let s := s.putEng { s.eng with dec := s.eng.dec.set 7 x.1, conf := s.eng.conf.set 7 x.1 }
    match x.2.evs with
    | [] => s
    | ev :: _ =>
      let s := s.putEng { s.eng with theft := { s.eng.theft with owed := some (t, ev) } }
      s.when (s.wakeEn 3) (State.wake 5 0)

/-- SENTINEL_SAMPLE (R74): int16 values in 2^-11 g; in Night, `cycles` of the AON clock have passed since Dusk entry. -/
def execSentinelSample (x y z : BitVec 16) (cycles : BitVec 64) : State → Host.Outcome State Fault Refusal := act fun s =>
  let s := (s.setF SENTINEL_XY.X x.toNat).setF SENTINEL_XY.Y y.toNat
  let s := (s.setF SENTINEL_Z.Z z.toNat).setF SENTINEL_Z.COUNT (s.fld SENTINEL_Z.COUNT + 1)
  let v : List Rat := [(x.toInt : Rat), (y.toInt : Rat), (z.toInt : Rat)]
  let s := s.sentinelFilter v
  let night := s.fld PWR_STATE.STATE == 2
  let t := if night then s.nightTick cycles.toNat else s.tick
  let cfg := s.recCfg t
  let th := s.eng.theft.step cfg s.sentinelPeriod v s.array.sentHp
  let s := s.putEng { s.eng with sent := [x.signExtend 32, y.signExtend 32, z.signExtend 32], theft := th }
  s.when night (State.theftNight t)

/-- SENTINEL_WAKE (R75): WAKE_CNT samples in a row have exceeded the threshold; 0 acts as 1. -/
def execSentinelWake : State → Host.Outcome State Fault Refusal := act fun s =>
  s.when (s.wakeEn 2 && s.fld SENTINEL_CTRL.WAKE_TH != 0
    && decide (max 1 (s.fld SENTINEL_CTRL.WAKE_CNT) ≤ s.array.sentRun)) (State.wake 4 0)

end Sys2Proof.Machine
end

