-- ==== Sys2Proof/Machine/Boot.lean ====
section
/-!
DEFINITION. Start-up, images and settings (chapter 12): identity, slots, the settings block and its sections,
activation, REVERT, restarts; the control-pair reset.
-/
namespace Sys2Proof.Machine

/-- Run a command and note its refusal, judged on the state it was checked on (R255). -/
def Cmd.runNoting (c : Cmd) (note : Verdict → State → State) (r : Req) (s : State) : State :=
  match s.noon && c.stages.contains s.stage && c.len r.params, c.check r s with
  | true, some v => note v (c.run r s)
  | _, _ => c.run r s

def State.putBoot (b : BootPart) (s : State) : State := { s with boot := b }

/-! ### IDENTIFY (R287, R290) -/

/-- The six identity words. -/
def idWords : List Word :=
  [w32 (0x4806 + 2 ^ 16 * Config.grade.toNat + 2 ^ 24 * Config.hwRev.toNat),
    w32 (Config.romVersion.toNat + 2 ^ 16 * Config.calVersion.toNat)] ++ loHi Config.serial.toNat ++ loHi Config.mac.toNat

/-- Exactly `n` bytes of a string. -/
def exactly (n : Nat) (xs : List Byte) : List Byte := (xs ++ List.replicate n 0).take n

/-- The 32 bytes of the identity. -/
def identity : List Byte := bytesOfWords idWords ++ List.replicate 8 0

def cmdIdentify : Cmd where
  op := 0x01
  stages := stagesLCI
  len := lenIs 16
  check := fun _ _ => none
  effect := fun r s => (s.draw, identity ++ exactly 64 Config.deviceKey ++ exactly 64 Config.endorsement
    ++ exactly 64 (Config.deviceSign s.free (Config.sha256 (r.params ++ identity))))

def execIdentify (r : Req) : State → Host.Outcome State Fault Refusal := act (cmdIdentify.run r)

/-! ### Slots and images (R275 to R278) -/

abbrev SL_EMPTY : Nat := 0
abbrev SL_LOADING : Nat := 1
abbrev SL_LOADED : Nat := 2
abbrev SL_VERIFIED : Nat := 3
abbrev SL_ACTIVE : Nat := 4
abbrev SL_FAILED : Nat := 5

def slotF (k : Nat) : Fld := ⟨Reg.BOOT_SLOTS, 4 * k, 3⟩
def blockF (k : Nat) : Fld := ⟨Reg.BOOT_SLOTS, 3 + 4 * k, 1⟩

def State.slotState (s : State) (k : Nat) : Nat := s.fld (slotF k)
def State.slot (s : State) (k : Nat) : Slot := if k = 0 then s.boot.slot0 else s.boot.slot1

def State.putSlot (k : Nat) (v : Slot) (s : State) : State :=
  if k = 0 then s.putBoot { s.boot with slot0 := v } else s.putBoot { s.boot with slot1 := v }

/-- The slot's block is replaced, or discarded. -/
def State.putBlock (k : Nat) (b : Option (List Byte)) (s : State) : State :=
  (s.putSlot k { s.slot k with block := b }).setF (blockF k) (b01 b.isSome)

/-- The active slot, if there is one. -/
def State.activeSlot (s : State) : Option Nat :=
  if s.fld BOOT_SLOTS.ACTIVE < 2 then some (s.fld BOOT_SLOTS.ACTIVE) else none

/-- A slot becomes active, or none is: BOOT_FW and the schemas are those of its image (Table 12.3). -/
def State.setActive (k : Option Nat) (s : State) : State :=
  let img := match k with
    | some k => (s.slot k).image
    | none => []
  let s := s.setF BOOT_SLOTS.ACTIVE (k.getD 3)
  let s := ((s.setReg Reg.BOOT_FW (wordAt img 12)).setReg Reg.BOOT_SCHEMA_01 (wordAt img 16)).setReg
    Reg.BOOT_SCHEMA_23 (wordAt img 20)
  match k with
  | some k => s.setF (slotF k) SL_ACTIVE
  | none => s

/-- The slot that is LOADING. -/
def State.loadingSlot (s : State) : Option Nat := [0, 1].find? fun k => s.slotState k == SL_LOADING

/-- The bytes are stored already, equal, at their own offset. -/
def equalRepeat (stored : List Byte) (off : Nat) (chunk : List Byte) : Bool :=
  decide (off + chunk.length ≤ stored.length) && (stored.drop off).take chunk.length == chunk

/-- A refusal of Table 12.6 is recorded. -/
def noteImg (k : Nat) (v : Verdict) (s : State) : State :=
  if v.1 = REJECTED then (s.setF BOOT_IMG_REJECT.REASON (byteAt v.2 0)).setF BOOT_IMG_REJECT.SLOT k else s

def badSlot (p : List Byte) : Bool := decide (1 < byteAt p 0)

def cmdImgBegin : Cmd where
  op := 0x10
  stages := stagesLCI
  len := lenIs 8
  check := fun r s =>
    let n := numAt r.params 4 4
    refusals [(badSlot r.params || decide (n < 160) || decide (196608 < n), (BAD_PARAM, [])),
      (s.slotState (byteAt r.params 0) == SL_ACTIVE, (REJECTED, reason 1))]
  effect := fun r s =>
    let k := byteAt r.params 0
    -- a slot that was LOADING before is given up
    let s := match s.loadingSlot with
      | some j => (s.putSlot j { s.slot j with image := [], length := 0 }).setF (slotF j) SL_EMPTY
      | none => s
    let s := (s.putSlot k { image := [], length := numAt r.params 4 4, block := none }).setF (slotF k) SL_LOADING
    let s := s.setF (blockF k) 0
    (s.when (s.fld BOOT_SLOTS.PREV == k) (State.setF BOOT_SLOTS.PREV 3), [])

/-- IMG_BEGIN (R278). -/
def execImgBegin (r : Req) : State → Host.Outcome State Fault Refusal :=
  act (cmdImgBegin.runNoting (noteImg (byteAt r.params 0)) r)

def imgWriteCheck (p : List Byte) (s : State) : Option Verdict :=
  let off := numAt p 0 4
  let chunk := p.drop 4
  match s.loadingSlot with
  | none => some (BAD_PARAM, [])
  | some k =>
    let sl := s.slot k
    refusals [(decide (sl.length < off + chunk.length), (BAD_PARAM, [])),
      (off != sl.image.length && !equalRepeat sl.image off chunk, (REJECTED, reason 2))]

def cmdImgWrite : Cmd where
  op := 0x11
  stages := stagesLCI
  len := lenIn 5 1016
  check := fun r s => imgWriteCheck r.params s
  effect := fun r s =>
    match s.loadingSlot with
    | none => (s, [])
    | some k =>
      let sl := s.slot k
      if numAt r.params 0 4 ≠ sl.image.length then (s, [])
      else
        let image := sl.image ++ r.params.drop 4
        let s := s.putSlot k { sl with image := image }
        (s.when (image.length == sl.length) (State.setF (slotF k) SL_LOADED), [])

/-- IMG_WRITE (R278). -/
def execImgWrite (r : Req) : State → Host.Outcome State Fault Refusal := act fun s =>
  cmdImgWrite.runNoting (noteImg (s.loadingSlot.getD 0)) r s

/-- The ROM's checks of an image, in order (R277, Table 12.6): reasons 4 to 7. -/
def imageReason (n : Nat) (img : List Byte) : Option Nat :=
  if wordAt img 0 ≠ 0x50475453 ∨ half img 4 ≠ 1 ∨ half img 6 ≠ 1 ∨ numAt img 8 4 + 128 ≠ n then some 4
  else if Config.sha256 (img.drop 128) ≠ (img.drop 32).take 32 then some 5
  else if ¬ Config.romKeyAccepts (Config.sha256 (img.take 64)) ((img.drop 64).take 64) then some 6
  else if Config.romVersion.toNat < half img 24 then some 7 else none

def imgVerifyCheck (p : List Byte) (s : State) : Option Verdict :=
  let k := byteAt p 0
  if badSlot p then some (BAD_PARAM, [])
  else if s.slotState k ≠ SL_LOADED then some (REJECTED, reason 3)
  else (imageReason (s.slot k).length (s.slot k).image).map fun r => (REJECTED, reason r)

def cmdImgVerify : Cmd where
  op := 0x12
  stages := stagesLCI
  len := lenIs 1
  check := fun r s => imgVerifyCheck r.params s
  effect := fun r s =>
    let k := byteAt r.params 0
    ((s.setF (slotF k) SL_VERIFIED).raise Reg.BOOT_EVENTS 1, ((s.slot k).image.drop 12).take 12)

/-- A failed verification: the slot is FAILED, and the result is reported. -/
def noteVerify (k : Nat) (v : Verdict) (s : State) : State :=
  let s := noteImg k v s
  if v.1 = REJECTED ∧ 4 ≤ byteAt v.2 0 then
    ((s.setF (slotF k) SL_FAILED).incSat BOOT_COUNTS.VERIFY_FAILS).raise Reg.BOOT_EVENTS 1
  else s

/-- IMG_VERIFY (R277, R278). -/
def execImgVerify (r : Req) : State → Host.Outcome State Fault Refusal :=
  act (cmdImgVerify.runNoting (noteVerify (byteAt r.params 0)) r)

/-- A VERIFIED slot becomes the active one with no block; the former one keeps its image and block, VERIFIED (R284). -/
def State.activate (k : Nat) (s : State) : State :=
  let fromImago := s.imago
  let s := s.when fromImago State.leaveImago
  let s := match s.activeSlot with
    | some a =>
      let s := s.setF (slotF a) SL_VERIFIED
      s.when fromImago (State.setF BOOT_SLOTS.PREV a)
    | none => s
  let s := (s.putBlock k none).setActive (some k)
  let s := s.putBoot { s.boot with restarting := false, revert := false }
  ((s.setF BOOT_STAGE.LOOP 0).raise Reg.BOOT_EVENTS 1).enterStage CHRYSALIS 1

def cmdImgActivate : Cmd where
  op := 0x13
  stages := [LARVA, IMAGO]
  len := lenIs 1
  check := fun r s =>
    refusals [(badSlot r.params, (BAD_PARAM, [])),
      (s.slotState (byteAt r.params 0) != SL_VERIFIED, (REJECTED, reason 8))]
  effect := fun r s => (s.activate (byteAt r.params 0), [])

/-- IMG_ACTIVATE (R284). -/
def execImgActivate (r : Req) : State → Host.Outcome State Fault Refusal :=
  act (cmdImgActivate.runNoting (noteImg (byteAt r.params 0)) r)

def cmdBootStatus : Cmd where
  op := 0x17
  stages := stagesLCI
  len := lenIs 0
  check := fun _ _ => none
  effect := fun _ s => (s, s.regBytes [Reg.BOOT_STAGE, Reg.BOOT_SLOTS, Reg.BOOT_REJECT, Reg.BOOT_FW,
    Reg.BOOT_SCHEMA_01, Reg.BOOT_SCHEMA_23, Reg.BOOT_COUNTS, Reg.BOOT_IMG_REJECT])

def execBootStatus (r : Req) : State → Host.Outcome State Fault Refusal := act (cmdBootStatus.run r)

/-! ### The settings block (R279 to R283) -/

/-- One section: its type and its payload. -/
structure Section where
  typ : Nat
  data : List Byte
deriving DecidableEq, Repr

/-- The sections of a body, at most `fuel` of them; none where one overruns it. -/
def sectionsOf : Nat → List Byte → Option (List Section)
  | _, [] => some []
  | 0, _ => none
  | fuel + 1, p =>
    let n := half p 2
    let padded := (n + 3) / 4 * 4
    if p.length < 4 + padded then none
    else (sectionsOf fuel (p.drop (4 + padded))).map fun rest => { typ := half p 0, data := (p.drop 4).take n } :: rest

/-- The sections of a block. -/
def blockSections (b : List Byte) : Option (List Section) := sectionsOf 255 (b.drop 20)

/-- The command whose parameters a section carries (Table 12.8). -/
def sectionCmd (t : Nat) : Option Cmd :=
  match t with
  | 0x20 => some cmdSetProfile
  | 0x21 => some cmdSetRanges
  | 0x23 => some cmdSetCalDelta
  | 0x24 => some cmdSentinelConfig
  | 0x30 => some cmdSetPreset
  | 0x35 => some cmdNotchConfig
  | 0x40 => some cmdEmLoad
  | 0x41 => some cmdEmConfig
  | 0x42 => some cmdEmStart
  | 0x44 => some cmdEmParam
  | 0x50 => some cmdRecEnable
  | 0x51 => some cmdRecConfig
  | 0x52 => some cmdRecWheel
  | 0x64 => some cmdSafeConfig
  | 0x72 => some cmdQueueConfig
  | 0x73 => some cmdRingConfig
  | 0x81 => some cmdNightConfig
  | 0x83 => some cmdConvConfig
  | 0x93 => some cmdTimeConfig
  | 0xA0 => some cmdPairConfig
  | 0xB0 => some cmdPioLoad
  | 0xB1 => some cmdPioStart
  | 0xB4 => some cmdPioConfig
  | 0xC0 => some cmdHkSequence
  | 0xC1 => some cmdHkWindow
  | _ => none

/-- The order of application (R283): ascending type, with 0x42, 0x50 and 0xB1 last. -/
def applyOrder : List Nat :=
  [0x01, 0x02, 0x20, 0x21, 0x23, 0x24, 0x30, 0x35, 0x40, 0x41, 0x44, 0x51, 0x52, 0x64, 0x72, 0x73, 0x81, 0x83, 0x93,
    0xA0, 0xB0, 0xB4, 0xC0, 0xC1, 0x42, 0x50, 0xB1]

/-- Types that may repeat (Table 12.8). -/
def repeats (t : Nat) : Bool := [0x23, 0x40, 0x41, 0x44, 0x51, 0xB0, 0xC1].contains t

def sectionReq (x : Section) : Req := { origin := .twoWire, tag := 0, params := x.data }

/-- The refusal of a section by its command's checks; MOUNTING and SYNC_ROLE have none of their own but their form. -/
def sectionCheck (x : Section) (s : State) : Option Verdict :=
  if x.typ = 0x01 then (if x.data.length = 48 then none else some (BAD_PARAM, reason 0xF2))
  else if x.typ = 0x02 then
    refusals [(x.data.length != 8, (BAD_PARAM, reason 0xF2)), (decide (2 < byteAt x.data 0), (BAD_PARAM, []))]
  else match sectionCmd x.typ with
    | some c => if c.len x.data then c.check (sectionReq x) s else some (BAD_PARAM, reason 0xF2)
    | none => none

/-- A section takes effect under the rules of its command. -/
def sectionApply (x : Section) (s : State) : State :=
  if x.typ = 0x01 then s.putBoot { s.boot with mounting := wordsOfBytes x.data }
  else if x.typ = 0x02 then
    let role := byteAt x.data 0
    let s := s.putBoot { s.boot with syncRole := role }
    if role = 1 then s.putWritable Reg.SYNC_CTRL (wordAt x.data 4) else s.setReg Reg.SYNC_CTRL (resetWord Reg.SYNC_CTRL)
  else match sectionCmd x.typ with
    | some c => (c.effect (sectionReq x) s).1
    | none => s

/-- Reset words of registers as section parameters. -/
def resetBytes (as : List Nat) : List Byte := bytesOfWords (as.map resetWord)

/-- What an absent section leaves: its function's reset values, as the parameters of its command (R280). -/
def absentParams (t : Nat) : Option (List Byte) :=
  match t with
  | 0x02 => some (List.replicate 8 0)
  | 0x20 => some [0, 0, 0, 0]
  | 0x21 => some [3, 3, 0, 0]
  | 0x24 => some (resetBytes [Reg.SENTINEL_CTRL])
  | 0x30 => some [3, 0, 0, 0]
  | 0x35 => some (resetBytes [Reg.NOTCH_CTRL])
  | 0x50 => some [0, 0, 0, 0]
  | 0x52 => some (resetBytes [Reg.REC_WHEEL, Reg.REC_COUNTS_PER_M, Reg.REC_GEOM])
  | 0x64 => some (resetBytes [Reg.SAFE_CFG, Reg.SAFE_EM_MASK, Reg.SAFE_REC_MASK, Reg.PIO_SAFE_LEVEL])
  | 0x72 => some (resetBytes [Reg.QUEUE_CFG, Reg.QUEUE_HK])
  | 0x73 => some (resetBytes [Reg.RING_CFG, Reg.CAP_DESC 0, Reg.CAP_DESC 1, Reg.CAP_DESC 2, Reg.CAP_DESC 3])
  | 0x81 => some (resetBytes [Reg.NIGHT_CFG, Reg.NIGHT_PIO, Reg.NIGHT_TIMER])
  | 0x83 => some (resetBytes [Reg.CONV_CFG])
  | 0x93 => some (resetBytes [Reg.TIME_CFG, Reg.TIME_STEP_TH, Reg.TIME_LOCK_TH])
  | 0xA0 => some (resetBytes [Reg.PAIR_CFG, Reg.PAIR_PARTNER_LO, Reg.PAIR_PARTNER_HI])
  | _ => none

/-- The functions whose sections repeat, programmable I/O and the housekeeping sequence at their reset values, before a
block's sections apply: machines and PIO engines stopped first. -/
def State.blockBase (s : State) : State :=
  let s := (s.stopMachines true).stopPio
  let s := s.putEng { s.eng with machs := resetEngine.machs, pmem := [] }
  let s := s.putArray { s.array with newDeltas := (List.range 216).map fun c => (c, 0, 0) }
  let s := { s with pio := s.pio.map fun e => { e with mem := [], mport := 0, nport := 0, port := 0 } }
  let back (as : List Nat) (s : State) : State := s.each (fun a s => s.setReg a (resetWord a)) as
  let s := back [Reg.EM_CONLY, Reg.HK_CTRL, Reg.PIO_PINMUX, Reg.PIO_FILTER, Reg.PIO_MODE] s
  let s := back ((List.range 16).map Reg.HK_SEQ ++ (List.range 16).map Reg.HK_WIN) s
  back ((List.range 9).flatMap fun i =>
    [Reg.REC_CTRL i, Reg.REC_PAR_A i, Reg.REC_PAR_B i, Reg.REC_PAR_C i, Reg.REC_PAR_D i]) s

/-- The sections of one type with their indices in the block. -/
def ofType (secs : List Section) (t : Nat) : List (Nat × Section) :=
  ((List.range secs.length).zip secs).filter fun x => x.2.typ == t

/-- Apply the sections of a type, or its reset values where `absent` asks for them. -/
def applyType (secs : List Section) (absent : Bool) (t : Nat) (s : State) : State :=
  match ofType secs t, absentParams t with
  | [], some p => if absent then sectionApply { typ := t, data := p } s else s
  | xs, _ => s.each (fun x s => sectionApply x.2 s) xs

/-- The whole block takes effect (R280, R283). -/
def State.applyBlock (secs : List Section) (s : State) : State :=
  s.blockBase.each (fun t s => applyType secs true t s) applyOrder

/-- The first section refused, in the order of application: its index and its command's answer. -/
def refusedOf : List (Nat × Section) → State → Option (Nat × Verdict)
  | [], _ => none
  | x :: xs, s =>
    match sectionCheck x.2 s with
    | some v => some (x.1, v)
    | none => refusedOf xs (sectionApply x.2 s)

/-- The MOUNTING rotation is bad: R Rᵀ - I beyond 2^-16, or a determinant that is not positive (Table 12.9). -/
def mountingBad (ws : List Word) : Bool :=
  let m (i j : Nat) : Int := (ws.getD (3 * i + j) 0).toInt
  let dot (i j : Nat) : Int := m i 0 * m j 0 + m i 1 * m j 1 + m i 2 * m j 2
  let off (i j : Nat) : Bool := decide (2 ^ 44 < (dot i j - (if i = j then 2 ^ 60 else 0)).natAbs)
  let det := m 0 0 * (m 1 1 * m 2 2 - m 1 2 * m 2 1) - m 0 1 * (m 1 0 * m 2 2 - m 1 2 * m 2 0)
    + m 0 2 * (m 1 0 * m 2 1 - m 1 1 * m 2 0)
  decide (det ≤ 0) || (List.range 3).any fun i => (List.range 3).any fun j => off i j

/-- The first repeated section of a type marked No. -/
def repeatOf (secs : List Section) : Option Nat :=
  (List.range secs.length).find? fun i =>
    let t := (secs.getD i { typ := 0, data := [] }).typ
    !repeats t && ((secs.take i).any fun x => x.typ == t)

/-- The schemas the active image declares. -/
def State.schemas (s : State) : List Nat :=
  [bits (s.reg Reg.BOOT_SCHEMA_01) 0 16, bits (s.reg Reg.BOOT_SCHEMA_01) 16 16, bits (s.reg Reg.BOOT_SCHEMA_23) 0 16,
    bits (s.reg Reg.BOOT_SCHEMA_23) 16 16]

/-- A rejection: reason, section index, the command's answer. -/
abbrev Rejection := Nat × Nat × Verdict

def plain (r : Nat) : Option Rejection := some (r, 0, (0, []))

/-- Reasons 4 to 9 for the sections found (Table 12.9). -/
def State.sectionsReason (s : State) (schema : Nat) (secs : List Section) : Option Rejection :=
  if schema = 0 ∨ ¬ s.schemas.contains schema then plain 4
  else if ¬ secs.any (fun x => x.typ == 0x01) then plain 5
  else match secs.findIdx? (fun x => !applyOrder.contains x.typ), repeatOf secs with
    | some i, _ => some (6, i, (0, []))
    | none, some i => some (7, i, (0, []))
    | none, none =>
      match refusedOf (applyOrder.flatMap (ofType secs)) s.blockBase with
      | some x => some (8, x.1, x.2)
      | none =>
        match (ofType secs 0x01).find? fun x => mountingBad (wordsOfBytes x.2.data) with
        | some x => some (9, x.1, (0, []))
        | none => none

/-- The first reason of Table 12.9 that a staged block meets. -/
def State.blockReason (s : State) (b : List Byte) : Option Rejection :=
  if wordAt b 0 ≠ 0x50475453 ∨ half b 4 ≠ 1 ∨ half b 6 ≠ 2 then plain 1
  else if b.length < 20 ∨ b.length ≠ 20 + numAt b 8 4 then plain 2
  else match blockSections b with
    | none => plain 2
    | some secs =>
      if half b 14 = 0 ∨ half b 14 ≠ secs.length then plain 2
      else if crc32 (b.drop 20) ≠ wordAt b 16 then plain 3
      else s.sectionsReason (half b 12) secs

/-- The 8 bytes of reply data of a rejection (R282). -/
def rejectData (r : Rejection) : List Byte :=
  [BitVec.ofNat 8 r.1, BitVec.ofNat 8 r.2.2.1, BitVec.ofNat 8 (byteAt r.2.2.2 0), 0] ++ leBytes 2 r.2.1 ++ [0, 0]

/-- The block in force enters the settings area of the active slot. -/
def State.storeBlock (b : List Byte) (s : State) : State :=
  match s.activeSlot with
  | some k => s.putBlock k (some b)
  | none => s

/-- Imago is entered with a block: the sections apply, the sensing path starts (R273, R283). -/
def State.imagoWith (entry : Nat) (b : List Byte) (s : State) : State :=
  ((s.enterImago entry (half b 12)).applyBlock ((blockSections b).getD [])).startSensing 1

/-- An accepted block takes effect (R283); in Imago the stage stands. -/
def State.acceptBlock (b : List Byte) (s : State) : State :=
  let s := (s.storeBlock b).raise Reg.BOOT_EVENTS 2
  if s.imago then (s.setF BOOT_STAGE.SCHEMA (half b 12)).applyBlock ((blockSections b).getD [])
  else (s.putBoot { s.boot with revert := false }).imagoWith 2 b

/-- SETTINGS_WRITE's chunk (R281). -/
def settingsWriteCheck (p : List Byte) (s : State) : Option Verdict :=
  let off := numAt p 0 4
  let chunk := p.drop 4
  refusals [(decide (32768 < off + chunk.length), (BAD_PARAM, [])),
    (off != 0 && off != s.boot.staged.length && !equalRepeat s.boot.staged off chunk, (REJECTED, reason 2))]

def cmdSettingsWrite : Cmd where
  op := 0x14
  stages := stagesCI
  len := lenIn 5 1016
  check := fun r s => settingsWriteCheck r.params s
  effect := fun r s =>
    let off := numAt r.params 0 4
    let chunk := r.params.drop 4
    if off = 0 then (s.putBoot { s.boot with staged := chunk }, [])
    else if off = s.boot.staged.length then (s.putBoot { s.boot with staged := s.boot.staged ++ chunk }, [])
    else (s, [])

def execSettingsWrite (r : Req) : State → Host.Outcome State Fault Refusal := act (cmdSettingsWrite.run r)

def settingsApplyCheck (s : State) : Option Verdict :=
  if s.armed then some (SAFETY_LOCKED, [])
  else (s.blockReason s.boot.staged).map fun r => (REJECTED, rejectData r)

def cmdSettingsApply : Cmd where
  op := 0x15
  stages := stagesCI
  len := lenIs 0
  check := fun _ s => settingsApplyCheck s
  effect := fun _ s => (s.acceptBlock s.boot.staged, [])

/-- A rejection is recorded and reported. -/
def noteReject (v : Verdict) (s : State) : State :=
  if v.1 = REJECTED then
    let s := s.setReg Reg.BOOT_REJECT (w32 (byteAt v.2 0 + 2 ^ 8 * byteAt v.2 1 + 2 ^ 16 * byteAt v.2 2
      + 2 ^ 24 * min 255 (half v.2 4)))
    (s.incSat BOOT_COUNTS.REJECTS).raise Reg.BOOT_EVENTS 2
  else s

/-- SETTINGS_APPLY (R282, R283). -/
def execSettingsApply (r : Req) : State → Host.Outcome State Fault Refusal := act (cmdSettingsApply.runNoting noteReject r)

/-! ### REVERT (R285) -/

def revertCheck (s : State) : Option Verdict :=
  let p := s.fld BOOT_SLOTS.PREV
  refusals [(decide (1 < p) || s.slotState p != SL_VERIFIED, (REJECTED, reason 9)),
    ((s.slot p).block.isNone, (REJECTED, reason 10))]

/-- PREV becomes the active slot; the abandoned one is PREV, VERIFIED, without a block. -/
def State.revert (s : State) : State :=
  let p := s.fld BOOT_SLOTS.PREV
  let old := s.activeSlot
  let s := s.when s.imago State.leaveImago
  let s := match old with
    | some a => ((s.putBlock a none).setF (slotF a) SL_VERIFIED).setF BOOT_SLOTS.PREV a
    | none => s.setF BOOT_SLOTS.PREV 3
  let s := (s.setActive (some p)).incSat BOOT_COUNTS.REVERTS
  (s.putBoot { s.boot with revert := true }).enterStage CHRYSALIS 3

def cmdRevert : Cmd where
  op := 0x16
  stages := stagesCI
  len := lenIs 0
  check := fun _ s => revertCheck s
  effect := fun _ s => (s.revert, [])

/-- REVERT (R285). -/
def execRevert (r : Req) : State → Host.Outcome State Fault Refusal := act fun s =>
  cmdRevert.runNoting (noteImg (s.fld BOOT_SLOTS.PREV)) r s

/-- The block that the active slot holds. -/
def State.activeBlock (s : State) : Option (List Byte) :=
  match s.activeSlot with
  | some k => (s.slot k).block
  | none => none

/-- REVERT_IMAGO_ENTRY (R285): within 10 ms of the reply. -/
def execRevertImagoEntry : State → Host.Outcome State Fault Refusal := act fun s =>
  if ¬ (s.noon ∧ s.stage = CHRYSALIS ∧ s.boot.revert) then s
  else match s.activeBlock with
    | some b => (s.putBoot { s.boot with revert := false }).imagoWith 3 b
    | none => s

/-! ### Restarts (R219, R277, R286) -/

/-- CONTROL_PAIR_RESET (R219): `cut` names the crossings that discard a transfer in flight. During Dusk the restart
follows at Dawn (Table 16.9); without power the control pair does nothing. -/
def State.pairReset (cut : Nat) (s : State) : State :=
  if s.noon then s.controlReset cut
  else if s.fld PWR_STATE.STATE = 1 then { s.safetyReset with power := { s.power with restart := true } }
  else s

def execControlPairReset (cut : BitVec 11) : State → Host.Outcome State Fault Refusal := act (State.pairReset cut.toNat)

/-- CODE_RAM_ECC_ERROR (R277): in the active slot. -/
def execCodeRamEccError (cut : BitVec 11) : State → Host.Outcome State Fault Refusal := act fun s =>
  s.when s.activeSlot.isSome (State.pairReset cut.toNat)

/-- Ticks of 10 s. -/
abbrev loopTicks : Nat := 400000

/-- The third restart within 10 s of the first of three (R286); one out of brownout hold does not count (R367). -/
def State.bootLoop (s : State) : Bool :=
  !s.boot.brownout && (match s.boot.restarts[1]? with
    | some t => decide (s.tick ≤ t + loopTicks)
    | none => false)

/-- A restart is counted and reported. -/
def State.countRestart (s : State) : State :=
  let rs := if s.boot.brownout then s.boot.restarts else (s.tick :: s.boot.restarts).take 2
  let s := s.putBoot { s.boot with restarts := rs, restarting := false, brownout := false }
  (s.incSat BOOT_COUNTS.RESTARTS).raise Reg.BOOT_EVENTS 3

/-- RESTART_VERIFY (R286): `intact`: the active slot passes. -/
def execRestartVerify (intact : Bool) : State → Host.Outcome State Fault Refusal := act fun s =>
  if ¬ (s.noon ∧ s.boot.restarting) then s
  else
    let loop := s.bootLoop
    let s := s.countRestart
    match s.activeSlot with
    | none => s
    | some k =>
      if ¬ intact then (s.setF (slotF k) SL_FAILED).setActive none
      else if loop then
        (((s.setF (slotF k) SL_VERIFIED).setActive none).setF BOOT_STAGE.LOOP 1).enterStage LARVA 5
      else match s.activeBlock with
        | some b => s.imagoWith 4 b
        | none => s.enterStage CHRYSALIS 4

end Sys2Proof.Machine
end

