-- ==== Sys2Proof/Machine/Dawn.lean ====
section
/-!
DEFINITION. Dawn (chapter 16): its steps, the return to Noon, and what the firmware reapplies.
-/
namespace Sys2Proof.Machine

def State.inDawn (s : State) : Bool := s.fld PWR_STATE.STATE == 3

/-- DAWN_REGULATOR_READY (R356): the oscillator step starts. -/
def execDawnRegulatorReady : State → Host.Outcome State Fault Refusal := act id

/-- DAWN_OSCILLATOR_READY (R356): the memory step starts. -/
def execDawnOscillatorReady : State → Host.Outcome State Fault Refusal := act id

/-- The save is discarded (R350): what the Cocoon held is lost, tick and time among it (free values); the restart path
follows, and the safety state is LOCKED. -/
def State.cocoonLost (s : State) : State :=
  let s := s.losePower fun a => aonHeld a || bootHeld a
  let tick := (Config.freeWord s.free).toNat + 2 ^ 32 * (Config.freeWord (s.free + 1)).toNat
  let time := ((Config.freeWord (s.free + 2)).toNat + 2 ^ 32 * (Config.freeWord (s.free + 3)).toNat
    + 2 ^ 64 * (Config.freeWord (s.free + 4)).toNat) % timeModulus
  let s := { s with free := s.free + 5 }
  let s := s.putTime { s.mtime with dusk := some (tick, time, 0) }
  let s := (s.setF PWR_STATE.COCOON_ERR 1).setF (bitF Reg.PWR_EVENTS 1) 1
  let s := { s with power := { s.power with restart := true } }
  if s.safeState = S_FAULT then s else s.outputsOff.setSafe LOCKED

/-- DAWN_MEMORY_READY (R348, R350): `ok`: the restore passed its check. -/
def execDawnMemoryReady (ok : Bool) : State → Host.Outcome State Fault Refusal := act fun s =>
  if ¬ s.inDawn then s else if ok then s.setF PWR_STATE.COCOON_ERR 0 else s.cocoonLost

/-- The sections that the firmware reapplies at Dawn, in the order of R283 (R349). -/
def dawnTypes : List Nat := [0x40, 0x41, 0x44, 0x51, 0x52, 0xB0, 0xB4, 0xC0, 0xC1, 0x42, 0x50, 0xB1]

/-- The sections of the active block are reapplied (R152, R200, R349). -/
def State.reapply (s : State) : State :=
  let secs := (blockSections (s.activeBlock.getD [])).getD []
  (s.each (fun t s => applyType secs false t s) dawnTypes).pushCfg 0

/-- The saved selections come into force as they stand (Table 16.3): another profile than the one in force decides
afresh which triads are active. -/
def State.restoreSelections (s : State) : State :=
  let p := s.fld ARRAY_PROFILE.PROFILE
  let s := if p = s.profile then s
    else
      let s := s.putArray { s.array with
        subs := []
        triads := s.array.triads.map fun t => if t.state = RETIRED_ then t else { t with state := PARKED } }
      s.setF ARRAY_PROFILE.ACTIVE_PROFILE p
  (s.setF FILT_PRESET.ACTIVE (s.fld FILT_PRESET.PRESET)).syncDelay

/-- A THEFT declaration of Night: its DECLARED record, committed, and its marks (R196). -/
def State.settleOwed (s : State) : State :=
  match s.eng.theft.owed with
  | some (t, ev) =>
    let cfg := s.recCfg t
    let d := s.eng.conf.getD 7 defaultDec
    let s := s.putEng { s.eng with theft := { s.eng.theft with owed := none } }
    let s := s.recSettle cfg 7 t false (d, { evs := [ev], req := none })
    s.when (cfg.safeEn 7) (State.recognizerSafe C_RECOGNIZER 7 (0xE0 + 7) t)
  | none => s

/-- The ring after Night (R241): without retention it is empty. -/
def State.ringAtDawn (s : State) : State := if s.on NIGHT_CFG.RETAIN_SAMPLE then s else s.ringEmpty

/-- The full function starts again (R273, R349): sensing path, machines, recognizers, programmable I/O. -/
def State.dawnImago (s : State) : State :=
  (((s.noiseAtFloor.startSensing 2).reapply).settleOwed).when (s.safeState == LOCKED) (State.holdPins 63)

/-- DAWN_COMPLETE (R356): `cycles` of the AON clock since Dusk entry, `ms` the length of the Night, `cut` the crossings
that discard a transfer in flight. -/
def execDawnComplete (cycles : BitVec 64) (ms : Word) (cut : BitVec 11) : State → Host.Outcome State Fault Refusal :=
  act fun s =>
    if ¬ s.inDawn then s
    else
      let s := (s.setF PWR_STATE.STATE 0).setF PWR_HOST_VOTE.MASK 15
      let s := s.setF TW_STATUS.WOKE (b01 (s.fld PWR_STATE.LAST_WAKE == 1))
      let s := (s.incSat PWR_COUNTS.NIGHTS).setReg Reg.NIGHT_LAST ms
      let s := s.forUpTo (fun k s => s.when (cut.toNat.testBit k) (State.xingReset k)) 11
      let s := s.putPins { s.pins with oe := 0, out := 0 }
      let s := (s.ringAtDawn.restoreSelections).resampleAll
      let d := s.mtime.dusk.getD (s.tick, s.time, 0)
      let s := (s.putTime { s.mtime with dusk := none }).resumeTime d.1 d.2.1 d.2.2 cycles.toNat
      let s := s.rearm.raise Reg.PWR_EVENTS 0
      if s.power.restart then
        let s := { s with power := { s.power with restart := false } }
        (s.clearCp.holdPins 63).restartLarva false
      else s.dawnImago

end Sys2Proof.Machine
end

