-- ==== Sys2Proof/Machine/Access.lean ====
section
/-!
DEFINITION. Register access (chapter 20): what each register reads, the latching reads, and what a write does, by bus or
by command.
-/
namespace Sys2Proof.Machine

/-! ### What a register reads -/

/-- ALERT_N would be asserted but for an alert response (R298). -/
def State.alertWanted (s : State) : Bool := (s.noon && s.hostPending) || s.on SAFE_MON_STATUS.CP_RESET

/-- ALERT_N is asserted (R298). -/
def State.alertOn (s : State) : Bool := s.on TW_CTRL.ALERT_EN && !s.tw.quiet && s.alertWanted

/-- The primary address A (R19). -/
def State.ownAddress (s : State) : Nat := if s.tw.strap then 0x4E else 0x4C

/-- Page 0x01 (Table 11.9). -/
def State.viewMbx (s : State) (a : Nat) : Word :=
  if a = Reg.MBX_STATUS then s.mbxStatus
  else if a = Reg.CMD_QUEUE then s.cmdQueue
  else s.reg a

/-- Page 0x02 (Table 19.3). -/
def State.viewInt (s : State) (a : Nat) : Word :=
  if a = Reg.INT_HOST_CLAIM then s.claimWord .host
  else if a = Reg.INT_CP_CLAIM then s.claimWord .cp
  else if Reg.INT_LEVEL 0 ≤ a ∧ a ≤ Reg.INT_LEVEL 3 then s.levelMap ((a - Reg.INT_LEVEL 0) / 4)
  else s.reg a

/-- Page 0x04 (Table 10.11). -/
def State.viewQueue (s : State) (a : Nat) : Word :=
  if a = Reg.QUEUE_STATUS then w32 (s.visibleWords + 2 ^ 12 * s.provWords + 2 ^ 22 * b01 s.queue.drop.isSome)
  else if a = Reg.QUEUE_SEQ then s.queue.seq.setWidth 32
  else if a = Reg.RING_WR then w32 s.ring.wr
  else if a = Reg.RING_OLDEST then w32 s.ring.oldest
  else if a = Reg.RING_TRIG_TICK_LO then (loHi s.ring.trigTick).getD 0 0
  else if a = Reg.RING_TRIG_TICK_HI then (loHi s.ring.trigTick).getD 1 0
  else s.reg a

/-- Page 0x05 (Table 14.8). -/
def State.viewTime (s : State) (a : Nat) : Word :=
  if Reg.TIME_NOW 0 ≤ a ∧ a ≤ Reg.TIME_NOW 2 then s.timeNow.getD ((a - Reg.TIME_NOW 0) / 4) 0
  else if a = Reg.TICK_NOW_LO then (loHi s.tick).getD 0 0
  else if a = Reg.TICK_NOW_HI then (loHi s.tick).getD 1 0
  else if a = Reg.TS_QUEUE then s.tsQueue
  else s.reg a

/-- Page 0x07 (Table 13.5). -/
def State.viewTw (s : State) (a : Nat) : Word :=
  if a = Reg.TW_ADDR then w32 (s.ownAddress + 2 ^ 8 * b01 s.tw.strap)
  else if a = Reg.TW_ALERT then putBits (s.reg a) 16 1 (b01 s.alertOn)
  else s.reg a

/-- Page 0x09 (Table 18.13): engine blocks and pins. -/
def State.viewPio (s : State) (a : Nat) : Word :=
  if a = Reg.PIO_PINS then s.pioPins
  else if a = Reg.PIO_PMEM_DATA then s.readPioPmem
  else if Reg.PIO_STATE 0 ≤ a ∧ a < Reg.PIO_PMEM_ADDR then
    let k := (a - Reg.PIO_STATE 0) / 32
    let e := s.pioEngine k
    match (a - Reg.PIO_STATE 0) % 32 / 4 with
    | 0 => s.pioStateWord k
    | 1 => e.x
    | 2 => e.y
    | 3 => e.port
    | 4 => e.nport
    | 5 => e.mport
    | 6 => e.tcnt
    | _ => 0
  else s.reg a

/-- Page 0x0C (Tables 4.7, 3.12). -/
def State.viewArray (s : State) (a : Nat) : Word :=
  let w (k : Nat) : Word := (s.triadWords (s.fld TRIAD_SEL.TRIAD)).getD k 0
  if Reg.SUSPECT 0 ≤ a ∧ a ≤ Reg.SUSPECT 2 then s.triadMap SUSPECT_ ((a - Reg.SUSPECT 0) / 4)
  else if Reg.RETIRED 0 ≤ a ∧ a ≤ Reg.RETIRED 2 then s.triadMap RETIRED_ ((a - Reg.RETIRED 0) / 4)
  else if Reg.ACTIVE 0 ≤ a ∧ a ≤ Reg.ACTIVE 2 then s.activeMap ((a - Reg.ACTIVE 0) / 4)
  else if a = Reg.TRIAD_INFO then w 0
  else if a = Reg.TRIAD_Z_XY then w 1
  else if a = Reg.TRIAD_Z_Z then w 2
  else s.reg a

/-- Page 0x0D: t_sync (R127). -/
def State.viewFilt (s : State) (a : Nat) : Word :=
  if a = Reg.SYNC_TICK_LO then (loHi s.filt.tSync).getD 0 0
  else if a = Reg.SYNC_TICK_HI then (loHi s.filt.tSync).getD 1 0
  else s.reg a

/-- Page 0x0E (R155, R177): the registers of the machine in EM_SEL. -/
def State.viewEm (s : State) (a : Nat) : Word :=
  let n := s.fld EM_SEL.MACH
  let m := s.mach n
  if a = Reg.EM_REGION then w32 (m.entry + 2 ^ 16 * m.len)
  else if a = Reg.EM_FLAGS then w32 m.flags
  else if a = Reg.EM_STATE then s.emStateWord n
  else if a = Reg.EM_PC then s.emPcWord n
  else if a = Reg.EM_START_TICK_LO then (loHi m.startTick).getD 0 0
  else if a = Reg.EM_START_TICK_HI then (loHi m.startTick).getD 1 0
  else if Reg.EM_V 0 ≤ a ∧ a ≤ Reg.EM_V 7 then m.conf.v.getD ((a - Reg.EM_V 0) / 4) 0
  else if Reg.EM_C 0 ≤ a ∧ a ≤ Reg.EM_C 1 then m.conf.c.getD ((a - Reg.EM_C 0) / 4) 0
  else if Reg.EM_T 0 ≤ a ∧ a ≤ Reg.EM_T 3 then (timerWord s.tick (m.conf.t.getD ((a - Reg.EM_T 0) / 4) none)).1
  else if Reg.EM_PARAM 0 ≤ a ∧ a ≤ Reg.EM_PARAM 7 then m.param s.tick ((a - Reg.EM_PARAM 0) / 4)
  else if a = Reg.EM_PMEM_DATA then (s.pmemAt (s.fld EM_PMEM_ADDR.ADDR)).getD 0xFFFFFFFF
  else if a = Reg.SPEC_STATUS then putBits (putBits (s.reg a) 0 7 s.poolUsed) 16 4 s.depth
  else s.reg a

/-- What a register holds now. Registers written only (R419), reserved offsets and the windows read 0 here. -/
def State.view (s : State) (a : Nat) : Word :=
  match a / 256 with
  | 0x00 => if a ≤ Reg.ID_MAC_HI then idWords.getD (a / 4) 0 else s.reg a
  | 0x01 => s.viewMbx a
  | 0x02 => s.viewInt a
  | 0x03 => if a = Reg.PWR_STATE then s.pwrState else if a = Reg.PWR_VOTES then s.pwrVotes else s.reg a
  | 0x04 => s.viewQueue a
  | 0x05 => s.viewTime a
  | 0x07 => s.viewTw a
  | 0x08 => if Reg.HK_RES 0 ≤ a then s.hkWord ((a - Reg.HK_RES 0) / 4) else s.reg a
  | 0x09 => s.viewPio a
  | 0x0A => if a = Reg.SAFE_HB then w32 (s.fld SAFE_STATE.HB_SEQ) else s.reg a
  | 0x0C => s.viewArray a
  | 0x0D => s.viewFilt a
  | 0x0E => s.viewEm a
  | 0x11 => if a = Reg.XING_INFO then s.xingInfo else if a = Reg.XING_COUNTS then s.xingCounts else s.reg a
  | _ => s.reg a

/-! ### Latching reads (R422) -/

/-- Consecutive registers, `n` of them. -/
def runOf (a n : Nat) : List Nat := (List.range n).map fun k => a + 4 * k

/-- The registers that a read of a leader latches. -/
def followers (a : Nat) : List Nat :=
  if a = Reg.SENTINEL_XY then [Reg.SENTINEL_Z]
  else if a = Reg.TRIAD_Z_XY then [Reg.TRIAD_Z_Z, Reg.TRIAD_INFO]
  else if a = Reg.FILT_DELAY_NS then [Reg.FILT_DELAY_FRAC]
  else if a = Reg.SYNC_TICK_LO then [Reg.SYNC_TICK_HI]
  else if a = Reg.EM_STATE then Reg.EM_PC :: runOf (Reg.EM_V 0) 8 ++ runOf (Reg.EM_C 0) 2 ++ runOf (Reg.EM_T 0) 4
  else if a = Reg.EM_START_TICK_LO then [Reg.EM_START_TICK_HI]
  else if a = Reg.SPEC_LAST_LO then [Reg.SPEC_LAST_HI, Reg.SPEC_LAST_ORIGIN]
  else if a = Reg.SAFE_TRIP then [Reg.SAFE_TRIP_TICK_LO, Reg.SAFE_TRIP_TICK_HI]
  else if a = Reg.RING_TRIG_TICK_LO then [Reg.RING_TRIG_TICK_HI]
  else if a = Reg.TIME_NOW 0 then [Reg.TIME_NOW 1, Reg.TIME_NOW 2, Reg.TICK_NOW_LO, Reg.TICK_NOW_HI]
  else if a = Reg.PAIR_BOUNDARY_LO then [Reg.PAIR_BOUNDARY_HI]
  else if a = Reg.XING_INFO then [Reg.XING_COUNTS]
  else if (List.range 4).any (fun k => a == Reg.PIO_STATE k) then runOf (a + 4) 6
  else []

/-- The latching registers, in address order (ID_SERIAL_LO's follower is an OTP word, the same at every time). -/
def leaders : List Nat :=
  [Reg.RING_TRIG_TICK_LO, Reg.TIME_NOW 0] ++ (List.range 4).map Reg.PIO_STATE ++
    [Reg.SAFE_TRIP, Reg.TRIAD_Z_XY, Reg.SENTINEL_XY, Reg.FILT_DELAY_NS, Reg.SYNC_TICK_LO, Reg.EM_STATE,
      Reg.EM_START_TICK_LO, Reg.SPEC_LAST_LO, Reg.PAIR_BOUNDARY_LO, Reg.XING_INFO]

/-- The register shows what a leader latched last. -/
def isFollower (a : Nat) : Bool := leaders.any fun l => (followers l).contains a

/-- Outside Imago, page 0x0C reads its reset words, SENTINEL_CTRL apart (R80, Table 20.1). -/
def State.arrayHidden (s : State) (a : Nat) : Bool := a / 256 == 0x0C && !s.imago && a != Reg.SENTINEL_CTRL

/-- What a leader latches of a follower. -/
def State.liveWord (s : State) (a : Nat) : Word := if s.arrayHidden a then resetWord a else s.view a

/-- The word a read returns (R419, R422). -/
def State.readValue (s : State) (a : Nat) : Word :=
  if s.arrayHidden a then resetWord a else if isFollower a then s.latch.get a else s.view a

/-- What a read does: a claim, the advance of a program memory address, or the latching of followers. -/
def State.readEffect (a : Nat) (s : State) : State :=
  if a = Reg.INT_HOST_CLAIM then s.claim .host
  else if a = Reg.EM_PMEM_DATA then s.emStep
  else if a = Reg.PIO_PMEM_DATA then s.pioStep
  else { s with latch := (followers a).foldl (fun l f => l.set f (s.liveWord f)) s.latch }

/-! ### Writes (R419, R420) -/

/-- Registers whose writes take effect in every boot stage (Table 20.1). -/
def writableOutside (a : Nat) : Bool :=
  !([0x04, 0x08, 0x09, 0x0A, 0x0C, 0x0D, 0x0E, 0x0F, 0x10].contains (a / 256))
    || a == Reg.PIO_SAFE_LEVEL || a == Reg.SENTINEL_CTRL
    || (decide (Reg.REC_CTRL 7 ≤ a) && decide (a < Reg.REC_CTRL 8))

/-- Write 1 to clear (R419). -/
def State.writeW1c (a : Nat) (w : Word) (s : State) : State :=
  let s := s.setReg a (s.reg a &&& ~~~ (w &&& w1cMask a))
  if a = Reg.QUEUE_EVENTS then s.watermark else s

/-- MBX_CTRL (Table 11.9): each bit that is set acts. -/
def State.writeMbxCtrl (w : Word) (s : State) : State :=
  ((s.when (bit w 0) State.discardPartial).when (bit w 1) State.dropReply).when (bit w 2) State.mbxClear

def State.writeInt (a : Nat) (w : Word) (s : State) : State :=
  if a = Reg.INT_DOORBELL then s.doorbell w
  else if a = Reg.INT_HOST_COMPLETE then s.complete .host (bits w 0 7)
  else if a = Reg.INT_HOST_SET then s.hostSet w
  else if Reg.INT_HOST_EN 0 ≤ a ∧ a ≤ Reg.INT_HOST_EN 7 then s.hostEnWrite ((a - Reg.INT_HOST_EN 0) / 4) w
  else s

def State.writeQueue (a : Nat) (w : Word) (s : State) : State :=
  if a = Reg.QUEUE_CFG then s.putQueueCfg w
  else if a = Reg.QUEUE_CMD then s.when (bit w 0) State.queueFlush
  else if a = Reg.RING_CFG then (s.putWritable a w).ringEnable
  else if a = Reg.RING_CMD then s.ringCmd w
  else s.putWritable a w

/-- The values of TW_ADDR2 that are refused (R293). -/
def State.addr2Bad (w : Word) (s : State) : Bool :=
  let addr := bits w 0 7
  let differ := (addr ^^^ s.ownAddress) &&& 0x7E
  addr % 2 == 1 || decide (addr ≤ 0x0F) || decide (0x78 ≤ addr)
    || differ &&& (127 - bits w 8 7) == 0

/-- A write to TW_ADDR2 (R293): in force at the STOP of its transaction, by command at once. -/
def State.writeAddr2 (bus : Bool) (w : Word) (s : State) : State :=
  if s.addr2Bad w then s.setF TW_STATUS.REFUSED BAD_PARAM
  else
    let s := s.putWritable Reg.TW_ADDR2 w
    if bus then s else { s with tw := { s.tw with addr2 := s.reg Reg.TW_ADDR2 } }

def State.writePio (a : Nat) (w : Word) (s : State) : State :=
  if a = Reg.PIO_PINMUX ∨ a = Reg.PIO_FILTER ∨ a = Reg.PIO_MODE then s.writePioConfig a w
  else if a = Reg.PIO_PMEM_DATA then s.writePioPmem w
  else if a = Reg.PIO_PMEM_ADDR then s.putWritable a w
  else if Reg.PIO_STATE 0 ≤ a ∧ a < Reg.PIO_PMEM_ADDR ∧ (a - Reg.PIO_STATE 0) % 32 = 20 then
    s.putMport ((a - Reg.PIO_STATE 0) / 32) w
  else s

/-- A refused register write of the safety function is recorded (Table 9.9). -/
def State.hbRefused (status : Nat) (s : State) : State :=
  (s.setF SAFE_REFUSED.STATUS status).setF SAFE_REFUSED.LOCK 0

/-- A heartbeat by register (R211). -/
def State.writeHb (w : Word) (s : State) : State :=
  let h := s.heartbeat (bits w 0 16)
  if h.2 = OK then h.1 else h.1.hbRefused h.2

/-- SAFE_CMD (Table 9.9): only the lowest of its three bits acts. -/
def State.safeCmd (w : Word) (s : State) : State :=
  if bit w 29 then
    match s.faultClear with
    | (s, some v) => s.hbRefused v.1
    | (s, none) => s
  else if bit w 30 then s.disarm
  else if bit w 31 then (s.arm (bits w 0 16)).1
  else s

/-- PIO_SAFE_LEVEL (R220): ignored and recorded in ARMING and ARMED. -/
def State.writeSafeLevel (w : Word) (s : State) : State :=
  if s.armed then s.safeRefuse SAFETY_LOCKED 0 else s.putSafeLevel w

def State.writeSafe (a : Nat) (w : Word) (s : State) : State :=
  let pick (b : Nat) : Word := if a = b then w else s.reg b
  if a = Reg.SAFE_HB then s.writeHb w
  else if a = Reg.SAFE_CMD then s.safeCmd w
  else if a = Reg.PIO_SAFE_LEVEL then s.writeSafeLevel w
  else if a = Reg.SAFE_CFG ∨ a = Reg.SAFE_EM_MASK ∨ a = Reg.SAFE_REC_MASK then
    if a = Reg.SAFE_CFG ∧ (bits w 0 8 < 20 ∨ 200 < bits w 0 8) then s.safeRefuse BAD_PARAM 0
    else if s.safeConfigLocked (pick Reg.SAFE_CFG) (pick Reg.SAFE_EM_MASK) (pick Reg.SAFE_REC_MASK) then
      s.safeRefuse SAFETY_LOCKED 0
    else s.putWritable a w
  else s

/-- REINSTATE_CTRL (Table 4.7). -/
def State.writeReinstate (w : Word) (s : State) : State :=
  let s := s.putWritable Reg.REINSTATE_CTRL w
  if ¬ bit w 31 then s
  else
    let scope := bits w 8 1
    let i := if scope = 0 then bits w 0 7 else bits w 10 2
    match reinstateCheck scope i s with
    | some v => s.setF REINSTATE_RESULT.REFUSED v.1
    | none => s.testStart true (if scope = 1 then some i else none) (s.reinstateQueue scope i)

/-- SELFTEST_CTRL (Table 3.12): a START that SELFTEST would refuse does nothing. -/
def State.writeSelftest (w : Word) (s : State) : State :=
  let w := if bits w 8 2 = 3 then putBits w 8 2 (s.fld SELFTEST_CTRL.SCOPE) else w
  let s := s.putWritable Reg.SELFTEST_CTRL w
  let scope := bits w 8 2
  let i := if scope = 0 then bits w 0 7 else if scope = 1 then bits w 10 2 else 0
  if bit w 31 ∧ (selftestCheck scope i s).isNone then s.testStart false none (scopeQueues scope i) else s

/-- ARRAY_RANGE: a reserved code leaves its field unchanged (R80). -/
def State.writeRange (w : Word) (s : State) : State :=
  let a := bits w 0 3
  let g := bits w 8 3
  putRange ARRAY_RANGE.GYR_RANGE (if 5 < g then 0xFF else g)
    (putRange ARRAY_RANGE.ACC_RANGE (if 4 < a then 0xFF else a) s)

def State.writeArray (a : Nat) (w : Word) (s : State) : State :=
  if a = Reg.REINSTATE_CTRL then s.writeReinstate w
  else if a = Reg.SELFTEST_CTRL then s.writeSelftest w
  else if a = Reg.ARRAY_PROFILE then (if bits w 0 2 = 3 then s else s.requestProfile (bits w 0 2))
  else if a = Reg.ARRAY_RANGE then s.writeRange w
  else if a = Reg.SENTINEL_CTRL then
    s.putWritable a (if bits w 0 2 = 3 then putBits w 0 2 (s.fld SENTINEL_CTRL.RATE) else w)
  else s.putWritable a w

/-- FILT_PRESET (Table 5.11). -/
def State.writePreset (w : Word) (s : State) : State :=
  if (presetCheck (bits w 0 3) s).isSome then s else s.requestPreset (bits w 0 3)

/-- FILT_BANK: both fields by one write, as BANK_SELECT (Table 5.11). -/
def State.writeBank (w : Word) (s : State) : State :=
  match bankCheck (bits w 0 2) (bits w 2 2) s with
  | some v => s.setF FILT_BANK.REFUSED v.1
  | none => bankApply (bits w 0 2) (bits w 2 2) s

def State.writeFilt (a : Nat) (w : Word) (s : State) : State :=
  if a = Reg.FILT_PRESET then s.writePreset w
  else if a = Reg.FILT_BANK then s.writeBank w
  else if a = Reg.SYNC_CTRL then
    s.putWritable a (if bits w 0 2 = 3 then putBits w 0 2 (s.fld SYNC_CTRL.SRC) else w)
  else if a = Reg.NOTCH_CTRL then (if (notchCheck w s).isSome then s else notchApply w s)
  else s

def State.writeEm (a : Nat) (w : Word) (s : State) : State :=
  if a = Reg.EM_START then s.writeEmStart w
  else if a = Reg.EM_STOP then emStopApply w.toNat s
  else if a = Reg.EM_REGION then s.writeEmRegion w
  else if a = Reg.EM_FLAGS then s.writeEmFlags w
  else if Reg.EM_PARAM 0 ≤ a ∧ a ≤ Reg.EM_PARAM 7 then s.emParam (s.fld EM_SEL.MACH) ((a - Reg.EM_PARAM 0) / 4) w
  else if a = Reg.EM_PMEM_DATA then s.writeEmPmem w
  else s.putWritable a w

/-- A write of a word to a register (R419, R420): read-only registers, reserved offsets and the windows ignore it. -/
def State.writeReg (bus : Bool) (a : Nat) (w : Word) (s : State) : State :=
  if ¬ s.imago ∧ ¬ writableOutside a then s
  else if w1cMask a ≠ 0 then s.writeW1c a w
  else match a / 256 with
    | 0x01 => if a = Reg.MBX_CTRL then s.writeMbxCtrl w else s
    | 0x02 => s.writeInt a w
    | 0x03 => if a = Reg.PWR_HOST_VOTE then s.putWritable a w else if rwMask a = 0 then s else s.writeNight a w
    | 0x04 => s.writeQueue a w
    | 0x05 => s.writeTime a w
    | 0x06 => s.writeT1s a w
    | 0x07 => if a = Reg.TW_ADDR2 then s.writeAddr2 bus w else s.putWritable a w
    | 0x08 => if rwMask a = 0 then s else s.writeHk a w
    | 0x09 => s.writePio a w
    | 0x0A => s.writeSafe a w
    | 0x0B => if a = Reg.CONV_CFG then s.writeConvCfg w else s
    | 0x0C => s.writeArray a w
    | 0x0D => s.writeFilt a w
    | 0x0E => s.writeEm a w
    | 0x0F => if rwMask a = 0 then s else s.writeRec a w
    | 0x10 => s.writePair a w
    | 0x11 => s.putWritable a w
    | _ => s

/-! ### The register rows -/

/-- A register write row: by command at once, over the bus with its transaction. -/
def regWrite (bus : Bool) (a : Nat) (w : Word) : State → Host.Outcome State Fault Refusal := act fun s =>
  s.when s.noon (State.byBus bus a (State.writeReg bus a w))

/-- A register read row: `bytes` of the word over the bus, 0 by command; the word goes to the reader. -/
def regRead (bytes : Fin 5) (a : Nat) : State → Host.Outcome State Fault Refusal := act fun s =>
  s.when s.noon fun s => ((s.readEffect a).outWord (s.readValue a)).busRead bytes a

/-- REGISTER_WRITE (R419). -/
def execRegisterWrite (bus : Bool) (addr : BitVec 16) (w : Word) : State → Host.Outcome State Fault Refusal :=
  regWrite bus (addr.toNat / 4 * 4) w

/-- EM_REGION_WRITE (R155). -/
def execEmRegionWrite (bus : Bool) (w : Word) : State → Host.Outcome State Fault Refusal := regWrite bus Reg.EM_REGION w

/-- EM_FLAGS_WRITE (R155). -/
def execEmFlagsWrite (bus : Bool) (w : Word) : State → Host.Outcome State Fault Refusal := regWrite bus Reg.EM_FLAGS w

/-- EM_PMEM_DATA (R150): a write. -/
def execEmPmemData (bus : Bool) (w : Word) : State → Host.Outcome State Fault Refusal := regWrite bus Reg.EM_PMEM_DATA w

/-- PIO_PMEM_DATA (R392): a write of a word, or a read. -/
def execPioPmemData (bus : Bool) (w : Option Word) : State → Host.Outcome State Fault Refusal :=
  match w with
  | some w => regWrite bus Reg.PIO_PMEM_DATA w
  | none => regRead (if bus then 4 else 0) Reg.PIO_PMEM_DATA

/-- PIO_MPORT_WRITE (R390). -/
def execPioMportWrite (bus : Bool) (k : Fin 4) (w : Word) : State → Host.Outcome State Fault Refusal :=
  regWrite bus (Reg.PIO_MPORT k.val) w

/-- PIO_SAFE_LEVEL_WRITE (R220). -/
def execPioSafeLevelWrite (bus : Bool) (w : Word) : State → Host.Outcome State Fault Refusal :=
  regWrite bus Reg.PIO_SAFE_LEVEL w

/-- TW_ADDR2_WRITE (R293). -/
def execTwAddr2Write (bus : Bool) (w : Word) : State → Host.Outcome State Fault Refusal := regWrite bus Reg.TW_ADDR2 w

/-- RING_CLEAR (R244): RING_CMD with CLEAR alone. -/
def execRingClear (bus : Bool) : State → Host.Outcome State Fault Refusal := regWrite bus Reg.RING_CMD 4

/-- DISCARD_REQ (R270): MBX_CTRL bit 0. -/
def execDiscardReq (bus : Bool) : State → Host.Outcome State Fault Refusal := regWrite bus Reg.MBX_CTRL 1

/-- DROP_REPLY (R270): MBX_CTRL bit 1. -/
def execDropReply (bus : Bool) : State → Host.Outcome State Fault Refusal := regWrite bus Reg.MBX_CTRL 2

/-- MBX_CLEAR (R270): MBX_CTRL bit 2. -/
def execMbxClear (bus : Bool) : State → Host.Outcome State Fault Refusal := regWrite bus Reg.MBX_CTRL 4

/-- SENTINEL_XY latches SENTINEL_Z (R80). -/
def execSentinelXy (bytes : Fin 5) : State → Host.Outcome State Fault Refusal := regRead bytes Reg.SENTINEL_XY

/-- TRIAD_Z_XY latches TRIAD_Z_Z and TRIAD_INFO (R103). -/
def execTriadZXy (bytes : Fin 5) : State → Host.Outcome State Fault Refusal := regRead bytes Reg.TRIAD_Z_XY

/-- FILT_DELAY_NS latches FILT_DELAY_FRAC (R127). -/
def execFiltDelayNs (bytes : Fin 5) : State → Host.Outcome State Fault Refusal := regRead bytes Reg.FILT_DELAY_NS

/-- SYNC_TICK_LO latches SYNC_TICK_HI (R127). -/
def execSyncTickLo (bytes : Fin 5) : State → Host.Outcome State Fault Refusal := regRead bytes Reg.SYNC_TICK_LO

/-- EM_STATE latches EM_PC and the V, C and T registers (R155). -/
def execEmState (bytes : Fin 5) : State → Host.Outcome State Fault Refusal := regRead bytes Reg.EM_STATE

/-- EM_START_TICK_LO latches EM_START_TICK_HI (R155). -/
def execEmStartTickLo (bytes : Fin 5) : State → Host.Outcome State Fault Refusal := regRead bytes Reg.EM_START_TICK_LO

/-- SPEC_LAST_LO latches SPEC_LAST_HI and SPEC_LAST_ORIGIN (R177). -/
def execSpecLastLo (bytes : Fin 5) : State → Host.Outcome State Fault Refusal := regRead bytes Reg.SPEC_LAST_LO

/-- SAFE_TRIP latches SAFE_TRIP_TICK_LO and _HI (R225). -/
def execSafeTrip (bytes : Fin 5) : State → Host.Outcome State Fault Refusal := regRead bytes Reg.SAFE_TRIP

/-- RING_TRIG_TICK_LO latches RING_TRIG_TICK_HI (R244). -/
def execRingTrigTickLo (bytes : Fin 5) : State → Host.Outcome State Fault Refusal := regRead bytes Reg.RING_TRIG_TICK_LO

/-- ID_SERIAL_LO latches ID_SERIAL_HI, an OTP word (R290). -/
def execIdSerialLo (bytes : Fin 5) : State → Host.Outcome State Fault Refusal := regRead bytes Reg.ID_SERIAL_LO

/-- TIME_NOW_0 latches TIME_NOW_1, TIME_NOW_2 and TICK_NOW (R327). -/
def execTimeNow0 (bytes : Fin 5) : State → Host.Outcome State Fault Refusal := regRead bytes (Reg.TIME_NOW 0)

/-- PAIR_BOUNDARY_LO latches PAIR_BOUNDARY_HI (R343). -/
def execPairBoundaryLo (bytes : Fin 5) : State → Host.Outcome State Fault Refusal := regRead bytes Reg.PAIR_BOUNDARY_LO

/-- PIO_STATE latches its engine's block (R398). -/
def execPioState (k : Fin 4) (bytes : Fin 5) : State → Host.Outcome State Fault Refusal := regRead bytes (Reg.PIO_STATE k.val)

/-- XING_INFO latches XING_COUNTS (R416). -/
def execXingInfo (bytes : Fin 5) : State → Host.Outcome State Fault Refusal := regRead bytes Reg.XING_INFO

end Sys2Proof.Machine
end

