-- ==== Sys2Proof/Machine/Commands.lean ====
section
/-!
DEFINITION. The system commands (chapter 11): NOP, READ, WRITE, MODIFY, ABORT; the arrival of requests, the mailbox
window and the queue window.
-/
namespace Sys2Proof.Machine

/-! ### NOP (Table 11.5) -/

def cmdNop : Cmd where
  op := 0x00
  stages := stagesLCI
  len := lenIn 0 1012
  check := fun _ _ => none
  effect := fun r s =>
    (s, [BitVec.ofNat 8 s.stage, BitVec.ofNat 8 s.safeState, BitVec.ofNat 8 s.link.waiting.length, 0] ++ r.params)

def execNop (r : Req) : State → Host.Outcome State Fault Refusal := act (cmdNop.run r)

/-! ### READ, WRITE and MODIFY (R264, R265) -/

/-- The address rule: unaligned, on an unassigned page, or crossing the end of its page. -/
def badRange (a n : Nat) : Bool := a % 4 != 0 || decide (0x11 < a / 256) || decide (256 < a % 256 + 4 * n)

/-- The range touches the mailbox window or the queue window. -/
def touchesWindow (a n : Nat) : Bool := (a / 256 == 1 || a / 256 == 4) && decide (0x80 < a % 256 + 4 * n)

/-- The refusals of READ and WRITE. -/
def rangeCheck (p : List Byte) : Option Verdict :=
  let a := half p 0
  let n := half p 2
  refusals [(badRange a n, (BAD_PARAM, reason 0xF5)), (n == 0 || decide (64 < n), (BAD_PARAM, [])),
    (touchesWindow a n, (REJECTED, reason 0xF3))]

/-- Read `n` words in ascending address order, each with its side effects; the words read, last first, go before `ws`. -/
def State.readWords : Nat → Nat → List Word → State → State × List Word
  | 0, _, ws, s => (s, ws.reverse)
  | n + 1, a, ws, s => State.readWords n (a + 4) (s.readValue a :: ws) (s.readEffect a)

/-- A latching register in the range latches before any word is read, so the set is consistent (R264). -/
def State.latchRange (a n : Nat) (s : State) : State :=
  s.each (fun l s => s.when (leaders.contains l) (State.readEffect l)) (runOf a n)

def cmdRead : Cmd where
  op := 0x03
  stages := stagesLCI
  len := lenIs 4
  check := fun r _ => rangeCheck r.params
  effect := fun r s =>
    let a := half r.params 0
    let n := half r.params 2
    let e := (s.latchRange a n).readWords n a []
    (e.1, bytesOfWords e.2)

def execRead (r : Req) : State → Host.Outcome State Fault Refusal := act (cmdRead.run r)

/-- Write words in ascending address order, each with the effect of a bus write. -/
def State.writeWords : Nat → List Word → State → State
  | _, [], s => s
  | a, w :: ws, s => State.writeWords (a + 4) ws (s.writeReg false a w)

/-- The words of a parameter list. -/
def paramWords (n : Nat) (p : List Byte) : List Word := (List.range n).map fun k => wordAt p (4 * k)

def cmdWrite : Cmd where
  op := 0x04
  stages := stagesLCI
  len := fun p => decide (4 ≤ p.length) && p.length == 4 + 4 * half p 2
  check := fun r _ => rangeCheck r.params
  effect := fun r s => (s.writeWords (half r.params 0) (paramWords (half r.params 2) (r.params.drop 4)), [])

def execWrite (r : Req) : State → Host.Outcome State Fault Refusal := act (cmdWrite.run r)

/-- Registers with a field that is written only, or read with clearing, to the links (R265). -/
def writeOnly : List Nat :=
  [Reg.MBX_CTRL, Reg.INT_DOORBELL, Reg.INT_HOST_CLAIM, Reg.INT_HOST_COMPLETE, Reg.INT_HOST_SET, Reg.QUEUE_CMD,
    Reg.RING_CMD, Reg.SAFE_CMD, Reg.CONV_CMD, Reg.REINSTATE_CTRL, Reg.SELFTEST_CTRL, Reg.EM_START, Reg.EM_STOP]

def modifyCheck (p : List Byte) : Option Verdict :=
  let a := half p 0
  refusals [(badRange a 1, (BAD_PARAM, reason 0xF5)), (touchesWindow a 1, (REJECTED, reason 0xF3)),
    (w1cMask a != 0 || writeOnly.contains a, (REJECTED, reason 0xF4))]

def cmdModify : Cmd where
  op := 0x05
  stages := stagesLCI
  len := lenIs 12
  check := fun r _ => modifyCheck r.params
  effect := fun r s =>
    let a := half r.params 0
    let mask := wordAt r.params 4
    let old := s.readValue a
    (s.writeReg false a ((old &&& ~~~ mask) ||| (wordAt r.params 8 &&& mask)), bytesOf old)

def execModify (r : Req) : State → Host.Outcome State Fault Refusal := act (cmdModify.run r)

/-! ### Commands that are ended (R257, R266, R268) -/

/-- A command is ended before its commit point: its reply carries the status alone, and is not cached (R248: only what
completes is). -/
def State.endReply (status : Nat) (q : QCmd) (s : State) : State :=
  s.deliver q.req.origin q.drop (packet status q.req.tag.toNat [])

/-- The executing command ends, and the next one waiting takes its place. -/
def State.endExecuting (status : Nat) (s : State) : State :=
  match s.link.executing with
  | none => s
  | some q =>
    ({ s with link := { s.link with executing := s.link.waiting.head?, waiting := s.link.waiting.tail } }).endReply status q

/-- The executing command has one of these opcodes. -/
def State.executes (s : State) (ops : List Nat) : Bool := s.link.executing.any fun q => ops.contains q.opcode

/-- ABORTED answers are counted (Table 11.9). -/
def State.endAborted (s : State) : State := (s.endExecuting ABORTED).incSat CMD_ABORTS.ABORTED

/-- The command ends if it has one of these opcodes: the state, and how many ended. -/
def State.endOps (ops : List Nat) (s : State) : State × Nat := if s.executes ops then (s.endAborted, 1) else (s, 0)

/-- COMMANDS: the executing command and every one that waits. -/
def State.abortCommands (s : State) : State × Nat :=
  let n := s.link.executing.toList.length + s.link.waiting.length
  (s.forUpTo (fun _ s => s.endAborted) n, n)

/-- RING (Table 11.6): a capture ends without a record; a FULL ring empties. -/
def State.abortRing (s : State) : State :=
  if s.fld RING_STATUS.STATE = RING_POST then s.setF RING_STATUS.STATE RING_RUNNING else s.ringRelease

/-- IMAGE (Table 11.6): the slot being written is invalid, the partial settings block is discarded. -/
def State.abortImage (s : State) : State :=
  let s := match s.loadingSlot with
    | some k => (s.putSlot k { s.slot k with image := [], length := 0 }).setF (slotF k) SL_EMPTY
    | none => s
  s.when s.stagedOpen fun s => s.putBoot { s.boot with staged := [] }

/-- One scope of Table 11.6: the state, whether an activity was ended, and the commands answered ABORTED. -/
def abortScope (k : Nat) (s : State) : State × Bool × Nat :=
  match k with
  | 0 => (s.abortCommands.1, s.abortCommands.2 != 0, s.abortCommands.2)
  | 1 => (s.stopMachines true, (List.range 32).any s.running, 0)
  | 2 =>
    let e := s.endOps [0x70, 0x75]
    (e.1.queueFlush, e.2 != 0 || !s.queue.visible.isEmpty, e.2)
  | 3 => (s.abortRing, s.fld RING_STATUS.STATE == RING_POST, 0)
  | 4 => (s.abortDiag, s.testing, 0)
  | 5 =>
    let e := s.endOps [0x11, 0x12, 0x14, 0x15]
    (e.1.abortImage, e.2 != 0 || s.loadingSlot.isSome || s.stagedOpen, e.2)
  | 6 => (s.stopPio, (List.range 4).any fun k => (s.pioEngine k).state == 1, 0)
  | _ => (s.when s.pairBusy State.pairCommandLeave, s.pairBusy, 0)

/-- The scopes of a mask, in ascending order: state, mask of those that ended an activity, commands ended. -/
def abortScopes : List Nat → State × Nat × Nat → State × Nat × Nat
  | [], x => x
  | k :: ks, (s, m, n) =>
    let e := abortScope k s
    abortScopes ks (e.1, m + 2 ^ k * b01 e.2.1, n + e.2.2)

/-- ABORT (R266). -/
def cmdAbort : Cmd where
  op := 0x02
  stages := stagesLCI
  len := lenIs 4
  check := fun r _ =>
    let m := numAt r.params 0 4
    if m = 0 ∨ 255 < m then some (BAD_PARAM, []) else none
  effect := fun r s =>
    let e := abortScopes (maskList 8 (numAt r.params 0 4)) (s.incSat CMD_ABORTS.ABORTS, 0, 0)
    (e.1, leBytes 4 e.2.1 ++ leBytes 2 e.2.2)

def execAbort (r : Req) : State → Host.Outcome State Fault Refusal := act (cmdAbort.run r)

/-- COMMAND_TIMEOUT (R257): the executing command is ended and answered TIMEOUT. -/
def execCommandTimeout : State → Host.Outcome State Fault Refusal := act fun s =>
  s.when s.link.executing.isSome fun s => (s.endExecuting TIMEOUT).incSat CMD_ERRORS.TIMEOUTS

/-! ### Requests (R249, R252, R254, R255) -/

/-- An immediate-class command executes on arrival (R254). -/
def runImmediate (op : Nat) (r : Req) (s : State) : State :=
  if op = 0x00 then cmdNop.run r s
  else if op = 0x02 then cmdAbort.run r s
  else if op = 0x43 then cmdEmStop.run r s
  else if op = 0x61 then heartbeatCommand r s
  else if op = 0x62 then cmdSafeDisarm.run r s
  else cmdSafeStatus.run r s

/-- A whole request packet has arrived: it is judged, and an immediate one executes. -/
def State.receive (o : Origin) (bytes : List Byte) (ingress : Nat) (s : State) : State :=
  match s.judge o bytes ingress with
  | .done s => s
  | .immediate op r => runImmediate op r s

/-- REQUEST_RECEIVED (R255): `bytes` as received from `o`; `latched` is module time at the MAC on the frame's ingress. The
two-wire bus carries requests in Noon alone (R299). -/
def execRequestReceived (o : Origin) (bytes : List Byte) (latched : BitVec 96) : State → Host.Outcome State Fault Refusal :=
  act fun s =>
    match o with
    | .twoWire => s.when s.noon (State.receive o bytes 0)
    | .t1s _ => s.receive o bytes (ingressTime latched.toNat)

/-- PARTIAL_REQUEST_TIMEOUT (R249). -/
def execPartialRequestTimeout : State → Host.Outcome State Fault Refusal := act fun s =>
  if s.link.rx.isEmpty then s
  else (s.discardPartial.raise Reg.MBX_EVENTS 2).incSat MBX_COUNTS.ABANDONED

/-- One byte written to the mailbox window (R249): `first` for the first data byte of a transaction, at offset 0x80. -/
def State.mailboxWrite (first : Bool) (b : Byte) (s : State) : State :=
  if s.link.rxIgnore ∧ ¬ first then s
  else
    let rx := (if first then [] else s.link.rx) ++ [b]
    let s := s.putLink { s.link with rx := rx, rxIgnore := false }
    if rx.length < 4 then s
    else
      let len := half rx 0
      if 1016 < len then
        (s.putLink { s.link with rx := [], rxIgnore := true }).receive .twoWire (rx.take 4) 0
      else if rx.length < 8 + len then s
      else s.discardPartial.receive .twoWire rx 0

/-- The pointer passes the byte just taken (R294). -/
def State.passByte (page : Nat) (s : State) : State :=
  s.setF TW_PAGE.POINTER (nextPtr page (s.fld TW_PAGE.POINTER))

/-- MBX_WINDOW_WRITE (R249): the byte is held instead while PEC is required (R297). -/
def execMbxWindowWrite (b : Byte) (first : Bool) : State → Host.Outcome State Fault Refusal := act fun s =>
  s.when s.noon fun s =>
    let s := s.twStart
    if s.tw.pec then s
    else
      let s := s.when first (State.setF TW_PAGE.POINTER 0x80)
      (s.passByte 1).mailboxWrite first b

/-- MBX_WINDOW_READ (R250). -/
def execMbxWindowRead : State → Host.Outcome State Fault Refusal := act fun s =>
  s.when s.noon fun s => (s.twStart.passByte 1).mailboxRead

/-- QUEUE_WINDOW_READ (R235). -/
def execQueueWindowRead : State → Host.Outcome State Fault Refusal := act fun s =>
  s.when s.noon fun s => (s.twStart.passByte 4).queueByte

end Sys2Proof.Machine
end

