-- ==== Sys2Proof/Machine/TwoWire.lean ====
section
/-!
DEFINITION. The two-wire target's own rows (chapter 13): pointer, page, transaction ends, PEC, timeouts and the alert
response.
-/
namespace Sys2Proof.Machine

/-! ### Pointer, page and data bytes (R294, R295) -/

/-- An incomplete word is discarded (R295). -/
def State.partialWord (s : State) : State := (s.incSat TW_COUNTS.PARTIAL).raise Reg.TW_EVENTS 1

/-- The first data byte of a write to A + 1 (R294). -/
def State.selectPage (p : Nat) (s : State) : State :=
  if 0x11 < p then s.raise Reg.TW_EVENTS 1 else s.setF TW_PAGE.PAGE p

/-- Data bytes written at the pointer in one transaction: window bytes one at a time, other bytes by word. `first` holds
for the first of them; `buf` holds the bytes of the word in progress. -/
def State.dataBytes : List Byte → Bool → List Byte → State → State
  | [], _, buf, s => if buf.isEmpty then s else s.partialWord
  | b :: bs, first, buf, s =>
    let page := s.fld TW_PAGE.PAGE
    let p := s.fld TW_PAGE.POINTER
    let s := s.passByte page
    if page = 1 ∧ 0x80 ≤ p then State.dataBytes bs false [] (s.mailboxWrite (first && p == 0x80) b)
    else if page = 4 ∧ 0x80 ≤ p then State.dataBytes bs false [] s
    else if p % 4 ≠ 3 then State.dataBytes bs false ((if p % 4 = 0 then [] else buf) ++ [b]) s
    else if buf.length = 3 then
      State.dataBytes bs false [] (s.writeReg true (256 * page + p / 4 * 4) (wordAt (buf ++ [b]) 0))
    else State.dataBytes bs false [] s.partialWord

/-- The bytes from one START on, address byte first, take effect (R292, R297): a read, or a write to an even address (the
pointer, then data) or to an odd one (the page). -/
def State.applySegment (bytes : List Byte) (s : State) : State :=
  match bytes with
  | a :: x :: data =>
    if a.toNat % 2 = 1 then s
    else if a.toNat / 2 % 2 = 1 then s.selectPage x.toNat
    else (s.setF TW_PAGE.POINTER x.toNat).dataBytes data true []
  | _ => s

/-! ### Packet error checking (R297) -/

/-- Eight steps of the SMBus CRC-8, x^8 + x^2 + x + 1. -/
def crc8Steps : Nat → Nat → Nat
  | 0, c => c
  | n + 1, c => crc8Steps n (if 128 ≤ c then (2 * c % 256) ^^^ 7 else 2 * c)

/-- The SMBus CRC-8 of a list of bytes, initial value 0. -/
def crc8 (bytes : List Byte) : Nat := bytes.foldl (fun c b => crc8Steps 8 (c ^^^ b.toNat)) 0

/-- The STOP of a transaction under PEC: the bytes of the last write segment act if the last byte is the PEC of all bytes
of the transaction. A transaction without data, or one that ends in a read, holds nothing. -/
def State.stopPec (before rest : List Byte) (s : State) : State :=
  match rest.head?, rest.getLast? with
  | some a, some pec =>
    if rest.length < 2 ∨ a.toNat % 2 = 1 then s
    else if crc8 (before ++ rest.dropLast) = pec.toNat then s.applySegment rest.dropLast
    else (s.incSat TW_COUNTS.PEC_ERRORS).raise Reg.TW_EVENTS 1
  | _, _ => s

/-! ### Rows -/

/-- TW_POINTER_SET (R294): held while PEC is required (R297). -/
def execTwPointerSet (p : Byte) : State → Host.Outcome State Fault Refusal := act fun s =>
  s.when s.noon fun s => if s.twStart.tw.pec then s.twStart else s.twStart.setF TW_PAGE.POINTER p.toNat

/-- TW_PAGE_SELECT (R294): held while PEC is required (R297). -/
def execTwPageSelect (p : Byte) : State → Host.Outcome State Fault Refusal := act fun s =>
  s.when s.noon fun s => if s.twStart.tw.pec then s.twStart else s.twStart.selectPage p.toNat

/-- REPEATED_START (R295, R297): without PEC `rest` holds the bytes of an incomplete word; with PEC, the bytes since the
last START, address byte first: a write that ends here carries no PEC byte. -/
def execRepeatedStart (rest : List Byte) : State → Host.Outcome State Fault Refusal := act fun s =>
  s.when s.noon fun s =>
    let s := s.twStart
    if s.tw.pec then s.applySegment rest else if rest.isEmpty then s else s.partialWord

/-- The transaction ends: BUSY falls and TW_ADDR2 comes into force as it stands (R293). -/
def State.twIdle (s : State) : State :=
  ({ s with tw := { s.tw with addr2 := s.reg Reg.TW_ADDR2, pec := false } }).setF TW_STATUS.BUSY 0

/-- TW_STOP (R295, R297): `rest` as in REPEATED_START, its last byte the PEC; `before` holds the transaction's bytes up to
the last START. -/
def execTwStop (before rest : List Byte) : State → Host.Outcome State Fault Refusal := act fun s =>
  s.when s.noon fun s =>
    let s := s.twStart
    let s := if s.tw.pec then s.stopPec before rest else if rest.isEmpty then s else s.partialWord
    s.twIdle

/-- TW_BUS_TIMEOUT (R302, R414): `partly`: a word was incomplete; `cut`: XING_7 (bit 0) or XING_8 discards a transfer in
flight. Nothing held under PEC is applied. -/
def execTwBusTimeout (partly : Bool) (cut : BitVec 2) : State → Host.Outcome State Fault Refusal := act fun s =>
  s.when s.noon fun s =>
    let s := (s.incSat TW_COUNTS.TIMEOUTS).raise Reg.TW_EVENTS 0
    let s := s.when (partly && !s.tw.pec) State.partialWord
    let s := s.each (fun k s => s.when (cut.toNat.testBit k) (State.xingReset (7 + k))) [0, 1]
    ({ s with tw := { s.tw with pec := false } }).setF TW_STATUS.BUSY 0

/-- The flag of a stuck line. -/
def stuckFlag (sda : Bool) : Fld := if sda then TW_STATUS.SDA_STUCK else TW_STATUS.SCL_STUCK

/-- TW_STUCK_LINE (R303). -/
def execTwStuckLine (sda : Bool) : State → Host.Outcome State Fault Refusal := act fun s =>
  s.when s.noon fun s => ((s.setF (stuckFlag sda) 1).incSat TW_COUNTS.STUCK).raise Reg.TW_EVENTS 2

/-- TW_STUCK_LINE_CLEAR (R303). -/
def execTwStuckLineClear (sda : Bool) : State → Host.Outcome State Fault Refusal := act (State.setF (stuckFlag sda) 0)

/-- ALERT_RESPONSE (R298): `won`: the arbitration was won. The byte sent is A shifted left by one bit. -/
def execAlertResponse (won : Bool) : State → Host.Outcome State Fault Refusal := act fun s =>
  if ¬ s.noon ∨ ¬ s.alertOn then s
  else
    let s := s.twStart
    if won then
      (({ s with tw := { s.tw with quiet := true } }).incSat TW_ALERT.RESPONSES).outByte (BitVec.ofNat 8 (2 * s.ownAddress))
    else s

/-- ALERT_REPEAT (R298): REPEAT_MS after a won response, with sources still pending. -/
def execAlertRepeat : State → Host.Outcome State Fault Refusal := act fun s =>
  if s.noon ∧ s.fld TW_ALERT.REPEAT_MS ≠ 0 ∧ s.hostPending then { s with tw := { s.tw with quiet := false } } else s

end Sys2Proof.Machine
end

