-- ==== Sys2Proof/Machine/Dispatch.lean ====
section
/-!
DEFINITION. The one dispatch: every command of spec/opcode_table.json to its meaning.
-/
namespace Sys2Proof.Machine

def exec (i : Instr) (s : State) : Host.Outcome State Fault Refusal :=
  match i with
  | .powerUp strap => Sys2Proof.Machine.execPowerUp strap s
  | .vbatReversal => Sys2Proof.Machine.execVbatReversal s
  | .inputDisconnect => Sys2Proof.Machine.execInputDisconnect s
  | .inputReconnect => Sys2Proof.Machine.execInputReconnect s
  | .vbatLowReport => Sys2Proof.Machine.execVbatLowReport s
  | .rideThroughEntry esr => Sys2Proof.Machine.execRideThroughEntry esr s
  | .rideThroughEnd low ms charge dv stale => Sys2Proof.Machine.execRideThroughEnd low ms charge dv stale s
  | .capacitanceEstimate cap => Sys2Proof.Machine.execCapacitanceEstimate cap s
  | .shedThresholdCrossing => Sys2Proof.Machine.execShedThresholdCrossing s
  | .rearmThresholdCrossing => Sys2Proof.Machine.execRearmThresholdCrossing s
  | .shedDelayExpiry => Sys2Proof.Machine.execShedDelayExpiry s
  | .stopThresholdCrossing => Sys2Proof.Machine.execStopThresholdCrossing s
  | .brownoutExit cycles => Sys2Proof.Machine.execBrownoutExit cycles s
  | .aonSupplyLoss => Sys2Proof.Machine.execAonSupplyLoss s
  | .vauxStartThreshold => Sys2Proof.Machine.execVauxStartThreshold s
  | .vauxLow => Sys2Proof.Machine.execVauxLow s
  | .vauxOkReached => Sys2Proof.Machine.execVauxOkReached s
  | .phaseRetirement p cause dev => Sys2Proof.Machine.execPhaseRetirement p cause dev s
  | .phaseRetry p light again => Sys2Proof.Machine.execPhaseRetry p light again s
  | .phaseRotation => Sys2Proof.Machine.execPhaseRotation s
  | .overloadLimit => Sys2Proof.Machine.execOverloadLimit s
  | .overloadRelease => Sys2Proof.Machine.execOverloadRelease s
  | .limitOffExpiry => Sys2Proof.Machine.execLimitOffExpiry s
  | .limitRestartAttempt => Sys2Proof.Machine.execLimitRestartAttempt s
  | .vauxStartRetry => Sys2Proof.Machine.execVauxStartRetry s
  | .thermalLimit => Sys2Proof.Machine.execThermalLimit s
  | .thermalShutdown => Sys2Proof.Machine.execThermalShutdown s
  | .thermalRelease => Sys2Proof.Machine.execThermalRelease s
  | .controlPairReset cut => Sys2Proof.Machine.execControlPairReset cut s
  | .codeRamEccError cut => Sys2Proof.Machine.execCodeRamEccError cut s
  | .restartVerify intact => Sys2Proof.Machine.execRestartVerify intact s
  | .revertImagoEntry => Sys2Proof.Machine.execRevertImagoEntry s
  | .requestReceived origin bytes latched => Sys2Proof.Machine.execRequestReceived origin bytes latched s
  | .partialRequestTimeout => Sys2Proof.Machine.execPartialRequestTimeout s
  | .commandTimeout => Sys2Proof.Machine.execCommandTimeout s
  | .mbxWindowWrite b first => Sys2Proof.Machine.execMbxWindowWrite b first s
  | .mbxWindowRead => Sys2Proof.Machine.execMbxWindowRead s
  | .discardReq bus => Sys2Proof.Machine.execDiscardReq bus s
  | .dropReply bus => Sys2Proof.Machine.execDropReply bus s
  | .mbxClear bus => Sys2Proof.Machine.execMbxClear bus s
  | .nop r => Sys2Proof.Machine.execNop r s
  | .identify r => Sys2Proof.Machine.execIdentify r s
  | .abort r => Sys2Proof.Machine.execAbort r s
  | .read r => Sys2Proof.Machine.execRead r s
  | .write r => Sys2Proof.Machine.execWrite r s
  | .modify r => Sys2Proof.Machine.execModify r s
  | .imgBegin r => Sys2Proof.Machine.execImgBegin r s
  | .imgWrite r => Sys2Proof.Machine.execImgWrite r s
  | .imgVerify r => Sys2Proof.Machine.execImgVerify r s
  | .imgActivate r => Sys2Proof.Machine.execImgActivate r s
  | .settingsWrite r => Sys2Proof.Machine.execSettingsWrite r s
  | .settingsApply r => Sys2Proof.Machine.execSettingsApply r s
  | .revert r => Sys2Proof.Machine.execRevert r s
  | .bootStatus r => Sys2Proof.Machine.execBootStatus r s
  | .setProfile r => Sys2Proof.Machine.execSetProfile r s
  | .setRanges r => Sys2Proof.Machine.execSetRanges r s
  | .arrayStatus r => Sys2Proof.Machine.execArrayStatus r s
  | .setCalDelta r => Sys2Proof.Machine.execSetCalDelta r s
  | .sentinelConfig r => Sys2Proof.Machine.execSentinelConfig r s
  | .selftest r => Sys2Proof.Machine.execSelftest r s
  | .reinstate r => Sys2Proof.Machine.execReinstate r s
  | .triadRead r => Sys2Proof.Machine.execTriadRead r s
  | .setPreset r => Sys2Proof.Machine.execSetPreset r s
  | .coeffWrite r => Sys2Proof.Machine.execCoeffWrite r s
  | .coeffCommit r => Sys2Proof.Machine.execCoeffCommit r s
  | .bankSelect r => Sys2Proof.Machine.execBankSelect r s
  | .decimSync r => Sys2Proof.Machine.execDecimSync r s
  | .notchConfig r => Sys2Proof.Machine.execNotchConfig r s
  | .emLoad r => Sys2Proof.Machine.execEmLoad r s
  | .emConfig r => Sys2Proof.Machine.execEmConfig r s
  | .emStart r => Sys2Proof.Machine.execEmStart r s
  | .emStop r => Sys2Proof.Machine.execEmStop r s
  | .emParam r => Sys2Proof.Machine.execEmParam r s
  | .emReadState r => Sys2Proof.Machine.execEmReadState r s
  | .emCrc r => Sys2Proof.Machine.execEmCrc r s
  | .recEnable r => Sys2Proof.Machine.execRecEnable r s
  | .recConfig r => Sys2Proof.Machine.execRecConfig r s
  | .recWheel r => Sys2Proof.Machine.execRecWheel r s
  | .recClear r => Sys2Proof.Machine.execRecClear r s
  | .recRead r => Sys2Proof.Machine.execRecRead r s
  | .safeArm r => Sys2Proof.Machine.execSafeArm r s
  | .safeHeartbeat r => Sys2Proof.Machine.execSafeHeartbeat r s
  | .safeDisarm r => Sys2Proof.Machine.execSafeDisarm r s
  | .safeFaultClear r => Sys2Proof.Machine.execSafeFaultClear r s
  | .safeConfig r => Sys2Proof.Machine.execSafeConfig r s
  | .safeStatus r => Sys2Proof.Machine.execSafeStatus r s
  | .queueRead r => Sys2Proof.Machine.execQueueRead r s
  | .queueFlush r => Sys2Proof.Machine.execQueueFlush r s
  | .queueConfig r => Sys2Proof.Machine.execQueueConfig r s
  | .ringConfig r => Sys2Proof.Machine.execRingConfig r s
  | .ringTrigger r => Sys2Proof.Machine.execRingTrigger r s
  | .ringRead r => Sys2Proof.Machine.execRingRead r s
  | .ringRelease r => Sys2Proof.Machine.execRingRelease r s
  | .ringClear bus => Sys2Proof.Machine.execRingClear bus s
  | .powerVote r => Sys2Proof.Machine.execPowerVote r s
  | .nightConfig r => Sys2Proof.Machine.execNightConfig r s
  | .powerStatus r => Sys2Proof.Machine.execPowerStatus r s
  | .convConfig r => Sys2Proof.Machine.execConvConfig r s
  | .convStatus r => Sys2Proof.Machine.execConvStatus r s
  | .timeGet r => Sys2Proof.Machine.execTimeGet r s
  | .timeSet r => Sys2Proof.Machine.execTimeSet r s
  | .timeAdjust r => Sys2Proof.Machine.execTimeAdjust r s
  | .timeConfig r => Sys2Proof.Machine.execTimeConfig r s
  | .tsRead r => Sys2Proof.Machine.execTsRead r s
  | .pairConfig r => Sys2Proof.Machine.execPairConfig r s
  | .pairJoin r => Sys2Proof.Machine.execPairJoin r s
  | .pairLeave r => Sys2Proof.Machine.execPairLeave r s
  | .pairStatus r => Sys2Proof.Machine.execPairStatus r s
  | .pioLoad r => Sys2Proof.Machine.execPioLoad r s
  | .pioStart r => Sys2Proof.Machine.execPioStart r s
  | .pioStop r => Sys2Proof.Machine.execPioStop r s
  | .pioInject r => Sys2Proof.Machine.execPioInject r s
  | .pioConfig r => Sys2Proof.Machine.execPioConfig r s
  | .pioStatus r => Sys2Proof.Machine.execPioStatus r s
  | .hkSequence r => Sys2Proof.Machine.execHkSequence r s
  | .hkWindow r => Sys2Proof.Machine.execHkWindow r s
  | .hkRead r => Sys2Proof.Machine.execHkRead r s
  | .hkStatus r => Sys2Proof.Machine.execHkStatus r s
  | .registerWrite bus addr w => Sys2Proof.Machine.execRegisterWrite bus addr w s
  | .emRegionWrite bus w => Sys2Proof.Machine.execEmRegionWrite bus w s
  | .emFlagsWrite bus w => Sys2Proof.Machine.execEmFlagsWrite bus w s
  | .emPmemData bus w => Sys2Proof.Machine.execEmPmemData bus w s
  | .pioPmemData bus w => Sys2Proof.Machine.execPioPmemData bus w s
  | .pioMportWrite bus k w => Sys2Proof.Machine.execPioMportWrite bus k w s
  | .pioSafeLevelWrite bus w => Sys2Proof.Machine.execPioSafeLevelWrite bus w s
  | .twAddr2Write bus w => Sys2Proof.Machine.execTwAddr2Write bus w s
  | .t1sPlcaWrite w => Sys2Proof.Machine.execT1sPlcaWrite w s
  | .intDoorbell bus w => Sys2Proof.Machine.execIntDoorbell bus w s
  | .intHostClaim bytes => Sys2Proof.Machine.execIntHostClaim bytes s
  | .intCpClaim => Sys2Proof.Machine.execIntCpClaim s
  | .intHostComplete bus w => Sys2Proof.Machine.execIntHostComplete bus w s
  | .intCpComplete n => Sys2Proof.Machine.execIntCpComplete n s
  | .intHostSet bus w => Sys2Proof.Machine.execIntHostSet bus w s
  | .intHostEnWrite bus j w => Sys2Proof.Machine.execIntHostEnWrite bus j w s
  | .sentinelXy bytes => Sys2Proof.Machine.execSentinelXy bytes s
  | .triadZXy bytes => Sys2Proof.Machine.execTriadZXy bytes s
  | .filtDelayNs bytes => Sys2Proof.Machine.execFiltDelayNs bytes s
  | .syncTickLo bytes => Sys2Proof.Machine.execSyncTickLo bytes s
  | .emState bytes => Sys2Proof.Machine.execEmState bytes s
  | .emStartTickLo bytes => Sys2Proof.Machine.execEmStartTickLo bytes s
  | .specLastLo bytes => Sys2Proof.Machine.execSpecLastLo bytes s
  | .safeTrip bytes => Sys2Proof.Machine.execSafeTrip bytes s
  | .ringTrigTickLo bytes => Sys2Proof.Machine.execRingTrigTickLo bytes s
  | .idSerialLo bytes => Sys2Proof.Machine.execIdSerialLo bytes s
  | .timeNow0 bytes => Sys2Proof.Machine.execTimeNow0 bytes s
  | .pairBoundaryLo bytes => Sys2Proof.Machine.execPairBoundaryLo bytes s
  | .pioState k bytes => Sys2Proof.Machine.execPioState k bytes s
  | .xingInfo bytes => Sys2Proof.Machine.execXingInfo bytes s
  | .queueWindowRead => Sys2Proof.Machine.execQueueWindowRead s
  | .driveLock g => Sys2Proof.Machine.execDriveLock g s
  | .driveFault g => Sys2Proof.Machine.execDriveFault g s
  | .tempModelUpdate => Sys2Proof.Machine.execTempModelUpdate s
  | .dieTempStale d => Sys2Proof.Machine.execDieTempStale d s
  | .selftestTriadDone k result => Sys2Proof.Machine.execSelftestTriadDone k result s
  | .profileBoundary t => Sys2Proof.Machine.execProfileBoundary t s
  | .triadJoin k t => Sys2Proof.Machine.execTriadJoin k t s
  | .sentinelSample x y z cycles => Sys2Proof.Machine.execSentinelSample x y z cycles s
  | .sentinelWake => Sys2Proof.Machine.execSentinelWake s
  | .committedVote t xs => Sys2Proof.Machine.execCommittedVote t xs s
  | .quorumRestored => Sys2Proof.Machine.execQuorumRestored s
  | .suspectEntry k => Sys2Proof.Machine.execSuspectEntry k s
  | .suspectClear k => Sys2Proof.Machine.execSuspectClear k s
  | .retirementRequest k => Sys2Proof.Machine.execRetirementRequest k s
  | .retirementDecision what => Sys2Proof.Machine.execRetirementDecision what s
  | .retirementApply t => Sys2Proof.Machine.execRetirementApply t s
  | .lateStage stage t => Sys2Proof.Machine.execLateStage stage t s
  | .arbitrationWaitExceeded what => Sys2Proof.Machine.execArbitrationWaitExceeded what s
  | .presetApply => Sys2Proof.Machine.execPresetApply s
  | .presetChangeComplete => Sys2Proof.Machine.execPresetChangeComplete s
  | .bankSwapApply => Sys2Proof.Machine.execBankSwapApply s
  | .notchPeriodWord engine period => Sys2Proof.Machine.execNotchPeriodWord engine period s
  | .notchSetChange => Sys2Proof.Machine.execNotchSetChange s
  | .tachLost => Sys2Proof.Machine.execTachLost s
  | .syncEdge cycles rising => Sys2Proof.Machine.execSyncEdge cycles rising s
  | .decimSyncApply => Sys2Proof.Machine.execDecimSyncApply s
  | .fastSampleArrival t xs => Sys2Proof.Machine.execFastSampleArrival t xs s
  | .committedSampleArrival t => Sys2Proof.Machine.execCommittedSampleArrival t s
  | .replayRun n => Sys2Proof.Machine.execReplayRun n s
  | .tickCommit t => Sys2Proof.Machine.execTickCommit t s
  | .specRejoin n => Sys2Proof.Machine.execSpecRejoin n s
  | .emParamApply t => Sys2Proof.Machine.execEmParamApply t s
  | .recConfigApply t => Sys2Proof.Machine.execRecConfigApply t s
  | .recDeclare k => Sys2Proof.Machine.execRecDeclare k s
  | .recRelease k => Sys2Proof.Machine.execRecRelease k s
  | .theftReference => Sys2Proof.Machine.execTheftReference s
  | .ixNop n cond => Sys2Proof.Machine.execIxNop n cond s
  | .ixLdi n cond d imm => Sys2Proof.Machine.execIxLdi n cond d imm s
  | .ixLdh n cond d imm => Sys2Proof.Machine.execIxLdh n cond d imm s
  | .ixMov n cond d sr => Sys2Proof.Machine.execIxMov n cond d sr s
  | .ixRd n cond d stream => Sys2Proof.Machine.execIxRd n cond d stream s
  | .ixAdd n cond d sr => Sys2Proof.Machine.execIxAdd n cond d sr s
  | .ixAddi n cond d imm => Sys2Proof.Machine.execIxAddi n cond d imm s
  | .ixSub n cond d sr => Sys2Proof.Machine.execIxSub n cond d sr s
  | .ixCmp n cond d sr => Sys2Proof.Machine.execIxCmp n cond d sr s
  | .ixCmpi n cond d imm => Sys2Proof.Machine.execIxCmpi n cond d imm s
  | .ixMul n cond d sr k => Sys2Proof.Machine.execIxMul n cond d sr k s
  | .ixAbs n cond d sr => Sys2Proof.Machine.execIxAbs n cond d sr s
  | .ixMin n cond d sr => Sys2Proof.Machine.execIxMin n cond d sr s
  | .ixMax n cond d sr => Sys2Proof.Machine.execIxMax n cond d sr s
  | .ixAnd n cond d sr => Sys2Proof.Machine.execIxAnd n cond d sr s
  | .ixOr n cond d sr => Sys2Proof.Machine.execIxOr n cond d sr s
  | .ixXor n cond d sr => Sys2Proof.Machine.execIxXor n cond d sr s
  | .ixShr n cond d sr k => Sys2Proof.Machine.execIxShr n cond d sr k s
  | .ixShl n cond d sr k => Sys2Proof.Machine.execIxShl n cond d sr k s
  | .ixMag3 n cond d sr => Sys2Proof.Machine.execIxMag3 n cond d sr s
  | .ixFilt n cond d sr k => Sys2Proof.Machine.execIxFilt n cond d sr k s
  | .ixTset n cond timer imm => Sys2Proof.Machine.execIxTset n cond timer imm s
  | .ixTsetv n cond timer sr => Sys2Proof.Machine.execIxTsetv n cond timer sr s
  | .ixTclr n cond timer => Sys2Proof.Machine.execIxTclr n cond timer s
  | .ixTst n cond timer => Sys2Proof.Machine.execIxTst n cond timer s
  | .ixCadd n cond ctr imm => Sys2Proof.Machine.execIxCadd n cond ctr imm s
  | .ixCclr n cond ctr => Sys2Proof.Machine.execIxCclr n cond ctr s
  | .ixJmp n cond target => Sys2Proof.Machine.execIxJmp n cond target s
  | .ixEnd n cond => Sys2Proof.Machine.execIxEnd n cond s
  | .ixNext n cond target => Sys2Proof.Machine.execIxNext n cond target s
  | .ixHalt n cond => Sys2Proof.Machine.execIxHalt n cond s
  | .ixCkpt n cond => Sys2Proof.Machine.execIxCkpt n cond s
  | .ixEmit n cond d sr code => Sys2Proof.Machine.execIxEmit n cond d sr code s
  | .ixSafeoff n cond reason => Sys2Proof.Machine.execIxSafeoff n cond reason s
  | .ixPiow n cond sr engine => Sys2Proof.Machine.execIxPiow n cond sr engine s
  | .ixBell n cond source => Sys2Proof.Machine.execIxBell n cond source s
  | .ixCapt n cond desc => Sys2Proof.Machine.execIxCapt n cond desc s
  | .ixVote n cond v => Sys2Proof.Machine.execIxVote n cond v s
  | .heartbeatTimeout => Sys2Proof.Machine.execHeartbeatTimeout s
  | .safeBClose edges => Sys2Proof.Machine.execSafeBClose edges s
  | .readbackFault pinB => Sys2Proof.Machine.execReadbackFault pinB s
  | .stateExchange => Sys2Proof.Machine.execStateExchange s
  | .monitorDisagree => Sys2Proof.Machine.execMonitorDisagree s
  | .safeBDischargeEnd => Sys2Proof.Machine.execSafeBDischargeEnd s
  | .overflowGap => Sys2Proof.Machine.execOverflowGap s
  | .queueEccError k => Sys2Proof.Machine.execQueueEccError k s
  | .ringCaptureEnd => Sys2Proof.Machine.execRingCaptureEnd s
  | .ringPointerMismatch oneCopy => Sys2Proof.Machine.execRingPointerMismatch oneCopy s
  | .timeSecondRecord => Sys2Proof.Machine.execTimeSecondRecord s
  | .housekeepingRecord => Sys2Proof.Machine.execHousekeepingRecord s
  | .streamFrameAge => Sys2Proof.Machine.execStreamFrameAge s
  | .corruptedFrame fcs => Sys2Proof.Machine.execCorruptedFrame fcs s
  | .beaconReceived => Sys2Proof.Machine.execBeaconReceived s
  | .beaconLoss => Sys2Proof.Machine.execBeaconLoss s
  | .transmitOpportunity outcome => Sys2Proof.Machine.execTransmitOpportunity outcome s
  | .syncFollowUp latched origin oneStep => Sys2Proof.Machine.execSyncFollowUp latched origin oneStep s
  | .pdelayReq latched seq => Sys2Proof.Machine.execPdelayReq latched seq s
  | .pdelayResp latched t2 t3 => Sys2Proof.Machine.execPdelayResp latched t2 t3 s
  | .servoHoldover => Sys2Proof.Machine.execServoHoldover s
  | .timeStepApply => Sys2Proof.Machine.execTimeStepApply s
  | .txTimestamp latched => Sys2Proof.Machine.execTxTimestamp latched s
  | .hostTsExpiry => Sys2Proof.Machine.execHostTsExpiry s
  | .aonCalibration period => Sys2Proof.Machine.execAonCalibration period s
  | .pairMasterSync => Sys2Proof.Machine.execPairMasterSync s
  | .twPageSelect p => Sys2Proof.Machine.execTwPageSelect p s
  | .twStop before rest => Sys2Proof.Machine.execTwStop before rest s
  | .twBusTimeout partly cut => Sys2Proof.Machine.execTwBusTimeout partly cut s
  | .twStuckLine sda => Sys2Proof.Machine.execTwStuckLine sda s
  | .alertResponse won => Sys2Proof.Machine.execAlertResponse won s
  | .alertRepeat => Sys2Proof.Machine.execAlertRepeat s
  | .nightAddressMatch => Sys2Proof.Machine.execNightAddressMatch s
  | .joinReqReceived mac payload => Sys2Proof.Machine.execJoinReqReceived mac payload s
  | .joinAckReceived mac payload => Sys2Proof.Machine.execJoinAckReceived mac payload s
  | .joinNakReceived mac payload => Sys2Proof.Machine.execJoinNakReceived mac payload s
  | .joinAckDeadline => Sys2Proof.Machine.execJoinAckDeadline s
  | .pairBoundary locked => Sys2Proof.Machine.execPairBoundary locked s
  | .autoJoin => Sys2Proof.Machine.execAutoJoin s
  | .syncPulse => Sys2Proof.Machine.execSyncPulse s
  | .beatReceived mac payload => Sys2Proof.Machine.execBeatReceived mac payload s
  | .ptpOnlyReset => Sys2Proof.Machine.execPtpOnlyReset s
  | .syncLost => Sys2Proof.Machine.execSyncLost s
  | .beatMissed => Sys2Proof.Machine.execBeatMissed s
  | .leaveReceived mac => Sys2Proof.Machine.execLeaveReceived mac s
  | .contributionReceived mac payload => Sys2Proof.Machine.execContributionReceived mac payload s
  | .fusionWaitExpiry => Sys2Proof.Machine.execFusionWaitExpiry s
  | .duskBegin => Sys2Proof.Machine.execDuskBegin s
  | .nightEntry => Sys2Proof.Machine.execNightEntry s
  | .wakePioLevel p => Sys2Proof.Machine.execWakePioLevel p s
  | .wakePioEdge p late => Sys2Proof.Machine.execWakePioEdge p late s
  | .nightTimerExpiry => Sys2Proof.Machine.execNightTimerExpiry s
  | .dawnRegulatorReady => Sys2Proof.Machine.execDawnRegulatorReady s
  | .dawnOscillatorReady => Sys2Proof.Machine.execDawnOscillatorReady s
  | .dawnMemoryReady ok => Sys2Proof.Machine.execDawnMemoryReady ok s
  | .dawnComplete cycles ms cut => Sys2Proof.Machine.execDawnComplete cycles ms cut s
  | .hkPass => Sys2Proof.Machine.execHkPass s
  | .hkConversionDone k value sat => Sys2Proof.Machine.execHkConversionDone k value sat s
  | .sliceCalibration good => Sys2Proof.Machine.execSliceCalibration good s
  | .sliceSwap disagree => Sys2Proof.Machine.execSliceSwap disagree s
  | .legacyActionFire k => Sys2Proof.Machine.execLegacyActionFire k s
  | .pioNop k => Sys2Proof.Machine.execPioNop k s
  | .pioJmp k pins cond pin target => Sys2Proof.Machine.execPioJmp k pins cond pin target s
  | .pioSet k mask levels => Sys2Proof.Machine.execPioSet k mask levels s
  | .pioDir k mask dirs => Sys2Proof.Machine.execPioDir k mask dirs s
  | .pioShin k pins width pin => Sys2Proof.Machine.execPioShin k pins width pin s
  | .pioJtab k base => Sys2Proof.Machine.execPioJtab k base s
  | .pioAddj k reg delta target => Sys2Proof.Machine.execPioAddj k reg delta target s
  | .pioLdi k reg value => Sys2Proof.Machine.execPioLdi k reg value s
  | .pioPut k reg reload => Sys2Proof.Machine.execPioPut k reg reload s
  | .pioGet k reg => Sys2Proof.Machine.execPioGet k reg s
  | .pioSetx k mask => Sys2Proof.Machine.execPioSetx k mask s
  | .pioIrq k => Sys2Proof.Machine.execPioIrq k s
  | .pioHalt k => Sys2Proof.Machine.execPioHalt k s
  | .twPointerSet p => Sys2Proof.Machine.execTwPointerSet p s
  | .repeatedStart rest => Sys2Proof.Machine.execRepeatedStart rest s
  | .twStuckLineClear sda => Sys2Proof.Machine.execTwStuckLineClear sda s
  | .phaseShedding active => Sys2Proof.Machine.execPhaseShedding active s
  | .beaconTransmit => Sys2Proof.Machine.execBeaconTransmit s
  | .pdelayReqTransmit => Sys2Proof.Machine.execPdelayReqTransmit s

end Sys2Proof.Machine
end

