-- ==== Sys2Proof/Machine/Tick.lean ====
section
/-!
DEFINITION. What the block does with no command waiting: the command layer executes the host command in its executing
place (R254), else one base tick passes (R36).
-/
namespace Sys2Proof.Machine

/-- The command an opcode of Table 11.4 names. -/
def commandOf (op : Nat) (r : Req) : Option Instr :=
  match op with
  | 0x00 => some (.nop r)
  | 0x01 => some (.identify r)
  | 0x02 => some (.abort r)
  | 0x03 => some (.read r)
  | 0x04 => some (.write r)
  | 0x05 => some (.modify r)
  | 0x10 => some (.imgBegin r)
  | 0x11 => some (.imgWrite r)
  | 0x12 => some (.imgVerify r)
  | 0x13 => some (.imgActivate r)
  | 0x14 => some (.settingsWrite r)
  | 0x15 => some (.settingsApply r)
  | 0x16 => some (.revert r)
  | 0x17 => some (.bootStatus r)
  | 0x20 => some (.setProfile r)
  | 0x21 => some (.setRanges r)
  | 0x22 => some (.arrayStatus r)
  | 0x23 => some (.setCalDelta r)
  | 0x24 => some (.sentinelConfig r)
  | 0x30 => some (.setPreset r)
  | 0x31 => some (.coeffWrite r)
  | 0x32 => some (.coeffCommit r)
  | 0x33 => some (.bankSelect r)
  | 0x34 => some (.decimSync r)
  | 0x35 => some (.notchConfig r)
  | 0x40 => some (.emLoad r)
  | 0x41 => some (.emConfig r)
  | 0x42 => some (.emStart r)
  | 0x43 => some (.emStop r)
  | 0x44 => some (.emParam r)
  | 0x45 => some (.emReadState r)
  | 0x46 => some (.emCrc r)
  | 0x50 => some (.recEnable r)
  | 0x51 => some (.recConfig r)
  | 0x52 => some (.recWheel r)
  | 0x53 => some (.recClear r)
  | 0x54 => some (.recRead r)
  | 0x60 => some (.safeArm r)
  | 0x61 => some (.safeHeartbeat r)
  | 0x62 => some (.safeDisarm r)
  | 0x63 => some (.safeFaultClear r)
  | 0x64 => some (.safeConfig r)
  | 0x65 => some (.safeStatus r)
  | 0x70 => some (.queueRead r)
  | 0x71 => some (.queueFlush r)
  | 0x72 => some (.queueConfig r)
  | 0x73 => some (.ringConfig r)
  | 0x74 => some (.ringTrigger r)
  | 0x75 => some (.ringRead r)
  | 0x76 => some (.ringRelease r)
  | 0x80 => some (.powerVote r)
  | 0x81 => some (.nightConfig r)
  | 0x82 => some (.powerStatus r)
  | 0x83 => some (.convConfig r)
  | 0x84 => some (.convStatus r)
  | 0x90 => some (.timeGet r)
  | 0x91 => some (.timeSet r)
  | 0x92 => some (.timeAdjust r)
  | 0x93 => some (.timeConfig r)
  | 0x94 => some (.tsRead r)
  | 0xA0 => some (.pairConfig r)
  | 0xA1 => some (.pairJoin r)
  | 0xA2 => some (.pairLeave r)
  | 0xA3 => some (.pairStatus r)
  | 0xB0 => some (.pioLoad r)
  | 0xB1 => some (.pioStart r)
  | 0xB2 => some (.pioStop r)
  | 0xB3 => some (.pioInject r)
  | 0xB4 => some (.pioConfig r)
  | 0xB5 => some (.pioStatus r)
  | 0xC0 => some (.hkSequence r)
  | 0xC1 => some (.hkWindow r)
  | 0xC2 => some (.hkRead r)
  | 0xC3 => some (.hkStatus r)
  | 0xD0 => some (.selftest r)
  | 0xD1 => some (.reinstate r)
  | 0xD2 => some (.triadRead r)
  | _ => none

/-- The opcode and the request of a host command. -/
def requestOf (c : Instr) : Option (Nat × Req) :=
  match c with
  | .nop r => some (0x00, r)
  | .identify r => some (0x01, r)
  | .abort r => some (0x02, r)
  | .read r => some (0x03, r)
  | .write r => some (0x04, r)
  | .modify r => some (0x05, r)
  | .imgBegin r => some (0x10, r)
  | .imgWrite r => some (0x11, r)
  | .imgVerify r => some (0x12, r)
  | .imgActivate r => some (0x13, r)
  | .settingsWrite r => some (0x14, r)
  | .settingsApply r => some (0x15, r)
  | .revert r => some (0x16, r)
  | .bootStatus r => some (0x17, r)
  | .setProfile r => some (0x20, r)
  | .setRanges r => some (0x21, r)
  | .arrayStatus r => some (0x22, r)
  | .setCalDelta r => some (0x23, r)
  | .sentinelConfig r => some (0x24, r)
  | .selftest r => some (0xD0, r)
  | .reinstate r => some (0xD1, r)
  | .triadRead r => some (0xD2, r)
  | .setPreset r => some (0x30, r)
  | .coeffWrite r => some (0x31, r)
  | .coeffCommit r => some (0x32, r)
  | .bankSelect r => some (0x33, r)
  | .decimSync r => some (0x34, r)
  | .notchConfig r => some (0x35, r)
  | .emLoad r => some (0x40, r)
  | .emConfig r => some (0x41, r)
  | .emStart r => some (0x42, r)
  | .emStop r => some (0x43, r)
  | .emParam r => some (0x44, r)
  | .emReadState r => some (0x45, r)
  | .emCrc r => some (0x46, r)
  | .recEnable r => some (0x50, r)
  | .recConfig r => some (0x51, r)
  | .recWheel r => some (0x52, r)
  | .recClear r => some (0x53, r)
  | .recRead r => some (0x54, r)
  | .safeArm r => some (0x60, r)
  | .safeHeartbeat r => some (0x61, r)
  | .safeDisarm r => some (0x62, r)
  | .safeFaultClear r => some (0x63, r)
  | .safeConfig r => some (0x64, r)
  | .safeStatus r => some (0x65, r)
  | .queueRead r => some (0x70, r)
  | .queueFlush r => some (0x71, r)
  | .queueConfig r => some (0x72, r)
  | .ringConfig r => some (0x73, r)
  | .ringTrigger r => some (0x74, r)
  | .ringRead r => some (0x75, r)
  | .ringRelease r => some (0x76, r)
  | .powerVote r => some (0x80, r)
  | .nightConfig r => some (0x81, r)
  | .powerStatus r => some (0x82, r)
  | .convConfig r => some (0x83, r)
  | .convStatus r => some (0x84, r)
  | .timeGet r => some (0x90, r)
  | .timeSet r => some (0x91, r)
  | .timeAdjust r => some (0x92, r)
  | .timeConfig r => some (0x93, r)
  | .tsRead r => some (0x94, r)
  | .pairConfig r => some (0xA0, r)
  | .pairJoin r => some (0xA1, r)
  | .pairLeave r => some (0xA2, r)
  | .pairStatus r => some (0xA3, r)
  | .pioLoad r => some (0xB0, r)
  | .pioStart r => some (0xB1, r)
  | .pioStop r => some (0xB2, r)
  | .pioInject r => some (0xB3, r)
  | .pioConfig r => some (0xB4, r)
  | .pioStatus r => some (0xB5, r)
  | .hkSequence r => some (0xC0, r)
  | .hkWindow r => some (0xC1, r)
  | .hkRead r => some (0xC2, r)
  | .hkStatus r => some (0xC3, r)
  | _ => none

/-- One base tick of 25 us (R36, R112): the tick index and module time advance, the PIO engines run their 1200 cycles,
and each machine ends its run and begins the next that waits. Nothing of this runs outside Noon. -/
def State.baseTick (s : State) : State :=
  if ¬ s.aon ∨ ¬ s.noon then s
  else
    let s := ({ s with tick := (s.tick + 1) % 2 ^ 64 }).setTime (s.time + s.tickAdvance)
    let s := if s.pio.any (·.state == 1) then s.pioRun 1200 else s
    s.forUpTo (fun n s => (s.endOpen n).openNext n) 32

/-- The host command that is due where no command waits. -/
def State.dueCommand (s : State) : Option Instr := s.link.executing.bind fun q => commandOf q.opcode q.req

end Sys2Proof.Machine
end

