-- ==== Sys2Proof/Safety.lean ====
section
/-!
DEFINITION. What counts as safe, and the words that claims are made of: canonical register files, safety outputs that are
on only with permission, and what a command does and leaves alone.
-/
namespace Sys2Proof.Machine

/-- Registers and latched words stand in their canonical form, so equal contents are equal data. -/
def Canon (regs latch : RegFile) : Prop := regs.wf = true ∧ latch.wf = true

/-- The form of a whole state. -/
def State.Canonical (s : State) : Prop := Canon s.regs s.latch

/-- Both safety outputs are off (R204). -/
def State.SafeOff (s : State) : Prop := s.fld SAFE_STATE.A_ON = 0 ∧ s.fld SAFE_STATE.B_ON = 0

/-- A safety output is on only in ARMED (R204, R208). -/
def State.OutputsPermitted (s : State) : Prop :=
  s.on SAFE_STATE.A_ON = true ∨ s.on SAFE_STATE.B_ON = true → s.safeState = ARMED

/-- The command completes: neither a fault nor a refusal. -/
def Completes (c : Instr) (s : State) : Prop := ∃ t, exec c s = .next t

/-- The command answers a next state, and that state is as `P` says. -/
def Does (c : Instr) (s : State) (P : State → Prop) : Prop := ∃ t, exec c s = .next t ∧ P t

/-- A word with one field stored and every other bit unchanged. -/
def putF (f : Fld) (v : Nat) (w : Word) : Word := putBits w f.lo f.width v

/-- The registers in which the interrupt controller keeps what is pending and what it has merged (Table 19.3). -/
def pendRegs : List Nat :=
  [Reg.INT_HOST_PEND 0, Reg.INT_HOST_PEND 1, Reg.INT_HOST_PEND 2, Reg.INT_HOST_PEND 3, Reg.INT_CP_PEND 0,
    Reg.INT_CP_PEND 1, Reg.INT_CP_PEND 2, Reg.INT_CP_PEND 3, Reg.INT_HOST_COUNTS, Reg.INT_CP_COUNTS]

/-- Every register is unchanged but those named, and those a posted interrupt source may change. -/
def RegFrame (as : List Nat) (s t : State) : Prop := ∀ a, a ∉ as → a ∉ pendRegs → t.reg a = s.reg a

/-- Nothing is changed but registers, and the mark that ALERT_N's release has come to an end. -/
def RegsOnly (s t : State) : Prop := t = { s with regs := t.regs, tw := { s.tw with quiet := t.tw.quiet } }

/-- Source `n` is pending in each target that enables it; the controller runs in Noon alone (R399, R401). -/
def Pended (n : Nat) (s t : State) : Prop :=
  s.noon = true → ∀ g : Target, s.fld (g.en n) ≠ 0 → t.on (g.pend n) = true

/-- Bit `k` of events register `a` is set, and its source is posted (R400, R401). -/
def Raised (a k : Nat) (s t : State) : Prop := t.on (bitF a k) = true ∧ Pended (sourceOf a k) s t

/-- The source a claim takes (R402): pending and enabled, of the highest EN, and the lowest number among equals. -/
def Claimable (s : State) (g : Target) (n : Nat) : Prop :=
  n < 128 ∧ s.on (g.pend n) = true ∧ s.enLevel g n ≠ 0 ∧
    ∀ m < 128, s.on (g.pend m) = true →
      s.enLevel g m ≤ s.enLevel g n ∧ (s.enLevel g m = s.enLevel g n → n ≤ m)

/-- Nothing enabled is pending. -/
def NothingPends (s : State) (g : Target) : Prop := ∀ m < 128, s.on (g.pend m) = true → s.enLevel g m = 0

/-- The registers whose write stores its writable bits and does nothing more (access RW of R419). -/
def plainRegs : List Nat :=
  [Reg.PWR_HOST_VOTE, Reg.QUEUE_HK, Reg.CAP_DESC 0, Reg.CAP_DESC 1, Reg.CAP_DESC 2, Reg.CAP_DESC 3, Reg.STREAM_DEST_LO,
    Reg.STREAM_DEST_HI, Reg.TW_CTRL, Reg.TW_ALERT, Reg.PIO_PMEM_ADDR, Reg.VOTE_CTRL, Reg.TRIAD_SEL, Reg.EM_SEL,
    Reg.EM_PMEM_ADDR, Reg.XING_SEL]

/-- The registers without stored writable bits whose write acts: commands and windows of words. -/
def actsOnWrite : List Nat :=
  [Reg.MBX_CTRL, Reg.INT_DOORBELL, Reg.INT_HOST_COMPLETE, Reg.INT_HOST_SET, Reg.QUEUE_CMD, Reg.RING_CMD, Reg.SAFE_HB,
    Reg.SAFE_CMD, Reg.EM_START, Reg.EM_STOP, Reg.EM_PMEM_DATA, Reg.PIO_PMEM_DATA, Reg.PIO_MPORT 0, Reg.PIO_MPORT 1,
    Reg.PIO_MPORT 2, Reg.PIO_MPORT 3]

/-- A read of a latching register (R422): its word goes to the reader and its set is latched as it stands. -/
def LatchingRead (a : Nat) (s t : State) : Prop :=
  t.busOut = s.readValue a ∧ (∀ b ∈ followers a, t.latch.get b = s.liveWord b) ∧
    (∀ b, b ∉ followers a → t.latch.get b = s.latch.get b) ∧ (∀ b, b ∉ [Reg.TW_STATUS, Reg.TW_PAGE] → t.reg b = s.reg b) ∧
    t = { s with regs := t.regs, latch := t.latch, busOut := t.busOut, tw := t.tw }

/-- Pending and active bits of a target, but for one source, are as before. -/
def OtherSources (g : Target) (n : Nat) (s t : State) : Prop :=
  ∀ m < 128, m ≠ n → t.fld (g.pend m) = s.fld (g.pend m) ∧ t.fld (g.active m) = s.fld (g.active m)

/-- The registers that a bus access moves beside its own effect: BUSY and the pointer (R294). -/
def busRegs : List Nat := [Reg.TW_STATUS, Reg.TW_PAGE]

/-- Nothing is changed but registers, the word on the bus, and what the two-wire target keeps of its transaction. -/
def BusOnly (s t : State) : Prop := t = { s with regs := t.regs, busOut := t.busOut, tw := t.tw }

/-- Bytes have gone to an origin: held in the mailbox, with MBX_EVENTS.REPLY set, or padded in one T1S frame (R250,
R252). -/
def Delivered (o : Origin) (bs : List Byte) (s t : State) : Prop :=
  match o with
  | .twoWire => t.link.replies = s.link.replies ++ [bs] ∧ Raised Reg.MBX_EVENTS 0 s t
  | .t1s mac => t.link.txFrames = s.link.txFrames ++
      [{ etherType := CMD_ETHERTYPE, dest := mac, payload := padFrame bs }]

/-- The reply of a host command has gone to its origin, with a status and reply data, unless the host has asked for the
discard of its two-wire reply (Table 11.9). -/
def Replied (op : Nat) (r : Req) (status : Nat) (data : List Byte) (s t : State) : Prop :=
  (r.origin = .twoWire → (s.finish op r).2 = false) → Delivered r.origin (packet status r.tag.toNat data) s t

/-- The host commands whose meaning is the common judgement alone: the row, and its definition (Table 11.4). -/
def hostCommands : List ((Req → Instr) × Cmd) :=
  [(.nop, cmdNop), (.identify, cmdIdentify), (.abort, cmdAbort),
      (.read, cmdRead), (.write, cmdWrite), (.modify, cmdModify),
      (.settingsWrite, cmdSettingsWrite), (.bootStatus, cmdBootStatus), (.setProfile, cmdSetProfile),
      (.setRanges, cmdSetRanges), (.arrayStatus, cmdArrayStatus), (.setCalDelta, cmdSetCalDelta),
      (.sentinelConfig, cmdSentinelConfig), (.selftest, cmdSelftest), (.reinstate, cmdReinstate),
      (.triadRead, cmdTriadRead), (.setPreset, cmdSetPreset), (.coeffWrite, cmdCoeffWrite)]
    ++ [(.coeffCommit, cmdCoeffCommit), (.bankSelect, cmdBankSelect), (.decimSync, cmdDecimSync),
      (.notchConfig, cmdNotchConfig), (.emLoad, cmdEmLoad), (.emConfig, cmdEmConfig),
      (.emStart, cmdEmStart), (.emStop, cmdEmStop), (.emParam, cmdEmParam),
      (.emReadState, cmdEmReadState), (.emCrc, cmdEmCrc), (.recEnable, cmdRecEnable),
      (.recConfig, cmdRecConfig), (.recWheel, cmdRecWheel), (.recClear, cmdRecClear),
      (.recRead, cmdRecRead), (.safeDisarm, cmdSafeDisarm), (.safeFaultClear, cmdSafeFaultClear)]
    ++ [(.safeStatus, cmdSafeStatus), (.queueRead, cmdQueueRead), (.queueFlush, cmdQueueFlush),
      (.queueConfig, cmdQueueConfig), (.ringConfig, cmdRingConfig), (.ringRead, cmdRingRead),
      (.ringRelease, cmdRingRelease), (.powerVote, cmdPowerVote), (.nightConfig, cmdNightConfig),
      (.powerStatus, cmdPowerStatus), (.convConfig, cmdConvConfig), (.convStatus, cmdConvStatus),
      (.timeSet, cmdTimeSet), (.timeAdjust, cmdTimeAdjust), (.timeConfig, cmdTimeConfig),
      (.tsRead, cmdTsRead), (.pairConfig, cmdPairConfig), (.pairJoin, cmdPairJoin)]
    ++ [(.pairLeave, cmdPairLeave), (.pairStatus, cmdPairStatus), (.pioLoad, cmdPioLoad),
      (.pioStart, cmdPioStart), (.pioStop, cmdPioStop), (.pioInject, cmdPioInject),
      (.pioConfig, cmdPioConfig), (.pioStatus, cmdPioStatus), (.hkSequence, cmdHkSequence),
      (.hkWindow, cmdHkWindow), (.hkRead, cmdHkRead), (.hkStatus, cmdHkStatus)]

/-- The command queue and the duplicate cache stay. -/
def QueueKept (s t : State) : Prop :=
  t.link.executing = s.link.executing ∧ t.link.waiting = s.link.waiting ∧ t.link.cache = s.link.cache

/-- The reply data of a command fits the frame limit of R253 where that limit binds. -/
def Fits (c : Cmd) (r : Req) (s : State) : Prop := s.frameLimited r.origin = true → (c.effect r s).2.length ≤ 274

/-- Nothing is changed but the command layer, registers, and the mark that ALERT_N's release has come to an end. -/
def ReplyOnly (s t : State) : Prop :=
  t = { s with regs := t.regs, link := t.link, tw := { s.tw with quiet := t.tw.quiet } }

/-- The registers a commit may change beside what a post changes (R231 to R238). -/
def commitRegs : List Nat := [Reg.QUEUE_EVENTS, Reg.QUEUE_DROPS, Reg.RING_STATUS, Reg.RING_CAP_START]

/-- The registers a path to SAFE off may change beside what a post changes. -/
def safeRegs : List Nat :=
  [Reg.SAFE_STATE, Reg.SAFE_TRIP, Reg.SAFE_TRIP_TICK_LO, Reg.SAFE_TRIP_TICK_HI, Reg.SAFE_EVENTS, Reg.SAFE_COUNTS,
    Reg.SAFE_MON_STATUS] ++ commitRegs

/-- A record has entered the queue, in its order of SEQ: in Imago during Noon, where no drop state stands and the record
finds room (R230, R232). -/
def Commits (r : Rec) (s t : State) : Prop :=
  s.noon = true → s.imago = true → s.queue.drop = none → r.size ≤ s.freeWords →
    (s.queue.visible ++ [{ tick := r.tick, words := r.words s.queue.seq.toNat }]) <+: t.queue.visible

/-- Nothing is changed but registers, the safety function, the pins, the two stores of records, and ALERT_N's mark. -/
def SafeParts (s t : State) : Prop :=
  t = { s with
    regs := t.regs, safety := t.safety, pins := t.pins, queue := t.queue, ring := t.ring
    tw := { s.tw with quiet := t.tw.quiet } }

/-- Nothing is changed but registers, the two stores of records, and ALERT_N's mark. -/
def StoresOnly (s t : State) : Prop :=
  t = { s with regs := t.regs, queue := t.queue, ring := t.ring, tw := { s.tw with quiet := t.tw.quiet } }

/-- A path to SAFE off has acted (R213): both outputs off, both copies of the state at the next one, the cause recorded
with its tick, one STATUS record. -/
def PathActed (cause next : Nat) (s t : State) : Prop :=
  t.SafeOff ∧ t.safeState = next ∧ t.fld SAFE_STATE.MON_STATE = next ∧
    t.reg Reg.SAFE_TRIP = w32 (cause + 2 ^ 16 * 0xFF) ∧ t.reg Reg.SAFE_TRIP_TICK_LO = w32 s.tick ∧
    t.reg Reg.SAFE_TRIP_TICK_HI = w32 (s.tick / 2 ^ 32) ∧
    Commits (s.safeRec (if next = S_FAULT then 0x33 else if next = DISARMED then 0x32 else 0x30) cause 0 0xFF s.tick) s t ∧
    (next = TRIPPED → Raised Reg.SAFE_EVENTS 0 s t) ∧ RegFrame safeRegs s t ∧ SafeParts s t

/-- PIO engine `k` stands as given; the other engines stay. -/
def EngineIs (k : Nat) (e : PioEngine) (s t : State) : Prop :=
  t.pioEngine k = e ∧ ∀ j, j ≠ k → t.pioEngine j = s.pioEngine j

/-- The pins an instruction of engine `k` with a pin mask reaches: owned, and not held at their safe level (R387, R391). -/
def State.reached (s : State) (k : Nat) (mask : BitVec 6) : Nat := mask.toNat &&& s.owned k &&& (63 - s.pins.held)

/-- Dawn has begun for a wake of a code, with the pins that contributed (R352, R353); VAUX may start beside it. -/
def DawnStarted (code pins : Nat) (s t : State) : Prop :=
  t.fld PWR_STATE.STATE = 3 ∧ t.fld PWR_STATE.LAST_WAKE = code ∧ t.fld PWR_STATE.WAKE_PINS = pins ∧ t.power.wakes = [] ∧
    t.array = s.array ∧ t.queue = s.queue ∧ t.ring = s.ring ∧
    RegFrame [Reg.PWR_STATE, Reg.TW_STATUS, Reg.CONV_STATUS, Reg.PHASE_STATUS, Reg.CONV_COUNTS, Reg.CONV_EVENTS] s t

/-- What a control-pair reset in Noon leaves (R219, R286, R259, R248): Larva with the restart owed, LOCKED with both
outputs off from every state the path acts in, the pins at their safe levels, and the command layer empty. -/
def AfterPairReset (s t : State) : Prop :=
  t.stage = LARVA ∧ t.fld BOOT_STAGE.ENTRY = 4 ∧ t.boot.restarting = true ∧ t.on SAFE_MON_STATUS.CP_RESET = true ∧
    (s.armed = true ∨ s.safeState = DISARMED ∨ s.safeState = TRIPPED → t.SafeOff ∧ t.safeState = LOCKED) ∧
    t.pins.held % 64 = 63 ∧ t.link.executing = none ∧ t.link.waiting = [] ∧ t.link.replies = [] ∧ t.link.cache = [] ∧
    (∀ n < 128, t.fld (Target.cp.active n) = 0) ∧ t.queue.visible = [] ∧ t.boot.staged = []

/-- The registers a reply may change beside those of its command: the mailbox's events and counts (R250). -/
def replyRegs : List Nat := [Reg.MBX_EVENTS, Reg.MBX_COUNTS]

/-- Triad `k` stands as given; the other triads stay. -/
def TriadIs (k : Nat) (tr : Triad) (s t : State) : Prop := t.triad k = tr ∧ ∀ j, j ≠ k → t.triad j = s.triad j

/-- The lists that stand for a fixed number of like things have that many entries. -/
def State.Shaped (s : State) : Prop :=
  s.array.triads.length = 72 ∧ s.array.chans.length = 216 ∧ s.array.axes.length = 6 ∧ s.filt.sets.length = 20 ∧
    s.eng.machs.length = 32 ∧ s.eng.dec.length = 9 ∧ s.pio.length = 4 ∧ s.hk.entries.length = 16 ∧
    ∀ e ∈ s.eng.ticks, e.done.length = 9

/-- Nothing is changed but registers, the array, and ALERT_N's mark. -/
def ArrayOnly (s t : State) : Prop :=
  t = { s with regs := t.regs, array := t.array, tw := { s.tw with quiet := t.tw.quiet } }

/-- Nothing is changed but registers, the array, the records that wait for their tick, and ALERT_N's mark. -/
def ArrayAndHeld (s t : State) : Prop :=
  t = { s with regs := t.regs, array := t.array, held := t.held, tw := { s.tw with quiet := t.tw.quiet } }

/-- One record more waits for the commit point of tick `at_`. -/
def Holds (typ at_ : Nat) (s t : State) : Prop :=
  ∃ h : HeldRec, t.held = s.held ++ [h] ∧ h.typ = typ ∧ h.tick = at_

/-- Machine `n` stands as given; the other machines stay. -/
def MachIs (n : Nat) (m : Mach) (s t : State) : Prop := t.mach n = m ∧ ∀ j, j ≠ n → t.mach j = s.mach j

/-- No recognizer's decision is owed for the last fast sample: the recognizers that come first (R134) change nothing. -/
def NothingDue (s : State) : Prop := s.finishAllDue = s

/-- The run `r` of machine `n` has executed word `w`: counted, traced, its live state and next address as given. -/
def Mach.ran (m : Mach) (r : OpenRun) (w : Word) (taken opened : Bool) (outs : List Output) (live : MState) (pc : Nat) :
    Mach :=
  { m with run := some { r with
      pc := m.wrap pc, live := live, count := r.count + 1, opened := opened, outs := outs
      trace := r.trace ++ [⟨r.pc, w, taken⟩] } }

/-- A machine's instruction has changed its run alone. -/
def RunGoes (n : Nat) (r : OpenRun) (w : Word) (live : MState) (pc : Nat) (s t : State) : Prop :=
  t = s.setMach n fun m => m.ran r w true r.opened r.outs live pc

/-- An output of machine `n` has been carried out by `f`, once; its run goes on at the next word, its state unchanged. -/
def RunActs (n : Nat) (r : OpenRun) (w : Word) (f : State → State) (s t : State) : Prop :=
  t = ((f s).setMach n fun m => m.ran r w true r.opened r.outs r.live (r.pc + 1)).poolPeak

/-- An output of a speculative run is held with the run, and nothing acts yet; the run is an open checkpoint. -/
def RunHolds (n : Nat) (r : OpenRun) (w : Word) (e : Effect) (s t : State) : Prop :=
  t = (s.setMach n fun m => m.ran r w true true (r.outs ++ [⟨r.pc, e⟩]) r.live (r.pc + 1)).poolPeak

/-- The settings that wait for the next tick t_p, if there are any (R200). -/
def State.waitingCfg (s : State) : Option RecCfg :=
  s.eng.cfgs.getLast?.filter fun c => !c.applied && c.tp == s.nextFast

/-- The settings that the registers now hold wait for t_p, with a clear mask, in place of others that wait for it. -/
def SettingsWait (clear : Nat) (s t : State) : Prop :=
  t.eng = { s.eng with
    cfgs := s.eng.cfgs.take (s.eng.cfgs.length - b01 s.waitingCfg.isSome)
      ++ [t.snapCfg s.nextFast ((s.waitingCfg.map (·.clear)).getD 0 ||| clear)] }

/-- A register's writable bits stored from a word. -/
def stored (s : State) (a : Nat) (w : Word) : Word := (s.reg a &&& ~~~ rwMask a) ||| (w &&& rwMask a)

/-- The first frame sent since `s`. -/
def newFrame (s t : State) : Frame :=
  t.link.txFrames.getD s.link.txFrames.length { etherType := 0, dest := 0, payload := [] }

/-- A frame is a stream type 3 message to `dest`, as module `s` sends it (Table 15.2). -/
def PairMsg (msg reason time : Nat) (dest : BitVec 48) (s : State) (f : Frame) : Prop :=
  f.etherType = STREAM_ETHERTYPE ∧ f.dest = dest ∧ f.payload.length = 48 ∧ byteAt f.payload 0 = 3 ∧
    half f.payload 2 = s.t1s.seq3.toNat ∧ byteAt f.payload 8 = msg ∧ byteAt f.payload 9 = reason ∧
    byteAt f.payload 10 = s.preset ∧ byteAt f.payload 11 = s.profile ∧ numAt f.payload 12 12 = time ∧
    numAt f.payload 24 4 = s.fld FILT_DELAY_NS.NS ∧ half f.payload 28 = s.fld FILT_DELAY_FRAC.FRAC ∧
    posOf f.payload = s.ownPos

/-- That message is all that has been sent, and counted in its stream. -/
def PairSent (msg reason time : Nat) (dest : BitVec 48) (s t : State) : Prop :=
  t.link.txFrames = s.link.txFrames ++ [newFrame s t] ∧ PairMsg msg reason time dest s (newFrame s t) ∧
    t.t1s.seq3 = s.t1s.seq3 + 1

/-- A join is in progress for boundary `b` (R331, R332, R339). -/
def Joining (b : Nat) (s t : State) : Prop :=
  t.pairState = P_JOINING ∧ t.pairRole = s.pairRole ∧ t.boundaryTick = b ∧ t.on T1S_STATUS.PAIR_LIMIT = true ∧
    t.on PAIR_STATE.SYNC_LOST = false ∧ (t.on PAIR_STATE.PTP_ONLY = false ↔ s.boot.syncRole = 2) ∧
    t.pair.tries = 0 ∧ t.pair.acked = false ∧ t.pair.waiting = [] ∧ t.pair.contribs = [] ∧ t.pair.ready = []

/-- No join or pair is in progress: IDLE, the frame limit gone, the own time source back (R330, R340). -/
def PairOver (t : State) : Prop :=
  t.pairState = P_IDLE ∧ t.on T1S_STATUS.PAIR_LIMIT = false ∧ t.fld PAIR_STATE.MISSED = 0 ∧ t.pair.waiting = [] ∧
    t.pair.contribs = [] ∧ t.pair.ready = [] ∧ t.pair.announced = none ∧ t.mtime.override = false

/-- A join has failed (R339): event and no record. -/
def JoinFailed (s t : State) : Prop := PairOver t ∧ Raised Reg.PAIR_EVENTS 0 s t ∧ t.held = s.held

/-- A pair has ended for a cause (R340): its record waits with word 4 the module's own factors, LEAVE is counted. -/
def PairEnded (cause : Nat) (s t : State) : Prop :=
  PairOver t ∧ t.fld PAIR_STATE.CAUSE = cause ∧ Raised Reg.PAIR_EVENTS 1 s t ∧
    t.fld PAIR_COUNTS.LEAVES = min (s.fld PAIR_COUNTS.LEAVES + 1) 255 ∧ t.reg Reg.PAIR_NOISE = s.reg Reg.VOTE_NOISE ∧
    t.held.getLast? = some { rank := 5, key := 0, typ := T_STATUS, tick := s.voteTick, payload :=
      [w32 (0x41 + 256 * s.fld PAIR_STATE.NODE)] ++ loHi s.lackTick ++ [s.reg Reg.VOTE_NOISE] }

/-- The register of the pair that its protocol moves. -/
def pairRegs : List Nat :=
  [Reg.PAIR_STATE, Reg.PAIR_EVENTS, Reg.PAIR_COUNTS, Reg.PAIR_NOISE, Reg.PAIR_DELTA, Reg.T1S_STATUS, Reg.TIME_STATUS,
    Reg.PAIR_BOUNDARY_LO, Reg.PAIR_BOUNDARY_HI, Reg.PAIR_LEVER 0, Reg.PAIR_LEVER 1, Reg.PAIR_LEVER 2]

end Sys2Proof.Machine
end

