-- ==== Sys2Proof/WellFormed.lean ====
section
/-!
DEFINITION. What a command must satisfy beyond its type: the shape in which the hardware always delivers it.
-/
namespace Sys2Proof

/-- Parameter bytes of a request: LENGTH is at most 1016 (R245, R249). -/
def Req.wellFormed (r : Req) : Bool := decide (r.params.length ≤ 1016)

/-- The 216 channels of one sample (R48). -/
def sampleShape (n : Nat) : Bool := n == 216

/-- The shape of a command. -/
def Instr.wellFormed : Instr → Bool
  | .committedVote _ xs => sampleShape xs.length
  | .fastSampleArrival _ xs => sampleShape xs.length
  -- a register is a word of an assigned page (R417)
  | .registerWrite _ addr _ => addr.toNat % 4 == 0 && decide (addr.toNat / 256 ≤ 0x11)
  -- the mailbox takes at most a header, 1016 bytes and the CRC (R249); a T1S payload at most 1500 bytes (R252)
  | .requestReceived .twoWire bytes _ => decide (bytes.length ≤ 1024)
  | .requestReceived (.t1s _) bytes _ => decide (bytes.length ≤ 1500)
  -- host commands
  | .nop r | .identify r | .abort r | .read r | .write r | .modify r | .imgBegin r | .imgWrite r | .imgVerify r
  | .imgActivate r | .settingsWrite r | .settingsApply r | .revert r | .bootStatus r | .setProfile r
  | .setRanges r | .arrayStatus r | .setCalDelta r | .sentinelConfig r | .selftest r | .reinstate r
  | .triadRead r | .setPreset r | .coeffWrite r | .coeffCommit r | .bankSelect r | .decimSync r
  | .notchConfig r | .emLoad r | .emConfig r | .emStart r | .emStop r | .emParam r | .emReadState r | .emCrc r
  | .recEnable r | .recConfig r | .recWheel r | .recClear r | .recRead r | .safeArm r | .safeHeartbeat r
  | .safeDisarm r | .safeFaultClear r | .safeConfig r | .safeStatus r | .queueRead r | .queueFlush r
  | .queueConfig r | .ringConfig r | .ringTrigger r | .ringRead r | .ringRelease r | .powerVote r
  | .nightConfig r | .powerStatus r | .convConfig r | .convStatus r | .timeGet r | .timeSet r | .timeAdjust r
  | .timeConfig r | .tsRead r | .pairConfig r | .pairJoin r | .pairLeave r | .pairStatus r | .pioLoad r
  | .pioStart r | .pioStop r | .pioInject r | .pioConfig r | .pioStatus r | .hkSequence r | .hkWindow r
  | .hkRead r | .hkStatus r => r.wellFormed
  | _ => true

end Sys2Proof
end

