-- ==== Sys2Proof/Certificates/Slice0/Obligations.lean ====
section
/-!
DEFINITION. The statements for the provers, each from the rules of spec/ it cites.
-/
open Sys2Proof Sys2Proof.Machine

/-- For every command c and state s with c at the front of its queue, one step of s is exec of c on s with the queue's
rest. -/
def Obligations.StepRunsTheFrontCommand : Prop :=
  ∀ (c : Instr) (rest : List Instr) (s : State), s.pending = c :: rest → step s = exec c { s with pending := rest }

/-- On an empty queue a step executes the host command in the executing place (R254) where there is one; else it
passes one base tick of 25 us, and in Noon the tick index goes up by one modulo 2^64. That time passes in a step of
its own is the model's DESIGN CHOICE (assumptions 3 and 4). -/
def Obligations.StepWithNothingWaiting : Prop :=
  ∀ s : State, s.pending = [] →
    (∀ q c, s.link.executing = some q → commandOf q.opcode q.req = some c → step s = exec c s) ∧
    (s.link.executing = none → step s = .next s.baseTick) ∧
    (s.link.executing = none → (s.aon = false ∨ s.noon = false) → step s = .next s)

/-- State.reset satisfies the invariant that every step keeps: its register file and its latched words list no
register twice, in rising order, and no register at its reset word. -/
def Obligations.ResetIsCanonical : Prop := State.reset.Canonical

/-- From every state whose register file and latched words are canonical (addresses strictly rising, no entry equal to
the reset word of Table 20.2), every step of every command and every base tick leads to a state in which they are
canonical, so equal register contents stay equal data. -/
def Obligations.StepKeepsCanonical : Prop :=
  ∀ s t : State, s.Canonical → step s = .next t → t.Canonical

/-- While the AON supply is absent the module is wholly lost (R222): every well-formed command but POWER_UP completes
and leaves the state as it is, which is the model's DESIGN CHOICE (assumption 2); AON_SUPPLY_LOSS leaves exactly that
state, with the module as after a power cycle. -/
def Obligations.NothingHappensWithoutTheAonSupply : Prop :=
  (∀ (c : Instr) (s : State), s.aon = false → c.wellFormed = true → (∀ b, c ≠ .powerUp b) → exec c s = .next s) ∧
  (∀ s : State, s.aon = true →
    exec .aonSupplyLoss s = .next { State.reset with aon := false, pending := s.pending, free := s.free })

/-- No well-formed command faults or is refused by the model in any state: exec answers a next state for every row of
the command table. A list of channel values of a wrong length, which no hardware event has, is the only thing that
stops. -/
def Obligations.EveryCommandCompletes : Prop :=
  (∀ (c : Instr) (s : State), c.wellFormed = true → Completes c s) ∧
  (∀ (t : BitVec 64) (xs : List (Word × Bool)) (s : State), xs.length ≠ 216 →
    exec (.committedVote t xs) s = .fault .operandLength ∧ exec (.fastSampleArrival t xs) s = .fault .operandLength)

/-- A host command outside Noon or outside the boot stages of its row is answered WRONG_STATE; with parameters of a
length its row does not allow, BAD_PARAM 0xF2; where one of its own checks fails, what that check says. Its reply over
T1S under the 300-byte limit, were it longer, is REJECTED 0xF1. None of these has any effect but the reply. The
commands that also note a refusal in a register are not among these. -/
def Obligations.HostCommandsAreJudgedAlike : Prop :=
  ∀ p ∈ hostCommands, ∀ (r : Req) (s : State), s.aon = true →
    (¬ (s.noon = true ∧ p.2.stages.contains s.stage = true) →
      Does (p.1 r) s fun t => Replied p.2.op r WRONG_STATE [] s t ∧ RegFrame replyRegs s t ∧ ReplyOnly s t) ∧
    (s.noon = true → p.2.stages.contains s.stage = true → p.2.len r.params = false →
      Does (p.1 r) s fun t => Replied p.2.op r BAD_PARAM (reason 0xF2) s t ∧ RegFrame replyRegs s t ∧ ReplyOnly s t) ∧
    (s.noon = true → p.2.stages.contains s.stage = true → p.2.len r.params = true → ∀ v, p.2.check r s = some v →
      Does (p.1 r) s fun t => Replied p.2.op r v.1 v.2 s t ∧ RegFrame replyRegs s t ∧ ReplyOnly s t) ∧
    (p.2.accepts r s = true → s.frameLimited r.origin = true → 274 < (p.2.effect r s).2.length →
      Does (p.1 r) s fun t => Replied p.2.op r REJECTED (reason 0xF1) s t ∧ RegFrame replyRegs s t ∧ ReplyOnly s t)

/-- In every state in which SAFE_A or SAFE_B is on only in ARMED, whatever the front command is, the next state is
such a state again: no row of the table turns an output on, or leaves one on, outside ARMED. -/
def Obligations.OutputsOnOnlyInArmed : Prop :=
  ∀ s t : State, s.OutputsPermitted → step s = .next t → t.OutputsPermitted

/-- The state after reset is LOCKED with both outputs off, in Larva and Noon, so it is a state in which an output is
on only in ARMED. -/
def Obligations.ResetHasOutputsOff : Prop :=
  State.reset.SafeOff ∧ State.reset.safeState = LOCKED ∧ State.reset.stage = LARVA ∧ State.reset.noon = true ∧
    State.reset.OutputsPermitted

/-- In Noon a claim of either target takes the pending source of the highest EN (3 acts as 2), the lowest number among
equals: its pending bit clears, its active bit sets, every other source's bits and every other register stay; the
host's read returns the source and its EN. With nothing pending the read returns NONE and no register changes but
those a bus transfer moves. Served one after the other, each of two claims meets the state the first has left. -/
def Obligations.ClaimTakesTheBestPendingSource : Prop :=
  ∀ s : State, s.aon = true → s.noon = true →
    (∀ (bytes : Fin 5) (n : Nat), Claimable s .host n →
      Does (.intHostClaim bytes) s fun t =>
        t.busOut = w32 (n + 256 * s.fld (Target.host.en n)) ∧
        t.fld (Target.host.pend n) = 0 ∧ t.fld (Target.host.active n) = 1 ∧ OtherSources .host n s t ∧
        (∀ a, a ∉ busRegs → a ≠ (Target.host.pend n).reg → a ≠ (Target.host.active n).reg → t.reg a = s.reg a) ∧
        BusOnly s t) ∧
    (∀ bytes : Fin 5, NothingPends s .host →
      Does (.intHostClaim bytes) s fun t =>
        t.busOut = 0x80 ∧ (∀ a, a ∉ busRegs → t.reg a = s.reg a) ∧ BusOnly s t) ∧
    (∀ n : Nat, Claimable s .cp n →
      Does .intCpClaim s fun t =>
        t.fld (Target.cp.pend n) = 0 ∧ t.fld (Target.cp.active n) = 1 ∧ OtherSources .cp n s t ∧
        (∀ a, a ≠ (Target.cp.pend n).reg → a ≠ (Target.cp.active n).reg → t.reg a = s.reg a) ∧
        t = { s with regs := t.regs }) ∧
    (NothingPends s .cp → Does .intCpClaim s fun t => t = s)

/-- In Noon a completion of an active source clears its active bit, and where its level is set and its target enables
it the source is pending again; with the level clear nothing becomes pending. A completion of a source that is not
active changes nothing and counts in the target's IGNORED count. -/
def Obligations.CompletionResamplesTheLevel : Prop :=
  ∀ s : State, s.aon = true → s.noon = true →
    (∀ w : Word, s.on (Target.host.active (bits w 0 7)) = true →
      Does (.intHostComplete false w) s fun t =>
        t.fld (Target.host.active (bits w 0 7)) = 0 ∧
        (s.level (bits w 0 7) = true → s.fld (Target.host.en (bits w 0 7)) ≠ 0 → t.on (Target.host.pend (bits w 0 7)) = true) ∧
        (s.level (bits w 0 7) = false → t = s.setF (Target.host.active (bits w 0 7)) 0) ∧
        RegFrame [(Target.host.active (bits w 0 7)).reg] s t ∧ RegsOnly s t) ∧
    (∀ w : Word, s.on (Target.host.active (bits w 0 7)) = false →
      Does (.intHostComplete false w) s fun t => t = s.incSat INT_HOST_COUNTS.IGNORED) ∧
    (∀ n : BitVec 7, s.on (Target.cp.active n.toNat) = true →
      Does (.intCpComplete n) s fun t =>
        t.fld (Target.cp.active n.toNat) = 0 ∧
        (s.level n.toNat = true → s.fld (Target.cp.en n.toNat) ≠ 0 → t.on (Target.cp.pend n.toNat) = true) ∧
        (s.level n.toNat = false → t = s.setF (Target.cp.active n.toNat) 0) ∧
        RegFrame [(Target.cp.active n.toNat).reg] s t ∧ RegsOnly s t) ∧
    (∀ n : BitVec 7, s.on (Target.cp.active n.toNat) = false →
      Does (.intCpComplete n) s fun t => t = s.incSat INT_CP_COUNTS.IGNORED)

/-- In Noon INT_HOST_SET stores one source's EN and leaves every other source's EN: from 0 to a value not 0 a set
level makes the source pending at once, to 0 its pending bit clears, and an active source stays active. INT_HOST_EN_j
stores the sixteen EN it covers. INT_DOORBELL posts sources 120 to 127 in the targets that enable them and counts any
other number in INT_DB_REFUSED, changing nothing else. -/
def Obligations.EnablesAndDoorbells : Prop :=
  ∀ (s : State) (w : Word), s.aon = true → s.noon = true →
    (∀ n v, n = bits w 0 7 → v = bits w 8 2 →
      Does (.intHostSet false w) s fun t =>
        t.fld (Target.host.en n) = v ∧ (∀ m < 128, m ≠ n → t.fld (Target.host.en m) = s.fld (Target.host.en m)) ∧
        t.fld (Target.host.active n) = s.fld (Target.host.active n) ∧
        (v = 0 → t.fld (Target.host.pend n) = 0) ∧
        (v ≠ 0 → s.fld (Target.host.en n) = 0 → s.level n = true → t.on (Target.host.pend n) = true) ∧
        (v ≠ 0 → s.fld (Target.host.en n) ≠ 0 → t.fld (Target.host.pend n) = s.fld (Target.host.pend n)) ∧
        RegFrame [(Target.host.en n).reg] s t ∧ RegsOnly s t) ∧
    (∀ j : Fin 8, Does (.intHostEnWrite false j w) s fun t =>
      t.reg (Reg.INT_HOST_EN j.val) = w ∧ RegFrame [Reg.INT_HOST_EN j.val] s t ∧ RegsOnly s t) ∧
    (120 ≤ bits w 0 7 → Does (.intDoorbell false w) s fun t =>
      Pended (bits w 0 7) s t ∧ RegFrame [] s t ∧ RegsOnly s t) ∧
    (bits w 0 7 < 120 → Does (.intDoorbell false w) s fun t => t = s.incSat INT_DB_REFUSED.REFUSED)

/-- A VBAT reversal changes nothing in the module. Disconnection sets CONV_STATUS.VBAT_OV, reconnection clears it, a
VBAT held low sets CONV_STATUS.VBAT_LOW; each of the three sets CONV_EVENTS bit 3 and pends source 77, and every other
register and all else stays. -/
def Obligations.InputStageReports : Prop :=
  ∀ s : State, s.aon = true →
    (Does .vbatReversal s fun t => t = s) ∧
    (Does .inputDisconnect s fun t =>
      t.reg Reg.CONV_STATUS = putF CONV_STATUS.VBAT_OV 1 (s.reg Reg.CONV_STATUS) ∧ Raised Reg.CONV_EVENTS 3 s t ∧
      RegFrame [Reg.CONV_STATUS, Reg.CONV_EVENTS] s t ∧ RegsOnly s t) ∧
    (Does .inputReconnect s fun t =>
      t.reg Reg.CONV_STATUS = putF CONV_STATUS.VBAT_OV 0 (s.reg Reg.CONV_STATUS) ∧ Raised Reg.CONV_EVENTS 3 s t ∧
      RegFrame [Reg.CONV_STATUS, Reg.CONV_EVENTS] s t ∧ RegsOnly s t) ∧
    (Does .vbatLowReport s fun t =>
      t.reg Reg.CONV_STATUS = putF CONV_STATUS.VBAT_LOW 1 (s.reg Reg.CONV_STATUS) ∧ Raised Reg.CONV_EVENTS 3 s t ∧
      RegFrame [Reg.CONV_STATUS, Reg.CONV_EVENTS] s t ∧ RegsOnly s t)

/-- A ride-through that begins sets CONV_STATUS.RIDE, counts in CONV_COUNTS.RIDES, sets CONV_EVENTS bit 0 (source 74)
and in Noon records the ESR; under a shed mode other than DELAYED, or a delay above 0, VAUX stays as it is. One that
ends clears RIDE, sets the same event and in Noon records the lowest VHOLD, the duration and the charge; with fresh
housekeeping entries and a fall of VHOLD below 2 V it reports no STALE and leaves the reservoir model. The first
charge stores C and reports it undersized below 80 uF or oversized above 1000 uF. -/
def Obligations.RideThroughAndCapacitance : Prop :=
  ∀ s : State, s.aon = true →
    (∀ esr : BitVec 16, s.on CONV_STATUS.RIDE = false →
      Does (.rideThroughEntry esr) s fun t =>
        t.on CONV_STATUS.RIDE = true ∧
        t.fld CONV_COUNTS.RIDES = min (s.fld CONV_COUNTS.RIDES + 1) (2 ^ CONV_COUNTS.RIDES.width - 1) ∧
        Raised Reg.CONV_EVENTS 0 s t ∧ (s.noon = true → t.fld RES_MODEL.ESR = esr.toNat) ∧
        (s.fld CONV_CFG.SHED_MODE ≠ 2 ∨ s.fld CONV_CFG.SHED_DELAY ≠ 0 →
          t.fld CONV_STATUS.VAUX_ON = s.fld CONV_STATUS.VAUX_ON ∧ RegsOnly s t) ∧
        RegFrame [Reg.CONV_STATUS, Reg.CONV_COUNTS, Reg.CONV_EVENTS, Reg.RES_MODEL, Reg.PHASE_STATUS] s t) ∧
    (∀ (low ms : BitVec 16) (charge : Word) (dv : BitVec 16), s.on CONV_STATUS.RIDE = true → s.noon = true → dv.toNat < 200 →
      Does (.rideThroughEnd low ms charge dv false) s fun t =>
        t.on CONV_STATUS.RIDE = false ∧ t.fld RES_LAST.MIN_VHOLD = low.toNat ∧ t.fld RES_LAST.DURATION = ms.toNat ∧
        t.reg Reg.RES_CHARGE = charge ∧ t.on CONV_STATUS.STALE = false ∧ Raised Reg.CONV_EVENTS 0 s t ∧
        RegFrame [Reg.CONV_STATUS, Reg.CONV_EVENTS, Reg.RES_LAST, Reg.RES_CHARGE] s t ∧ RegsOnly s t) ∧
    (∀ cap : BitVec 16, Does (.capacitanceEstimate cap) s fun t =>
      t.fld RES_MODEL.CAP = cap.toNat ∧ (t.on CONV_STATUS.UNDERSIZED = true ↔ cap.toNat < 80) ∧
      (t.on CONV_STATUS.OVERSIZED = true ↔ 1000 < cap.toNat) ∧
      (cap.toNat < 80 ∨ 1000 < cap.toNat → Raised Reg.CONV_EVENTS 4 s t) ∧
      RegFrame [Reg.RES_MODEL, Reg.CONV_STATUS, Reg.CONV_EVENTS] s t ∧ RegsOnly s t)

/-- VHOLD falling through the shed threshold sets CONV_STATUS.SHED and ends re-armament; where SHED was clear in
ARMING or ARMED, the RESERVOIR path takes both outputs off and enters TRIPPED with cause 0x08; under AT_SHED in a
ride-through VAUX goes off. VHOLD rising through the re-arm threshold clears SHED, re-arms, and changes nothing else.
At the end of the shed delay of a ride-through under DELAYED, VAUX goes off. -/
def Obligations.ShedAndRearm : Prop :=
  ∀ s : State, s.aon = true →
    (Does .shedThresholdCrossing s fun t =>
      t.on CONV_STATUS.SHED = true ∧ t.rearmed = false ∧
      (s.armed = true → s.on CONV_STATUS.SHED = false →
        t.SafeOff ∧ t.safeState = TRIPPED ∧ t.fld SAFE_TRIP.CAUSE = C_RESERVOIR) ∧
      (s.on CONV_STATUS.RIDE = true → s.fld CONV_CFG.SHED_MODE = 1 → t.on CONV_STATUS.VAUX_ON = false)) ∧
    (Does .rearmThresholdCrossing s fun t =>
      t.reg Reg.CONV_STATUS = putF CONV_STATUS.SHED 0 (s.reg Reg.CONV_STATUS) ∧ RegFrame [Reg.CONV_STATUS] s t ∧
      t = { s with regs := t.regs, rearmed := true }) ∧
    (s.on CONV_STATUS.RIDE = true → s.fld CONV_CFG.SHED_MODE = 2 → s.on CONV_STATUS.VAUX_ON = true →
      Does .shedDelayExpiry s fun t =>
        t.on CONV_STATUS.VAUX_ON = false ∧ t.fld PHASE_STATUS.ACTIVE = 0 ∧ t.entry.off = 1 ∧
        RegFrame [Reg.CONV_STATUS, Reg.PHASE_STATUS] s t ∧ t = { s with regs := t.regs, entry := t.entry })

/-- VHOLD falling through the stop threshold in Noon puts VAUX off and enters brownout hold: tick, module time and
RATE are recorded, the registers outside the AON domain read as after reset, the queue, the ring and the command layer
are empty. Outside Noon only VAUX goes off. The exit of a hold ends it and leaves the module in Larva with both safety
outputs off. After a policy or limit shutdown VIN at the start threshold restarts VAUX with a healthy phase, counted,
with source 79. A soft start that is retried is reported through source 79. -/
def Obligations.VauxStopsAndStarts : Prop :=
  ∀ s : State, s.aon = true →
    (s.noon = true → Does .stopThresholdCrossing s fun t =>
      t.entry.hold = some (s.tick, s.time, s.rate) ∧ t.noon = false ∧ t.on CONV_STATUS.VAUX_ON = false ∧
      t.queue = resetQueue ∧ t.ring = resetRing ∧ t.link = resetLink ∧ t.tick = s.tick ∧
      (∀ a, aonHeld a = false → bootHeld a = false → a ≠ Reg.NIGHT_AON → a ≠ Reg.TIME_RATE → a ≠ Reg.REC_ENABLE →
        a ≠ Reg.REC_ACTIVE → t.reg a = resetWord a)) ∧
    (s.noon = false → s.on CONV_STATUS.VAUX_ON = true → Does .stopThresholdCrossing s fun t =>
      t.on CONV_STATUS.VAUX_ON = false ∧ t.entry.off = 1 ∧ RegFrame [Reg.CONV_STATUS, Reg.PHASE_STATUS] s t ∧
      t = { s with regs := t.regs, entry := t.entry }) ∧
    (∀ cycles : BitVec 64, s.entry.hold.isSome = true → Does (.brownoutExit cycles) s fun t =>
      t.entry.hold = none ∧ t.stage = LARVA ∧ (s.SafeOff → t.SafeOff)) ∧
    (s.entry.hold = none → (s.entry.off = 1 ∨ s.entry.off = 2) → s.healthyPhases ≠ [] →
      Does .vauxStartThreshold s fun t =>
        t.on CONV_STATUS.VAUX_ON = true ∧ t.entry.off = 0 ∧
        t.fld CONV_COUNTS.RESTARTS = min (s.fld CONV_COUNTS.RESTARTS + 1) (2 ^ CONV_COUNTS.RESTARTS.width - 1) ∧
        Raised Reg.CONV_EVENTS 5 s t ∧
        RegFrame [Reg.CONV_STATUS, Reg.PHASE_STATUS, Reg.CONV_COUNTS, Reg.CONV_EVENTS] s t) ∧
    (s.on CONV_STATUS.RIDE = false → Does .vauxStartRetry s fun t =>
      Raised Reg.CONV_EVENTS 5 s t ∧ RegFrame [Reg.CONV_EVENTS] s t ∧ RegsOnly s t)

/-- VAUX below 4.50 V clears VAUX_OK and in ARMING or ARMED takes both outputs off into TRIPPED with cause 0x09; VAUX
at the VAUX_OK threshold sets VAUX_OK and, after a thermal lock in Imago, moves LOCKED to DISARMED. A thermal limit
sets LIMIT, counts, and pends source 76. The thermal shutdown takes both outputs off into LOCKED with cause 0x0E from
ARMING or ARMED and switches VAUX off; its release ends the thermal limit and starts VAUX again with a healthy phase.
-/
def Obligations.VauxLevelsAndThermal : Prop :=
  ∀ s : State, s.aon = true →
    (Does .vauxLow s fun t => t.on CONV_STATUS.VAUX_OK = false ∧
      (s.armed = true → t.SafeOff ∧ t.safeState = TRIPPED ∧ t.fld SAFE_TRIP.CAUSE = C_VAUX_LOW)) ∧
    (s.safety.thermal = false → Does .vauxOkReached s fun t =>
      t.reg Reg.CONV_STATUS = putF CONV_STATUS.VAUX_OK 1 (s.reg Reg.CONV_STATUS) ∧ RegFrame [Reg.CONV_STATUS] s t ∧
      t = { s with regs := t.regs }) ∧
    (s.safety.thermal = true → s.safeState = LOCKED → s.stage = IMAGO → Does .vauxOkReached s fun t =>
      t.on CONV_STATUS.VAUX_OK = true ∧ t.safeState = DISARMED ∧ t.safety.thermal = false) ∧
    (s.entry.limits.testBit 2 = false → Does .thermalLimit s fun t =>
      t.on CONV_STATUS.LIMIT = true ∧ t.entry.limits.testBit 2 = true ∧
      t.fld CONV_COUNTS.LIMITS = min (s.fld CONV_COUNTS.LIMITS + 1) (2 ^ CONV_COUNTS.LIMITS.width - 1) ∧
      Raised Reg.CONV_EVENTS 2 s t ∧ RegFrame [Reg.CONV_STATUS, Reg.CONV_COUNTS, Reg.CONV_EVENTS] s t) ∧
    (Does .thermalShutdown s fun t => t.on CONV_STATUS.VAUX_ON = false ∧
      (s.armed = true → t.SafeOff ∧ t.safeState = LOCKED ∧ t.fld SAFE_TRIP.CAUSE = C_THERMAL) ∧
      (s.on CONV_STATUS.VAUX_ON = true → t.entry.off = 3)) ∧
    (Does .thermalRelease s fun t => t.entry.limits.testBit 2 = false ∧
      (s.entry.off = 3 → s.healthyPhases ≠ [] → t.on CONV_STATUS.VAUX_ON = true ∧ t.entry.off = 0) ∧
      RegFrame [Reg.CONV_STATUS, Reg.PHASE_STATUS] s t)

/-- A retired phase is marked RETIRED with its cause and the largest model disagreement, counted, reported through
source 75, and switches no more. A retry at a light load that passes its 1024 cycles clears the mark and the cause.
With one phase active, rotation makes the next healthy one in cyclic order the only active one. After shedding or
adding, the healthy phases of the given set switch. -/
def Obligations.ConverterPhases : Prop :=
  ∀ (s : State) (p : Fin 3), s.aon = true →
    (∀ (cause : Fin 3) (dev : Byte), Does (.phaseRetirement p cause dev) s fun t =>
      t.on (bitF Reg.PHASE_STATUS p.val) = true ∧ t.fld ⟨Reg.PHASE_STATUS, 12 + 2 * p.val, 2⟩ = cause.val + 1 ∧
      t.fld PHASE_STATUS.DEVIATION = dev.toNat ∧ (t.fld PHASE_STATUS.ACTIVE).testBit p.val = false ∧
      t.fld CONV_COUNTS.PHASES = min (s.fld CONV_COUNTS.PHASES + 1) (2 ^ CONV_COUNTS.PHASES.width - 1) ∧
      Raised Reg.CONV_EVENTS 1 s t ∧
      RegFrame [Reg.PHASE_STATUS, Reg.CONV_COUNTS, Reg.CONV_EVENTS, Reg.CONV_STATUS] s t) ∧
    (s.on (bitF Reg.PHASE_STATUS p.val) = true → Does (.phaseRetry p true none) s fun t =>
      t.on (bitF Reg.PHASE_STATUS p.val) = false ∧ t.fld ⟨Reg.PHASE_STATUS, 12 + 2 * p.val, 2⟩ = 0) ∧
    (∀ q : Nat, s.fld PHASE_STATUS.ACTIVE = 2 ^ p.val → s.nextPhase p.val = some q → Does .phaseRotation s fun t =>
      t.fld PHASE_STATUS.ACTIVE = 2 ^ q ∧ t.fld PHASE_STATUS.LIGHT = q ∧ s.healthyPhases.contains q = true ∧
      RegFrame [Reg.PHASE_STATUS] s t ∧ RegsOnly s t) ∧
    (∀ m : Fin 8, s.on CONV_STATUS.VAUX_ON = true → m.val &&& (7 - s.fld PHASE_STATUS.RETIRED) ≠ 0 →
      Does (.phaseShedding m) s fun t =>
        t.fld PHASE_STATUS.ACTIVE = m.val &&& (7 - s.fld PHASE_STATUS.RETIRED) ∧
        RegFrame [Reg.PHASE_STATUS] s t ∧ RegsOnly s t)

/-- An overload of VAUX that is on, with no overload limit in force, sets LIMIT with cause 1, counts it and pends
source 76; with the overload limit alone in force, its release clears LIMIT and its cause. Under LIMIT_ACTION OFF a
limit that has held its time switches VAUX off. Each second after a limit shutdown outside a ride-through VAUX retries
with a healthy phase, and the attempt pends source 79. -/
def Obligations.OverloadLimits : Prop :=
  ∀ s : State, s.aon = true →
    (s.on CONV_STATUS.VAUX_ON = true → s.entry.limits.testBit 0 = false → Does .overloadLimit s fun t =>
      t.on CONV_STATUS.LIMIT = true ∧ t.fld CONV_STATUS.LIMIT_CAUSE = 1 ∧
      t.fld CONV_COUNTS.LIMITS = min (s.fld CONV_COUNTS.LIMITS + 1) (2 ^ CONV_COUNTS.LIMITS.width - 1) ∧
      Raised Reg.CONV_EVENTS 2 s t ∧ RegFrame [Reg.CONV_STATUS, Reg.CONV_COUNTS, Reg.CONV_EVENTS] s t ∧
      t = { s with regs := t.regs, tw := t.tw, entry := t.entry }) ∧
    (s.entry.limits = 1 → Does .overloadRelease s fun t =>
      t.on CONV_STATUS.LIMIT = false ∧ t.fld CONV_STATUS.LIMIT_CAUSE = 0 ∧ t.entry.limits = 0 ∧
      RegFrame [Reg.CONV_STATUS] s t ∧ t = { s with regs := t.regs, entry := t.entry }) ∧
    (s.on CONV_CFG.LIMIT_ACTION = true → s.on CONV_STATUS.LIMIT = true → s.on CONV_STATUS.VAUX_ON = true →
      Does .limitOffExpiry s fun t =>
        t.on CONV_STATUS.VAUX_ON = false ∧ t.entry.off = 2 ∧ RegFrame [Reg.CONV_STATUS, Reg.PHASE_STATUS] s t ∧
        t = { s with regs := t.regs, entry := t.entry }) ∧
    (s.entry.off = 2 → s.on CONV_STATUS.RIDE = false → s.healthyPhases ≠ [] → Does .limitRestartAttempt s fun t =>
      t.on CONV_STATUS.VAUX_ON = true ∧ t.entry.off = 0 ∧ Raised Reg.CONV_EVENTS 5 s t ∧
      RegFrame [Reg.CONV_STATUS, Reg.PHASE_STATUS, Reg.CONV_EVENTS] s t)

/-- POWER_UP leaves the module in Larva in Noon from any state: AON supply up, safety LOCKED with both outputs off,
queues, code RAM and command layer empty, tick 0, the strap as sampled; VAUX soft-starts. The loss of the AON supply
leaves nothing of the module's state. -/
def Obligations.PowerUpAndAonLoss : Prop :=
  (∀ (strap : Bool) (s : State), Does (.powerUp strap) s fun t =>
    t.aon = true ∧ t.noon = true ∧ t.stage = LARVA ∧ t.safeState = LOCKED ∧ t.SafeOff ∧ t.on CONV_STATUS.VAUX_ON = true ∧
    t.tick = 0 ∧ t.time = 0 ∧ t.queue = resetQueue ∧ t.ring = resetRing ∧ t.link = resetLink ∧ t.boot = resetBoot ∧
    t.eng = resetEngine ∧ t.array = resetArray ∧ t.ownAddress = (if strap then 0x4E else 0x4C) ∧ t.pending = s.pending) ∧
  (∀ s : State, s.aon = true → Does .aonSupplyLoss s fun t => t.aon = false ∧ t.regs = [] ∧ t.queue = resetQueue ∧
    t.safeState = LOCKED ∧ t.SafeOff ∧ t.pending = s.pending)

/-- A control-pair reset in Noon, or an ECC error in the active slot, which causes one, leads to Larva with the
restart owed: CP_RESET is set, the safety state is LOCKED with both outputs off from every state of Table 9.3 in which
the path acts, all six pins are held at their safe levels, no command waits or executes, no reply is held, the
duplicate cache is empty, and the control target's pending and active bits are clear but for what its new enables
re-post. -/
def Obligations.ControlPairReset : Prop :=
  ∀ (s : State) (cut : BitVec 11), s.aon = true → s.noon = true →
    (Does (.controlPairReset cut) s fun t => AfterPairReset s t) ∧
    (s.activeSlot.isSome = true → Does (.codeRamEccError cut) s fun t => AfterPairReset s t) ∧
    (s.activeSlot = none → Does (.codeRamEccError cut) s fun t => t = s)

/-- With a restart owed in Noon: an active slot that fails its check is FAILED and none is active; the third restart
in 10 s clears the active slot and stays in Larva with LOOP set; otherwise an intact slot enters Chrysalis, or Imago
where it holds a block, with ENTRY 4. Every verification counts in BOOT_COUNTS.RESTARTS and sets BOOT_EVENTS bit 3.
The entry after REVERT applies the active slot's block and enters Imago with ENTRY 3 and the block's schema. -/
def Obligations.RestartVerification : Prop :=
  ∀ s : State, s.aon = true → s.noon = true →
    (∀ k, s.boot.restarting = true → s.activeSlot = some k →
      (Does (.restartVerify false) s fun t =>
        t.slotState k = SL_FAILED ∧ t.activeSlot = none ∧ t.boot.restarting = false ∧
        t.fld BOOT_COUNTS.RESTARTS = min (s.fld BOOT_COUNTS.RESTARTS + 1) (2 ^ BOOT_COUNTS.RESTARTS.width - 1) ∧
        Raised Reg.BOOT_EVENTS 3 s t) ∧
      (s.bootLoop = true → Does (.restartVerify true) s fun t =>
        t.slotState k = SL_VERIFIED ∧ t.activeSlot = none ∧ t.stage = LARVA ∧ t.on BOOT_STAGE.LOOP = true ∧
        t.fld BOOT_STAGE.ENTRY = 5) ∧
      (s.bootLoop = false → (s.slot k).block = none → Does (.restartVerify true) s fun t =>
        t.stage = CHRYSALIS ∧ t.fld BOOT_STAGE.ENTRY = 4 ∧ t.activeSlot = some k) ∧
      (∀ b, s.bootLoop = false → (s.slot k).block = some b → Does (.restartVerify true) s fun t =>
        t.stage = IMAGO ∧ t.fld BOOT_STAGE.ENTRY = 4 ∧ t.fld BOOT_STAGE.SCHEMA = half b 12)) ∧
    (∀ b, s.stage = CHRYSALIS → s.boot.revert = true → s.activeBlock = some b → Does .revertImagoEntry s fun t =>
      t.stage = IMAGO ∧ t.fld BOOT_STAGE.ENTRY = 3 ∧ t.fld BOOT_STAGE.SCHEMA = half b 12 ∧ t.boot.revert = false ∧
      (s.safeState = LOCKED → t.safeState = DISARMED))

/-- An accepted IMG_BEGIN empties its slot, stores the length, discards its block and sets it LOADING. An accepted
IMG_WRITE at the end of the bytes stored appends its chunk, and the last byte sets LOADED; a repeat of bytes stored
changes no slot. An accepted IMG_VERIFY sets VERIFIED, posts BOOT_EVENTS bit 1 and returns bytes 12 to 23 of the
image; of a LOADED image without the magic of R275 it is answered REJECTED reason 4, sets FAILED, counts VERIFY_FAILS,
posts bit 1 and stores reason and slot in BOOT_IMG_REJECT. An accepted IMG_ACTIVATE makes the slot active without a
block and enters Chrysalis; from ARMING or ARMED both outputs go off into LOCKED. Each accepted command is answered
OK. -/
def Obligations.ImageCommands : Prop :=
  ∀ (r : Req) (s : State), s.aon = true →
    (cmdImgBegin.accepts r s = true → Does (.imgBegin r) s fun t =>
      Replied 0x10 r OK [] s t ∧ t.slotState (byteAt r.params 0) = SL_LOADING ∧
      t.slot (byteAt r.params 0) = { image := [], length := numAt r.params 4 4, block := none } ∧
      t.fld (blockF (byteAt r.params 0)) = 0 ∧ RegFrame (Reg.BOOT_SLOTS :: replyRegs) s t) ∧
    (∀ k, cmdImgWrite.accepts r s = true → s.loadingSlot = some k →
      (numAt r.params 0 4 = (s.slot k).image.length → Does (.imgWrite r) s fun t =>
        Replied 0x11 r OK [] s t ∧ (t.slot k).image = (s.slot k).image ++ r.params.drop 4 ∧
        ((t.slot k).image.length = (s.slot k).length → t.slotState k = SL_LOADED) ∧
        ((t.slot k).image.length ≠ (s.slot k).length → t.slotState k = SL_LOADING) ∧
        RegFrame (Reg.BOOT_SLOTS :: replyRegs) s t) ∧
      (numAt r.params 0 4 ≠ (s.slot k).image.length → Does (.imgWrite r) s fun t =>
        Replied 0x11 r OK [] s t ∧ t.boot = s.boot ∧ RegFrame replyRegs s t)) ∧
    (cmdImgVerify.accepts r s = true → Does (.imgVerify r) s fun t =>
      Replied 0x12 r OK (((s.slot (byteAt r.params 0)).image.drop 12).take 12) s t ∧
      t.slotState (byteAt r.params 0) = SL_VERIFIED ∧ Raised Reg.BOOT_EVENTS 1 s t ∧ t.boot = s.boot ∧
      RegFrame (Reg.BOOT_SLOTS :: Reg.BOOT_EVENTS :: replyRegs) s t) ∧
    (s.noon = true → s.stage ≤ IMAGO → r.params.length = 1 → byteAt r.params 0 ≤ 1 →
      s.slotState (byteAt r.params 0) = SL_LOADED → wordAt (s.slot (byteAt r.params 0)).image 0 ≠ 0x50475453 →
      Does (.imgVerify r) s fun t =>
        Replied 0x12 r REJECTED (leBytes 4 4) s t ∧ t.slotState (byteAt r.params 0) = SL_FAILED ∧
        t.fld BOOT_COUNTS.VERIFY_FAILS = min (s.fld BOOT_COUNTS.VERIFY_FAILS + 1) 255 ∧ Raised Reg.BOOT_EVENTS 1 s t ∧
        t.fld BOOT_IMG_REJECT.REASON = 4 ∧ t.fld BOOT_IMG_REJECT.SLOT = byteAt r.params 0 ∧ t.boot = s.boot ∧
        RegFrame (Reg.BOOT_SLOTS :: Reg.BOOT_EVENTS :: Reg.BOOT_COUNTS :: Reg.BOOT_IMG_REJECT :: replyRegs) s t) ∧
    (cmdImgActivate.accepts r s = true → Does (.imgActivate r) s fun t =>
      t.stage = CHRYSALIS ∧ t.activeSlot = some (byteAt r.params 0) ∧ t.slotState (byteAt r.params 0) = SL_ACTIVE ∧
      (t.slot (byteAt r.params 0)).block = none ∧ (t.slot (byteAt r.params 0)).image = (s.slot (byteAt r.params 0)).image ∧
      (s.stage = IMAGO → s.armed = true → t.SafeOff ∧ t.safeState = LOCKED))

/-- An accepted SETTINGS_WRITE at offset 0 starts the staged block anew, at its end it appends; registers other than
the reply's stay. An accepted SETTINGS_APPLY stores the staged block in the active slot, and in Chrysalis enters Imago
with ENTRY 2, a LOCKED safety state passing to DISARMED; the module is in Imago with the block's schema.
SETTINGS_APPLY in ARMING or ARMED is answered SAFETY_LOCKED and leaves the block unstaged as it was. An accepted
REVERT makes PREV the active slot, enters Chrysalis with ENTRY 3, and takes both outputs off into LOCKED from ARMING
or ARMED. -/
def Obligations.SettingsAndRevert : Prop :=
  ∀ (r : Req) (s : State), s.aon = true →
    (cmdSettingsWrite.accepts r s = true →
      (numAt r.params 0 4 = 0 → Does (.settingsWrite r) s fun t =>
        Replied 0x14 r OK [] s t ∧ t.boot = { s.boot with staged := r.params.drop 4 } ∧ RegFrame replyRegs s t) ∧
      (numAt r.params 0 4 ≠ 0 → numAt r.params 0 4 = s.boot.staged.length → Does (.settingsWrite r) s fun t =>
        Replied 0x14 r OK [] s t ∧ t.boot = { s.boot with staged := s.boot.staged ++ r.params.drop 4 } ∧
        RegFrame replyRegs s t)) ∧
    (cmdSettingsApply.accepts r s = true → Does (.settingsApply r) s fun t =>
      t.stage = IMAGO ∧ t.fld BOOT_STAGE.SCHEMA = half s.boot.staged 12 ∧
      (∀ k, s.activeSlot = some k → (t.slot k).block = some s.boot.staged) ∧
      (s.stage = CHRYSALIS → t.fld BOOT_STAGE.ENTRY = 2 ∧ (s.safeState = LOCKED → t.safeState = DISARMED))) ∧
    (s.noon = true → s.stage = IMAGO → r.params = [] → s.armed = true → Does (.settingsApply r) s fun t =>
      Replied 0x15 r SAFETY_LOCKED [] s t ∧ t.boot = s.boot ∧ RegFrame replyRegs s t ∧ ReplyOnly s t) ∧
    (cmdRevert.accepts r s = true → Does (.revert r) s fun t =>
      t.stage = CHRYSALIS ∧ t.fld BOOT_STAGE.ENTRY = 3 ∧ t.activeSlot = some (s.fld BOOT_SLOTS.PREV) ∧
      t.slotState (s.fld BOOT_SLOTS.PREV) = SL_ACTIVE ∧ t.boot.revert = true ∧
      (s.stage = IMAGO → s.armed = true → t.SafeOff ∧ t.safeState = LOCKED))

/-- In Noon a whole request is judged in this order: a two-wire request while held and owed replies total 4 is
discarded and reported; a wrong CRC is answered BAD_CRC and counted; an opcode not defined is answered BAD_OPCODE; a
queued-class request that the duplicate cache holds has its cached reply sent again and is counted; one still queued
or executing is not queued twice; with four waiting it is answered BUSY and counted; any other executes if nothing
does, else waits last. In each case the registers named apart nothing else changes. -/
def Obligations.RequestsAreJudgedInOrder : Prop :=
  ∀ s : State, s.aon = true → s.noon = true →
    (∀ (bytes : List Byte) (lat : BitVec 96), s.mailboxFull = true →
      Does (.requestReceived .twoWire bytes lat) s fun t =>
        t.fld MBX_COUNTS.OVERRUNS = min (s.fld MBX_COUNTS.OVERRUNS + 1) (2 ^ MBX_COUNTS.OVERRUNS.width - 1) ∧
        Raised Reg.MBX_EVENTS 1 s t ∧ t.link = s.link ∧ RegFrame replyRegs s t ∧ RegsOnly s t) ∧
    (∀ (o : Origin) (bytes : List Byte) (lat : BitVec 96), (o = .twoWire → s.mailboxFull = false) →
      4 ≤ bytes.length → 8 + half bytes 0 ≤ bytes.length →
      crc32 (bytes.take (4 + half bytes 0)) ≠ wordAt bytes (4 + half bytes 0) →
      Does (.requestReceived o bytes lat) s fun t =>
        Delivered o (packet BAD_CRC (byteAt bytes 2) []) s t ∧
        t.fld CMD_ERRORS.BAD_CRC = min (s.fld CMD_ERRORS.BAD_CRC + 1) (2 ^ CMD_ERRORS.BAD_CRC.width - 1) ∧
        QueueKept s t ∧ RegFrame (Reg.CMD_ERRORS :: replyRegs) s t ∧ ReplyOnly s t) ∧
    (∀ (r : Req) (op : Byte) (lat : BitVec 96), (r.origin = .twoWire → s.mailboxFull = false) →
      r.params.length ≤ 1016 → (s.frameLimited r.origin = true → r.params.length ≤ 274) →
      r.ingress = (if r.origin = .twoWire then 0 else ingressTime lat.toNat) →
      (definedOps.contains op.toNat = false →
        Does (.requestReceived r.origin (packet op.toNat r.tag.toNat r.params) lat) s fun t =>
          Delivered r.origin (packet BAD_OPCODE r.tag.toNat []) s t ∧ QueueKept s t ∧ RegFrame replyRegs s t ∧
          ReplyOnly s t) ∧
      (definedOps.contains op.toNat = true → immediateOps.contains op.toNat = false →
        (∀ e, s.cached r.origin r.tag (requestCrc op.toNat r) = some e →
          Does (.requestReceived r.origin (packet op.toNat r.tag.toNat r.params) lat) s fun t =>
            Delivered r.origin e.reply s t ∧ QueueKept s t ∧
            t.fld CMD_ERRORS.DUPLICATES = min (s.fld CMD_ERRORS.DUPLICATES + 1) (2 ^ CMD_ERRORS.DUPLICATES.width - 1) ∧
            RegFrame (Reg.CMD_ERRORS :: replyRegs) s t ∧ ReplyOnly s t) ∧
        (s.cached r.origin r.tag (requestCrc op.toNat r) = none → s.inQueue r.origin r.tag (requestCrc op.toNat r) = true →
          Does (.requestReceived r.origin (packet op.toNat r.tag.toNat r.params) lat) s fun t => t = s) ∧
        (s.cached r.origin r.tag (requestCrc op.toNat r) = none → s.inQueue r.origin r.tag (requestCrc op.toNat r) = false →
          (4 ≤ s.link.waiting.length →
            Does (.requestReceived r.origin (packet op.toNat r.tag.toNat r.params) lat) s fun t =>
              Delivered r.origin (packet BUSY r.tag.toNat []) s t ∧ QueueKept s t ∧
              t.fld CMD_ERRORS.BUSY = min (s.fld CMD_ERRORS.BUSY + 1) (2 ^ CMD_ERRORS.BUSY.width - 1) ∧
              RegFrame (Reg.CMD_ERRORS :: replyRegs) s t ∧ ReplyOnly s t) ∧
          (s.link.waiting.length < 4 →
            Does (.requestReceived r.origin (packet op.toNat r.tag.toNat r.params) lat) s fun t =>
              t = { s with link := t.link } ∧
              (s.link.executing = none → t.link = { s.link with executing := some { opcode := op.toNat, req := r, drop := false } }) ∧
              (s.link.executing.isSome = true → t.link =
                { s.link with waiting := s.link.waiting ++ [{ opcode := op.toNat, req := r, drop := false }] })))))

/-- In Noon the arrival of a whole request for NOP, ABORT, EM_STOP, SAFE_HEARTBEAT, SAFE_DISARM or SAFE_STATUS, from
either link, is that command with the request's origin, tag and parameters, whatever executes or waits. -/
def Obligations.ImmediateRequestsExecuteOnArrival : Prop :=
  ∀ (s : State) (r : Req) (lat : BitVec 96), s.aon = true → s.noon = true →
    r.params.length ≤ 1016 → (r.origin = .twoWire → s.mailboxFull = false) →
    (s.frameLimited r.origin = true → r.params.length ≤ 274) →
    r.ingress = (if r.origin = .twoWire then 0 else ingressTime lat.toNat) →
    exec (.requestReceived r.origin (packet 0x00 r.tag.toNat r.params) lat) s = exec (.nop r) s ∧
    exec (.requestReceived r.origin (packet 0x02 r.tag.toNat r.params) lat) s = exec (.abort r) s ∧
    exec (.requestReceived r.origin (packet 0x43 r.tag.toNat r.params) lat) s = exec (.emStop r) s ∧
    exec (.requestReceived r.origin (packet 0x61 r.tag.toNat r.params) lat) s = exec (.safeHeartbeat r) s ∧
    exec (.requestReceived r.origin (packet 0x62 r.tag.toNat r.params) lat) s = exec (.safeDisarm r) s ∧
    exec (.requestReceived r.origin (packet 0x65 r.tag.toNat r.params) lat) s = exec (.safeStatus r) s

/-- In Noon, with PEC not required, a byte written to the mailbox window is appended to the partial request, or begins
it anew at the window's start; the byte that completes a request empties the window and the request is received; a
header with LENGTH above 1016 is answered BAD_PARAM 0xF2 and further bytes are ignored. A read returns the next byte
of the oldest held reply and releases it with its last byte, else the bytes of the idle word. DISCARD_REQ empties the
partial request, DROP_REPLY releases the oldest reply, CLEAR both and every reply, and marks what is owed. A partial
request that times out is discarded, counted and reported; a command that times out is answered TIMEOUT, counted, and
the next one waiting executes. -/
def Obligations.MailboxStreams : Prop :=
  ∀ s : State, s.aon = true → s.noon = true →
    (∀ (b : Byte) (first : Bool), s.twStart.tw.pec = false → (first = true ∨ s.link.rxIgnore = false) →
      (((if first then [] else s.link.rx) ++ [b]).length < 4 ∨
        half ((if first then [] else s.link.rx) ++ [b]) 0 ≤ 1016 ∧
        ((if first then [] else s.link.rx) ++ [b]).length < 8 + half ((if first then [] else s.link.rx) ++ [b]) 0 →
        Does (.mbxWindowWrite b first) s fun t =>
          t.link = { s.link with rx := (if first then [] else s.link.rx) ++ [b], rxIgnore := false } ∧
          RegFrame busRegs s t ∧ t = { s with regs := t.regs, link := t.link, tw := t.tw }) ∧
      (4 ≤ ((if first then [] else s.link.rx) ++ [b]).length →
        half ((if first then [] else s.link.rx) ++ [b]) 0 ≤ 1016 →
        8 + half ((if first then [] else s.link.rx) ++ [b]) 0 ≤ ((if first then [] else s.link.rx) ++ [b]).length →
        exec (.mbxWindowWrite b first) s =
          exec (.requestReceived .twoWire ((if first then [] else s.link.rx) ++ [b]) 0)
            { (s.twStart.when first (State.setF TW_PAGE.POINTER 0x80)).passByte 1 with
              link := { s.link with rx := [], rxIgnore := false } }) ∧
      (((if first then [] else s.link.rx) ++ [b]).length = 4 → s.mailboxFull = false →
        1016 < half ((if first then [] else s.link.rx) ++ [b]) 0 →
        Does (.mbxWindowWrite b first) s fun t =>
          t.link.rx = [] ∧ t.link.rxIgnore = true ∧ QueueKept s t ∧ RegFrame (busRegs ++ replyRegs) s t ∧
          Delivered .twoWire (packet BAD_PARAM (byteAt ((if first then [] else s.link.rx) ++ [b]) 2) (reason 0xF2)) s t)) ∧
    (∀ (b : Byte) (first : Bool), s.twStart.tw.pec = true → Does (.mbxWindowWrite b first) s fun t => t = s.twStart) ∧
    (s.link.idle = [] →
      (∀ b more rest, s.link.replies = (b :: more) :: rest → Does .mbxWindowRead s fun t =>
        t.busOut = b.setWidth 32 ∧ t.link = { s.link with replies := (if more = [] then rest else more :: rest) } ∧
        RegFrame busRegs s t ∧ t = { s with regs := t.regs, link := t.link, tw := t.tw, busOut := t.busOut }) ∧
      (s.link.replies = [] → Does .mbxWindowRead s fun t =>
        t.busOut = 0 ∧ t.link = { s.link with idle := [0, 0, 0xFF] } ∧ RegFrame busRegs s t)) ∧
    (∀ b rest, s.link.idle = b :: rest → Does .mbxWindowRead s fun t =>
      t.busOut = b.setWidth 32 ∧ t.link = { s.link with idle := rest } ∧ RegFrame busRegs s t) ∧
    (Does (.discardReq false) s fun t => t = { s with link := { s.link with rx := [] } }) ∧
    (s.link.replies ≠ [] → Does (.dropReply false) s fun t =>
      t.link = { s.link with replies := s.link.replies.tail } ∧ RegFrame [Reg.MBX_COUNTS] s t ∧
      t.fld MBX_COUNTS.DROPPED = min (s.fld MBX_COUNTS.DROPPED + 1) (2 ^ MBX_COUNTS.DROPPED.width - 1) ∧
      t = { s with regs := t.regs, link := t.link }) ∧
    (s.link.replies = [] → Does (.dropReply false) s fun t => t = s) ∧
    (Does (.mbxClear false) s fun t =>
      t.link.rx = [] ∧ t.link.replies = [] ∧ RegFrame [Reg.MBX_COUNTS] s t ∧
      (∀ q, t.link.executing = some q → q.req.origin = .twoWire → q.drop = true) ∧
      (∀ q ∈ t.link.waiting, q.req.origin = .twoWire → q.drop = true) ∧
      t.link.waiting.map QCmd.req = s.link.waiting.map QCmd.req ∧ t.link.cache = s.link.cache ∧
      t = { s with regs := t.regs, link := t.link }) ∧
    (s.link.rx ≠ [] → Does .partialRequestTimeout s fun t =>
      t.link = { s.link with rx := [] } ∧ Raised Reg.MBX_EVENTS 2 s t ∧ RegFrame replyRegs s t ∧
      t.fld MBX_COUNTS.ABANDONED = min (s.fld MBX_COUNTS.ABANDONED + 1) (2 ^ MBX_COUNTS.ABANDONED.width - 1)) ∧
    (∀ q, s.link.executing = some q → Does .commandTimeout s fun t =>
      t.link.executing = s.link.waiting.head? ∧ t.link.waiting = s.link.waiting.tail ∧
      (q.drop = false → Delivered q.req.origin (packet TIMEOUT q.req.tag.toNat []) s t) ∧
      t.fld CMD_ERRORS.TIMEOUTS = min (s.fld CMD_ERRORS.TIMEOUTS + 1) (2 ^ CMD_ERRORS.TIMEOUTS.width - 1) ∧
      RegFrame (Reg.CMD_ERRORS :: replyRegs) s t ∧ ReplyOnly s t)

/-- Accepted, each of these is answered OK with the data named and changes nothing but the reply's registers and the
command layer: NOP the stage, the safety state, the queue fill and an echo; BOOT_STATUS, ARRAY_STATUS, REC_READ,
SAFE_STATUS, CONV_STATUS, PAIR_STATUS and HK_STATUS the registers of Table 11.5 as they read; POWER_STATUS,
TRIAD_READ, EM_READ_STATE, EM_CRC, PIO_STATUS, HK_READ their words; TIME_GET module time, or over T1S the frame's
ingress time, the tick and TIME_STATUS, with an egress timestamp asked for by TX_TS. IDENTIFY also draws a free value.
TS_READ removes the HOST timestamps it returns. -/
def Obligations.StatusCommandsOnlyReport : Prop :=
  ∀ (r : Req) (s : State), s.aon = true →
    (cmdNop.accepts r s = true → Fits cmdNop r s → Does (.nop r) s fun t =>
      Replied 0x00 r OK ([BitVec.ofNat 8 s.stage, BitVec.ofNat 8 s.safeState, BitVec.ofNat 8 s.link.waiting.length, 0]
        ++ r.params) s t ∧ RegFrame replyRegs s t ∧ ReplyOnly s t) ∧
    (cmdIdentify.accepts r s = true → Does (.identify r) s fun t =>
      Replied 0x01 r OK (cmdIdentify.effect r s).2 s t ∧ RegFrame replyRegs s t ∧
      t = { s with regs := t.regs, link := t.link, tw := { s.tw with quiet := t.tw.quiet }, free := s.free + 1 }) ∧
    (cmdBootStatus.accepts r s = true → Does (.bootStatus r) s fun t =>
      Replied 0x17 r OK (bytesOfWords ([Reg.BOOT_STAGE, Reg.BOOT_SLOTS, Reg.BOOT_REJECT, Reg.BOOT_FW, Reg.BOOT_SCHEMA_01,
        Reg.BOOT_SCHEMA_23, Reg.BOOT_COUNTS, Reg.BOOT_IMG_REJECT].map s.view)) s t ∧ RegFrame replyRegs s t ∧ ReplyOnly s t) ∧
    (cmdArrayStatus.accepts r s = true → Does (.arrayStatus r) s fun t =>
      Replied 0x22 r OK (bytesOfWords ([Reg.ARRAY_PROFILE, Reg.ARRAY_RANGE, Reg.ARRAY_STATUS, Reg.ACTIVE 0, Reg.ACTIVE 1,
        Reg.ACTIVE 2, Reg.TEMP_01, Reg.TEMP_23, Reg.TEMP_ASIC, Reg.DRIVE_STATUS].map s.view)) s t ∧
      RegFrame replyRegs s t ∧ ReplyOnly s t) ∧
    (cmdTriadRead.accepts r s = true → Does (.triadRead r) s fun t =>
      Replied 0xD2 r OK (bytesOfWords (s.triadWords (byteAt r.params 0))) s t ∧ RegFrame replyRegs s t ∧ ReplyOnly s t) ∧
    (cmdEmReadState.accepts r s = true → Does (.emReadState r) s fun t =>
      Replied 0x45 r OK (bytesOfWords (s.emWords (byteAt r.params 0))) s t ∧ RegFrame replyRegs s t ∧ ReplyOnly s t) ∧
    (cmdEmCrc.accepts r s = true → Does (.emCrc r) s fun t =>
      Replied 0x46 r OK (bytesOf (crc32 (bytesOfWords ((List.range (half r.params 2)).map
        fun k => (s.pmemAt (half r.params 0 + k)).getD 0)))) s t ∧ RegFrame replyRegs s t ∧ ReplyOnly s t) ∧
    (cmdRecRead.accepts r s = true → Does (.recRead r) s fun t =>
      Replied 0x54 r OK (bytesOfWords ([Reg.REC_CTRL, Reg.REC_PAR_A, Reg.REC_PAR_B, Reg.REC_PAR_C, Reg.REC_PAR_D,
        Reg.REC_STATE].map fun a => s.view (a (byteAt r.params 0)))) s t ∧ RegFrame replyRegs s t ∧ ReplyOnly s t) ∧
    (cmdSafeStatus.accepts r s = true → Does (.safeStatus r) s fun t =>
      Replied 0x65 r OK (bytesOfWords ([Reg.SAFE_STATE, Reg.SAFE_TRIP, Reg.SAFE_TRIP_TICK_LO, Reg.SAFE_TRIP_TICK_HI,
        Reg.SAFE_COUNTS, Reg.SAFE_MON_STATUS].map s.view)) s t ∧ RegFrame replyRegs s t ∧ ReplyOnly s t) ∧
    (cmdPowerStatus.accepts r s = true → Does (.powerStatus r) s fun t =>
      Replied 0x82 r OK (bytesOfWords ([Reg.PWR_STATE, Reg.PWR_VOTES, Reg.NIGHT_CFG, Reg.NIGHT_PIO, Reg.PWR_COUNTS,
        Reg.NIGHT_LAST].map s.view)) s t ∧ RegFrame replyRegs s t ∧ ReplyOnly s t) ∧
    (cmdConvStatus.accepts r s = true → Does (.convStatus r) s fun t =>
      Replied 0x84 r OK (bytesOfWords ([Reg.CONV_CFG, Reg.CONV_STATUS, Reg.PHASE_STATUS, Reg.CONV_VIN, Reg.CONV_AUX,
        Reg.RES_MODEL, Reg.RES_LAST, Reg.RES_CHARGE, Reg.CONV_COUNTS].map s.view)) s t ∧
      RegFrame replyRegs s t ∧ ReplyOnly s t) ∧
    (cmdTimeGet.accepts r s = true →
      (r.origin = .twoWire → Does (.timeGet r) s fun t =>
        Replied 0x90 r OK (leBytes 12 s.nowLayout ++ leBytes 8 s.tick ++ bytesOf (s.reg Reg.TIME_STATUS) ++
          [0, 0, 0, 0]) s t ∧ RegFrame replyRegs s t ∧ ReplyOnly s t) ∧
      (∀ mac, r.origin = .t1s mac → Does (.timeGet r) s fun t =>
        t.link.txFrames = s.link.txFrames ++ [{
          etherType := CMD_ETHERTYPE, dest := mac
          payload := padFrame (packet OK r.tag.toNat (leBytes 12 r.ingress ++ leBytes 8 s.tick ++
            bytesOf (s.reg Reg.TIME_STATUS) ++ [1, 0, 0, 0]))
          stamp := if byteAt r.params 0 = 1 then some (0, 0x9000 + r.tag.toNat) else none }] ∧
        RegFrame replyRegs s t ∧ ReplyOnly s t)) ∧
    (cmdTsRead.accepts r s = true → Fits cmdTsRead r s → Does (.tsRead r) s fun t =>
      Replied 0x94 r OK (leBytes 4 (s.mtime.ts.countP (·.kind == 0)) ++ hostEntries s.mtime.ts) s t ∧
      t.mtime = { s.mtime with ts := s.mtime.ts.filter (·.kind != 0) } ∧ RegFrame replyRegs s t) ∧
    (cmdPairStatus.accepts r s = true → Does (.pairStatus r) s fun t =>
      Replied 0xA3 r OK (bytesOfWords ([Reg.PAIR_STATE, Reg.PAIR_NOISE, Reg.PAIR_LEVER 0, Reg.PAIR_LEVER 1,
        Reg.PAIR_LEVER 2, Reg.PAIR_BOUNDARY_LO, Reg.PAIR_BOUNDARY_HI, Reg.PAIR_COUNTS, Reg.PAIR_DELTA,
        Reg.PAIR_CFG].map s.view)) s t ∧ RegFrame replyRegs s t ∧ ReplyOnly s t) ∧
    (cmdPioStatus.accepts r s = true → Does (.pioStatus r) s fun t =>
      Replied 0xB5 r OK (bytesOfWords ([s.view Reg.PIO_RUN, s.view Reg.PIO_PINS] ++
        (List.range 4).flatMap fun k => [s.view (Reg.PIO_STATE k), (s.pioEngine k).port])) s t ∧
      RegFrame replyRegs s t ∧ ReplyOnly s t) ∧
    (cmdHkRead.accepts r s = true → Does (.hkRead r) s fun t =>
      Replied 0xC2 r OK (bytesOfWords (((List.range 16).filter ((half r.params 0).testBit ·)).map
        fun k => s.view (Reg.HK_RES k))) s t ∧ RegFrame replyRegs s t ∧ ReplyOnly s t) ∧
    (cmdHkStatus.accepts r s = true → Does (.hkStatus r) s fun t =>
      Replied 0xC3 r OK (bytesOfWords ([Reg.HK_CTRL, Reg.HK_STATUS, Reg.HK_WEVENTS, Reg.HK_SLICE,
        Reg.HK_PASS_TIME].map s.view)) s t ∧ RegFrame replyRegs s t ∧ ReplyOnly s t)

/-- An accepted READ of one word returns what the register reads and has the read's side effect; of several words,
none of which claims, steps a memory address or latches, it returns each register's word and changes no register but
the reply's. An accepted WRITE of one word is the register's write by command, with a reply OK. An accepted MODIFY
writes (old and not mask) or (value and mask) and returns the old value. -/
def Obligations.HostAccessCommands : Prop :=
  ∀ (r : Req) (s : State), s.aon = true →
    (cmdRead.accepts r s = true →
      (half r.params 2 = 1 → Does (.read r) s fun t =>
        Replied 0x03 r OK (bytesOf (s.readValue (half r.params 0))) s t ∧
        RegFrame replyRegs (s.readEffect (half r.params 0)) t ∧ ReplyOnly (s.readEffect (half r.params 0)) t) ∧
      ((∀ a ∈ runOf (half r.params 0) (half r.params 2), leaders.contains a = false ∧ a ≠ Reg.INT_HOST_CLAIM ∧
          a ≠ Reg.EM_PMEM_DATA ∧ a ≠ Reg.PIO_PMEM_DATA) → Does (.read r) s fun t =>
        Replied 0x03 r OK (bytesOfWords ((runOf (half r.params 0) (half r.params 2)).map s.readValue)) s t ∧
        RegFrame replyRegs s t ∧ ReplyOnly s t)) ∧
    (cmdWrite.accepts r s = true → half r.params 2 = 1 → Does (.write r) s fun t =>
      ∀ u, exec (.registerWrite false (BitVec.ofNat 16 (half r.params 0)) (wordAt r.params 4)) s = .next u →
        Replied 0x04 r OK [] u t ∧ RegFrame replyRegs u t ∧ ReplyOnly u t) ∧
    (cmdModify.accepts r s = true → Does (.modify r) s fun t =>
      ∀ u, exec (.registerWrite false (BitVec.ofNat 16 (half r.params 0))
          ((s.readValue (half r.params 0) &&& ~~~ wordAt r.params 4) ||| (wordAt r.params 8 &&& wordAt r.params 4))) s =
            .next u →
        Replied 0x05 r OK (bytesOf (s.readValue (half r.params 0))) u t ∧ RegFrame replyRegs u t ∧ ReplyOnly u t)

/-- An accepted ABORT counts in CMD_ABORTS. Its scopes: COMMANDS leaves nothing executing or waiting and reports how
many commands it ended; MACHINES leaves no machine running; QUEUE no visible record; RING no capture in progress; DIAG
no self-test; IMAGE no slot being loaded and no settings block being staged; PIO no engine running; PAIR no pairing.
It leaves the safety state, the trip, the power entry, module time, the filters and the fused sample as they are. The
COMMANDS reply names the scope where it ended an activity. -/
def Obligations.AbortEndsActivities : Prop :=
  ∀ (r : Req) (s : State), s.aon = true → cmdAbort.accepts r s = true →
    (Does (.abort r) s fun t =>
      t.reg Reg.SAFE_STATE = s.reg Reg.SAFE_STATE ∧ t.reg Reg.SAFE_TRIP = s.reg Reg.SAFE_TRIP ∧ t.entry = s.entry ∧
      t.time = s.time ∧ t.tick = s.tick ∧ t.filt = s.filt ∧ t.committed = s.committed ∧
      t.fld CMD_ABORTS.ABORTS = min (s.fld CMD_ABORTS.ABORTS + 1) (2 ^ CMD_ABORTS.ABORTS.width - 1)) ∧
    (r.origin = .twoWire → numAt r.params 0 4 = 1 → Does (.abort r) s fun t =>
      t.link.executing = none ∧ t.link.waiting = [] ∧ t.link.cache = s.link.cache ∧
      t.link.replies.getLast? = some (packet OK r.tag.toNat
        (leBytes 4 (if s.link.executing = none ∧ s.link.waiting = [] then 0 else 1) ++
          leBytes 2 (s.link.executing.toList.length + s.link.waiting.length))) ∧
      RegFrame (Reg.CMD_ABORTS :: replyRegs) s t ∧ ReplyOnly s t) ∧
    ((numAt r.params 0 4).testBit 1 = true → Does (.abort r) s fun t => ∀ n < 32, t.running n = false) ∧
    ((numAt r.params 0 4).testBit 2 = true → Does (.abort r) s fun t => t.queue.visible = []) ∧
    ((numAt r.params 0 4).testBit 3 = true → Does (.abort r) s fun t => t.fld RING_STATUS.STATE ≠ RING_POST) ∧
    ((numAt r.params 0 4).testBit 4 = true → Does (.abort r) s fun t => t.testing = false) ∧
    ((numAt r.params 0 4).testBit 5 = true → Does (.abort r) s fun t => t.stagedOpen = false) ∧
    (s.fld (slotF 0) ≠ SL_LOADING ∨ s.fld (slotF 1) ≠ SL_LOADING → (numAt r.params 0 4).testBit 5 = true →
      Does (.abort r) s fun t => t.loadingSlot = none) ∧
    ((numAt r.params 0 4).testBit 6 = true → Does (.abort r) s fun t => ∀ k < 4, (t.pioEngine k).state ≠ 1) ∧
    ((numAt r.params 0 4).testBit 7 = true → Does (.abort r) s fun t => t.pairBusy = false)

/-- In Noon, over the bus without PEC, each register write row acts as the same write by command on the state in which
the transaction is open and the pointer has passed the word; while PEC is required it is only held, and nothing
changes but the transaction's opening. -/
def Obligations.WritesOverTheBus : Prop :=
  ∀ (s : State) (w : Word), s.aon = true → s.noon = true →
    (s.twStart.tw.pec = false →
      (∀ addr : BitVec 16, exec (.registerWrite true addr w) s =
        exec (.registerWrite false addr w) (s.twStart.busAccess (addr.toNat / 4 * 4) 4)) ∧
      exec (.emRegionWrite true w) s = exec (.emRegionWrite false w) (s.twStart.busAccess Reg.EM_REGION 4) ∧
      exec (.emFlagsWrite true w) s = exec (.emFlagsWrite false w) (s.twStart.busAccess Reg.EM_FLAGS 4) ∧
      exec (.emPmemData true w) s = exec (.emPmemData false w) (s.twStart.busAccess Reg.EM_PMEM_DATA 4) ∧
      exec (.pioPmemData true (some w)) s = exec (.pioPmemData false (some w)) (s.twStart.busAccess Reg.PIO_PMEM_DATA 4) ∧
      (∀ k : Fin 4, exec (.pioMportWrite true k w) s =
        exec (.pioMportWrite false k w) (s.twStart.busAccess (Reg.PIO_MPORT k.val) 4)) ∧
      exec (.pioSafeLevelWrite true w) s =
        exec (.pioSafeLevelWrite false w) (s.twStart.busAccess Reg.PIO_SAFE_LEVEL 4) ∧
      exec (.ringClear true) s = exec (.ringClear false) (s.twStart.busAccess Reg.RING_CMD 4) ∧
      exec (.discardReq true) s = exec (.discardReq false) (s.twStart.busAccess Reg.MBX_CTRL 4) ∧
      exec (.dropReply true) s = exec (.dropReply false) (s.twStart.busAccess Reg.MBX_CTRL 4) ∧
      exec (.mbxClear true) s = exec (.mbxClear false) (s.twStart.busAccess Reg.MBX_CTRL 4) ∧
      exec (.intDoorbell true w) s = exec (.intDoorbell false w) (s.twStart.busAccess Reg.INT_DOORBELL 4) ∧
      exec (.intHostComplete true w) s =
        exec (.intHostComplete false w) (s.twStart.busAccess Reg.INT_HOST_COMPLETE 4) ∧
      exec (.intHostSet true w) s = exec (.intHostSet false w) (s.twStart.busAccess Reg.INT_HOST_SET 4) ∧
      (∀ j : Fin 8, exec (.intHostEnWrite true j w) s =
        exec (.intHostEnWrite false j w) (s.twStart.busAccess (Reg.INT_HOST_EN j.val) 4))) ∧
    (s.twStart.tw.pec = true →
      (∀ addr : BitVec 16, Does (.registerWrite true addr w) s fun t => t = s.twStart) ∧
      (Does (.pioSafeLevelWrite true w) s fun t => t = s.twStart) ∧
      (Does (.twAddr2Write true w) s fun t => t = s.twStart) ∧
      (Does (.intHostComplete true w) s fun t => t = s.twStart) ∧
      (Does (.mbxClear true) s fun t => t = s.twStart)) ∧
    (∀ a n, (s.twStart.busAccess a n).fld TW_PAGE.POINTER = ptrAfter (a / 256) n (a % 256) % 256 ∧
      (s.twStart.busAccess a n).on TW_STATUS.BUSY = true ∧ RegFrame busRegs s (s.twStart.busAccess a n) ∧
      (s.twStart.busAccess a n) = { s with regs := (s.twStart.busAccess a n).regs, tw := s.twStart.tw })

/-- In Noon a read of each latching register returns what the register reads and latches every register of its set as
it stands, so later reads of the set are of one instant; a follower then reads its latched word. No register's storage
changes but what a bus transfer moves, and nothing else changes. -/
def Obligations.LatchingReads : Prop :=
  ∀ (s : State) (bytes : Fin 5), s.aon = true → s.noon = true →
    (Does (.sentinelXy bytes) s fun t => LatchingRead Reg.SENTINEL_XY s t) ∧
    (Does (.triadZXy bytes) s fun t => LatchingRead Reg.TRIAD_Z_XY s t) ∧
    (Does (.filtDelayNs bytes) s fun t => LatchingRead Reg.FILT_DELAY_NS s t) ∧
    (Does (.syncTickLo bytes) s fun t => LatchingRead Reg.SYNC_TICK_LO s t) ∧
    (Does (.emState bytes) s fun t => LatchingRead Reg.EM_STATE s t) ∧
    (Does (.emStartTickLo bytes) s fun t => LatchingRead Reg.EM_START_TICK_LO s t) ∧
    (Does (.specLastLo bytes) s fun t => LatchingRead Reg.SPEC_LAST_LO s t) ∧
    (Does (.safeTrip bytes) s fun t => LatchingRead Reg.SAFE_TRIP s t) ∧
    (Does (.ringTrigTickLo bytes) s fun t => LatchingRead Reg.RING_TRIG_TICK_LO s t) ∧
    (Does (.idSerialLo bytes) s fun t => LatchingRead Reg.ID_SERIAL_LO s t) ∧
    (Does (.timeNow0 bytes) s fun t => LatchingRead (Reg.TIME_NOW 0) s t) ∧
    (Does (.pairBoundaryLo bytes) s fun t => LatchingRead Reg.PAIR_BOUNDARY_LO s t) ∧
    (∀ k : Fin 4, Does (.pioState k bytes) s fun t => LatchingRead (Reg.PIO_STATE k.val) s t) ∧
    (Does (.xingInfo bytes) s fun t => LatchingRead Reg.XING_INFO s t)

/-- In Noon a register write stores the writable bits of a plain register and leaves its other bits; to a W1C register
(QUEUE_EVENTS apart, whose watermark returns with its level) it clears the bits written 1; outside Imago, to a
register of Imago's pages, and everywhere to a register without writable bits, it changes nothing. TW_ADDR2 refuses
the addresses of R293 with TW_STATUS.REFUSED; it takes effect at once by command, over the bus at the STOP. CLEAR of
INT_HOST registers and the commands of other rows are theirs. -/
def Obligations.RegisterWritesByAccessType : Prop :=
  ∀ (s : State) (w : Word), s.aon = true → s.noon = true →
    (∀ addr : BitVec 16, plainRegs.contains (addr.toNat / 4 * 4) = true →
      s.imago = true ∨ writableOutside (addr.toNat / 4 * 4) = true →
      Does (.registerWrite false addr w) s fun t =>
        t.reg (addr.toNat / 4 * 4) = (s.reg (addr.toNat / 4 * 4) &&& ~~~ rwMask (addr.toNat / 4 * 4)) |||
          (w &&& rwMask (addr.toNat / 4 * 4)) ∧
        (∀ b, b ≠ addr.toNat / 4 * 4 → t.reg b = s.reg b) ∧ t = { s with regs := t.regs }) ∧
    (∀ addr : BitVec 16, w1cMask (addr.toNat / 4 * 4) ≠ 0 → addr.toNat / 4 * 4 ≠ Reg.QUEUE_EVENTS →
      s.imago = true ∨ writableOutside (addr.toNat / 4 * 4) = true →
      Does (.registerWrite false addr w) s fun t =>
        t.reg (addr.toNat / 4 * 4) = s.reg (addr.toNat / 4 * 4) &&& ~~~ (w &&& w1cMask (addr.toNat / 4 * 4)) ∧
        (∀ b, b ≠ addr.toNat / 4 * 4 → t.reg b = s.reg b) ∧ t = { s with regs := t.regs }) ∧
    (∀ addr : BitVec 16, s.imago = false → writableOutside (addr.toNat / 4 * 4) = false →
      Does (.registerWrite false addr w) s fun t => t = s) ∧
    (∀ addr : BitVec 16, rwMask (addr.toNat / 4 * 4) = 0 → w1cMask (addr.toNat / 4 * 4) = 0 →
      actsOnWrite.contains (addr.toNat / 4 * 4) = false → Does (.registerWrite false addr w) s fun t =>
        RegFrame [] s t ∧ t = { s with regs := t.regs }) ∧
    (s.addr2Bad w = true → ∀ bus : Bool, s.twStart.tw.pec = false → Does (.twAddr2Write bus w) s fun t =>
      t.fld TW_STATUS.REFUSED = BAD_PARAM ∧ t.reg Reg.TW_ADDR2 = s.reg Reg.TW_ADDR2 ∧ t.tw.addr2 = s.tw.addr2) ∧
    (s.addr2Bad w = false → Does (.twAddr2Write false w) s fun t =>
      t.reg Reg.TW_ADDR2 &&& rwMask Reg.TW_ADDR2 = w &&& rwMask Reg.TW_ADDR2 ∧ t.tw.addr2 = t.reg Reg.TW_ADDR2 ∧
      RegFrame [Reg.TW_ADDR2] s t ∧ t = { s with regs := t.regs, tw := t.tw }) ∧
    (s.addr2Bad w = false → s.twStart.tw.pec = false → Does (.twAddr2Write true w) s fun t =>
      t.reg Reg.TW_ADDR2 &&& rwMask Reg.TW_ADDR2 = w &&& rwMask Reg.TW_ADDR2 ∧ t.tw.addr2 = s.tw.addr2)

/-- An accepted ARM clears the stored requests, stores the seed and enters ARMING with no output turned on. One
refused by a lock is answered SAFETY_LOCKED with the lowest lock, recorded in SAFE_REFUSED with source 46, and changes
nothing else. In ARMING or ARMED, by command or by SAFE_HB: Q = L + 1 is stored, restarts the timer, and from ARMING
enters ARMED with SAFE_A on; Q = L is OK and changes nothing; any other Q is BAD_PARAM and counted. In any other state
a heartbeat is WRONG_STATE. The monitor's two correct edges close SAFE_B, set SAFE_EVENTS bit 1 and commit SAFE_ARMED;
without them the readback path acts. -/
def Obligations.ArmHeartbeatPermission : Prop :=
  ∀ (r : Req) (s : State), s.aon = true →
    (cmdSafeArm.accepts r s = true → Does (.safeArm r) s fun t =>
      Replied 0x60 r OK [] s t ∧ t.safeState = ARMING ∧ t.fld SAFE_STATE.MON_STATE = ARMING ∧
      t.fld SAFE_STATE.HB_SEQ = half r.params 0 ∧ t.safety = { s.safety with requests := [], hbFrom := s.tick } ∧
      t.fld SAFE_STATE.A_ON = s.fld SAFE_STATE.A_ON ∧ t.fld SAFE_STATE.B_ON = s.fld SAFE_STATE.B_ON ∧
      RegFrame (Reg.SAFE_STATE :: Reg.SAFE_MON_STATUS :: replyRegs) s t) ∧
    (s.noon = true → s.imago = true → r.params.length = 2 → ∀ l, s.armLock = some l → Does (.safeArm r) s fun t =>
      Replied 0x60 r SAFETY_LOCKED (reason l) s t ∧ t.fld SAFE_REFUSED.LOCK = l ∧
      t.fld SAFE_REFUSED.STATUS = SAFETY_LOCKED ∧ Raised Reg.SAFE_EVENTS 5 s t ∧
      RegFrame (Reg.SAFE_REFUSED :: Reg.SAFE_EVENTS :: replyRegs) s t ∧ ReplyOnly s t) ∧
    (s.noon = true → s.imago = true → r.params.length = 2 → s.armed = true →
      (half r.params 0 = (s.fld SAFE_STATE.HB_SEQ + 1) % 65536 → Does (.safeHeartbeat r) s fun t =>
        Delivered r.origin (packet OK r.tag.toNat []) s t ∧ t.fld SAFE_STATE.HB_SEQ = half r.params 0 ∧
        t.safety = { s.safety with hbFrom := s.tick } ∧ t.safeState = ARMED ∧
        (s.safeState = ARMING → t.on SAFE_STATE.A_ON = true ∧ t.fld SAFE_STATE.MON_STATE = ARMED) ∧
        t.fld SAFE_STATE.B_ON = s.fld SAFE_STATE.B_ON ∧ RegFrame (Reg.SAFE_STATE :: replyRegs) s t) ∧
      (half r.params 0 = s.fld SAFE_STATE.HB_SEQ → Does (.safeHeartbeat r) s fun t =>
        Delivered r.origin (packet OK r.tag.toNat []) s t ∧ RegFrame replyRegs s t ∧ ReplyOnly s t) ∧
      (half r.params 0 ≠ (s.fld SAFE_STATE.HB_SEQ + 1) % 65536 → half r.params 0 ≠ s.fld SAFE_STATE.HB_SEQ →
        Does (.safeHeartbeat r) s fun t =>
          Delivered r.origin (packet BAD_PARAM r.tag.toNat []) s t ∧
          t.fld SAFE_COUNTS.HB_BAD = min (s.fld SAFE_COUNTS.HB_BAD + 1) (2 ^ SAFE_COUNTS.HB_BAD.width - 1) ∧
          RegFrame (Reg.SAFE_COUNTS :: replyRegs) s t ∧ ReplyOnly s t)) ∧
    (s.noon = true → s.imago = true → r.params.length = 2 → s.armed = false → Does (.safeHeartbeat r) s fun t =>
      Delivered r.origin (packet WRONG_STATE r.tag.toNat []) s t ∧ RegFrame replyRegs s t ∧ ReplyOnly s t) ∧
    (∀ w : Word, s.noon = true → s.imago = true → s.armed = true →
      bits w 0 16 = (s.fld SAFE_STATE.HB_SEQ + 1) % 65536 →
      Does (.registerWrite false (BitVec.ofNat 16 Reg.SAFE_HB) w) s fun t =>
        t.fld SAFE_STATE.HB_SEQ = bits w 0 16 ∧ t.safety = { s.safety with hbFrom := s.tick } ∧ t.safeState = ARMED ∧
        (s.safeState = ARMING → t.on SAFE_STATE.A_ON = true) ∧ RegFrame [Reg.SAFE_STATE] s t) ∧
    (s.safeState = ARMED → s.on SAFE_STATE.B_ON = false →
      (Does (.safeBClose true) s fun t =>
        t.on SAFE_STATE.B_ON = true ∧ t.fld SAFE_STATE.A_ON = s.fld SAFE_STATE.A_ON ∧ t.safeState = ARMED ∧
        t.safety.discharge = false ∧ Commits (s.safeRec 0x31 0 0 0xFF s.tick) s t ∧
        RegFrame (Reg.SAFE_STATE :: Reg.SAFE_EVENTS :: commitRegs) s t ∧ SafeParts s t) ∧
      (Does (.safeBClose false) s fun t => PathActed C_READBACK_A S_FAULT s t))

/-- In ARMING or ARMED each of these takes both outputs off, changes both copies of the state, records cause and tick
in SAFE_TRIP and commits one STATUS record: a heartbeat timeout (TRIPPED, from ARMING DISARMED), DISARM by command or
register (DISARMED), a readback fault of A or B, and a monitor disagreement (FAULT). While off, a readback fault or a
disagreement still leads to FAULT from every other state, and in FAULT they, like DISARM, change no state and are
counted in LATE_REQ. On a trip the pins of PIO_ON_TRIP are held, on LOCKED all six. -/
def Obligations.PathsToSafeOff : Prop :=
  ∀ s : State, s.aon = true →
    (s.armed = true →
      (Does .heartbeatTimeout s fun t =>
        PathActed C_HEARTBEAT (if s.safeState = ARMING then DISARMED else TRIPPED) s t ∧
        Raised Reg.SAFE_EVENTS 2 s t ∧
        (s.safeState = ARMED → t.pins.held = s.pins.held ||| s.fld SAFE_CFG.PIO_ON_TRIP)) ∧
      (s.noon = true → s.imago = true → Does (.registerWrite false (BitVec.ofNat 16 Reg.SAFE_CMD) 0x40000000) s fun t =>
        PathActed C_DISARM DISARMED s t)) ∧
    (s.armed = false → Does .heartbeatTimeout s fun t => t = s) ∧
    (∀ pinB : Bool, s.safeState ≠ S_FAULT → Does (.readbackFault pinB) s fun t =>
      PathActed (if pinB then C_READBACK_B else C_READBACK_A) S_FAULT s t ∧
      t.on SAFE_MON_STATUS.FAULT_LATCHED = true ∧ t.fld SAFE_MON_STATUS.FAULT_PIN = (if pinB then 2 else 1) ∧
      Raised Reg.SAFE_EVENTS 3 s t) ∧
    (s.safeState ≠ S_FAULT → Does .monitorDisagree s fun t =>
      PathActed C_MONITOR S_FAULT s t ∧ t.on SAFE_MON_STATUS.FAULT_LATCHED = true ∧ Raised Reg.SAFE_EVENTS 4 s t) ∧
    (∀ r : Req, cmdSafeDisarm.accepts r s = true → s.armed = true → Does (.safeDisarm r) s fun t =>
      Replied 0x62 r OK [] s t ∧ t.SafeOff ∧ t.safeState = DISARMED ∧ t.fld SAFE_STATE.MON_STATE = DISARMED ∧
      t.fld SAFE_TRIP.CAUSE = C_DISARM ∧ RegFrame (safeRegs ++ replyRegs) s t) ∧
    (∀ r : Req, cmdSafeDisarm.accepts r s = true → s.armed = false → Does (.safeDisarm r) s fun t =>
      Replied 0x62 r OK [] s t ∧ t.reg Reg.SAFE_STATE = s.reg Reg.SAFE_STATE ∧
      t.fld SAFE_COUNTS.LATE_REQ = min (s.fld SAFE_COUNTS.LATE_REQ + 1) (2 ^ SAFE_COUNTS.LATE_REQ.width - 1) ∧
      RegFrame (Reg.SAFE_COUNTS :: replyRegs) s t ∧ ReplyOnly s t) ∧
    (s.safeState = S_FAULT → s.noon = true → ∀ pinB : Bool, Does (.readbackFault pinB) s fun t =>
      t.fld SAFE_COUNTS.LATE_REQ = min (s.fld SAFE_COUNTS.LATE_REQ + 1) (2 ^ SAFE_COUNTS.LATE_REQ.width - 1) ∧
      RegFrame [Reg.SAFE_COUNTS] s t ∧ t = { s with regs := t.regs }) ∧
    (Does .stateExchange s fun t =>
      (s.fld SAFE_STATE.MON_STATE = s.safeState → t.safety.differSince = none) ∧
      (s.fld SAFE_STATE.MON_STATE ≠ s.safeState → t.safety.differSince = some (s.safety.differSince.getD s.tick)) ∧
      t = { s with safety := { s.safety with differSince := t.safety.differSince } }) ∧
    (Does .safeBDischargeEnd s fun t => t = { s with safety := { s.safety with discharge := false } })

/-- An accepted SAFE_CONFIG stores SAFE_CFG, the two masks and the pin levels. In ARMING or ARMED it is answered
SAFETY_LOCKED, recorded in SAFE_REFUSED with source 46, and stores nothing; so is a write of PIO_SAFE_LEVEL. In any
other state that write stores the twelve bits, and in LOCKED all pins are held at them. FAULT_CLEAR in FAULT with both
pins long off enters DISARMED and clears the latched fault; with them not long off it is SAFETY_LOCKED; in any other
state it changes nothing. -/
def Obligations.SafetyConfiguration : Prop :=
  ∀ (r : Req) (s : State), s.aon = true →
    (cmdSafeConfig.accepts r s = true → Does (.safeConfig r) s fun t =>
      Replied 0x64 r OK [] s t ∧ t.fld SAFE_CFG.HB_TIMEOUT = byteAt r.params 0 ∧
      t.fld SAFE_CFG.QUORUM = bits (wordAt r.params 0) 8 6 ∧ t.reg Reg.SAFE_EM_MASK = wordAt r.params 4 ∧
      t.fld SAFE_REC_MASK.MASK = bits (wordAt r.params 8) 0 9 ∧
      t.fld PIO_SAFE_LEVEL.LEVEL = (wordAt r.params 12).toNat % 4096 ∧
      RegFrame ([Reg.SAFE_CFG, Reg.SAFE_EM_MASK, Reg.SAFE_REC_MASK, Reg.PIO_SAFE_LEVEL] ++ replyRegs) s t) ∧
    (s.noon = true → s.imago = true → r.params.length = 16 → 20 ≤ byteAt r.params 0 → byteAt r.params 0 ≤ 200 →
      s.armed = true → Does (.safeConfig r) s fun t =>
        Replied 0x64 r SAFETY_LOCKED [] s t ∧ t.fld SAFE_REFUSED.STATUS = SAFETY_LOCKED ∧ Raised Reg.SAFE_EVENTS 5 s t ∧
        RegFrame (Reg.SAFE_REFUSED :: Reg.SAFE_EVENTS :: replyRegs) s t ∧ ReplyOnly s t) ∧
    (∀ w : Word, s.noon = true →
      (s.armed = true → Does (.pioSafeLevelWrite false w) s fun t =>
        t.fld SAFE_REFUSED.STATUS = SAFETY_LOCKED ∧ Raised Reg.SAFE_EVENTS 5 s t ∧
        RegFrame [Reg.SAFE_REFUSED, Reg.SAFE_EVENTS] s t ∧ RegsOnly s t) ∧
      (s.armed = false → Does (.pioSafeLevelWrite false w) s fun t =>
        t.reg Reg.PIO_SAFE_LEVEL = putF PIO_SAFE_LEVEL.LEVEL (w.toNat % 4096) (s.reg Reg.PIO_SAFE_LEVEL) ∧
        RegFrame [Reg.PIO_SAFE_LEVEL] s t ∧ t = { s with regs := t.regs, pins := t.pins } ∧
        (s.safeState ≠ LOCKED → t.pins = s.pins) ∧
        (s.safeState = LOCKED → t.pins = { s.pins with held := s.pins.held ||| 63 }))) ∧
    (cmdSafeFaultClear.accepts r s = true → s.safeState = S_FAULT → Does (.safeFaultClear r) s fun t =>
      Replied 0x63 r OK [] s t ∧ t.safeState = DISARMED ∧ t.fld SAFE_STATE.MON_STATE = DISARMED ∧
      t.on SAFE_MON_STATUS.FAULT_LATCHED = false ∧ Commits (s.safeRec 0x32 0 0 0xFF s.tick) s t ∧
      t.fld SAFE_STATE.A_ON = s.fld SAFE_STATE.A_ON ∧ t.fld SAFE_STATE.B_ON = s.fld SAFE_STATE.B_ON) ∧
    (s.noon = true → s.imago = true → r.params = [] → s.safeState = S_FAULT → s.offLong = false →
      Does (.safeFaultClear r) s fun t =>
        Replied 0x63 r SAFETY_LOCKED [] s t ∧ RegFrame replyRegs s t ∧ ReplyOnly s t) ∧
    (cmdSafeFaultClear.accepts r s = true → s.safeState ≠ S_FAULT → Does (.safeFaultClear r) s fun t =>
      Replied 0x63 r OK [] s t ∧ RegFrame replyRegs s t ∧ ReplyOnly s t)

/-- In a RUNNING engine that is not in legacy mode each instruction takes one cycle (TCNT + 1) and moves the PC to the
next word, or to its target where it jumps. NOP does nothing else; JMP, JTAB and ADDJ jump; SHIN, ADDJ, LDI, PUT and
GET write the register named; PUT also sets NPORT; SET, DIR and SETX move only pins of the mask that the engine owns
and no safety hold keeps; IRQ sets PIO_EVENTS bit k; HALT halts with the PC kept. The other engines, and all else,
stay. -/
def Obligations.PioInstructions : Prop :=
  ∀ (s : State) (k : Fin 4), s.aon = true → ∀ e, e = s.pioEngine k.val → e.state = 1 → s.legacy k.val = false →
    (Does (.pioNop k) s fun t =>
      EngineIs k.val { e with pc := (e.pc + 1) % 64, tcnt := e.tcnt + 1 } s t ∧ t = { s with pio := t.pio }) ∧
    (∀ (pins : BitVec 6) (cond : Fin 8) (pin target : BitVec 6), Does (.pioJmp k pins cond pin target) s fun t =>
      EngineIs k.val { e with
        pc := if pioCond cond.val (pin.toNat % 6) (pins.toNat &&& (63 - s.analogPins)) e then target.toNat else (e.pc + 1) % 64
        tcnt := e.tcnt + 1 } s t ∧
      t = { s with pio := t.pio, pins := { s.pins with inp := pins.toNat } }) ∧
    (∀ mask levels : BitVec 6, Does (.pioSet k mask levels) s fun t =>
      EngineIs k.val { e with pc := (e.pc + 1) % 64, tcnt := e.tcnt + 1 } s t ∧
      t = { s with pio := t.pio, pins := { s.pins with out := mergeBits s.pins.out levels.toNat (s.reached k.val mask) } }) ∧
    (∀ mask dirs : BitVec 6, Does (.pioDir k mask dirs) s fun t =>
      EngineIs k.val { e with pc := (e.pc + 1) % 64, tcnt := e.tcnt + 1 } s t ∧
      t = { s with pio := t.pio, pins := { s.pins with oe := mergeBits s.pins.oe dirs.toNat (s.reached k.val mask) } }) ∧
    (∀ (pins : BitVec 6) (width : Fin 4) (pin : Fin 6), Does (.pioShin k pins width pin) s fun t =>
      EngineIs k.val { e with
        pc := (e.pc + 1) % 64, tcnt := e.tcnt + 1
        x := (e.x <<< (width.val + 1)) |||
          w32 ((pins.toNat &&& (63 - s.analogPins)) >>> pin.val % 2 ^ (width.val + 1)) } s t ∧
      t = { s with pio := t.pio, pins := { s.pins with inp := pins.toNat } }) ∧
    (∀ base : Fin 49, Does (.pioJtab k base) s fun t =>
      EngineIs k.val { e with pc := base.val + e.x.toNat % 16, tcnt := e.tcnt + 1 } s t ∧ t = { s with pio := t.pio }) ∧
    (∀ (reg : Fin 3) (delta target : BitVec 6), Does (.pioAddj k reg delta target) s fun t =>
      EngineIs k.val (pioPut reg.val (pioGet reg.val e + delta.signExtend 32)
        { e with pc := target.toNat, tcnt := e.tcnt + 1 }) s t ∧ t = { s with pio := t.pio }) ∧
    (∀ (reg : Fin 3) (v : BitVec 16), Does (.pioLdi k reg v) s fun t =>
      EngineIs k.val (pioPut reg.val (v.setWidth 32) { e with pc := (e.pc + 1) % 64, tcnt := e.tcnt + 1 }) s t ∧
      t = { s with pio := t.pio }) ∧
    (∀ (reg : Fin 3) (v : BitVec 16), Does (.pioPut k reg v) s fun t =>
      EngineIs k.val (pioPut reg.val (v.setWidth 32)
        { e with pc := (e.pc + 1) % 64, tcnt := e.tcnt + 1, nport := pioGet reg.val e }) s t ∧
      RegFrame [Reg.NOTCH_FREQ, Reg.FILT_STATUS] s t ∧ t = { s with pio := t.pio, filt := t.filt, regs := t.regs } ∧
      (s.fld NOTCH_CTRL.ENGINE ≠ k.val → t = { s with pio := t.pio })) ∧
    (∀ reg : Fin 3, Does (.pioGet k reg) s fun t =>
      EngineIs k.val (pioPut reg.val e.mport { e with pc := (e.pc + 1) % 64, tcnt := e.tcnt + 1 }) s t ∧
      t = { s with pio := t.pio }) ∧
    (∀ mask : BitVec 6, Does (.pioSetx k mask) s fun t =>
      EngineIs k.val { e with pc := (e.pc + 1) % 64, tcnt := e.tcnt + 1 } s t ∧
      t = { s with pio := t.pio, pins := { s.pins with out := mergeBits s.pins.out (e.x.toNat % 64) (s.reached k.val mask) } }) ∧
    (Does (.pioIrq k) s fun t =>
      EngineIs k.val { e with pc := (e.pc + 1) % 64, tcnt := e.tcnt + 1 } s t ∧ Raised Reg.PIO_EVENTS k.val s t ∧
      RegFrame [Reg.PIO_EVENTS] s t ∧ RegsOnly { s with pio := t.pio } t) ∧
    (Does (.pioHalt k) s fun t =>
      EngineIs k.val { e with state := 2, tcnt := e.tcnt + 1 } s t ∧ Raised Reg.PIO_EVENTS k.val s t ∧
      t.on (bitF Reg.PIO_RUN k.val) = false ∧ t.on (bitF Reg.PIO_RUN (4 + k.val)) = true ∧
      RegFrame [Reg.PIO_RUN, Reg.PIO_EVENTS] s t ∧ RegsOnly { s with pio := t.pio } t)

/-- PIO_LOAD stores its words in the engine named. PIO_START starts each engine named with PC, X, Y and TCNT 0 and its
ports kept. PIO_STOP stops each engine named, its owned outputs at their safe levels. PIO_INJECT of a word that does
not jump leaves a STOPPED engine's PC. PIO_CONFIG stores the three words. A write to PIO_MPORT sets the port; one to
PIO_PMEM_DATA stores the word and advances the address, or records its reason; a read returns the word. A legacy entry
that is due sets its owned pins that are not held, and the engine passes to the next entry, halts after LAST, or
restarts at entry 0 with TCNT 0. -/
def Obligations.PioCommands : Prop :=
  (∀ (r : Req) (s : State), s.aon = true → s.pio.length = 4 →
    (cmdPioLoad.accepts r s = true → Does (.pioLoad r) s fun t =>
      Replied 0xB0 r OK [] s t ∧ RegFrame replyRegs s t ∧
      (∀ a < 64, (t.pioEngine (byteAt r.params 0)).word a =
        if byteAt r.params 1 ≤ a ∧ a < byteAt r.params 1 + byteAt r.params 2 then
          wordAt r.params (4 + 4 * (a - byteAt r.params 1))
        else (s.pioEngine (byteAt r.params 0)).word a) ∧
      EngineIs (byteAt r.params 0) { s.pioEngine (byteAt r.params 0) with mem := (t.pioEngine (byteAt r.params 0)).mem } s t) ∧
    (cmdPioStart.accepts r s = true → Does (.pioStart r) s fun t =>
      Replied 0xB1 r OK [] s t ∧ RegFrame (Reg.PIO_RUN :: replyRegs) s t ∧
      (∀ k < 4, t.pioEngine k = if (numAt r.params 0 4).testBit k then
          { s.pioEngine k with state := 1, pc := 0, x := 0, y := 0, tcnt := 0, entry := 0 } else s.pioEngine k) ∧
      (∀ k < 4, (numAt r.params 0 4).testBit k = true → t.on (bitF Reg.PIO_RUN k) = true) ∧
      t.pins.out = s.pins.out ∧ t.pins.inp = s.pins.inp) ∧
    (cmdPioStop.accepts r s = true → Does (.pioStop r) s fun t =>
      Replied 0xB2 r OK [] s t ∧ RegFrame (Reg.PIO_RUN :: replyRegs) s t ∧
      (∀ k < 4, t.pioEngine k = if (numAt r.params 0 4).testBit k then { s.pioEngine k with state := 0 }
        else s.pioEngine k) ∧
      (∀ k < 4, numAt r.params 0 4 = 2 ^ k → t.pins = (s.applySafeLevel (s.owned k &&& s.pins.oe)).pins)) ∧
    (cmdPioInject.accepts r s = true → (s.pioEngine (byteAt r.params 0)).state ≠ 1 → pOp (wordAt r.params 4) ≠ 0xF →
      pOp (wordAt r.params 4) ≠ 0xB → pOp (wordAt r.params 4) ≠ 8 → Does (.pioInject r) s fun t =>
        Replied 0xB3 r OK [] s t ∧ RegFrame replyRegs s t ∧
        EngineIs (byteAt r.params 0) (pioRegs (wordAt r.params 4) s.pinLevels (s.pioEngine (byteAt r.params 0))) s t ∧
        (t.pioEngine (byteAt r.params 0)).pc = (s.pioEngine (byteAt r.params 0)).pc ∧
        t.pins = (s.pioDrive (byteAt r.params 0) (wordAt r.params 4)).pins) ∧
    (cmdPioConfig.accepts r s = true → Does (.pioConfig r) s fun t =>
      Replied 0xB4 r OK [] s t ∧ t.reg Reg.PIO_PINMUX = wordAt r.params 0 ∧ t.reg Reg.PIO_FILTER = wordAt r.params 4 ∧
      t.reg Reg.PIO_MODE = wordAt r.params 8 ∧ t.pio = s.pio ∧
      RegFrame ([Reg.PIO_PINMUX, Reg.PIO_FILTER, Reg.PIO_MODE] ++ replyRegs) s t)) ∧
  (∀ (s : State) (w : Word), s.aon = true → s.noon = true → s.pio.length = 4 →
    (∀ k : Fin 4, s.imago = true → Does (.pioMportWrite false k w) s fun t =>
      EngineIs k.val { s.pioEngine k.val with mport := w } s t ∧ t = { s with pio := t.pio }) ∧
    (s.imago = true →
      s.pioLoadReason (s.fld PIO_PMEM_ADDR.ENGINE) (s.fld PIO_PMEM_ADDR.ADDR) [w] = none →
      Does (.pioPmemData false (some w)) s fun t =>
        (t.pioEngine (s.fld PIO_PMEM_ADDR.ENGINE)).word (s.fld PIO_PMEM_ADDR.ADDR) = w ∧
        t.fld PIO_PMEM_ADDR.ADDR = (s.fld PIO_PMEM_ADDR.ADDR + 1) % 64 ∧ RegFrame [Reg.PIO_PMEM_ADDR] s t ∧
        t = { s with regs := t.regs, pio := t.pio }) ∧
    (s.imago = true → ∀ x, s.pioLoadReason (s.fld PIO_PMEM_ADDR.ENGINE) (s.fld PIO_PMEM_ADDR.ADDR) [w] = some x →
      Does (.pioPmemData false (some w)) s fun t =>
        t.fld PIO_REFUSED.STATUS = REJECTED ∧ t.fld PIO_REFUSED.REASON = x % 256 ∧ RegFrame [Reg.PIO_REFUSED] s t ∧
        t = { s with regs := t.regs }) ∧
    (Does (.pioPmemData false none) s fun t =>
      t.busOut = (s.pioEngine (s.fld PIO_PMEM_ADDR.ENGINE)).word (s.fld PIO_PMEM_ADDR.ADDR) ∧
      t.fld PIO_PMEM_ADDR.ADDR = (s.fld PIO_PMEM_ADDR.ADDR + 1) % 64 ∧ RegFrame [Reg.PIO_PMEM_ADDR] s t ∧
      t = { s with regs := t.regs, busOut := t.busOut })) ∧
  (∀ (s : State) (k : Fin 4), s.aon = true → ∀ e, e = s.pioEngine k.val → e.state = 1 → s.legacy k.val = true →
    e.due = true → ∀ a, a = e.word (2 * e.entry + 1) →
    Does (.legacyActionFire k) s fun t =>
      t.pins = { s.pins with out := mergeBits s.pins.out (bits a 8 6) (s.reached k.val (a.setWidth 6)) } ∧
      (bit a 16 = true → Raised Reg.PIO_EVENTS k.val s t) ∧
      (bit a 18 = true → EngineIs k.val { e with entry := 0, tcnt := 0 } s t) ∧
      (bit a 18 = false → (bit a 17 = true ∨ 31 ≤ e.entry) →
        EngineIs k.val { e with state := 2 } s t ∧ t.on (bitF Reg.PIO_RUN (4 + k.val)) = true) ∧
      (bit a 18 = false → bit a 17 = false → e.entry < 31 →
        EngineIs k.val { e with entry := e.entry + 1, tcnt := e.tcnt + 1 } s t) ∧
      RegFrame [Reg.PIO_RUN, Reg.PIO_EVENTS] s t)

/-- An accepted QUEUE_READ returns the oldest whole records that fit and removes them. QUEUE_FLUSH without a drop
state discards the visible records. QUEUE_CONFIG stores both words and restarts SAMPLE_DIV. A byte read from the queue
window is the next byte of an idle word begun, of the record partly read, of the oldest visible record, which then
leaves the queue word by word, else the first of the idle item. With 64 words free an OVERFLOW_GAP commits the GAP
record of the drop state and ends it. A visible record with an uncorrectable word is removed, opens or extends the
drop state and sets QUEUE_EVENTS bit 7. -/
def Obligations.OutputQueue : Prop :=
  ∀ s : State, s.aon = true →
    (∀ r : Req, cmdQueueRead.accepts r s = true → Does (.queueRead r) s fun t =>
      ∀ n, n = wholeFit (s.replyLimit r.origin (half r.params 0)) (s.queue.visible.map (·.words)) →
        Replied 0x70 r OK (bytesOfWords ((s.queue.visible.take n).flatMap (·.words))) s t ∧
        t.queue.visible = s.queue.visible.drop n ∧ t.queue.seq = s.queue.seq ∧ t.queue.drop = s.queue.drop ∧
        RegFrame replyRegs s t) ∧
    (∀ r : Req, cmdQueueFlush.accepts r s = true → s.queue.drop = none → Does (.queueFlush r) s fun t =>
      Replied 0x71 r OK [] s t ∧ t.queue = { s.queue with visible := [] } ∧ t.t1s = { s.t1s with closed := 0 } ∧
      RegFrame replyRegs s t) ∧
    (∀ r : Req, cmdQueueFlush.accepts r s = true → ∀ e, s.queue.drop = some e → Does (.queueFlush r) s fun t =>
      t.queue.visible = [{ tick := s.tick, words := (e.gap s.tick).words s.queue.seq.toNat }] ∧ t.queue.drop = none) ∧
    (∀ r : Req, cmdQueueConfig.accepts r s = true → Does (.queueConfig r) s fun t =>
      Replied 0x72 r OK [] s t ∧ t.reg Reg.QUEUE_CFG &&& rwMask Reg.QUEUE_CFG = wordAt r.params 0 ∧ t.reg Reg.QUEUE_HK = wordAt r.params 4 ∧
      t.queue.skip = 0 ∧ t.queue.visible = s.queue.visible ∧
      RegFrame ([Reg.QUEUE_CFG, Reg.QUEUE_HK, Reg.QUEUE_EVENTS] ++ replyRegs) s t) ∧
    (s.noon = true →
      (∀ b rest, s.queue.idle = b :: rest → Does .queueWindowRead s fun t =>
        t.busOut = b.setWidth 32 ∧ t.queue = { s.queue with idle := rest } ∧ RegFrame busRegs s t) ∧
      (s.queue.idle = [] →
        (∀ b rest, s.queue.partly = b :: rest → Does .queueWindowRead s fun t =>
          t.busOut = b.setWidth 32 ∧ t.queue.partly = rest ∧ t.queue.visible = s.queue.visible ∧ RegFrame busRegs s t) ∧
        (s.queue.partly = [] → s.sinkNow = 0 → ∀ q qs, s.queue.visible = q :: qs → q.words ≠ [] →
          Does .queueWindowRead s fun t =>
            t.busOut = ((bytesOfWords q.words).getD 0 0).setWidth 32 ∧ t.queue.visible = qs ∧
            t.queue.partly = (bytesOfWords q.words).drop 1 ∧ RegFrame busRegs s t ∧
            t = { s with regs := t.regs, queue := t.queue, busOut := t.busOut, tw := t.tw }) ∧
        (s.queue.partly = [] → (s.sinkNow ≠ 0 ∨ s.queue.visible = []) → Does .queueWindowRead s fun t =>
          t.busOut = 0 ∧ t.queue.idle = [0, 0, 0xFC] ∧ t.queue.visible = s.queue.visible ∧ RegFrame busRegs s t))) ∧
    (s.noon = true → s.imago = true → 64 ≤ s.freeWords → ∀ e, s.queue.drop = some e → Does .overflowGap s fun t =>
      t.queue.drop = none ∧ t.queue.seq = s.queue.seq + 1 ∧
      t.queue.visible = s.queue.visible ++ [{ tick := s.tick, words := (e.gap s.tick).words s.queue.seq.toNat }] ∧
      RegFrame commitRegs s t ∧ StoresOnly s t) ∧
    (s.noon = true → ∀ (k : Fin 1024) q, s.queue.visible[k.val]? = some q → Does (.queueEccError k) s fun t =>
      t.queue.visible = s.queue.visible.eraseIdx k.val ∧ t.queue.drop.isSome = true ∧ t.queue.seq = s.queue.seq ∧
      t.fld QUEUE_DROPS.OVERFLOW = min (s.fld QUEUE_DROPS.OVERFLOW + 1) (2 ^ QUEUE_DROPS.OVERFLOW.width - 1) ∧
      Raised Reg.QUEUE_EVENTS 7 s t ∧ RegFrame [Reg.QUEUE_DROPS, Reg.QUEUE_EVENTS] s t)

/-- RING_CONFIG stores RING_CFG and the four descriptors; with EN set an OFF ring runs, with EN clear it is OFF.
RING_TRIGGER in RUNNING starts a capture at the latest committed sample's tick, which it returns, and commits
RING_TRIGGER's STATUS record; else it is answered NO_RESOURCE and counted. RING_READ returns its position, the
position after, and the whole records that fit, and changes no store. RING_RELEASE resumes from FROZEN with the
history kept and empties a FULL ring. CLEAR empties the ring. The end of a capture freezes the ring, sets CAP_END,
QUEUE_EVENTS bit 3. One bad copy of the pointers is corrected and counted; two reset the ring, counted, reported and
recorded. -/
def Obligations.SampleMemory : Prop :=
  ∀ s : State, s.aon = true →
    (∀ r : Req, cmdRingConfig.accepts r s = true → Does (.ringConfig r) s fun t =>
      Replied 0x73 r OK [] s t ∧ t.reg Reg.RING_CFG &&& rwMask Reg.RING_CFG = wordAt r.params 0 ∧
      (∀ k < 4, t.reg (Reg.CAP_DESC k) = wordAt r.params (4 + 4 * k)) ∧
      t.fld RING_STATUS.STATE = (if (wordAt r.params 0).getLsbD 0 then
        (if s.fld RING_STATUS.STATE = RING_OFF then RING_RUNNING else s.fld RING_STATUS.STATE) else RING_OFF) ∧
      t.ring = s.ring ∧ RegFrame ([Reg.RING_CFG, Reg.RING_STATUS, Reg.CAP_DESC 0, Reg.CAP_DESC 1, Reg.CAP_DESC 2,
        Reg.CAP_DESC 3] ++ replyRegs) s t) ∧
    (∀ r : Req, cmdRingTrigger.accepts r s = true → Does (.ringTrigger r) s fun t =>
      Replied 0x74 r OK (leBytes 8 s.voteTick) s t ∧
      (s.ring.policy = s.fld RING_CFG.POLICY → s.ring.content = s.fld RING_CFG.CONTENT → s.ring.policy ≠ 1 →
        t.fld RING_STATUS.STATE = RING_POST ∧ t.ring.trigTick = s.voteTick ∧
        t.fld RING_STATUS.DESC = byteAt r.params 0) ∧
      Raised Reg.QUEUE_EVENTS 2 s t ∧ RegFrame (commitRegs ++ replyRegs) s t) ∧
    (∀ r : Req, s.noon = true → s.imago = true → r.params.length = 1 → byteAt r.params 0 ≤ 3 → s.ringRuns = false →
      Does (.ringTrigger r) s fun t =>
        Replied 0x74 r NO_RESOURCE [] s t ∧ t.ring = s.ring ∧ RegFrame (Reg.RING_STATUS :: replyRegs) s t ∧
        t.fld RING_STATUS.LOST_TRIG = min (s.fld RING_STATUS.LOST_TRIG + 1) (2 ^ RING_STATUS.LOST_TRIG.width - 1)) ∧
    (∀ r : Req, cmdRingRead.accepts r s = true → Does (.ringRead r) s fun t =>
      (∀ rs, rs = recsFrom (s.ringPos (numAt r.params 0 4)) s.ring.recs →
        ∀ got, got = rs.take (wholeFit (min (half r.params 4) (if s.frameLimited r.origin then 266 else 1008)) (rs.map (·.words))) →
        Replied 0x75 r OK (leBytes 4 (s.ringPos (numAt r.params 0 4)) ++
          leBytes 4 (posAfter (s.ringPos (numAt r.params 0 4)) got) ++ bytesOfWords (got.flatMap (·.words))) s t) ∧
      RegFrame replyRegs s t ∧ ReplyOnly s t) ∧
    (∀ r : Req, cmdRingRelease.accepts r s = true →
      (s.fld RING_STATUS.STATE = RING_FROZEN → Does (.ringRelease r) s fun t =>
        Replied 0x76 r OK [] s t ∧ t.fld RING_STATUS.STATE = RING_RUNNING ∧ t.ring = s.ring ∧
        RegFrame (Reg.RING_STATUS :: replyRegs) s t) ∧
      (s.fld RING_STATUS.STATE = RING_FULL → Does (.ringRelease r) s fun t =>
        t.ring.recs = [] ∧ t.ring.wr = 0 ∧ t.fld RING_STATUS.STATE = (if s.on RING_CFG.EN then RING_RUNNING else RING_OFF)) ∧
      (s.fld RING_STATUS.STATE < RING_FROZEN → Does (.ringRelease r) s fun t =>
        Replied 0x76 r OK [] s t ∧ RegFrame replyRegs s t ∧ ReplyOnly s t)) ∧
    (s.noon = true → s.imago = true → Does (.ringClear false) s fun t =>
      t.ring.recs = [] ∧ t.ring.wr = 0 ∧ t.fld RING_STATUS.STATE = (if s.on RING_CFG.EN then RING_RUNNING else RING_OFF) ∧
      RegFrame [Reg.RING_STATUS] s t ∧ t = { s with regs := t.regs, ring := t.ring }) ∧
    (s.noon = true → s.fld RING_STATUS.STATE = RING_POST → Does .ringCaptureEnd s fun t =>
      (s.ring.policy = s.fld RING_CFG.POLICY → s.ring.content = s.fld RING_CFG.CONTENT →
        t.fld RING_STATUS.STATE = RING_FROZEN ∧ t.ring = s.ring) ∧
      t.fld RING_CAP_END.POS = s.ring.wr % 2 ^ RING_CAP_END.POS.width ∧ Raised Reg.QUEUE_EVENTS 3 s t ∧
      RegFrame (Reg.RING_CAP_END :: commitRegs) s t ∧ StoresOnly s t) ∧
    (s.noon = true →
      (Does (.ringPointerMismatch true) s fun t => t.ring = s.ring ∧ RegFrame [Reg.RING_PTR_ERR] s t ∧
        t.fld RING_PTR_ERR.CORRECTED = min (s.fld RING_PTR_ERR.CORRECTED + 1) (2 ^ RING_PTR_ERR.CORRECTED.width - 1)) ∧
      (Does (.ringPointerMismatch false) s fun t =>
        t.fld RING_STATUS.RESETS = min (s.fld RING_STATUS.RESETS + 1) (2 ^ RING_STATUS.RESETS.width - 1) ∧
        Raised Reg.QUEUE_EVENTS 5 s t ∧ RegFrame commitRegs s t ∧ StoresOnly s t)) ∧
    (s.noon = true → s.imago = true → s.fld QUEUE_HK.PERIOD ≠ 0 → Does .housekeepingRecord s fun t =>
      Commits { typ := T_HOUSEKEEPING, tick := s.latchedHk.1, payload := w32 (s.fld QUEUE_HK.MASK) :: loHi s.latchedHk.1 ++
        (maskList 16 (s.fld QUEUE_HK.MASK)).map fun k => s.latchedHk.2.getD k 0 } s t ∧
      RegFrame commitRegs s t ∧ StoresOnly s t)

/-- TIME_SET stores its time for tick T, or for the next tick, under SOURCE HOST; TIME_ADJUST stores its RATE and arms
the step; TIME_CONFIG stores three words, and a change of SOURCE or DOMAIN arms the step. With a TIME_SET due,
TIME_STEP_APPLY sets module time, counts the step, sets TIME_EVENTS bit 0 and commits a TIME record of cause 2; with a
rate alone it stores TIME_RATE. A Sync's offset is stored in TIME_OFFSET: with the step armed and no lock it becomes
the pending step, beyond TIME_STEP_TH the jump is refused, counted and reported. Two offsets out of limits in a row,
or holdover, leave LOCKED; eight within it enter LOCKED. A one-step Sync is counted and nothing else. -/
def Obligations.ModuleTime : Prop :=
  ∀ s : State, s.aon = true →
    (∀ r : Req, cmdTimeSet.accepts r s = true → Does (.timeSet r) s fun t =>
      Replied 0x91 r OK [] s t ∧ RegFrame replyRegs s t ∧ t.time = s.time ∧
      t.mtime = { s.mtime with
        set := some ((if numAt r.params 12 8 = 0 then s.tick + 1 else numAt r.params 12 8), ofLayout (numAt r.params 0 12)) }) ∧
    (∀ r : Req, cmdTimeAdjust.accepts r s = true → Does (.timeAdjust r) s fun t =>
      Replied 0x92 r OK [] s t ∧ RegFrame (Reg.TIME_STATUS :: replyRegs) s t ∧ t.time = s.time ∧
      t.mtime = { s.mtime with
        hostRate := (if numAt r.params 0 4 = 0x80000000 then s.mtime.hostRate else some ((wordAt r.params 0).toInt)) } ∧
      t.reg Reg.TIME_STATUS = (if bit (wordAt r.params 4) 0 then putF TIME_STATUS.STEP_ARMED 1 (s.reg Reg.TIME_STATUS)
        else s.reg Reg.TIME_STATUS)) ∧
    (∀ r : Req, cmdTimeConfig.accepts r s = true → Does (.timeConfig r) s fun t =>
      Replied 0x93 r OK [] s t ∧
      t.reg Reg.TIME_CFG &&& rwMask Reg.TIME_CFG = wordAt r.params 0 &&& rwMask Reg.TIME_CFG ∧
      t.reg Reg.TIME_STEP_TH = wordAt r.params 4 ∧ t.reg Reg.TIME_LOCK_TH = wordAt r.params 8 ∧
      (t.reg Reg.TIME_CFG ≠ s.reg Reg.TIME_CFG → t.on TIME_STATUS.STEP_ARMED = true ∧ t.mtime.delta = none) ∧
      RegFrame ([Reg.TIME_CFG, Reg.TIME_STEP_TH, Reg.TIME_LOCK_TH, Reg.TIME_STATUS, Reg.TIME_EVENTS] ++ replyRegs) s t) ∧
    (∀ p, s.mtime.set = some p → p.1 ≤ s.tick → Does .timeStepApply s fun t =>
      t.time = ((p.2 : Int) * 2 ^ 32 % (timeModulus : Int)).toNat ∧ t.mtime.set = none ∧ t.mtime.delta = none ∧
      Raised Reg.TIME_EVENTS 0 s t ∧ t.tick = s.tick ∧ t.on TIME_STATUS.NIGHT_ESTIMATE = false ∧
      (s.mtime.delta = none → t.fld TIME_COUNTS.STEPS =
        min (s.fld TIME_COUNTS.STEPS + 1) (2 ^ TIME_COUNTS.STEPS.width - 1)) ∧
      RegFrame ([Reg.TIME_STATUS, Reg.TIME_COUNTS, Reg.TIME_EVENTS, Reg.TIME_RATE] ++ commitRegs) s t) ∧
    (s.setDue = false → s.mtime.delta = none → ∀ x, s.mtime.hostRate.or s.mtime.servoRate = some x →
      Does .timeStepApply s fun t =>
        t.reg Reg.TIME_RATE = wordOfInt x ∧ t.time = s.time ∧ t.mtime.hostRate = none ∧ t.mtime.servoRate = none ∧
        RegFrame (Reg.TIME_RATE :: commitRegs) s t) ∧
    (∀ latched origin : BitVec 96, s.noon = true → Does (.syncFollowUp latched origin true) s fun t =>
      t = { s with regs := t.regs } ∧ RegFrame [Reg.T1S_DISCARDS] s t ∧
      t.fld T1S_DISCARDS.ONE_STEP = min (s.fld T1S_DISCARDS.ONE_STEP + 1) (2 ^ T1S_DISCARDS.ONE_STEP.width - 1)) ∧
    (∀ (latched origin : BitVec 96), s.servoOn = true →
      ∀ o, o = ((ofLayout (ingressTime latched.toNat) : Nat) : Int) - (ofLayout origin.toNat : Nat) - s.mtime.linkDelay →
        Does (.syncFollowUp latched origin false) s fun t =>
          t.reg Reg.TIME_OFFSET = wordOfInt (sat32 (roundEven ((o : Rat) / nsFrac))) ∧ t.time = s.time ∧
          (s.on TIME_STATUS.STEP_ARMED = true → s.fld TIME_LOCK_TH.LOCK_TH * nsFrac ≤ o.natAbs →
            t.mtime.delta = some (-o) ∧ t.mtime.servoRate = s.mtime.servoRate) ∧
          (s.on TIME_STATUS.STEP_ARMED = false → s.fld TIME_STEP_TH.STEP_TH * nsFrac < o.natAbs →
            t.on TIME_STATUS.JUMP_REFUSED = true ∧ Raised Reg.TIME_EVENTS 1 s t ∧ t.mtime.delta = s.mtime.delta ∧
            t.fld TIME_COUNTS.REFUSED = min (s.fld TIME_COUNTS.REFUSED + 1) (2 ^ TIME_COUNTS.REFUSED.width - 1) ∧
            (s.servoState = SV_LOCKED → t.servoState = SV_ACQUIRING)) ∧
          (o.natAbs < s.fld TIME_LOCK_TH.LOCK_TH * nsFrac → o.natAbs ≤ s.fld TIME_STEP_TH.STEP_TH * nsFrac →
            7 ≤ s.mtime.good → t.servoState = SV_LOCKED) ∧
          (s.fld TIME_LOCK_TH.LOCK_TH * nsFrac ≤ o.natAbs → 1 ≤ s.mtime.bad → s.servoState = SV_LOCKED →
            t.servoState = SV_ACQUIRING)) ∧
    (s.servoOn = true → Does .servoHoldover s fun t =>
      t.servoState = SV_HOLDOVER ∧ t.mtime = { s.mtime with good := 0, bad := 0 } ∧ t.time = s.time ∧
      (s.servoState = SV_LOCKED → Raised Reg.TIME_EVENTS 2 s t) ∧ RegFrame [Reg.TIME_STATUS, Reg.TIME_EVENTS] s t) ∧
    (∀ w : Word, s.noon = true → Does (.aonCalibration w) s fun t =>
      t.reg Reg.NIGHT_AON = w ∧ RegFrame [Reg.NIGHT_AON] s t ∧ t = { s with regs := t.regs }) ∧
    (s.noon = true → s.imago = true → s.on QUEUE_CFG.TIME_EN = true → Does .timeSecondRecord s fun t =>
      Commits (s.timeRec 1 s.tick) s t ∧ RegFrame commitRegs s t ∧ StoresOnly s t) ∧
    (s.noon = true → s.on QUEUE_CFG.TIME_EN = false → Does .timeSecondRecord s fun t =>
      t.queue = s.queue ∧ RegFrame commitRegs s t ∧ StoresOnly s t)

/-- In Imago during Noon a Pdelay_Req received is answered by a Pdelay_Resp queued with its ingress time; the module's
own Pdelay_Req is queued with the next sequence number. A Pdelay_Resp with its request's egress time in the queue
updates the link delay and frees the entry. An egress timestamp that completes enters the queue of four with
T1S_EVENTS bit 2, corrected to the medium, and where its message needs one a follow-up is queued; with the queue full
it is dropped, counted and reported. The oldest HOST entry expires, counted, after its second. -/
def Obligations.TimestampQueue : Prop :=
  ∀ s : State, s.aon = true →
    (∀ (latched : BitVec 96) (seq : BitVec 16), s.ptpOn = true → Does (.pdelayReq latched seq) s fun t =>
      t = { s with link := { s.link with txFrames := s.link.txFrames ++
        [ptpFrame 3 s.ptpDomain seq.toNat (ingressTime latched.toNat) (some (2, seq.toNat)) none] } }) ∧
    (s.ptpOn = true → Does .pdelayReqTransmit s fun t =>
      t = { s with
        mtime := { s.mtime with reqSeq := s.mtime.reqSeq + 1, ts := s.mtime.ts.filter (·.kind != 3) }
        link := { s.link with txFrames := s.link.txFrames ++
          [ptpFrame 2 s.ptpDomain s.mtime.reqSeq.toNat 0 (some (3, s.mtime.reqSeq.toNat)) none] } }) ∧
    (∀ (latched t2 t3 : BitVec 96), s.ptpOn = true →
      ∀ e, s.mtime.ts.find? (fun e => e.kind == 3 && e.id == (s.mtime.reqSeq - 1).toNat) = some e →
        Does (.pdelayResp latched t2 t3) s fun t =>
          t = { s with mtime := { s.mtime with
            linkDelay := Config.linkDelay e.time t2.toNat t3.toNat (ingressTime latched.toNat)
            ts := freeTs (3, (s.mtime.reqSeq - 1).toNat) s.mtime.ts } }) ∧
    (∀ latched : BitVec 96, ∀ k rest, s.mtime.awaiting = k :: rest →
      (4 ≤ s.mtime.ts.length → Does (.txTimestamp latched) s fun t =>
        t.mtime = { s.mtime with awaiting := rest } ∧ t.link = s.link ∧ Raised Reg.T1S_EVENTS 3 s t ∧
        t.fld TS_QUEUE.OVERFLOWS = min (s.fld TS_QUEUE.OVERFLOWS + 1) (2 ^ TS_QUEUE.OVERFLOWS.width - 1) ∧
        RegFrame [Reg.TS_QUEUE, Reg.T1S_EVENTS] s t) ∧
      (s.mtime.ts.length < 4 → Does (.txTimestamp latched) s fun t =>
        t.mtime = { s.mtime with
          awaiting := rest, ts := s.mtime.ts ++ [{ kind := k.1, id := k.2, time := egressTime latched.toNat }] } ∧
        Raised Reg.T1S_EVENTS 2 s t ∧ RegFrame [Reg.T1S_EVENTS] s t ∧
        t.link.txFrames = s.link.txFrames ++
          (if k.1 = 1 then [ptpFrame 1 (s.fld PAIR_CFG.DOMAIN) k.2 (egressTime latched.toNat) none (some (1, k.2))]
            else if k.1 = 2 then [ptpFrame 4 s.ptpDomain k.2 (egressTime latched.toNat) none (some (2, k.2))] else []))) ∧
    (∀ e, s.mtime.ts.find? (·.kind == 0) = some e → Does .hostTsExpiry s fun t =>
      t.mtime = { s.mtime with ts := freeTs (0, e.id) s.mtime.ts } ∧ RegFrame [Reg.TS_QUEUE] s t ∧
      t.fld TS_QUEUE.EXPIRED = min (s.fld TS_QUEUE.EXPIRED + 1) (2 ^ TS_QUEUE.EXPIRED.width - 1))

/-- A T1S_PLCA write with a count of 0 or above 8 or an opportunity below 16 is refused and stores nothing; any other
is stored. A BEACON received, or sent as coordinator, puts the written word into force; with PLCA on it sets PLCA_OK,
and where that was clear T1S_EVENTS bit 0. The loss of the BEACON clears it, to CSMA/CD. A corrupted frame is counted
by its kind with bit 1. At an opportunity a hindwing's contributions go first, then the oldest queued frame, then the
stream frame that is ready; sent it leaves its queue, too late it waits and is counted, after sixteen collisions it is
dropped and counted. The stream frame carries whole records and the next FSEQ. MAX_AGE closes the open stream frame.
-/
def Obligations.T1sLink : Prop :=
  ∀ s : State, s.aon = true → s.noon = true →
    (∀ w : Word,
      (bits w 8 4 = 0 ∨ 8 < bits w 8 4 ∨ bits w 16 8 < 16 → Does (.t1sPlcaWrite w) s fun t =>
        t = s.setF T1S_STATUS.REFUSED BAD_PARAM) ∧
      (1 ≤ bits w 8 4 → bits w 8 4 ≤ 8 → 16 ≤ bits w 16 8 → Does (.t1sPlcaWrite w) s fun t =>
        t.reg Reg.T1S_PLCA &&& rwMask Reg.T1S_PLCA = w &&& rwMask Reg.T1S_PLCA ∧
        (s.plcaOn = true → t.t1s = s.t1s ∧ RegFrame [Reg.T1S_PLCA] s t) ∧
        (s.plcaOn = false → t.t1s.plca = t.reg Reg.T1S_PLCA ∧ RegFrame [Reg.T1S_PLCA, Reg.T1S_STATUS] s t))) ∧
    (Does .beaconReceived s fun t =>
      t.t1s = { s.t1s with plca := s.reg Reg.T1S_PLCA } ∧ RegFrame [Reg.T1S_STATUS, Reg.T1S_EVENTS] s t ∧
      (bit (s.reg Reg.T1S_PLCA) 0 = true → t.on T1S_STATUS.PLCA_OK = true ∧ t.on T1S_STATUS.CSMA = false ∧
        (s.on T1S_STATUS.PLCA_OK = false → Raised Reg.T1S_EVENTS 0 s t)) ∧
      (bit (s.reg Reg.T1S_PLCA) 0 = false → t.on T1S_STATUS.PLCA_OK = false ∧ t.on T1S_STATUS.CSMA = true)) ∧
    (s.plcaCoordinator = true → s.t1s.plca = s.reg Reg.T1S_PLCA → Does .beaconTransmit s fun t =>
      t.on T1S_STATUS.PLCA_OK = true ∧ t.on T1S_STATUS.COORDINATOR = true ∧ t.t1s = s.t1s ∧
      RegFrame [Reg.T1S_STATUS, Reg.T1S_EVENTS] s t) ∧
    (s.on T1S_STATUS.PLCA_OK = true → Does .beaconLoss s fun t =>
      t.on T1S_STATUS.PLCA_OK = false ∧ t.on T1S_STATUS.CSMA = true ∧ Raised Reg.T1S_EVENTS 0 s t ∧
      RegFrame [Reg.T1S_STATUS, Reg.T1S_EVENTS] s t ∧ RegsOnly s t) ∧
    (∀ fcs : Bool, Does (.corruptedFrame fcs) s fun t =>
      t.fld T1S_COUNTS_RX.FCS = (if fcs then min (s.fld T1S_COUNTS_RX.FCS + 1) (2 ^ T1S_COUNTS_RX.FCS.width - 1)
        else s.fld T1S_COUNTS_RX.FCS) ∧
      t.fld T1S_COUNTS_RX.CODING = (if fcs then s.fld T1S_COUNTS_RX.CODING
        else min (s.fld T1S_COUNTS_RX.CODING + 1) (2 ^ T1S_COUNTS_RX.CODING.width - 1)) ∧
      Raised Reg.T1S_EVENTS 1 s t ∧ RegFrame [Reg.T1S_COUNTS_RX, Reg.T1S_EVENTS] s t ∧ RegsOnly s t) ∧
    (s.pair.ready ≠ [] → Does (.transmitOpportunity .sent) s fun t =>
      t.t1s.sent = some s.contribFrame ∧ t.pair = { s.pair with ready := s.pair.ready.drop 6 } ∧
      t.t1s.seq2 = s.t1s.seq2 + 1 ∧ t.link = s.link ∧ t.queue = s.queue ∧ RegFrame [] s t) ∧
    (s.pair.ready = [] → ∀ f rest, s.link.txFrames = f :: rest →
      (Does (.transmitOpportunity .sent) s fun t =>
        t.t1s = { s.t1s with sent := some f } ∧ t.link = { s.link with txFrames := rest } ∧ t.queue = s.queue ∧
        t.mtime.awaiting = s.mtime.awaiting ++ f.stamp.toList ∧ RegFrame [] s t) ∧
      (Does (.transmitOpportunity .collisions) s fun t =>
        t.link = { s.link with txFrames := rest } ∧ t.t1s = s.t1s ∧ RegFrame [Reg.T1S_COUNTS_TX] s t ∧
        t.fld T1S_COUNTS_TX.COLLISIONS =
          min (s.fld T1S_COUNTS_TX.COLLISIONS + 1) (2 ^ T1S_COUNTS_TX.COLLISIONS.width - 1))) ∧
    (s.pair.ready ≠ [] ∨ s.link.txFrames ≠ [] ∨ s.streamReady ≠ 0 → Does (.transmitOpportunity .tooLate) s fun t =>
      t = { s with regs := t.regs } ∧ RegFrame [Reg.T1S_COUNTS_TX] s t ∧
      t.fld T1S_COUNTS_TX.DEFERRALS =
        min (s.fld T1S_COUNTS_TX.DEFERRALS + 1) (2 ^ T1S_COUNTS_TX.DEFERRALS.width - 1)) ∧
    (s.pair.ready = [] → s.link.txFrames = [] → s.streamReady ≠ 0 → Does (.transmitOpportunity .sent) s fun t =>
      t.t1s.sent = some (s.streamFrame s.streamReady) ∧ t.queue.visible = s.queue.visible.drop s.streamReady ∧
      t.t1s.closed = 0 ∧ t.fld STREAM_SEQ.FSEQ = (s.fld STREAM_SEQ.FSEQ + 1) % 2 ^ STREAM_SEQ.FSEQ.width ∧
      RegFrame [Reg.STREAM_SEQ] s t) ∧
    (s.streaming = true → s.fld STREAM_CFG.MAX_AGE ≠ 0 → s.t1s.closed = 0 → Does .streamFrameAge s fun t =>
      t = { s with t1s := { s.t1s with closed := s.streamCount } })

/-- In Noon without PEC the first data byte to A sets the pointer, to A + 1 the page; a page above 0x11 is refused
with TW_EVENTS bit 1. A repeated START or a STOP within a word discards it, counted with bit 1; a STOP ends the
transaction and puts TW_ADDR2 into force. Under PEC a STOP whose last byte is not the PEC applies nothing and counts
the error. A bus timeout is counted with bit 0 and ends the transaction; a stuck line sets its flag, counted with bit
2, and its release clears it. A won alert response sends A and releases ALERT_N; with sources pending and REPEAT_MS
set it is asserted again. -/
def Obligations.TwoWireTarget : Prop :=
  ∀ s : State, s.aon = true → s.noon = true →
    (s.twStart.tw.pec = false →
      (∀ p : Byte, Does (.twPointerSet p) s fun t =>
        t.fld TW_PAGE.POINTER = p.toNat ∧ t.fld TW_PAGE.PAGE = s.fld TW_PAGE.PAGE ∧ RegFrame busRegs s t ∧
        t = { s with regs := t.regs, tw := s.twStart.tw }) ∧
      (∀ p : Byte, p.toNat ≤ 0x11 → Does (.twPageSelect p) s fun t =>
        t.fld TW_PAGE.PAGE = p.toNat ∧ t.fld TW_PAGE.POINTER = s.fld TW_PAGE.POINTER ∧ RegFrame busRegs s t ∧
        t = { s with regs := t.regs, tw := s.twStart.tw }) ∧
      (∀ p : Byte, 0x11 < p.toNat → Does (.twPageSelect p) s fun t =>
        t.fld TW_PAGE.PAGE = s.fld TW_PAGE.PAGE ∧ Raised Reg.TW_EVENTS 1 s t ∧
        RegFrame (Reg.TW_EVENTS :: busRegs) s t) ∧
      (∀ rest : List Byte, rest ≠ [] → Does (.repeatedStart rest) s fun t =>
        t.fld TW_COUNTS.PARTIAL = min (s.fld TW_COUNTS.PARTIAL + 1) (2 ^ TW_COUNTS.PARTIAL.width - 1) ∧
        Raised Reg.TW_EVENTS 1 s t ∧ t.reg Reg.TW_PAGE = s.reg Reg.TW_PAGE ∧
        RegFrame [Reg.TW_COUNTS, Reg.TW_EVENTS, Reg.TW_STATUS] s t) ∧
      (Does (.repeatedStart []) s fun t => t = s.twStart) ∧
      (∀ before rest : List Byte, Does (.twStop before rest) s fun t =>
        t.tw.addr2 = s.reg Reg.TW_ADDR2 ∧ t.on TW_STATUS.BUSY = false ∧ t.tw.pec = false ∧
        t.reg Reg.TW_PAGE = s.reg Reg.TW_PAGE ∧
        (rest = [] → RegFrame [Reg.TW_STATUS] s t) ∧
        (rest ≠ [] → Raised Reg.TW_EVENTS 1 s t ∧
          t.fld TW_COUNTS.PARTIAL = min (s.fld TW_COUNTS.PARTIAL + 1) (2 ^ TW_COUNTS.PARTIAL.width - 1) ∧
          RegFrame [Reg.TW_COUNTS, Reg.TW_EVENTS, Reg.TW_STATUS] s t))) ∧
    (s.twStart.tw.pec = true →
      (∀ p : Byte, Does (.twPointerSet p) s fun t => t = s.twStart) ∧
      (∀ p : Byte, Does (.twPageSelect p) s fun t => t = s.twStart) ∧
      (∀ before rest : List Byte, 2 ≤ rest.length → byteAt rest 0 % 2 = 0 →
        crc8 (before ++ rest.dropLast) ≠ byteAt rest (rest.length - 1) → Does (.twStop before rest) s fun t =>
          t.fld TW_COUNTS.PEC_ERRORS = min (s.fld TW_COUNTS.PEC_ERRORS + 1) (2 ^ TW_COUNTS.PEC_ERRORS.width - 1) ∧
          Raised Reg.TW_EVENTS 1 s t ∧ t.on TW_STATUS.BUSY = false ∧
          RegFrame [Reg.TW_COUNTS, Reg.TW_EVENTS, Reg.TW_STATUS] s t ∧ t = { s with regs := t.regs, tw := t.tw }) ∧
      (∀ (a p pec : Byte) (before : List Byte), a.toNat % 4 = 0 → crc8 (before ++ [a, p]) = pec.toNat →
        Does (.twStop before [a, p, pec]) s fun t =>
          t.fld TW_PAGE.POINTER = p.toNat ∧ RegFrame busRegs s t)) ∧
    (∀ cut : BitVec 2, Does (.twBusTimeout false cut) s fun t =>
      t.fld TW_COUNTS.TIMEOUTS = min (s.fld TW_COUNTS.TIMEOUTS + 1) (2 ^ TW_COUNTS.TIMEOUTS.width - 1) ∧
      Raised Reg.TW_EVENTS 0 s t ∧ t.on TW_STATUS.BUSY = false ∧ t.tw.pec = false ∧ t.tw.addr2 = s.tw.addr2 ∧
      (cut = 0 → RegFrame [Reg.TW_COUNTS, Reg.TW_EVENTS, Reg.TW_STATUS] s t)) ∧
    (∀ sda : Bool, Does (.twStuckLine sda) s fun t =>
      t.on (stuckFlag sda) = true ∧ Raised Reg.TW_EVENTS 2 s t ∧
      t.fld TW_COUNTS.STUCK = min (s.fld TW_COUNTS.STUCK + 1) (2 ^ TW_COUNTS.STUCK.width - 1) ∧
      RegFrame [Reg.TW_COUNTS, Reg.TW_EVENTS, Reg.TW_STATUS] s t ∧ RegsOnly s t) ∧
    (∀ sda : Bool, Does (.twStuckLineClear sda) s fun t =>
      t.reg Reg.TW_STATUS = putF (stuckFlag sda) 0 (s.reg Reg.TW_STATUS) ∧ RegFrame [Reg.TW_STATUS] s t ∧
      t = { s with regs := t.regs }) ∧
    (s.alertOn = true → Does (.alertResponse true) s fun t =>
      t.busOut = w32 (2 * s.ownAddress) ∧ t.tw.quiet = true ∧ t.alertOn = false ∧
      t.fld TW_ALERT.RESPONSES = min (s.fld TW_ALERT.RESPONSES + 1) (2 ^ TW_ALERT.RESPONSES.width - 1) ∧
      RegFrame [Reg.TW_ALERT, Reg.TW_STATUS] s t) ∧
    (s.alertOn = true → Does (.alertResponse false) s fun t => t = s.twStart) ∧
    (s.alertOn = false → ∀ won : Bool, Does (.alertResponse won) s fun t => t = s) ∧
    (s.fld TW_ALERT.REPEAT_MS ≠ 0 → s.hostPending = true → Does .alertRepeat s fun t =>
      t = { s with tw := { s.tw with quiet := false } })

/-- POWER_VOTE stores the host mask; NIGHT_CONFIG its three words. With a vote held DUSK_BEGIN does nothing; else Dusk
begins with machines and PIO engines stopped, the queue's visible records discarded and counted, the command layer and
the interrupt targets cleared. Night keeps the AON registers and the save list; every other register reads as after
reset (THEFT's enable and activity apart). An enabled wake in Night starts Dawn with its code and pins, in Dusk it
pends and is served at Night entry, lowest code first; one not enabled does nothing. A failed restore leads to LOCKED
with both outputs off, COCOON_ERR and PWR_EVENTS bit 1. Dawn ends in Noon with every host vote, the Night counted, its
length and WOKE stored. -/
def Obligations.VotesDuskNightDawn : Prop :=
  ∀ s : State, s.aon = true →
    (∀ r : Req, cmdPowerVote.accepts r s = true → Does (.powerVote r) s fun t =>
      t.fld PWR_HOST_VOTE.MASK = byteAt r.params 0 ∧ RegFrame (Reg.PWR_HOST_VOTE :: replyRegs) s t ∧ ReplyOnly s t) ∧
    (∀ r : Req, cmdNightConfig.accepts r s = true → Does (.nightConfig r) s fun t =>
      Replied 0x81 r OK [] s t ∧ t.reg Reg.NIGHT_CFG = wordAt r.params 0 ∧ t.reg Reg.NIGHT_PIO = wordAt r.params 4 ∧
      t.reg Reg.NIGHT_TIMER = wordAt r.params 8 ∧
      RegFrame ([Reg.NIGHT_CFG, Reg.NIGHT_PIO, Reg.NIGHT_TIMER] ++ replyRegs) s t ∧ ReplyOnly s t) ∧
    (s.noVote = false → Does .duskBegin s fun t => t = s) ∧
    (s.noVote = true → Does .duskBegin s fun t =>
      t.fld PWR_STATE.STATE = 1 ∧ t.noon = false ∧ t.link = resetLink ∧ t.queue.visible = [] ∧ t.mtime.ts = [] ∧
      t.mtime.dusk = some (s.tick, s.time, s.rate) ∧ t.tick = s.tick ∧
      (∀ n < 32, t.running n = false) ∧ (∀ k < 4, (t.pioEngine k).state ≠ 1) ∧
      (∀ n < 128, t.fld (Target.host.pend n) = 0 ∧ t.fld (Target.host.active n) = 0 ∧
        t.fld (Target.cp.pend n) = 0 ∧ t.fld (Target.cp.active n) = 0)) ∧
    (s.fld PWR_STATE.STATE = 1 →
      (∀ a, aonHeld a = true ∨ bootHeld a = true ∨ cocoonHeld a = true →
        a ∉ [Reg.PWR_STATE, Reg.PWR_COUNTS, Reg.CONV_STATUS, Reg.PHASE_STATUS, Reg.CONV_COUNTS, Reg.CONV_EVENTS] →
        Does .nightEntry s fun t => t.reg a = s.reg a) ∧
      (∀ a, aonHeld a = false → bootHeld a = false → cocoonHeld a = false → windowHeld a = false →
        a ∉ [Reg.PWR_STATE, Reg.PWR_COUNTS, Reg.CONV_STATUS, Reg.PHASE_STATUS, Reg.CONV_COUNTS, Reg.CONV_EVENTS,
          Reg.REC_ENABLE, Reg.REC_ACTIVE] →
        Does .nightEntry s fun t => t.reg a = resetWord a) ∧
      (s.power.wakes = [] → Does .nightEntry s fun t =>
        t.fld PWR_STATE.STATE = 2 ∧ t.queue.seq = s.queue.seq ∧ t.tick = s.tick ∧
        (s.fld NIGHT_CFG.VAUX = 0 → t.on CONV_STATUS.VAUX_ON = false)) ∧
      (s.power.wakes ≠ [] → Does .nightEntry s fun t =>
        t.fld PWR_STATE.STATE = 3 ∧ t.fld PWR_STATE.LAST_WAKE = s.power.wakes.foldl min 7 ∧ t.power.wakes = [] ∧
        t.fld PWR_STATE.WAKE_PINS = s.power.pins % 2 ^ PWR_STATE.WAKE_PINS.width)) ∧
    (s.fld PWR_STATE.STATE = 2 →
      (∀ p : Fin 6, s.pinWake p.val = 1 ∨ s.pinWake p.val = 2 → Does (.wakePioLevel p) s fun t => DawnStarted 2 (2 ^ p.val) s t) ∧
      (∀ (p : Fin 6) (late : Bool), s.pinWake p.val = 3 ∨ s.pinWake p.val = 4 →
        Does (.wakePioEdge p late) s fun t => DawnStarted 3 (2 ^ p.val) s t) ∧
      (s.wakeEn 4 = true → s.fld NIGHT_TIMER.SECONDS ≠ 0 → Does .nightTimerExpiry s fun t => DawnStarted 6 0 s t) ∧
      (s.wakeEn 0 = true → Does .nightAddressMatch s fun t => DawnStarted 1 0 s t ∧ t.on TW_STATUS.BUSY = true) ∧
      (s.wakeEn 2 = true → s.fld SENTINEL_CTRL.WAKE_TH ≠ 0 →
        max 1 (s.fld SENTINEL_CTRL.WAKE_CNT) ≤ s.array.sentRun → Does .sentinelWake s fun t => DawnStarted 4 0 s t)) ∧
    (s.fld PWR_STATE.STATE = 1 →
      (∀ p : Fin 6, s.pinWake p.val = 3 ∨ s.pinWake p.val = 4 →
        (Does (.wakePioEdge p false) s fun t => t = { s with power := { s.power with
          wakes := s.power.wakes ++ [3], pins := s.power.pins ||| 2 ^ p.val } }) ∧
        (Does (.wakePioEdge p true) s fun t => t = s)) ∧
      (s.wakeEn 4 = true → s.fld NIGHT_TIMER.SECONDS ≠ 0 → Does .nightTimerExpiry s fun t =>
        t = { s with power := { s.power with wakes := s.power.wakes ++ [6], pins := s.power.pins ||| 0 } })) ∧
    (s.wakeEn 1 = false → ∀ (p : Fin 6) (late : Bool),
      (Does (.wakePioLevel p) s fun t => t = s) ∧ (Does (.wakePioEdge p late) s fun t => t = s)) ∧
    (s.wakeEn 4 = false → Does .nightTimerExpiry s fun t => t = s) ∧
    (s.wakeEn 0 = false → Does .nightAddressMatch s fun t => t = s) ∧
    (s.wakeEn 2 = false → Does .sentinelWake s fun t => t = s) ∧
    (Does .dawnRegulatorReady s fun t => t = s) ∧ (Does .dawnOscillatorReady s fun t => t = s) ∧
    (s.fld PWR_STATE.STATE = 3 →
      (Does (.dawnMemoryReady true) s fun t => t = s.setF PWR_STATE.COCOON_ERR 0) ∧
      (Does (.dawnMemoryReady false) s fun t =>
        t.on PWR_STATE.COCOON_ERR = true ∧ t.on (bitF Reg.PWR_EVENTS 1) = true ∧ t.power.restart = true ∧
        (s.safeState ≠ S_FAULT → t.SafeOff ∧ t.safeState = LOCKED)) ∧
      (∀ (cycles : BitVec 64) (ms : Word), Does (.dawnComplete cycles ms 0) s fun t =>
        t.fld PWR_STATE.STATE = 0 ∧ t.on (bitF Reg.PWR_EVENTS 0) = true ∧ t.reg Reg.NIGHT_LAST = ms ∧
        t.fld PWR_HOST_VOTE.MASK = 15 ∧ (t.on TW_STATUS.WOKE = true ↔ s.fld PWR_STATE.LAST_WAKE = 1) ∧
        t.fld PWR_COUNTS.NIGHTS = min (s.fld PWR_COUNTS.NIGHTS + 1) (2 ^ PWR_COUNTS.NIGHTS.width - 1) ∧
        t.mtime.dusk = none ∧ (s.power.restart = false → t.stage = s.stage ∧ t.safeState = s.safeState)))

/-- HK_SEQUENCE stores PASS and the seven user words, window fields kept; HK_WINDOW one entry's mode, count and
limits; CONV_CONFIG its word. A pass takes the registers' sequence and windows into force. A conversion of an enabled
entry stores its result with the window flags at the tick, publishes a fixed entry's value, and in the pass that
completes PERSIST sets its HK_WEVENTS bit; one of a disabled entry does nothing. A calibration in limits makes the
spare ready and newest; out of limits it retires it. A swap exchanges spare and oldest active slice, counted; a second
disagreement in a row retires it. -/
def Obligations.Housekeeping : Prop :=
  (∀ (r : Req) (s : State), s.aon = true →
    (cmdHkSequence.accepts r s = true → Does (.hkSequence r) s fun t =>
      Replied 0xC0 r OK [] s t ∧ t.fld HK_CTRL.PASS = byteAt r.params 0 % 64 ∧
      (∀ j < 7, t.reg (Reg.HK_SEQ (9 + j)) = userWord (wordAt r.params (4 + 4 * j)) (s.reg (Reg.HK_SEQ (9 + j)))) ∧
      t.hk = s.hk ∧ RegFrame ([Reg.HK_CTRL, Reg.HK_SEQ 9, Reg.HK_SEQ 10, Reg.HK_SEQ 11, Reg.HK_SEQ 12, Reg.HK_SEQ 13,
        Reg.HK_SEQ 14, Reg.HK_SEQ 15] ++ replyRegs) s t) ∧
    (cmdHkWindow.accepts r s = true → Does (.hkWindow r) s fun t =>
      Replied 0xC1 r OK [] s t ∧ t.fld (HK_SEQ.WMODE (byteAt r.params 0)) = byteAt r.params 1 ∧
      t.fld (HK_SEQ.PERSIST (byteAt r.params 0)) = byteAt r.params 2 ∧
      t.reg (Reg.HK_WIN (byteAt r.params 0)) = wordAt r.params 4 ∧ t.hk = s.hk ∧
      RegFrame ([Reg.HK_SEQ (byteAt r.params 0), Reg.HK_WIN (byteAt r.params 0)] ++ replyRegs) s t) ∧
    (cmdConvConfig.accepts r s = true → Does (.convConfig r) s fun t =>
      Replied 0x83 r OK [] s t ∧ t.reg Reg.CONV_CFG = wordAt r.params 0 ∧ RegFrame (Reg.CONV_CFG :: replyRegs) s t ∧
      ReplyOnly s t)) ∧
  (∀ s : State, s.aon = true →
    (Does .hkPass s fun t =>
      t.hk.seq = s.hkSeqRegs ∧ t.hk.win = ((List.range 16).map fun k => s.reg (Reg.HK_WIN k)) ∧ t.hk.passTick = s.tick ∧
      t.hk.order = s.hk.order ∧ RegFrame [Reg.HK_STATUS] s t ∧ t = { s with regs := t.regs, hk := t.hk }) ∧
    (∀ (k : Fin 16) (v : BitVec 16) (sat : Bool), s.hkEnabled k.val = false →
      Does (.hkConversionDone k v sat) s fun t => t = s) ∧
    (∀ (k : Fin 16) (v : BitVec 16) (sat : Bool), s.hkEnabled k.val = true → s.hk.entries.length = 16 →
      Does (.hkConversionDone k v sat) s fun t =>
        (t.hkEntry k.val).at_ = some s.tick ∧ bits (t.hkEntry k.val).res 0 16 = v.toNat ∧
        bit (t.hkEntry k.val).res 20 = sat ∧
        (t.hkEntry k.val).run = (if windowHolds (s.hk.seq.getD k.val 0)
          (windowParts (s.hk.seq.getD k.val 0) (s.hk.win.getD k.val 0) v.toNat) then min (s.hkEntry k.val).run 15 + 1 else 0) ∧
        (windowHolds (s.hk.seq.getD k.val 0) (windowParts (s.hk.seq.getD k.val 0) (s.hk.win.getD k.val 0) v.toNat) = true →
          (s.hkEntry k.val).run + 1 = max 1 (seqPersist (s.hk.seq.getD k.val 0)) → Raised Reg.HK_WEVENTS k.val s t) ∧
        (k.val = 6 → t.fld CONV_VIN.VHOLD = v.toNat) ∧ (k.val = 7 → t.fld CONV_AUX.VAUX = v.toNat) ∧
        (∀ j, j ≠ k.val → t.hkEntry j = s.hkEntry j) ∧ t.hk.seq = s.hk.seq ∧ t.hk.win = s.hk.win) ∧
    (∀ k, (List.range 5).find? (fun j => s.sliceState j == 1 || s.sliceState j == 2) = some k →
      (Does (.sliceCalibration true) s fun t =>
        t.sliceState k = 1 ∧ t.hk.order = s.hk.order.filter (· != k) ++ [k] ∧ RegFrame [Reg.HK_SLICE] s t ∧
        t = { s with regs := t.regs, hk := t.hk }) ∧
      (Does (.sliceCalibration false) s fun t =>
        t.sliceState k = 3 ∧ k ∉ t.hk.order ∧ t.on HK_STATUS.DEGRADED = true ∧ RegFrame [Reg.HK_SLICE, Reg.HK_STATUS] s t ∧
        t.fld HK_SLICE.RETIRED = min (s.fld HK_SLICE.RETIRED + 1) (2 ^ HK_SLICE.RETIRED.width - 1))) ∧
    (∀ sp, (List.range 5).find? (fun j => s.sliceState j == 1) = some sp →
      ∀ old, s.hk.order.find? (fun j => s.sliceState j == 0) = some old → old < 5 →
        (Does (.sliceSwap false) s fun t =>
          t.sliceState sp = 0 ∧ t.sliceState old = 1 ∧ old ∉ t.hk.doubt ∧ RegFrame [Reg.HK_SLICE] s t ∧
          t.fld HK_SLICE.SWAPS = min (s.fld HK_SLICE.SWAPS + 1) (2 ^ HK_SLICE.SWAPS.width - 1)) ∧
        (s.hk.doubt.contains old = false → Does (.sliceSwap true) s fun t =>
          t.sliceState sp = 0 ∧ t.sliceState old = 2 ∧ t.hk.doubt.contains old = true) ∧
        (s.hk.doubt.contains old = true → Does (.sliceSwap true) s fun t => t.sliceState old = 3 ∧ t.hk.doubt.contains old = false)))

/-- DRIVE_LOCK of a powered gyroscope triad sets its lock, clears its DRIVE_FAULT and dates its first valid window;
DRIVE_FAULT clears the lock, marks the triad, raises event bit 18; both leave a PARKED or RETIRED triad. TRIAD_JOIN
makes a STARTING triad with a valid window HEALTHY. SUSPECT_ENTRY makes a HEALTHY triad with 50 ms of P SUSPECT,
SUSPECT_CLEAR one quiet for 50 ms HEALTHY again, each with a HEALTH record and its event. A request at 200 ms is
stored, decided, and applied at the boundary: RETIRED with its cause, counted; a die's triads retire together. A
profile parks and starts the triads Table 3.6 tells. A finished self-test returns the triad and reports. Without its
condition each does nothing. -/
def Obligations.TriadTransitions : Prop :=
  ∀ s : State, s.aon = true →
    (∀ (g : Fin 24), ∀ tr, tr = s.triad (48 + g.val) →
      (tr.state = PARKED ∨ tr.state = RETIRED_ →
        (Does (.driveLock g) s fun t => t = s) ∧ (Does (.driveFault g) s fun t => t = s)) ∧
      (tr.state ≠ PARKED → tr.state ≠ RETIRED_ → s.filt.settling = none →
        (Does (.driveLock g) s fun t =>
          TriadIs (48 + g.val) { tr with driveFault := false, validFrom := s.windowFrom (s.tick + 4) } s t ∧
          t.driven (48 + g.val) = true ∧ RegFrame [Reg.DRIVE_STATUS, Reg.ARRAY_STATUS] s t ∧ ArrayOnly s t) ∧
        (Does (.driveFault g) s fun t =>
          TriadIs (48 + g.val) { tr with driveFault := true } s t ∧ t.driven (48 + g.val) = false ∧
          t.on ARRAY_STATUS.DRIVE_FAULT = true ∧ Raised Reg.ARRAY_EVENTS 18 s t ∧
          RegFrame [Reg.DRIVE_STATUS, Reg.ARRAY_STATUS, Reg.ARRAY_EVENTS] s t ∧ ArrayOnly s t)) ∧
      (tr.state ≠ PARKED → tr.state ≠ RETIRED_ →
        (Does (.driveLock g) s fun t => t.driven (48 + g.val) = true) ∧
        (Does (.driveFault g) s fun t => t.driven (48 + g.val) = false ∧ (t.triad (48 + g.val)).driveFault = true))) ∧
    (∀ d : Fin 5, Does (.dieTempStale d) s fun t =>
      (d.val = 4 → t = { s with array := { s.array with asicStale := true } }) ∧
      (d.val ≠ 4 → t.array = { s.array with uncomp := s.array.uncomp ||| 2 ^ d.val } ∧ t.on ARRAY_STATUS.UNCOMP = true ∧
        (s.array.uncomp.testBit d.val = false → Raised Reg.ARRAY_EVENTS 16 s t) ∧
        RegFrame [Reg.ARRAY_STATUS, Reg.ARRAY_EVENTS] s t ∧ ArrayOnly s t)) ∧
    (∀ (k : Fin 72) (u : BitVec 64), ∀ tr, tr = s.triad k.val →
      (tr.state = STARTING → tr.validFrom ≤ u.toNat → s.driven k.val = true → tr.driveFault = false →
        Does (.triadJoin k u) s fun t =>
          TriadIs k.val { tr with state := HEALTHY, p := 0, devUntil := 0, devCh := 0, testFail := false } s t ∧
          (s.array.joining = [k.val] → s.array.profileReq = none → s.array.profileNext = none →
            t.on ARRAY_PROFILE.CHANGE_PENDING = false ∧ Holds T_STATUS u.toNat s t) ∧
          RegFrame [Reg.ARRAY_PROFILE] s t ∧ ArrayAndHeld s t) ∧
      (tr.state ≠ STARTING ∨ u.toNat < tr.validFrom ∨ s.driven k.val = false ∨ tr.driveFault = true →
        Does (.triadJoin k u) s fun t => t = s)) ∧
    (∀ k : Fin 72, ∀ tr, tr = s.triad k.val →
      (tr.state = HEALTHY → 2000 ≤ tr.p → Does (.suspectEntry k) s fun t =>
        TriadIs k.val { tr with state := SUSPECT_, quiet := none } s t ∧
        t.array.entries = s.array.entries ++ [(s.voteTick, k.val, tr.devAxes)] ∧ Raised Reg.VOTE_EVENTS 0 s t ∧
        Holds T_HEALTH s.voteTick s t ∧ RegFrame [Reg.VOTE_EVENTS] s t ∧ ArrayAndHeld s t) ∧
      (tr.state ≠ HEALTHY ∨ tr.p < 2000 → Does (.suspectEntry k) s fun t => t = s) ∧
      (tr.state = SUSPECT_ → ∀ q, tr.quiet = some q → q + 2000 ≤ s.voteTick → Does (.suspectClear k) s fun t =>
        TriadIs k.val { tr with state := HEALTHY, p := 0, quiet := none, devAxes := 0 } s t ∧
        t.fld VOTE_COUNTS.CLEARED = min (s.fld VOTE_COUNTS.CLEARED + 1) (2 ^ VOTE_COUNTS.CLEARED.width - 1) ∧
        Raised Reg.VOTE_EVENTS 6 s t ∧ Holds T_HEALTH s.voteTick s t ∧
        RegFrame [Reg.VOTE_EVENTS, Reg.VOTE_COUNTS] s t ∧ ArrayAndHeld s t) ∧
      (tr.state ≠ SUSPECT_ ∨ tr.quiet = none → Does (.suspectClear k) s fun t => t = s) ∧
      (tr.state = SUSPECT_ → 8000 ≤ tr.p → s.array.requests.contains k.val = false →
        Does (.retirementRequest k) s fun t =>
          t = { s with array := { s.array with requests := s.array.requests ++ [k.val] } }) ∧
      (tr.state ≠ SUSPECT_ ∨ tr.p < 8000 ∨ s.array.requests.contains k.val = true →
        Does (.retirementRequest k) s fun t => t = s) ∧
      (s.array.requests.contains k.val = true → Does (.retirementDecision (.triad k)) s fun t =>
        t = { s with array := { s.array with
          requests := s.array.requests.filter (· != k.val), decided := s.array.decided ++ [k.val] } }) ∧
      (s.array.requests.contains k.val = false → Does (.retirementDecision (.triad k)) s fun t => t = s)) ∧
    (∀ d : Fin 4,
      ((s.dieRule d.val).isSome = true → s.on (bitF Reg.VOTE_DIE d.val) = false →
        Does (.retirementDecision (.die d)) s fun t =>
          t = { s with array := { s.array with decidedDies := s.array.decidedDies ++ [d.val] } }) ∧
      ((s.dieRule d.val).isSome = false ∨ s.on (bitF Reg.VOTE_DIE d.val) = true →
        Does (.retirementDecision (.die d)) s fun t => t = s) ∧
      (∀ u : BitVec 64, s.array.decidedDies = [d.val] → s.array.decided = [] → s.array.test = none →
        Does (.retirementApply u) s fun t =>
          (∀ k < 72, dieOf k = d.val → (s.triad k).state ≠ PARKED → (t.triad k).state = RETIRED_) ∧
          t.on (bitF Reg.VOTE_DIE d.val) = true ∧ Raised Reg.VOTE_EVENTS 2 s t ∧ t.array.decidedDies = [] ∧
          t.fld VOTE_COUNTS.DIES = min (s.fld VOTE_COUNTS.DIES + 1) (2 ^ VOTE_COUNTS.DIES.width - 1))) ∧
    (∀ u : BitVec 64, s.array.decidedDies = [] → s.array.test = none →
      (s.array.decided = [] → Does (.retirementApply u) s fun t => t = s) ∧
      (∀ k, s.array.decided = [k] → ∀ tr, tr = s.triad k → tr.state ≠ RETIRED_ → tr.state ≠ PARKED →
        Does (.retirementApply u) s fun t =>
          (t.triad k).state = RETIRED_ ∧ (t.triad k).p = 0 ∧ (t.triad k).reason = tr.cause ∧ t.array.decided = [] ∧
          Raised Reg.VOTE_EVENTS 1 s t ∧
          t.fld VOTE_COUNTS.RETIRED = min (s.fld VOTE_COUNTS.RETIRED + 1) (2 ^ VOTE_COUNTS.RETIRED.width - 1) ∧
          (s.profile = 0 → (∀ j, j ≠ k → t.triad j = s.triad j) ∧ Holds T_HEALTH u.toNat s t) ∧
          ArrayAndHeld s t)) ∧
    (∀ u : BitVec 64,
      (s.array.profileReq = none → Does (.profileBoundary u) s fun t => t = s) ∧
      (s.Shaped → s.array.test = none → ∀ p, s.array.profileReq = some p → p < 3 → Does (.profileBoundary u) s fun t =>
        t.profile = p ∧
        (∀ k < 72, (s.triad k).state ≠ TESTING → (t.triad k).state = if (s.triad k).state = RETIRED_ then RETIRED_
          else if profileActive p k = false then PARKED
          else if (s.triad k).state = PARKED then STARTING else (s.triad k).state) ∧
        t.array.subs = [] ∧ RegFrame [Reg.ARRAY_PROFILE, Reg.VOTE_EVENTS, Reg.VOTE_COUNTS, Reg.DRIVE_STATUS,
          Reg.ARRAY_STATUS] s t ∧ ArrayAndHeld s t)) ∧
    (∀ (k : Fin 72) (res : TestResult), ∀ tr, s.array.test = some tr →
      (tr.current.any (fun q => q.1 == k.val) = false → Does (.selftestTriadDone k res) s fun t => t = s) ∧
      (∀ b, tr.current = [(k.val, b, 0)] → tr.queues = [[]] → tr.reinstate = false → (s.triad k.val).state = TESTING →
        (s.triad k.val).before = HEALTHY →
        (res = .pass → Does (.selftestTriadDone k .pass) s fun t =>
          TriadIs k.val { s.triad k.val with state := HEALTHY } s t ∧ t.array.test = none ∧
          t.on ARRAY_STATUS.SELFTEST_BUSY = false ∧ Raised Reg.ARRAY_EVENTS 17 s t ∧ Holds T_HEALTH s.tick s t ∧
          t.fld SELFTEST_RESULT.LAST_TRIAD = k.val ∧ ArrayAndHeld s t ∧
          RegFrame [Reg.SELFTEST_RESULT, Reg.ARRAY_STATUS, Reg.ARRAY_EVENTS] s t) ∧
        (res = .fail → Does (.selftestTriadDone k .fail) s fun t =>
          TriadIs k.val { s.triad k.val with state := HEALTHY, testFail := true } s t ∧ t.array.test = none) ∧
        (res = .inconclusive → b = false → Does (.selftestTriadDone k .inconclusive) s fun t =>
          t = { s with array := { s.array with test := some { tr with current := [(k.val, true, 0)] } } })))

/-- A vote with a list of another length than 216 faults; for a tick at which no sample can be formed it does nothing.
Else it takes the pending deltas and ranges into force, ends the settling interval, leaves a fused sample of the tick
with the axis values of the consensus, and (unless a PAIRSAMPLE takes its place) holds a SAMPLE record. An axis
without quorum is INVALID at once, an INVALID one stays so; loss of an axis named in SAFE_CFG turns the outputs off.
VOTE_QUORUM counts the contributing triads. No triad changes state. QUORUM_RESTORED returns the axes that have met
quorum for 2 ms, with its record and event. A temperature update sets every channel's model alone. A sentinel sample
sets the three values, advances COUNT, reaches the sentinel streams. -/
def Obligations.VotesAndTemperatures : Prop :=
  ∀ s : State, s.aon = true →
    (∀ (u : BitVec 64) (xs : List (Word × Bool)), xs.length ≠ 216 →
      exec (.committedVote u xs) s = .fault .operandLength) ∧
    (∀ (u : BitVec 64) (xs : List (Word × Bool)), xs.length = 216 → s.canSample u.toNat = false →
      Does (.committedVote u xs) s fun t => t = s) ∧
    (∀ (u : BitVec 64) (xs : List (Word × Bool)), xs.length = 216 → s.canSample u.toNat = true →
      Does (.committedVote u xs) s fun t =>
        t.array.lastVote = some u.toNat ∧ t.committed.map (·.tick) = some u.toNat ∧ t.filt.settling = none ∧
        t.array.newDeltas = [] ∧ t.array.accRange = s.fld ARRAY_RANGE.ACC_RANGE ∧
        t.array.gyrRange = s.fld ARRAY_RANGE.GYR_RANGE ∧
        (∀ a < 6, (quorumOf (s.contributes u.toNat) (decide (3 ≤ a)) = false → (t.axis a).validity = 2) ∧
          ((s.axis a).validity = 2 → (t.axis a).validity = 2) ∧
          (s.on (bitF Reg.SAFE_CFG (8 + a)) = true → s.armed = true → (s.axis a).validity ≠ 2 → (t.axis a).validity = 2 →
            t.SafeOff ∧ t.safeState ≠ ARMED) ∧
          (t.axis a).value = (s.boundary.endSettling.formAxes u.toNat (xs.map fun x => (x.1.toInt, x.2))).1.getD a 0) ∧
        t.fld VOTE_QUORUM.ACC_COUNT = ((List.range 48).filter (s.contributes u.toNat)).length ∧
        t.fld VOTE_QUORUM.GYR_COUNT = ((List.range 24).filter fun j => s.contributes u.toNat (48 + j)).length ∧
        (∀ k < 72, (t.triad k).state = (s.triad k).state) ∧
        (s.forewingPaired u.toNat = false →
          t.held.any (fun h => h.typ == T_SAMPLE && h.tick == u.toNat && h.rank == 1) = true) ∧
        (s.Shaped → ∀ d, s.array.newDeltas = [d] → d.1 < 216 →
          (t.chan d.1).dBias = d.2.1 ∧ (t.chan d.1).dScale = d.2.2)) ∧
    ((∀ a < 6, (s.axis a).validity = 2 → ∀ q, (s.axis a).okSince = some q → s.voteTick < q + 80) →
      Does .quorumRestored s fun t => t = s) ∧
    (∀ a < 6, (s.axis a).validity = 2 → ∀ q, (s.axis a).okSince = some q → q + 80 ≤ s.voteTick →
      Does .quorumRestored s fun t =>
        t.axis a = { s.axis a with validity := 1, reason := 0 } ∧
        (∀ b < 6, (s.axis b).validity ≠ 2 ∨ (s.axis b).okSince = none → t.axis b = s.axis b) ∧
        (t.fld VOTE_STATUS.VALID).testBit a = true ∧ Raised Reg.VOTE_EVENTS 3 s t ∧ Holds T_HEALTH s.voteTick s t ∧
        RegFrame [Reg.VOTE_STATUS, Reg.VOTE_EVENTS] s t ∧ ArrayAndHeld s t) ∧
    (Does .tempModelUpdate s fun t =>
      (∀ c < 216, t.chan c = { s.chan c with
        bias := (modelOf c (s.dieTemp (dieOfChan c)) (tempOf s TEMP_ASIC.T_LOW)).1
        scale := (modelOf c (s.dieTemp (dieOfChan c)) (tempOf s TEMP_ASIC.T_LOW)).2 }) ∧
      t = { s with array := { s.array with chans := t.array.chans } }) ∧
    (∀ (x y z : BitVec 16) (cycles : BitVec 64), Does (.sentinelSample x y z cycles) s fun t =>
      t.fld SENTINEL_XY.X = x.toNat ∧ t.fld SENTINEL_XY.Y = y.toNat ∧ t.fld SENTINEL_Z.Z = z.toNat ∧
      t.fld SENTINEL_Z.COUNT = (s.fld SENTINEL_Z.COUNT + 1) % 2 ^ SENTINEL_Z.COUNT.width ∧
      t.eng.sent = [x.signExtend 32, y.signExtend 32, z.signExtend 32] ∧ t.array.triads = s.array.triads ∧
      t.eng.theft.clock = s.eng.theft.clock + s.sentinelPeriod ∧
      (s.fld PWR_STATE.STATE ≠ 2 → RegFrame [Reg.SENTINEL_XY, Reg.SENTINEL_Z] s t ∧
        t = { s with regs := t.regs, array := t.array, eng := { s.eng with sent := t.eng.sent, theft := t.eng.theft } }))

/-- SET_PROFILE makes its profile the pending request, or the one behind a change in progress; SET_RANGES stores each
range that is not 0xFF; SET_CAL_DELTA adds its deltas to those that wait for the next boundary; SENTINEL_CONFIG stores
its word. SELFTEST of one triad puts it in TESTING, or, where its exclusion would break quorum, reports it SKIPPED and
ends at once. REINSTATE of a RETIRED triad puts it in TESTING. Nothing else changes. -/
def Obligations.ArrayCommands : Prop :=
  ∀ (r : Req) (s : State), s.aon = true →
    (cmdSetProfile.accepts r s = true → Does (.setProfile r) s fun t =>
      Replied 0x20 r OK [] s t ∧ t.fld ARRAY_PROFILE.PROFILE = byteAt r.params 0 ∧
      t.on ARRAY_PROFILE.CHANGE_PENDING = true ∧
      t.array = (if s.on ARRAY_PROFILE.CHANGE_PENDING then { s.array with profileNext := some (byteAt r.params 0) }
        else { s.array with profileReq := some (byteAt r.params 0) }) ∧
      t.profile = s.profile ∧ RegFrame (Reg.ARRAY_PROFILE :: replyRegs) s t) ∧
    (cmdSetRanges.accepts r s = true → Does (.setRanges r) s fun t =>
      Replied 0x21 r OK [] s t ∧
      t.fld ARRAY_RANGE.ACC_RANGE = (if byteAt r.params 0 = 0xFF then s.fld ARRAY_RANGE.ACC_RANGE else byteAt r.params 0) ∧
      t.fld ARRAY_RANGE.GYR_RANGE = (if byteAt r.params 1 = 0xFF then s.fld ARRAY_RANGE.GYR_RANGE else byteAt r.params 1) ∧
      RegFrame (Reg.ARRAY_RANGE :: replyRegs) s t ∧ ReplyOnly s t) ∧
    (cmdSetCalDelta.accepts r s = true → Does (.setCalDelta r) s fun t =>
      Replied 0x23 r OK [] s t ∧ RegFrame replyRegs s t ∧
      t.array = { s.array with newDeltas := s.array.newDeltas ++ (List.range (byteAt r.params 1)).map fun i =>
        (byteAt r.params 0 + i, (wordAt r.params (4 + 8 * i)).toInt, (wordAt r.params (8 + 8 * i)).toInt) } ∧
      ReplyOnly { s with array := t.array } t) ∧
    (cmdSentinelConfig.accepts r s = true → Does (.sentinelConfig r) s fun t =>
      Replied 0x24 r OK [] s t ∧
      t.reg Reg.SENTINEL_CTRL = (s.reg Reg.SENTINEL_CTRL &&& ~~~ rwMask Reg.SENTINEL_CTRL) ||| wordAt r.params 0 ∧
      RegFrame (Reg.SENTINEL_CTRL :: replyRegs) s t ∧ ReplyOnly s t) ∧
    (cmdSelftest.accepts r s = true → byteAt r.params 0 = 0 → ∀ k, k = byteAt r.params 1 →
      (s.Shaped → s.testWouldBreak k = false → Does (.selftest r) s fun t =>
        Replied 0xD0 r OK [] s t ∧
        TriadIs k { s.triad k with state := TESTING, before := (s.triad k).state } s t ∧
        t.array.test.map (·.current) = some [(k, false, 0)] ∧ t.on ARRAY_STATUS.SELFTEST_BUSY = true ∧
        RegFrame (Reg.ARRAY_STATUS :: replyRegs) s t ∧ ReplyOnly { s with array := t.array } t) ∧
      (s.testWouldBreak k = true → Does (.selftest r) s fun t =>
        Replied 0xD0 r OK [] s t ∧ t.array = s.array ∧ t.fld SELFTEST_RESULT.RESULT = R_SKIPPED ∧
        t.fld SELFTEST_RESULT.LAST_TRIAD = k ∧ t.fld SELFTEST_RESULT.SKIP_COUNT = 1 ∧
        t.on ARRAY_STATUS.SELFTEST_BUSY = false ∧ Raised Reg.ARRAY_EVENTS 17 s t ∧ Holds T_HEALTH s.tick s t ∧
        RegFrame ([Reg.ARRAY_STATUS, Reg.SELFTEST_RESULT, Reg.ARRAY_EVENTS] ++ replyRegs) s t)) ∧
    (s.Shaped → cmdReinstate.accepts r s = true → byteAt r.params 0 = 0 → ∀ k, k = byteAt r.params 1 →
      Does (.reinstate r) s fun t =>
        Replied 0xD1 r OK [] s t ∧ TriadIs k { s.triad k with state := TESTING, before := RETIRED_ } s t ∧
        t.array.test.map (fun x => (x.reinstate, x.current)) = some (true, [(k, false, 0)]) ∧
        t.on REINSTATE_RESULT.BUSY = true ∧ RegFrame (Reg.REINSTATE_RESULT :: replyRegs) s t ∧
        ReplyOnly { s with array := t.array } t)

/-- SET_PRESET starts a change due at the next whole millisecond, queues its preset behind a change in progress, or,
naming the preset that will be in force, queues none; the preset in force stays. COEFF_WRITE stores its coefficients
and makes the set invalid; COEFF_COMMIT stores the declared properties and makes it valid; the other sets stay.
BANK_SELECT stores both selections and waits with SWAP_PENDING. DECIM_SYNC requests a reset at its tick, the next one
for 0. NOTCH_CONFIG stores its word; disabled, no notch is active; NOTCH_SUSPENDED stands while enabled with no
candidate. -/
def Obligations.FilterCommands : Prop :=
  ∀ (r : Req) (s : State), s.aon = true →
    (cmdSetPreset.accepts r s = true → ∀ c, c = byteAt r.params 0 → Does (.setPreset r) s fun t =>
      Replied 0x30 r OK [] s t ∧ t.fld FILT_PRESET.PRESET = c ∧ t.preset = s.preset ∧
      (s.filt.change = none → c ≠ s.preset → t.on FILT_PRESET.CHANGE_PENDING = true ∧
        t.filt = { s.filt with change := some { code := c, ta := (s.tick / 40 + 1) * 40, applied := false, tL := 0, first := 0 } }) ∧
      (s.filt.change = none → c = s.preset → t.filt = { s.filt with queued := none }) ∧
      (∀ x, s.filt.change = some x → t.filt = { s.filt with queued := if c = x.code then none else some c }) ∧
      RegFrame (Reg.FILT_PRESET :: replyRegs) s t ∧ ReplyOnly { s with filt := t.filt } t) ∧
    (s.Shaped → cmdCoeffWrite.accepts r s = true → ∀ i, targetIx (byteAt r.params 0) = some i →
      Does (.coeffWrite r) s fun t =>
        Replied 0x31 r OK [] s t ∧ t.on (validF i) = false ∧
        (∀ k < half r.params 4, (t.coefSet i).coefs.lookup (half r.params 2 + k) = some (coef24 r.params (6 + 3 * k))) ∧
        (∀ j, j ≠ i → t.coefSet j = s.coefSet j) ∧ (∀ j < 20, j ≠ i → t.fld (validF j) = s.fld (validF j)) ∧
        RegFrame ([Reg.FILT_VALID, Reg.FILT_STATUS, Reg.FILT_EVENTS] ++ replyRegs) s t ∧
        ReplyOnly { s with filt := { s.filt with sets := t.filt.sets } } t) ∧
    (s.Shaped → cmdCoeffCommit.accepts r s = true → ∀ i, targetIx (byteAt r.params 0) = some i →
      Does (.coeffCommit r) s fun t =>
        Replied 0x32 r OK [] s t ∧ t.on (validF i) = true ∧
        t.coefSet i = {
          coefs := (s.coefSet i).coefs, tag := byteAt r.params 1, taps := half r.params 2, delay := half r.params 4
          frac := half r.params 6, fLo := half r.params 8, fHi := half r.params 10 } ∧
        (∀ j, j ≠ i → t.coefSet j = s.coefSet j) ∧ (∀ j < 20, j ≠ i → t.fld (validF j) = s.fld (validF j)) ∧
        RegFrame ([Reg.FILT_VALID, Reg.FILT_STATUS, Reg.FILT_EVENTS] ++ replyRegs) s t) ∧
    (cmdBankSelect.accepts r s = true →
      ∀ a, a = (if byteAt r.params 0 = 0xFF then s.fld FILT_BANK.ACC_SEL else byteAt r.params 0) →
      ∀ g, g = (if byteAt r.params 1 = 0xFF then s.fld FILT_BANK.GYR_SEL else byteAt r.params 1) →
      Does (.bankSelect r) s fun t =>
        Replied 0x33 r OK [] s t ∧ t.fld FILT_BANK.ACC_SEL = a ∧ t.fld FILT_BANK.GYR_SEL = g ∧
        t.on FILT_BANK.SWAP_PENDING = true ∧ t.fld FILT_BANK.ACC_ACTIVE = s.fld FILT_BANK.ACC_ACTIVE ∧
        t.fld FILT_BANK.GYR_ACTIVE = s.fld FILT_BANK.GYR_ACTIVE ∧ t.filt = { s.filt with swap := some (a, g) } ∧
        RegFrame (Reg.FILT_BANK :: replyRegs) s t) ∧
    (cmdDecimSync.accepts r s = true → Does (.decimSync r) s fun t =>
      Replied 0x34 r OK [] s t ∧ RegFrame replyRegs s t ∧
      t.filt = { s.filt with reset := some (if numAt r.params 0 8 = 0 then s.tick + 1 else numAt r.params 0 8) } ∧
      ReplyOnly { s with filt := t.filt } t) ∧
    (cmdNotchConfig.accepts r s = true → Does (.notchConfig r) s fun t =>
      t.reg Reg.NOTCH_CTRL = (s.reg Reg.NOTCH_CTRL &&& ~~~ rwMask Reg.NOTCH_CTRL) ||| (wordAt r.params 0 &&& rwMask Reg.NOTCH_CTRL) ∧
      (t.on FILT_STATUS.NOTCH_SUSPENDED = true ↔ bit (wordAt r.params 0) 0 = true ∧ s.hasCandidate = false) ∧
      (bit (wordAt r.params 0) 0 = true → t.filt = s.filt ∧ t.notchSlot = s.notchSlot ∧ Replied 0x35 r OK [] s t ∧
        RegFrame ([Reg.NOTCH_CTRL, Reg.FILT_STATUS, Reg.FILT_EVENTS] ++ replyRegs) s t) ∧
      (bit (wordAt r.params 0) 0 = false → t.notchSlot = none ∧ t.filt.target = none ∧
        (s.pairBusy = false → RegFrame ([Reg.NOTCH_CTRL, Reg.FILT_STATUS, Reg.FILT_EVENTS, Reg.NOTCH_FREQ] ++ replyRegs) s t)))

/-- A due preset change puts its preset in force with both banks back to standard, scales the channels' noise, and
opens a settling interval where the new grid has ticks before its first whole window; once complete, it ends with
CHANGE_PENDING 0 or the queued change follows. A bank swap makes the selections active, with its event. A valid period
of the notch's engine gives f and ends TACH_LOST; a confirmed slot is put in use; loss of the tachometer abandons a
confirmation and raises its event. A requested reset or an armed SYNC edge moves the grid to its tick, with its event;
an edge within 1 ms of the last one is counted as ignored. Without its condition each does nothing. -/
def Obligations.FilterEvents : Prop :=
  ∀ s : State, s.aon = true →
    (s.filt.change = none → (Does .presetApply s fun t => t = s) ∧ (Does .presetChangeComplete s fun t => t = s)) ∧
    (∀ c, s.filt.change = some c →
      (c.applied = true → Does .presetApply s fun t => t = s) ∧
      (c.applied = false → c.code ≤ 4 → Does .presetApply s fun t =>
        t.preset = c.code ∧ t.fld FILT_BANK.ACC_ACTIVE = 0 ∧ t.fld FILT_BANK.GYR_ACTIVE = 0 ∧
        t.fld FILT_BANK.ACC_SEL = 0 ∧ t.fld FILT_BANK.GYR_SEL = 0 ∧ t.commMem = none ∧ t.fastMem = none ∧
        t.filt.change.map (fun x => (x.code, x.applied)) = some (c.code, true) ∧ t.filt.tSync = s.filt.tSync ∧
        t.array.chans = s.array.chans.map (fun ch =>
          { ch with s2 := ch.s2 * (presetBw c.code : Rat) / (presetBw s.preset : Rat) }) ∧
        (s.filt.settling = none → ∀ l, l = gridTo s.filt.tSync (presetM s.preset) (c.ta - s.delayD) →
          ∀ b, b = max (l + 1) (l + (presetN c.code - s.tapsN) / 2) →
          ∀ g, g = gridFrom s.filt.tSync (presetM c.code) (l + 1) →
          ∀ e, e = gridFrom s.filt.tSync (presetM c.code) b →
            t.filt.settling = (if g < e then some { cause := 3, first := g, bound := some b, resume := some e } else none) ∧
            (g < e → t.on FILT_STATUS.SETTLING = true))) ∧
      (c.applied = false → Does .presetChangeComplete s fun t => t = s) ∧
      (c.applied = true → s.filt.queued = none → Does .presetChangeComplete s fun t =>
        t.on FILT_PRESET.CHANGE_PENDING = false ∧ t.preset = s.preset ∧
        t = { s with regs := t.regs, filt := { s.filt with change := none } } ∧ RegFrame [Reg.FILT_PRESET] s t) ∧
      (∀ q, s.filt.queued = some q → c.applied = true → q ≠ s.preset → Does .presetChangeComplete s fun t =>
        t.on FILT_PRESET.CHANGE_PENDING = true ∧ t.filt = { s.filt with
          queued := none, change := some { code := q, ta := (s.tick / 40 + 1) * 40, applied := false, tL := 0, first := 0 } })) ∧
    (s.filt.swap = none → Does .bankSwapApply s fun t => t = s) ∧
    (∀ p, s.filt.swap = some p → p.1 ≤ 2 → p.2 ≤ 2 → Does .bankSwapApply s fun t =>
      t.fld FILT_BANK.ACC_ACTIVE = p.1 ∧ t.fld FILT_BANK.GYR_ACTIVE = p.2 ∧ t.on FILT_BANK.SWAP_PENDING = false ∧
      t.filt.swap = none ∧ Raised Reg.FILT_EVENTS 2 s t ∧
      (s.pairBusy = false → t.filt = { s.filt with swap := none } ∧
        RegFrame ([Reg.FILT_BANK, Reg.FILT_DELAY_NS, Reg.FILT_DELAY_FRAC, Reg.FILT_EVENTS] ++ commitRegs) s t)) ∧
    (∀ (n : Fin 4) (w : Word),
      (s.fld NOTCH_CTRL.ENGINE ≠ n.val ∨ w.toNat < 480 → Does (.notchPeriodWord n w) s fun t => t = s) ∧
      (s.fld NOTCH_CTRL.ENGINE = n.val → 480 ≤ w.toNat → ∀ f : Rat,
        f = (48000000 * 16 : Nat) / ((w.toNat * max 1 (s.fld NOTCH_CTRL.PPR) : Nat) : Rat) →
        Does (.notchPeriodWord n w) s fun t =>
          t.fld NOTCH_FREQ.FREQ = min 0xFFFF (roundEven f).toNat ∧ t.on FILT_STATUS.TACH_LOST = false ∧
          t.filt.lastF = some f ∧ t.filt.tach = true ∧ t.notchSlot = s.notchSlot ∧
          (s.on NOTCH_CTRL.EN = true → s.notchSlot = none → s.fld NOTCH_CTRL.CONFIRM ≤ 1 → ∀ k, s.slotFor f = some k →
            t.filt.target = some (some k)) ∧
          (s.on NOTCH_CTRL.EN = false → t.filt = { s.filt with lastF := some f, tach := true }) ∧
          RegFrame [Reg.NOTCH_FREQ, Reg.FILT_STATUS] s t ∧ t = { s with regs := t.regs, filt := t.filt })) ∧
    (s.filt.target = none → Does .notchSetChange s fun t => t = s) ∧
    (∀ x, s.filt.target = some x → (∀ k, x = some k → k < 16) → Does .notchSetChange s fun t =>
      t.notchSlot = x ∧ t.filt.target = none ∧
      (x ≠ s.notchSlot → Raised Reg.FILT_EVENTS 3 s t ∧
        (s.pairBusy = false → Holds T_STATUS s.tick s t ∧ RegFrame [Reg.FILT_STATUS, Reg.NOTCH_FREQ, Reg.FILT_EVENTS] s t)) ∧
      (x = s.notchSlot → t = { s with filt := { s.filt with target := none } })) ∧
    (Does .tachLost s fun t =>
      t.on FILT_STATUS.TACH_LOST = true ∧ t.fld NOTCH_FREQ.FREQ = 0 ∧ t.notchSlot = s.notchSlot ∧
      Raised Reg.FILT_EVENTS 4 s t ∧ t.filt = { s.filt with outside := 0, target := none, tach := false } ∧
      RegFrame [Reg.FILT_STATUS, Reg.NOTCH_FREQ, Reg.FILT_EVENTS] s t ∧ RegsOnly { s with filt := t.filt } t) ∧
    (s.filt.reset = none → Does .decimSyncApply s fun t => t = s) ∧
    (∀ u, s.filt.reset = some u → Does .decimSyncApply s fun t =>
      t.filt.tSync = u ∧ t.filt.reset = none ∧ t.filt.lastReset = some u ∧ t.commMem = none ∧ t.fastMem = none ∧
      t.preset = s.preset ∧ Raised Reg.FILT_EVENTS 6 s t) ∧
    (∀ (cyc : Fin 1200) (up : Bool),
      (s.pairOn = false ∨ (s.edgeArmed up = false ∧ s.pairPulse up = false) → Does (.syncEdge cyc up) s fun t => t = s) ∧
      (s.pairOn = true → s.edgeArmed up = true ∨ s.pairPulse up = true → s.edgeTooSoon = true →
        Does (.syncEdge cyc up) s fun t =>
          t.fld SYNC_PHASE.IGNORED = min (s.fld SYNC_PHASE.IGNORED + 1) 0xFFFF ∧ Raised Reg.FILT_EVENTS 7 s t ∧
          RegFrame [Reg.SYNC_PHASE, Reg.FILT_EVENTS] s t ∧ RegsOnly s t) ∧
      (s.pairOn = true → s.edgeArmed up = true ∨ s.pairPulse up = true → s.edgeTooSoon = false →
        Does (.syncEdge cyc up) s fun t =>
          t.filt.tSync = (if cyc.val + 2 = 1201 then s.tick + 2 else s.tick + 1) ∧ t.filt.reset = none ∧
          t.fld SYNC_PHASE.CYCLES = cyc.val + 2 ∧ Raised Reg.FILT_EVENTS 6 s t ∧
          (s.edgeArmed up = true → t.on SYNC_CTRL.ARM = s.on SYNC_CTRL.CONT)))

/-- EM_LOAD stores its words and no other; EM_CONFIG gives a machine its flags and region, and moves OFF or FAULT to
STOPPED; EM_START starts every machine named from a cleared state at the entry, its first run on the tick the reply
names; EM_STOP stops every RUNNING one named, its vote withdrawn, frozen as after its last confirmed run; EM_PARAM
words wait for their tick, and hold from it on. Machines not named stay. Writes to EM_REGION and EM_FLAGS act on the
selected machine; on a RUNNING one, or with a bad region, they are recorded in EM_REFUSED and change nothing else.
EM_PMEM_DATA stores a permitted word and advances, or records its reason. -/
def Obligations.MachineCommands : Prop :=
  (∀ (r : Req) (s : State), s.aon = true →
    (cmdEmLoad.accepts r s = true → Does (.emLoad r) s fun t =>
      Replied 0x40 r OK [] s t ∧ RegFrame replyRegs s t ∧
      (∀ a, t.pmemAt a = if half r.params 0 ≤ a ∧ a < half r.params 0 + half r.params 2 then
        some (wordAt r.params (4 + 4 * (a - half r.params 0))) else s.pmemAt a) ∧
      ReplyOnly { s with eng := { s.eng with pmem := t.eng.pmem } } t) ∧
    (s.Shaped → cmdEmConfig.accepts r s = true → ∀ m, m = s.mach (byteAt r.params 0) → Does (.emConfig r) s fun t =>
      Replied 0x41 r OK [] s t ∧ RegFrame (Reg.EM_RUN :: replyRegs) s t ∧
      MachIs (byteAt r.params 0) { m with
        flags := byteAt r.params 1 % 8, entry := half r.params 2, len := half r.params 4
        state := if m.state = M_OFF ∨ m.state = M_FAULT then M_STOPPED else m.state } s t ∧
      ReplyOnly { s with eng := { s.eng with machs := t.eng.machs } } t) ∧
    (s.Shaped → cmdEmStart.accepts r s = true → Does (.emStart r) s fun t =>
      Replied 0x42 r OK (leBytes 8 s.nextFast) s t ∧ RegFrame ([Reg.EM_RUN, Reg.EM_CONLY, Reg.EM_VOTE] ++ replyRegs) s t ∧
      (∀ n < 32, (numAt r.params 0 4).testBit n = true → ∀ m, m = s.mach n →
        t.mach n = { m with
          state := M_RUNNING, fault := 0, conly := if m.forceConly then 1 else if s.commOnlyRegion m then 2 else 0
          conf := MState.start m.entry, cur := MState.start m.entry, lastCount := 0, maxCount := 0
          startTick := s.nextFast, starting := true, pos := s.nextFast, runs := [], run := none, acts := []
          haltTick := none } ∧
        t.on (bitF Reg.EM_RUN n) = true ∧ t.on (bitF Reg.EM_VOTE n) = false) ∧
      (∀ n, (numAt r.params 0 4).testBit n = false → t.mach n = s.mach n) ∧
      ReplyOnly { s with eng := { s.eng with machs := t.eng.machs } } t) ∧
    (cmdEmStop.accepts r s = true → Does (.emStop r) s fun t =>
      Replied 0x43 r OK [] s t ∧
      (∀ n < 32, (numAt r.params 0 4).testBit n = true → s.running n = true → ∀ m, m = s.mach n →
        t.mach n = { m with
          state := M_STOPPED, cur := m.conf, runs := [], run := none, acts := [], starting := false, haltTick := none } ∧
        t.on (bitF Reg.EM_RUN n) = false ∧ t.on (bitF Reg.EM_VOTE n) = false) ∧
      (∀ n, (numAt r.params 0 4).testBit n = false ∨ s.running n = false → t.mach n = s.mach n)) ∧
    (s.Shaped → cmdEmParam.accepts r s = true → ∀ m, m = s.mach (byteAt r.params 0) → Does (.emParam r) s fun t =>
      Replied 0x44 r OK (leBytes 8 s.nextFast) s t ∧ RegFrame replyRegs s t ∧
      MachIs (byteAt r.params 0) { m with waiting := m.waiting ++ (List.range (byteAt r.params 2)).map fun k =>
        (s.nextFast, byteAt r.params 1 + k, wordAt r.params (4 + 4 * k)) } s t)) ∧
  (∀ (s : State) (u : BitVec 64), s.aon = true → Does (.emParamApply u) s fun t =>
    (∀ n, t.mach n = { s.mach n with
      changes := (s.mach n).changes ++ (s.mach n).waiting.filter (fun c => decide (c.1 ≤ u.toNat))
      waiting := (s.mach n).waiting.filter (fun c => !decide (c.1 ≤ u.toNat)) }) ∧
    t = { s with eng := { s.eng with machs := t.eng.machs } }) ∧
  (∀ (s : State) (w : Word), s.aon = true → s.noon = true → s.imago = true →
    (s.running (s.fld EM_SEL.MACH) = true →
      (Does (.emRegionWrite false w) s fun t => t.fld EM_REFUSED.STATUS = REJECTED ∧ t.fld EM_REFUSED.REASON = 8 ∧
        RegFrame [Reg.EM_REFUSED] s t ∧ t = { s with regs := t.regs }) ∧
      (Does (.emFlagsWrite false w) s fun t => t.fld EM_REFUSED.STATUS = REJECTED ∧ t.fld EM_REFUSED.REASON = 8 ∧
        RegFrame [Reg.EM_REFUSED] s t ∧ t = { s with regs := t.regs })) ∧
    (s.running (s.fld EM_SEL.MACH) = false → bits w 16 14 = 0 ∨ 8192 < bits w 0 13 + bits w 16 14 →
      Does (.emRegionWrite false w) s fun t => t.fld EM_REFUSED.STATUS = BAD_PARAM ∧
        RegFrame [Reg.EM_REFUSED] s t ∧ t = { s with regs := t.regs }) ∧
    (s.Shaped → s.running (s.fld EM_SEL.MACH) = false → ∀ m, m = s.mach (s.fld EM_SEL.MACH) →
      (bits w 16 14 ≠ 0 → bits w 0 13 + bits w 16 14 ≤ 8192 → Does (.emRegionWrite false w) s fun t =>
        MachIs (s.fld EM_SEL.MACH) { m with
          entry := bits w 0 13, len := bits w 16 14
          state := if m.state = M_OFF ∨ m.state = M_FAULT then M_STOPPED else m.state } s t ∧
        RegFrame [Reg.EM_RUN] s t) ∧
      (Does (.emFlagsWrite false w) s fun t =>
        MachIs (s.fld EM_SEL.MACH) { m with flags := w.toNat % 8 } s t ∧ RegFrame [] s t)) ∧
    (s.loadReason (s.fld EM_PMEM_ADDR.ADDR) [w] = none → Does (.emPmemData false w) s fun t =>
      t.pmemAt (s.fld EM_PMEM_ADDR.ADDR) = some w ∧
      (∀ a, a ≠ s.fld EM_PMEM_ADDR.ADDR → t.pmemAt a = s.pmemAt a) ∧
      t.fld EM_PMEM_ADDR.ADDR = (s.fld EM_PMEM_ADDR.ADDR + 1) % 8192 ∧ RegFrame [Reg.EM_PMEM_ADDR] s t) ∧
    (∀ x, s.loadReason (s.fld EM_PMEM_ADDR.ADDR) [w] = some x → Does (.emPmemData false w) s fun t =>
      t.fld EM_REFUSED.STATUS = REJECTED ∧ t.fld EM_REFUSED.REASON = x.1 ∧ t.fld EM_REFUSED.ADDR = x.2 ∧
      RegFrame [Reg.EM_REFUSED] s t ∧ t = { s with regs := t.regs }))

/-- In a run in progress with fewer than 63 fetches, an instruction whose condition holds changes the state as Table
6.7 says: register results with Z and N of the result; C and O of sums and differences; saturation with O; quotients
rounded to nearest, ties to even; timers and counters with their flags; and goes on at the next word, JMP at its
target, wrapping at the region's end, counted and traced, all else unchanged. CKPT also opens a checkpoint in a
speculative run where fewer than four are open. END and NEXT end the run: the next entry is the region's or the
target, and where it does not speculate, its state is confirmed. -/
def Obligations.IxustInstructions : Prop :=
  ∀ (s : State) (n : Fin 32) (cond : Fin 16), s.aon = true → NothingDue s → ∀ m, m = s.mach n.val →
    ∀ r, m.run = some r → ∀ e, s.engTick r.tick = some e → r.count < 63 →
    ixHolds cond.val (r.kind != .committed) (r.tick == m.startTick) r.live = true → ∀ q, q = r.live →
    (Does (.ixNop n cond) s (RunGoes n r (ixWord 0x00 0 0 cond 0) q (r.pc + 1) s)) ∧
    (∀ (d : Fin 8) (x : BitVec 16),
      (Does (.ixLdi n cond d x) s (RunGoes n r (ixWord 0x01 d 0 cond x.toNat)
        ((q.zn (x.signExtend 32)).setV d (x.signExtend 32)) (r.pc + 1) s)) ∧
      (Does (.ixLdh n cond d x) s (RunGoes n r (ixWord 0x02 d 0 cond x.toNat)
        ((q.zn (putBits (q.getV d) 16 16 x.toNat)).setV d (putBits (q.getV d) 16 16 x.toNat)) (r.pc + 1) s)) ∧
      (Does (.ixAddi n cond d x) s (RunGoes n r (ixWord 0x06 d 0 cond x.toNat)
        (({ q.zn (q.getV d + x.signExtend 32) with
          cy := decide (2 ^ 32 ≤ (q.getV d).toNat + (x.signExtend 32).toNat)
          o := decide ((q.getV d + x.signExtend 32).toInt ≠ (q.getV d).toInt + x.toInt) }).setV d
            (q.getV d + x.signExtend 32)) (r.pc + 1) s)) ∧
      (Does (.ixCmpi n cond d x) s (RunGoes n r (ixWord 0x09 d 0 cond x.toNat)
        { q.zn (q.getV d - x.signExtend 32) with
          cy := decide ((x.signExtend 32).toNat ≤ (q.getV d).toNat)
          o := decide ((q.getV d - x.signExtend 32).toInt ≠ (q.getV d).toInt - x.toInt) } (r.pc + 1) s))) ∧
    (∀ (d : Fin 8) (id : BitVec 8), ∀ v, v = (s.inputs n e (r.kind == .committed)).read q id.toNat →
      Does (.ixRd n cond d id) s (RunGoes n r (ixWord 0x04 d 0 cond id.toNat)
        (({ q.zn v.1 with cy := v.2 }).setV d v.1) (r.pc + 1) s)) ∧
    (∀ d b : Fin 8, ∀ x, x = q.getV d → ∀ y, y = q.getV b →
      (Does (.ixMov n cond d b) s (RunGoes n r (ixWord 0x03 d b cond 0) ((q.zn y).setV d y) (r.pc + 1) s)) ∧
      (Does (.ixAdd n cond d b) s (RunGoes n r (ixWord 0x05 d b cond 0)
        (({ q.zn (x + y) with
          cy := decide (2 ^ 32 ≤ x.toNat + y.toNat), o := decide ((x + y).toInt ≠ x.toInt + y.toInt) }).setV d (x + y))
        (r.pc + 1) s)) ∧
      (Does (.ixSub n cond d b) s (RunGoes n r (ixWord 0x07 d b cond 0)
        (({ q.zn (x - y) with
          cy := decide (y.toNat ≤ x.toNat), o := decide ((x - y).toInt ≠ x.toInt - y.toInt) }).setV d (x - y))
        (r.pc + 1) s)) ∧
      (Does (.ixCmp n cond d b) s (RunGoes n r (ixWord 0x08 d b cond 0)
        { q.zn (x - y) with cy := decide (y.toNat ≤ x.toNat), o := decide ((x - y).toInt ≠ x.toInt - y.toInt) }
        (r.pc + 1) s)) ∧
      (∀ z, z = wordOfInt (sat32 (y.toInt.natAbs : Int)) → Does (.ixAbs n cond d b) s (RunGoes n r (ixWord 0x0B d b cond 0)
        (({ q.zn z with o := decide (y.toInt = -2147483648) }).setV d z) (r.pc + 1) s)) ∧
      (∀ z, z = (if y.toInt < x.toInt then y else x) → Does (.ixMin n cond d b) s
        (RunGoes n r (ixWord 0x0C d b cond 0) ((q.zn z).setV d z) (r.pc + 1) s)) ∧
      (∀ z, z = (if x.toInt < y.toInt then y else x) → Does (.ixMax n cond d b) s
        (RunGoes n r (ixWord 0x0D d b cond 0) ((q.zn z).setV d z) (r.pc + 1) s)) ∧
      (Does (.ixAnd n cond d b) s (RunGoes n r (ixWord 0x0E d b cond 0) ((q.zn (x &&& y)).setV d (x &&& y)) (r.pc + 1) s)) ∧
      (Does (.ixOr n cond d b) s (RunGoes n r (ixWord 0x0F d b cond 0) ((q.zn (x ||| y)).setV d (x ||| y)) (r.pc + 1) s)) ∧
      (Does (.ixXor n cond d b) s (RunGoes n r (ixWord 0x10 d b cond 0) ((q.zn (x ^^^ y)).setV d (x ^^^ y)) (r.pc + 1) s)) ∧
      (∀ k : BitVec 5,
        (∀ v : Int, v = roundEven ((x.toInt * y.toInt : Int) / (2 ^ k.toNat : Nat) : Rat) →
          Does (.ixMul n cond d b k) s (RunGoes n r (ixWord 0x0A d b cond k.toNat)
            (({ q.zn (wordOfInt (sat32 v)) with o := decide (sat32 v ≠ v) }).setV d (wordOfInt (sat32 v))) (r.pc + 1) s)) ∧
        (∀ v : Int, v = roundEven ((y.toInt : Rat) / (2 ^ k.toNat : Nat)) →
          Does (.ixShr n cond d b k) s (RunGoes n r (ixWord 0x11 d b cond k.toNat)
            ((q.zn (wordOfInt v)).setV d (wordOfInt v)) (r.pc + 1) s)) ∧
        (∀ v : Int, v = y.toInt * 2 ^ k.toNat → Does (.ixShl n cond d b k) s (RunGoes n r (ixWord 0x12 d b cond k.toNat)
            (({ q.zn (wordOfInt (sat32 v)) with o := decide (sat32 v ≠ v) }).setV d (wordOfInt (sat32 v))) (r.pc + 1) s)) ∧
        (∀ v : Int, v = x.toInt + roundEven ((y.toInt - x.toInt : Int) / (2 ^ k.toNat : Nat) : Rat) →
          Does (.ixFilt n cond d b k) s (RunGoes n r (ixWord 0x14 d b cond k.toNat)
            ((q.zn (wordOfInt v)).setV d (wordOfInt v)) (r.pc + 1) s)))) ∧
    (∀ (d : Fin 8) (b : Fin 6), ∀ v, v = mag3 (q.getV b) (q.getV (b + 1)) (q.getV (b + 2)) → ∀ z : Word,
      z = w32 (min v 0x7FFFFFFF) → Does (.ixMag3 n cond d b) s (RunGoes n r (ixWord 0x13 d b cond 0)
        (({ q with z := z == 0, n := false, o := decide (0x7FFFFFFF < v) }).setV d z) (r.pc + 1) s)) ∧
    (∀ k : Fin 4,
      (∀ x : BitVec 16, Does (.ixTset n cond k x) s (RunGoes n r (ixWord 0x18 k 0 cond x.toNat)
        (q.setT k (some (e.tick + x.toNat))) (r.pc + 1) s)) ∧
      (∀ b : Fin 8, Does (.ixTsetv n cond k b) s (RunGoes n r (ixWord 0x19 k b cond 0)
        (q.setT k (some (e.tick + (q.getV b).toNat))) (r.pc + 1) s)) ∧
      (Does (.ixTclr n cond k) s (RunGoes n r (ixWord 0x1A k 0 cond 0) (q.setT k none) (r.pc + 1) s)) ∧
      (Does (.ixTst n cond k) s (RunGoes n r (ixWord 0x1B k 0 cond 0)
        { q with z := (q.getT k).any (fun u => decide (u ≤ e.tick)), cy := (q.getT k).isNone, n := false } (r.pc + 1) s))) ∧
    (∀ k : Fin 2,
      (∀ x : BitVec 16, ∀ v : Int, v = (q.getC k).toNat + x.toInt → ∀ c : Int, c = clampInt 0 0xFFFFFFFF v →
        Does (.ixCadd n cond k x) s (RunGoes n r (ixWord 0x1C k 0 cond x.toNat)
          { q.setC k (wordOfInt c) with z := decide (c = 0), o := decide (v ≠ c) } (r.pc + 1) s)) ∧
      (Does (.ixCclr n cond k) s (RunGoes n r (ixWord 0x1D k 0 cond 0) { q.setC k 0 with z := true } (r.pc + 1) s))) ∧
    (∀ a : BitVec 13,
      (Does (.ixJmp n cond a) s (RunGoes n r (ixWord 0x20 0 0 cond a.toNat) q a.toNat s)) ∧
      (Does (.ixNext n cond a) s fun t => ∀ m', m' = t.mach n → m'.run = none ∧ m'.cur = { q with next := a.toNat } ∧
        m'.pos = r.tick + 1 ∧ (r.kind = .spec → m'.conf = m.conf ∧ m'.runs.length = m.runs.length + 1) ∧
        (r.kind ≠ .spec → m'.conf = { q with next := a.toNat } ∧ m'.lastCount = r.count + 1 ∧ m'.runs = m.runs) ∧
        ∀ j, j ≠ n.val → t.mach j = s.mach j)) ∧
    (Does (.ixEnd n cond) s fun t => ∀ m', m' = t.mach n → m'.run = none ∧ m'.cur = { q with next := m.entry } ∧
      m'.pos = r.tick + 1 ∧ (r.kind = .spec → m'.conf = m.conf ∧ m'.runs.length = m.runs.length + 1) ∧
      (r.kind ≠ .spec → m'.conf = { q with next := m.entry } ∧ m'.lastCount = r.count + 1 ∧ m'.runs = m.runs) ∧
      ∀ j, j ≠ n.val → t.mach j = s.mach j) ∧
    (r.kind ≠ .spec ∨ r.opened = true → Does (.ixCkpt n cond) s
      (RunGoes n r (ixWord 0x24 0 0 cond 0) q (r.pc + 1) s)) ∧
    (r.kind = .spec → r.opened = false → m.ckpts < 4 → Does (.ixCkpt n cond) s fun t =>
      t = s.setMach n fun m => m.ran r (ixWord 0x24 0 0 cond 0) true true r.outs q (r.pc + 1))

/-- The rows of Table 6.7 on machine `n`, with their instruction words. -/
def ixRows (n : Fin 32) (c : Fin 16) (d b : Fin 8) (b3 : Fin 6) (x : BitVec 16) (k : BitVec 5) (tm : Fin 4) (ct : Fin 2)
      (a : BitVec 13) (id : BitVec 8) : List (Instr × Word) :=
  [(.ixNop n c, ixWord 0x00 0 0 c 0), (.ixLdi n c d x, ixWord 0x01 d 0 c x.toNat),
    (.ixLdh n c d x, ixWord 0x02 d 0 c x.toNat), (.ixMov n c d b, ixWord 0x03 d b c 0),
    (.ixRd n c d id, ixWord 0x04 d 0 c id.toNat), (.ixAdd n c d b, ixWord 0x05 d b c 0),
    (.ixAddi n c d x, ixWord 0x06 d 0 c x.toNat), (.ixSub n c d b, ixWord 0x07 d b c 0),
    (.ixCmp n c d b, ixWord 0x08 d b c 0), (.ixCmpi n c d x, ixWord 0x09 d 0 c x.toNat),
    (.ixMul n c d b k, ixWord 0x0A d b c k.toNat), (.ixAbs n c d b, ixWord 0x0B d b c 0),
    (.ixMin n c d b, ixWord 0x0C d b c 0), (.ixMax n c d b, ixWord 0x0D d b c 0)]
  ++ [(.ixAnd n c d b, ixWord 0x0E d b c 0), (.ixOr n c d b, ixWord 0x0F d b c 0), (.ixXor n c d b, ixWord 0x10 d b c 0),
    (.ixShr n c d b k, ixWord 0x11 d b c k.toNat), (.ixShl n c d b k, ixWord 0x12 d b c k.toNat),
    (.ixMag3 n c d b3, ixWord 0x13 d b3 c 0), (.ixFilt n c d b k, ixWord 0x14 d b c k.toNat),
    (.ixTset n c tm x, ixWord 0x18 tm 0 c x.toNat), (.ixTsetv n c tm b, ixWord 0x19 tm b c 0),
    (.ixTclr n c tm, ixWord 0x1A tm 0 c 0), (.ixTst n c tm, ixWord 0x1B tm 0 c 0),
    (.ixCadd n c ct x, ixWord 0x1C ct 0 c x.toNat), (.ixCclr n c ct, ixWord 0x1D ct 0 c 0)]
  ++ [(.ixJmp n c a, ixWord 0x20 0 0 c a.toNat), (.ixEnd n c, ixWord 0x21 0 0 c 0), (.ixNext n c a, ixWord 0x22 0 0 c a.toNat),
    (.ixHalt n c, ixWord 0x23 0 0 c 0), (.ixCkpt n c, ixWord 0x24 0 0 c 0), (.ixEmit n c d b x, ixWord 0x28 d b c x.toNat),
    (.ixSafeoff n c id, ixWord 0x29 0 0 c id.toNat), (.ixPiow n c b tm, ixWord 0x2A 0 b c tm),
    (.ixBell n c none, ixWord 0x2B 0 0 c 0), (.ixBell n c (some d), ixWord 0x2B 0 0 c (120 + d)),
    (.ixCapt n c tm, ixWord 0x2C 0 0 c tm), (.ixVote n c true, ixWord 0x2D 0 0 c 1), (.ixVote n c false, ixWord 0x2D 0 0 c 0)]

/-- The outputs of Table 6.8 with what each asks for, in a state whose registers are `q`. -/
def ixOutputs (n : Fin 32) (c : Fin 16) (d b : Fin 8) (x : BitVec 16) (tm : Fin 4) (id : BitVec 8) (q : MState) :
    List (Instr × Word × Effect) :=
  [(.ixEmit n c d b x, ixWord 0x28 d b c x.toNat, .emit x.toNat (q.getV d) (q.getV b)),
    (.ixSafeoff n c id, ixWord 0x29 0 0 c id.toNat, .safeoff id.toNat),
    (.ixPiow n c b tm, ixWord 0x2A 0 b c tm, .piow tm (q.getV b)), (.ixBell n c none, ixWord 0x2B 0 0 c 0, .bell 0),
    (.ixBell n c (some d), ixWord 0x2B 0 0 c (120 + d), .bell (120 + d)), (.ixCapt n c tm, ixWord 0x2C 0 0 c tm, .capt tm),
    (.ixVote n c true, ixWord 0x2D 0 0 c 1, .vote true), (.ixVote n c false, ixWord 0x2D 0 0 c 0, .vote false)]

/-- On committed data an output acts at once and once: EMIT holds its EVENT record, SAFEOFF makes its request, PIOW
writes the port, BELL and CAPT their source and trigger, VOTE the vote bit; HALT stops the machine. In a speculative
run they are held with the run instead and nothing acts, but for SAFEOFF and PIOW under SPEC_ACT, which act at once
and are kept until decided. Where no packet can be given EMIT falls back with reason 4, and with four checkpoints open
an instruction that opens one with reason 3: the entry image returns. An instruction whose condition does not hold is
counted and traced and changes nothing else; with 64 fetches made and no end or output the machine enters FAULT 1;
with no run in progress nothing happens. -/
def Obligations.IxustOutputsAndConditions : Prop :=
  (∀ (s : State) (n : Fin 32) (cond : Fin 16), s.aon = true → NothingDue s → ∀ m, m = s.mach n.val →
    ∀ r, m.run = some r → ∀ e, s.engTick r.tick = some e → r.count < 63 →
    ixHolds cond.val (r.kind != .committed) (r.tick == m.startTick) r.live = true → ∀ q, q = r.live →
    (r.kind = .committed → m.acts = [] →
      (∀ (d b : Fin 8) (x : BitVec 16), Does (.ixEmit n cond d b x) s (RunActs n r (ixWord 0x28 d b cond x.toNat)
        (State.hold 4 (64 + n) (eventRec n 0 x.toNat r.tick (q.getV d) (q.getV b) true false)) s)) ∧
      (∀ x : BitVec 8, Does (.ixSafeoff n cond x) s (RunActs n r (ixWord 0x29 0 0 cond x.toNat)
        (State.machineSafe n x.toNat r.tick) s)) ∧
      (∀ (b : Fin 8) (k : Fin 4), Does (.ixPiow n cond b k) s (RunActs n r (ixWord 0x2A 0 b cond k)
        (State.putMport k (q.getV b)) s)) ∧
      (Does (.ixBell n cond none) s (RunActs n r (ixWord 0x2B 0 0 cond 0) (State.raise Reg.EM_BELL n) s)) ∧
      (∀ k : Fin 8, Does (.ixBell n cond (some k)) s (RunActs n r (ixWord 0x2B 0 0 cond (120 + k))
        (State.post (120 + k)) s)) ∧
      (∀ k : Fin 4, Does (.ixCapt n cond k) s (RunActs n r (ixWord 0x2C 0 0 cond k)
        (State.captureTrigger k r.tick 0 n) s)) ∧
      (∀ v : Bool, Does (.ixVote n cond v) s (RunActs n r (ixWord 0x2D 0 0 cond (b01 v)) (State.emBit Reg.EM_VOTE n v) s))) ∧
    (r.kind ≠ .spec → m.state = M_RUNNING → Does (.ixHalt n cond) s fun t => ∀ m', m' = t.mach n →
      m'.state = M_STOPPED ∧ m'.run = none ∧ m'.conf = q ∧ t.on (bitF Reg.EM_RUN n) = false ∧
      t.on (bitF Reg.EM_VOTE n) = false ∧ ∀ j, j ≠ n.val → t.mach j = s.mach j) ∧
    (r.kind = .spec → r.opened = true ∨ m.ckpts < 4 →
      Does (.ixHalt n cond) s fun t => ∀ m', m' = t.mach n → m'.state = m.state ∧ m'.run = none ∧
        m'.haltTick = some r.tick ∧ m'.conf = m.conf ∧ m'.runs.length = m.runs.length + 1 ∧
        ∀ j, j ≠ n.val → t.mach j = s.mach j) ∧
    (r.kind = .spec → r.opened = true ∨ m.ckpts < 4 →
      ∀ (d b : Fin 8) (x : BitVec 16) (k : Fin 4) (y : BitVec 8), ∀ o ∈ ixOutputs n cond d b x k y q,
        (o.2.2.isEmit = true → s.poolGrants = true) → (m.specAct = false ∨ o.2.2.specActs = none) →
          Does o.1 s (RunHolds n r o.2.1 o.2.2 s)) ∧
    (r.kind = .spec → r.opened = true ∨ m.ckpts < 4 → ∀ (d b : Fin 8) (x : BitVec 16), s.poolGrants = false → Does (.ixEmit n cond d b x) s fun t =>
        (t.mach n).run = none ∧ (t.mach n).cur = r.entry ∧ (t.mach n).conly = 4 ∧ t.on (bitF Reg.EM_CONLY n) = true ∧
        Raised Reg.SPEC_EVENTS 1 s t) ∧
    (r.kind = .spec → r.opened = true ∨ m.ckpts < 4 → ∀ (b : Fin 8) (k : Fin 4), m.specAct = true → m.acts = [] → k.val < s.pio.length →
        Does (.ixPiow n cond b k) s fun t =>
          (t.pioEngine k).mport = q.getV b ∧ (t.mach n).acts = [⟨r.tick, r.pc, 2, k, q.getV b⟩] ∧
          (t.mach n).run.map (·.outs) = some r.outs) ∧
    (r.kind = .spec → r.opened = false → 4 ≤ m.ckpts →
      ∀ (d b : Fin 8) (x : BitVec 16) (k : Fin 4) (y : BitVec 8),
        ∀ i ∈ [Instr.ixHalt n cond, .ixCkpt n cond] ++ (ixOutputs n cond d b x k y q).map (·.1), Does i s fun t =>
          (t.mach n).run = none ∧ (t.mach n).cur = r.entry ∧ (t.mach n).conly = 3 ∧ t.on (bitF Reg.EM_CONLY n) = true ∧
          (∀ j, j ≠ n.val → t.mach j = s.mach j))) ∧
  (∀ (s : State) (n : Fin 32) (c : Fin 16) (d b : Fin 8) (b3 : Fin 6) (x : BitVec 16) (k : BitVec 5) (tm : Fin 4)
      (ct : Fin 2) (a : BitVec 13) (id : BitVec 8), s.aon = true → NothingDue s → ∀ m, m = s.mach n.val →
    (m.run = none → ∀ i ∈ ixRows n c d b b3 x k tm ct a id, Does i.1 s fun t => t = s) ∧
    (∀ r, m.run = some r → s.engTick r.tick = none → ∀ i ∈ ixRows n c d b b3 x k tm ct a id, Does i.1 s fun t => t = s) ∧
    (∀ r, m.run = some r → ∀ e, s.engTick r.tick = some e →
      ixHolds c.val (r.kind != .committed) (r.tick == m.startTick) r.live = false →
      (r.count < 63 → ∀ i ∈ ixRows n c d b b3 x k tm ct a id, Does i.1 s fun t =>
        t = s.setMach n fun m => m.ran r i.2 false r.opened r.outs r.live (r.pc + 1)) ∧
      (63 ≤ r.count → m.state = M_RUNNING → ∀ i ∈ ixRows n c d b b3 x k tm ct a id, Does i.1 s fun t =>
        (t.mach n).state = M_FAULT ∧ (t.mach n).fault = 1 ∧ (t.mach n).run = none ∧ (t.mach n).cur = m.conf ∧
        t.on (bitF Reg.EM_RUN n) = false ∧ t.on (bitF Reg.EM_FAULT n) = true ∧ ∀ j, j ≠ n.val → t.mach j = s.mach j)) ∧
    (∀ r, m.run = some r → ∀ e, s.engTick r.tick = some e → 63 ≤ r.count → m.state = M_RUNNING →
      ixHolds c.val (r.kind != .committed) (r.tick == m.startTick) r.live = true →
      ∀ i ∈ (ixRows n c d b b3 x k tm ct a id).take 28, Does i.1 s fun t =>
        (t.mach n).state = M_FAULT ∧ (t.mach n).fault = 1 ∧ (t.mach n).run = none ∧ (t.mach n).cur = m.conf))

/-- A fast sample that is not 216 words stops; one that is not due changes nothing; one that is becomes the last fast
sample, stands in its tick with the preset in force, and a machine that starts with it has its first tick. The
committed sample resolves its tick, and a machine that waits for it starts its committed run; a run without checkpoint
is confirmed. Replay begins a machine's next run, rejoin ends committed-only execution when 16 packets are free. At a
tick's commit point no record of it or of an earlier one stays held. A late stage is recorded with its event; the tick
has no fast sample, or a GAP record in place of its sample, with STALE axes; a fetch that waits too long is fault 2 of
its machine. -/
def Obligations.EngineArrivals : Prop :=
  (∀ (s : State) (u : BitVec 64) (xs : List (Word × Bool)), s.aon = true →
    (xs.length ≠ 216 → exec (.fastSampleArrival u xs) s = .fault .operandLength) ∧
    (xs.length = 216 → s.sampling u.toNat = false ∨ s.freshFast u.toNat = false →
      Does (.fastSampleArrival u xs) s fun t => t = s) ∧
    (xs.length = 216 → s.sampling u.toNat = true → s.freshFast u.toNat = true →
      ∀ f, f = s.fastFused u.toNat (xs.map fun x => (x.1.toInt, x.2)) → Does (.fastSampleArrival u xs) s fun t =>
        t.fast = some f.1 ∧ t.fastMem = some f.2 ∧ t.eng.lastFast = some u.toNat ∧ t.committed = s.committed ∧
        t.array = s.array ∧ (s.engTick u.toNat = none → (t.engTick u.toNat).map (fun e => (e.fast, e.preset, e.comm)) =
          some (some f.1, s.preset, none)) ∧
        (∀ n < 32, ∀ m, m = s.mach n → m.state = M_RUNNING → m.starting = true → m.run = none → m.pos ≤ u.toNat →
          (t.mach n).startTick = u.toNat ∧ (t.mach n).starting = false))) ∧
  (∀ (s : State) (u : BitVec 64), s.aon = true →
    ((s.committed = none ∨ s.committed.map (·.tick) ≠ some u.toNat) → Does (.committedSampleArrival u) s fun t => t = s) ∧
    (∀ f, s.committed = some f → f.tick = u.toNat →
      (s.engTick u.toNat).map (fun e => e.resolved || e.void) ≠ some true → Does (.committedSampleArrival u) s fun t =>
        (t.engTick u.toNat).map (fun e => (e.resolved, e.comm)) = some (true, some f) ∧ t.array = s.array ∧
        (∀ n < 32, ∀ m, m = s.mach n → m.state = M_RUNNING → m.run = none → m.haltTick = none →
          (m.runs = [] → m.pos ≤ u.toNat → s.pairWaits u.toNat = false → (∀ e ∈ s.eng.ticks, e.tick = u.toNat) →
            (t.mach n).run.map (fun r => (r.tick, r.pc, r.entry)) = some (u.toNat, m.cur.next, m.cur) ∧
            (t.mach n).run.map (fun r => decide (r.kind = .committed)) = some true) ∧
          (∀ r, m.runs = [r] → r.tick = u.toNat → r.opened = false → (t.mach n).conf = r.after ∧
            (t.mach n).lastCount = r.count ∧ (t.mach n).runs = [])))) ∧
  (∀ (s : State) (n : Fin 32), s.aon = true → NothingDue s → ∀ m, m = s.mach n.val → m.run = none →
    (m.nextRun s.eng.ticks = none → Does (.replayRun n) s fun t => t = s) ∧
    (s.Shaped → ∀ p, m.nextRun s.eng.ticks = some p → Does (.replayRun n) s fun t =>
      MachIs n { m with run := some {
        tick := p.1, kind := p.2, pc := m.cur.next, entry := m.cur, live := m.cur, count := 0, opened := false
        trace := [], outs := [] } } s t ∧ t = { s with eng := { s.eng with machs := t.eng.machs } }) ∧
    ((m.state ≠ M_RUNNING ∨ (m.conly ≠ 3 ∧ m.conly ≠ 4) ∨ m.ckpts ≠ 0 ∨ 48 < s.poolUsed) →
      Does (.specRejoin n) s fun t => t = s) ∧
    (s.Shaped → m.state = M_RUNNING → m.conly = 3 ∨ m.conly = 4 → m.ckpts = 0 → s.poolUsed ≤ 48 →
      Does (.specRejoin n) s fun t => (t.mach n).conly = 0 ∧ (t.mach n).cur = m.cur ∧ (t.mach n).state = M_RUNNING ∧
        t.on (bitF Reg.EM_CONLY n) = false ∧ t.fld SPEC_FALLBACK.REJOINS = min (s.fld SPEC_FALLBACK.REJOINS + 1) 0xFFFF ∧
        (∀ e ∈ s.eng.ticks.head?, m.pos ≤ e.tick → Holds T_STATUS e.tick s t) ∧
        (s.eng.ticks = [] → Holds T_STATUS s.nextFast s t) ∧ (∀ j, j ≠ n.val → t.mach j = s.mach j) ∧
        RegFrame [Reg.EM_CONLY, Reg.SPEC_FALLBACK] s t)) ∧
  (∀ (s : State) (u : BitVec 64), s.aon = true →
    (Does (.tickCommit u) s fun t => (∀ h ∈ t.held, s.pairLimit u.toNat < h.tick) ∧ t.committed = s.committed ∧
      (∀ h ∈ s.held, s.pairLimit u.toNat < h.tick → h ∈ t.held)) ∧
    (∀ h, s.held = [h] → h.tick ≤ s.pairLimit u.toNat → h.isSample = false → h.typ ≠ T_GAP → s.ring.dawnRecord = false →
      s.eng.ticks = [] → (∀ n < 32, (s.mach n).run = none) → Does (.tickCommit u) s fun t =>
        Commits h.toRec s t ∧ t.held = [] ∧ RegFrame commitRegs s t ∧ t.array = s.array ∧ t.safety = s.safety)) ∧
  (∀ (s : State) (k : Fin 7) (u : BitVec 64), s.aon = true →
    (Does (.lateStage k u) s fun t => t.fld FILT_STATUS.LATE_STAGE = k.val + 1 ∧ Raised Reg.FILT_EVENTS 1 s t) ∧
    (s.sampling u.toNat = false → Does (.lateStage k u) s fun t => RegFrame [Reg.FILT_STATUS, Reg.FILT_EVENTS] s t ∧ RegsOnly s t) ∧
    (k.val ≤ 2 → s.sampling u.toNat = true → s.freshFast u.toNat = true → Does (.lateStage k u) s fun t =>
      t.eng.lastFast = some u.toNat ∧ t.fastMem = none ∧ t.fast = s.fast ∧
      (s.engTick u.toNat = none → (t.engTick u.toNat).map (fun e => (e.fast, e.comm)) = some (none, none))) ∧
    (k.val = 1 ∨ k.val = 2 → Does (.lateStage k u) s fun t => t.array = s.array ∧ t.commMem = s.commMem) ∧
    (k.val ≠ 1 → k.val ≠ 2 → s.canSample u.toNat = true → Does (.lateStage k u) s fun t =>
      (∃ h ∈ t.held, h.tick = u.toNat ∧ h.typ = T_GAP ∧ h.payload = (lateGap (k.val + 1) u.toNat).payload) ∧
      (∀ h ∈ t.held, h.tick = u.toNat → h.isSample = true → h.typ = T_GAP) ∧ (k.val ≤ 4 → t.commMem = none) ∧
      (k.val ≠ 0 → k.val ≠ 3 → t.array = s.array) ∧
      (k.val = 0 ∨ k.val = 3 → ∀ l, s.array.lastVote = some l →
        (u.toNat ≤ l + presetM s.preset → t.array = s.array) ∧
        (l + presetM s.preset < u.toNat → t.array = { s.array with
          axes := s.array.axes.map fun x => { x with validity := 2, reason := 3, okSince := none } }))) ∧
    (Does (.arbitrationWaitExceeded (.stage k u)) s fun t => exec (.lateStage k u) s = .next t)) ∧
  (∀ (s : State) (n : Fin 32), s.aon = true → ∀ m, m = s.mach n.val →
    (m.state ≠ M_RUNNING → Does (.arbitrationWaitExceeded (.machine n)) s fun t => t = s) ∧
    (s.Shaped → m.state = M_RUNNING → ∀ pc, pc = ((m.run.map (·.pc)).getD m.cur.next) →
      Does (.arbitrationWaitExceeded (.machine n)) s fun t =>
        (t.mach n).state = M_FAULT ∧ (t.mach n).fault = 2 ∧ (t.mach n).faultAddr = pc % 8192 ∧ (t.mach n).run = none ∧
        (t.mach n).cur = m.conf ∧ t.on (bitF Reg.EM_RUN n) = false ∧ t.on (bitF Reg.EM_VOTE n) = false ∧
        Raised Reg.EM_FAULT n s t ∧ (∀ j, j ≠ n.val → t.mach j = s.mach j)))

/-- REC_ENABLE, REC_CONFIG, REC_WHEEL and REC_CLEAR store the registers they carry and no other, reply t_p, and let
the settings wait for t_p, joined with settings that wait for the same tick. REC_CONFIG_APPLY puts those whose t_p has
come in force; an action that a recognizer disabled by them still held is reported; THEFT takes a new reference at its
enable and at REC_CLEAR, and drops it at disable. A declaration takes its recognizer from PENDING to ACTIVE with its
peak and event, a release to IDLE with its durations cleared; under SPEC_ACT with SAFE_EN the declaration acts at once
and is kept until decided, once a tick. The reference of THEFT is the mean of its samples. Other recognizers and the
machines stay, and without its condition each does nothing. -/
def Obligations.RecognizerSettings : Prop :=
  (∀ (r : Req) (s : State), s.aon = true → ∀ d, d = leBytes 8 s.nextFast →
    (cmdRecEnable.accepts r s = true → Does (.recEnable r) s fun t =>
      Replied 0x50 r OK d s t ∧ t.fld REC_ENABLE.MASK = numAt r.params 0 4 ∧ SettingsWait 0 s t ∧
      RegFrame (Reg.REC_ENABLE :: replyRegs) s t ∧ ReplyOnly { s with eng := t.eng } t) ∧
    (cmdRecConfig.accepts r s = true → ∀ i, i = byteAt r.params 0 → Does (.recConfig r) s fun t =>
      Replied 0x51 r OK d s t ∧ t.reg (Reg.REC_CTRL i) = stored s (Reg.REC_CTRL i) (wordAt r.params 4) ∧
      t.reg (Reg.REC_PAR_A i) = stored s (Reg.REC_PAR_A i) (wordAt r.params 8) ∧
      t.reg (Reg.REC_PAR_B i) = stored s (Reg.REC_PAR_B i) (wordAt r.params 12) ∧
      t.reg (Reg.REC_PAR_C i) = stored s (Reg.REC_PAR_C i) (wordAt r.params 16) ∧
      t.reg (Reg.REC_PAR_D i) = stored s (Reg.REC_PAR_D i) (wordAt r.params 20) ∧ SettingsWait 0 s t ∧
      RegFrame ([Reg.REC_CTRL i, Reg.REC_PAR_A i, Reg.REC_PAR_B i, Reg.REC_PAR_C i, Reg.REC_PAR_D i] ++ replyRegs) s t ∧
      ReplyOnly { s with eng := t.eng } t) ∧
    (cmdRecWheel.accepts r s = true → Does (.recWheel r) s fun t =>
      Replied 0x52 r OK d s t ∧ t.reg Reg.REC_WHEEL = stored s Reg.REC_WHEEL (wordAt r.params 0) ∧
      t.reg Reg.REC_COUNTS_PER_M = stored s Reg.REC_COUNTS_PER_M (wordAt r.params 4) ∧
      t.reg Reg.REC_GEOM = stored s Reg.REC_GEOM (wordAt r.params 8) ∧ SettingsWait 0 s t ∧
      RegFrame ([Reg.REC_WHEEL, Reg.REC_COUNTS_PER_M, Reg.REC_GEOM] ++ replyRegs) s t ∧
      ReplyOnly { s with eng := t.eng } t) ∧
    (cmdRecClear.accepts r s = true → Does (.recClear r) s fun t =>
      Replied 0x53 r OK d s t ∧ SettingsWait (2 ^ byteAt r.params 0) s t ∧ RegFrame replyRegs s t ∧
      ReplyOnly { s with eng := t.eng } t)) ∧
  (∀ (s : State) (u : BitVec 64), s.aon = true → ∀ new, new = s.eng.cfgs.filter (fun c => !c.applied && decide (c.tp ≤ u.toNat)) →
    (Does (.recConfigApply u) s fun t =>
      t.eng.cfgs = s.eng.cfgs.map (fun c => if c.tp ≤ u.toNat then { c with applied := true } else c) ∧
      t.eng.acts = s.eng.acts.filter (fun a => new.all (·.on a.1)) ∧ t.eng.machs = s.eng.machs ∧ t.eng.dec = s.eng.dec ∧
      (t.eng.acts ≠ s.eng.acts → Raised Reg.SPEC_EVENTS 0 s t) ∧
      (t.eng.acts = s.eng.acts → t = { s with eng := t.eng })) ∧
    (new = [] → Does (.recConfigApply u) s fun t => t.eng.theft = s.eng.theft) ∧
    (∀ c, new = [c] → s.eng.acts = [] → Does (.recConfigApply u) s fun t =>
      (c.on 7 = true → c.clear.testBit 7 = true ∨ (s.eng.theft.from_ = none ∧ s.eng.theft.ref = none) →
        t.eng.theft = { s.eng.theft with ref := none, from_ := some s.tick, recent := [], hits := [] }) ∧
      (c.on 7 = true → c.clear.testBit 7 = false → s.eng.theft.from_ ≠ none ∨ s.eng.theft.ref ≠ none →
        t.eng.theft = s.eng.theft) ∧
      (c.on 7 = false → t.eng.theft = { s.eng.theft with ref := none, from_ := none, recent := [], hits := [] }))) ∧
  (∀ (s : State) (i : Fin 9), s.aon = true → s.Shaped → ∀ d, d = s.eng.dec.getD i.val defaultDec →
    (d.due ≠ 1 → Does (.recDeclare i) s fun t => t = s) ∧ (d.due ≠ 2 → Does (.recRelease i) s fun t => t = s) ∧
    (s.eng.lastFast = none → (Does (.recDeclare i) s fun t => t = s) ∧ (Does (.recRelease i) s fun t => t = s)) ∧
    (∀ u, s.eng.lastFast = some u → ∀ e, s.engTick u = some e → ∀ c, c = s.recCfg u → ∀ n, n = d.prev.getD 0 →
      (d.due = 1 → Does (.recDeclare i) s fun t =>
        t.eng.dec.getD i.val defaultDec = { d with
          st := R_ACTIVE, decl := n, peak := d.a, racc := none, phase := if i.val = 3 then d.detail % 2 else 0, due := 0 } ∧
        (∀ j, j ≠ i.val → t.eng.dec.getD j defaultDec = s.eng.dec.getD j defaultDec) ∧ t.eng.machs = s.eng.machs ∧
        t.eng.conf = s.eng.conf ∧
        (∀ f, t.engTick u = some f →
          (f.done.getD i.val noDone).evs = (e.done.getD i.val noDone).evs ++ [⟨1, d.detail, d.a, d.b⟩]) ∧
        (c.safeEn i.val = true → c.specAct i.val = true → s.eng.acts.any (fun a => a.1 == i.val && a.2.1 == u) = false →
          t.eng.acts = s.eng.acts ++ [(i.val, u, 0xE0 + i.val)] ∧
          t.safety.requests = s.safety.requests ++ [{ origin := 0x40 + i.val, reason := 0xE0 + i.val, tick := u }] ∧
          (s.safeState = ARMED → (s.fld SAFE_REC_MASK.MASK).testBit i.val = true → t.SafeOff ∧ t.safeState = TRIPPED)) ∧
        (c.specAct i.val = false → t.eng.acts = s.eng.acts ∧ t.safety = s.safety ∧
          RegFrame [Reg.SPEC_STATUS, Reg.SPEC_EVENTS] s t)) ∧
      (d.due = 2 → Does (.recRelease i) s fun t =>
        t.eng.dec.getD i.val defaultDec = { d with
          st := R_IDLE, racc := none, acc := 0, phase := 0, due := 0, detail := if i.val = 1 then 0 else d.detail } ∧
        (∀ j, j ≠ i.val → t.eng.dec.getD j defaultDec = s.eng.dec.getD j defaultDec) ∧ t.eng.machs = s.eng.machs ∧
        t.eng.conf = s.eng.conf ∧
        (∀ f, t.engTick u = some f →
          (f.done.getD i.val noDone).evs = (e.done.getD i.val noDone).evs ++
            (if c.endEvent i.val then [⟨2, d.detail, d.peak, ((n - d.decl : Nat) : Int)⟩]
              else ([] : List RecEv)))))) ∧
  (∀ s : State, s.aon = true →
    (s.eng.theft.from_ = none ∨ s.eng.theft.recent = [] → Does .theftReference s fun t => t = s) ∧
    (s.eng.theft.from_ ≠ none → s.eng.theft.recent ≠ [] → Does .theftReference s fun t =>
      t = { s with eng := { s.eng with theft := { s.eng.theft with
        ref := some (meanV (s.eng.theft.recent.map (·.2))), from_ := none } } }))

/-- PAIR_CONFIG stores role and partner, with the role in force elected. PAIR_JOIN starts a join at the boundary it
replies: JOINING, the frame limit, JOIN_REQ to the partner; AUTO_JOIN does the same from IDLE or fails with its
reason. PAIR_LEAVE fails a join with reason 8, ends a pair with cause 2 and a LEAVE message, and otherwise only
replies. A request that is refused is answered JOIN_NAK with its reason; an accepted one begins the join at its time,
learns the partner and answers JOIN_ACK. JOIN_ACK is learned, JOIN_NAK fails the join with its reason; without either
the boundary moves by a second, and the third time the join fails with reason 5. At the boundary the pair is formed
with its record, or fails with reason 3. Frames of others and messages out of place change nothing. -/
def Obligations.PairJoining : Prop :=
  (∀ (r : Req) (s : State), s.aon = true →
    (cmdPairConfig.accepts r s = true → ∀ g, g = bits (wordAt r.params 0) 0 2 → Does (.pairConfig r) s fun t =>
      Replied 0xA0 r OK [] s t ∧ t.reg Reg.PAIR_CFG = stored s Reg.PAIR_CFG (wordAt r.params 0) ∧
      t.reg Reg.PAIR_PARTNER_LO = wordAt r.params 4 ∧ t.reg Reg.PAIR_PARTNER_HI = stored s Reg.PAIR_PARTNER_HI (wordAt r.params 8) ∧
      t.pairState = (if g = 0 then P_OFF else P_IDLE) ∧ (g ≠ 3 → t.pairRole = g) ∧
      (g = 3 → macOrder Config.mac < macOrder t.partnerMac → t.pairRole = FOREWING) ∧
      (g = 3 → macOrder t.partnerMac < macOrder Config.mac → t.pairRole = HINDWING) ∧
      RegFrame ([Reg.PAIR_CFG, Reg.PAIR_PARTNER_LO, Reg.PAIR_PARTNER_HI, Reg.PAIR_STATE] ++ replyRegs) s t ∧ ReplyOnly s t) ∧
    (cmdPairJoin.accepts r s = true → ∀ b, b = s.nextBoundary → b < 2 ^ 64 → Does (.pairJoin r) s fun t =>
      Joining b s t ∧ PairMsg 1 0 (s.layoutAt b) s.partnerMac s (newFrame s t) ∧
      Replied 0xA1 r OK (leBytes 8 b) { s with link := { s.link with txFrames := s.link.txFrames ++ [newFrame s t] } } t ∧
      RegFrame (pairRegs ++ replyRegs) s t) ∧
    (cmdPairLeave.accepts r s = true →
      (s.pairBusy = false → Does (.pairLeave r) s fun t =>
        Replied 0xA2 r OK [] s t ∧ RegFrame replyRegs s t ∧ ReplyOnly s t) ∧
      (s.pairState = P_JOINING → Does (.pairLeave r) s fun t =>
        Replied 0xA2 r OK [] s t ∧ JoinFailed s t ∧ t.fld PAIR_STATE.REASON = 8 ∧ RegFrame (Reg.TIME_STATUS :: pairRegs ++ replyRegs) s t) ∧
      (s.pairState = P_PAIRED → s.pair.waiting = [] → Does (.pairLeave r) s fun t => PairEnded 2 s t ∧
        PairMsg 5 2 (s.layoutAt s.lackTick) s.partnerMac s (newFrame s t) ∧
        Replied 0xA2 r OK [] { s with link := { s.link with txFrames := s.link.txFrames ++ [newFrame s t] } } t ∧
        RegFrame (pairRegs ++ replyRegs) s t))) ∧
  (∀ s : State, s.aon = true →
    (s.pairOn = false ∨ s.on PAIR_CFG.AUTO_JOIN = false ∨ s.pairState ≠ P_IDLE ∨ s.pairRole ≠ FOREWING →
      Does .autoJoin s fun t => t = s) ∧
    (s.pairOn = true → s.on PAIR_CFG.AUTO_JOIN = true → s.pairState = P_IDLE → s.pairRole = FOREWING →
      (s.partnerMac = 0 → Does .autoJoin s fun t => JoinFailed s t ∧ t.fld PAIR_STATE.REASON = 1 ∧ RegFrame pairRegs s t) ∧
      (s.partnerMac ≠ 0 → s.filt.tSync % presetM s.preset ≠ 0 → Does .autoJoin s fun t =>
        JoinFailed s t ∧ t.fld PAIR_STATE.REASON = 7 ∧ RegFrame pairRegs s t) ∧
      (s.partnerMac ≠ 0 → s.filt.tSync % presetM s.preset = 0 → s.nextBoundary < 2 ^ 64 → Does .autoJoin s fun t =>
        Joining s.nextBoundary s t ∧ PairSent 1 0 (s.layoutAt s.nextBoundary) s.partnerMac s t ∧ RegFrame pairRegs s t)) ∧
    (s.pairState ≠ P_JOINING ∨ s.pairRole ≠ FOREWING ∨ s.pair.acked = true → Does .joinAckDeadline s fun t => t = s) ∧
    (s.pairState = P_JOINING → s.pairRole = FOREWING → s.pair.acked = false →
      (2 ≤ s.pair.tries → Does .joinAckDeadline s fun t => JoinFailed s t ∧ t.fld PAIR_STATE.REASON = 5 ∧ RegFrame pairRegs s t) ∧
      (s.pair.tries < 2 → ∀ b, b = s.boundaryTick + 40000 → b < 2 ^ 64 → Does .joinAckDeadline s fun t =>
        t.pairState = P_JOINING ∧ t.boundaryTick = b ∧ t.pair = { s.pair with tries := s.pair.tries + 1 } ∧
        PairSent 1 0 (s.layoutAt b) s.partnerMac s t ∧ RegFrame [Reg.PAIR_BOUNDARY_LO, Reg.PAIR_BOUNDARY_HI] s t)) ∧
    (∀ locked : Bool, ∀ fore : Bool, fore = (s.pairRole == FOREWING) →
      (s.pairState ≠ P_JOINING ∨ (fore = true ∧ s.pair.acked = false) → Does (.pairBoundary locked) s fun t => t = s) ∧
      (s.pairState = P_JOINING → fore = true → s.pair.acked = true → locked = false → Does (.pairBoundary locked) s fun t =>
        JoinFailed s t ∧ t.fld PAIR_STATE.REASON = 3 ∧ RegFrame pairRegs s t) ∧
      (s.pairState = P_JOINING → fore = false ∨ (s.pair.acked = true ∧ locked = true) →
        ∀ w, w = (if fore then s.pairNoise s.pair.partnerNoise else (0x01000100 : Word)) → Does (.pairBoundary locked) s fun t =>
          t.pairState = P_PAIRED ∧ t.fld PAIR_COUNTS.JOINS = min (s.fld PAIR_COUNTS.JOINS + 1) 255 ∧
          Raised Reg.PAIR_EVENTS 0 s t ∧ (fore = true → t.reg Reg.PAIR_NOISE = w) ∧
          t.held = s.held ++ [HeldRec.mk 5 0 T_STATUS s.boundaryTick
            ([w32 (0x40 + 256 * s.fld PAIR_STATE.NODE)] ++ loHi s.boundaryTick ++ [w])] ∧
          RegFrame [Reg.PAIR_STATE, Reg.PAIR_COUNTS, Reg.PAIR_EVENTS, Reg.PAIR_NOISE] s t ∧ t.pair = s.pair))) ∧
  (∀ (s : State) (mac : BitVec 48) (p : List Byte), s.aon = true →
    (s.pairOn = false → Does (.joinReqReceived mac p) s fun t => t = s) ∧
    (s.pairOn = true →
      (s.pairRole ≠ HINDWING ∨ mac ≠ s.partnerMac → s.joinReqReason mac p = some 1) ∧
      (∀ x, s.joinReqReason mac p = some x → Does (.joinReqReceived mac p) s fun t =>
        PairSent 3 x (numAt p 12 12) mac s t ∧ t.regs = s.regs ∧ t.pair = s.pair) ∧
      (s.joinReqReason mac p = none → ∀ b, b = s.tickAt (ofLayout (numAt p 12 12)) → b < 2 ^ 64 →
        Does (.joinReqReceived mac p) s fun t =>
          Joining b s t ∧ PairSent 2 0 (numAt p 12 12) s.partnerMac s t ∧ t.fld PAIR_STATE.NODE = byteAt p 1 ∧
          (∀ k < 3, t.reg (Reg.PAIR_LEVER k) = wordOfInt (s.ownPos.getD k 0 - (posOf p).getD k 0)) ∧
          t.pair.partnerPos = posOf p ∧ t.pair.partnerNoise = wordAt p 44 ∧
          (s.on PAIR_CFG.LOCAL_MASTER = true → t.mtime.override = true ∧ t.on TIME_STATUS.STEP_ARMED = true) ∧
          RegFrame pairRegs s t)) ∧
    (s.joinAnswer mac = false → (Does (.joinAckReceived mac p) s fun t => t = s) ∧
      (Does (.joinNakReceived mac p) s fun t => t = s)) ∧
    (s.joinAnswer mac = true →
      (Does (.joinAckReceived mac p) s fun t =>
        t.pair = { s.pair with acked := true, partnerPos := posOf p, partnerNoise := wordAt p 44 } ∧
        t.fld PAIR_STATE.NODE = byteAt p 1 ∧ t.pairState = P_JOINING ∧
        (∀ k < 3, t.reg (Reg.PAIR_LEVER k) = wordOfInt ((posOf p).getD k 0 - s.ownPos.getD k 0)) ∧
        RegFrame [Reg.PAIR_STATE, Reg.PAIR_LEVER 0, Reg.PAIR_LEVER 1, Reg.PAIR_LEVER 2] s t) ∧
      (Does (.joinNakReceived mac p) s fun t =>
        JoinFailed s t ∧ t.fld PAIR_STATE.REASON = byteAt p 9 % 16 ∧ RegFrame pairRegs s t)))

/-- A forewing sends the Sync and Announce of a pair-local master, and on each pulse tick its BEAT, with the pulse
unless alignment is PTP-only. A hindwing takes the announced time and SYNC_OFF from its partner's BEAT, resets its
decimator at the announced time in PTP-only alignment; SYNC lost makes alignment PTP-only, with its event. LEAVE and
three missing BEATs end the pair with cause 4, or the join. A contribution that matches the waiting sample completes
it, with delta and no sample missed; one that matches none is counted and reported. Where the wait ends without one,
the forewing's own values are the record with CONTRIB 0, and the third in a row ends the pair with cause 1. Frames of
others change nothing, and out of a join or pair nothing happens. -/
def Obligations.PairEvents : Prop :=
  ∀ s : State, s.aon = true →
    (s.pairOn = false ∨ s.pairBusy = false ∨ s.pairRole ≠ FOREWING →
      (Does .pairMasterSync s fun t => t = s) ∧ (Does .syncPulse s fun t => t = s)) ∧
    (s.on PAIR_CFG.LOCAL_MASTER = false → Does .pairMasterSync s fun t => t = s) ∧
    (s.pairOn = true → s.pairBusy = true → s.pairRole = FOREWING →
      (s.on PAIR_CFG.LOCAL_MASTER = true → ∀ q, q = s.mtime.syncSeq → ∀ d, d = s.fld PAIR_CFG.DOMAIN →
        Does .pairMasterSync s fun t => t = { s with
          mtime := { s.mtime with syncSeq := q + 1 },
          link := { s.link with txFrames := s.link.txFrames ++
            [ptpFrame 0 d q.toNat 0 (some (1, q.toNat)) none, ptpFrame 5 d q.toNat 0 none none] } }) ∧
      (∀ off, off = s.on PAIR_STATE.PTP_ONLY → Does .syncPulse s fun t =>
        PairSent 4 (b01 off) (s.layoutAt (s.tick + 4000)) s.partnerMac s t ∧ t.regs = s.regs ∧
        t.pair = { s.pair with pulse := if off then s.pair.pulse else some s.tick })) ∧
    (∀ (mac : BitVec 48) (p : List Byte),
      (s.fromForewing mac = false → Does (.beatReceived mac p) s fun t => t = s) ∧
      (s.fromForewing mac = true → Does (.beatReceived mac p) s fun t =>
        t.pair = { s.pair with announced := some (ofLayout (numAt p 12 12)) } ∧
        (t.on PAIR_STATE.PTP_ONLY = (s.on PAIR_STATE.PTP_ONLY || byteAt p 9 % 2 == 1)) ∧ t.pairState = s.pairState ∧
        RegFrame [Reg.PAIR_STATE] s t ∧ t = { s with regs := t.regs, pair := t.pair }) ∧
      (s.pairOn = false ∨ s.pairBusy = false ∨ mac ≠ s.partnerMac → Does (.leaveReceived mac) s fun t => t = s) ∧
      (s.pairOn = true → mac = s.partnerMac →
        (s.pairState = P_JOINING → Does (.leaveReceived mac) s fun t =>
          JoinFailed s t ∧ t.link.txFrames = s.link.txFrames ∧ RegFrame pairRegs s t) ∧
        (s.pairState = P_PAIRED → s.pair.waiting = [] → Does (.leaveReceived mac) s fun t =>
          PairEnded 4 s t ∧ t.link.txFrames = s.link.txFrames ∧ RegFrame pairRegs s t)) ∧
      (s.pairOn = false ∨ s.pairBusy = false ∨ s.pairRole ≠ FOREWING ∨ mac ≠ s.partnerMac →
        Does (.contributionReceived mac p) s fun t => t = s) ∧
      (s.pairOn = true → s.pairState = P_PAIRED → s.pairRole = FOREWING → mac = s.partnerMac → byteAt p 6 = 1 →
        ∀ c, c = contribOf ((p.drop 8).take 40) →
        (∀ w, s.pair.waiting = [w] → s.matching w c = true → Does (.contributionReceived mac p) s fun t =>
          t.pair.waiting = [] ∧ t.pair.prev = some c ∧ Holds T_PAIRSAMPLE w.own.tick s t ∧
          (∀ h ∈ t.held.getLast?, bit (h.payload.getD 12 0) 31 = true ∧
            bits (h.payload.getD 12 0) 0 6 = (bits w.own.status 0 6 ||| bits c.status 0 6)) ∧
          t.fld PAIR_STATE.MISSED = 0 ∧ t.reg Reg.PAIR_DELTA = wordOfInt (roundEven ((c.delta w.stamp : Rat) / 256)) ∧
          t.reg Reg.PAIR_NOISE = s.pairNoise c.noise ∧
          RegFrame [Reg.PAIR_STATE, Reg.PAIR_DELTA, Reg.PAIR_NOISE] s t ∧ t.array = s.array) ∧
        (s.pair.waiting = [] → -s.periodFrac ≤ 2 * c.delta (s.stampOf s.boundaryTick) →
          (2 * c.delta (s.stampOf s.voteTick) ≤ s.periodFrac → Does (.contributionReceived mac p) s fun t =>
            t.fld PAIR_COUNTS.LATE = min (s.fld PAIR_COUNTS.LATE + 1) 0xFFFF ∧ Raised Reg.PAIR_EVENTS 3 s t ∧
            RegFrame [Reg.PAIR_COUNTS, Reg.PAIR_EVENTS] s t ∧ RegsOnly s t) ∧
          (s.periodFrac < 2 * c.delta (s.stampOf s.voteTick) → Does (.contributionReceived mac p) s fun t =>
            t = { s with pair := { s.pair with contribs := s.pair.contribs ++ [c] } })))) ∧
    ((s.pairOn = false ∨ s.pairBusy = false ∨ s.pairRole ≠ HINDWING) →
      (Does .beatMissed s fun t => t = s) ∧ (Does .ptpOnlyReset s fun t => t = s)) ∧
    (s.pairOn = true → s.pairRole = HINDWING →
      (s.pairState = P_JOINING → Does .beatMissed s fun t => JoinFailed s t ∧ RegFrame pairRegs s t) ∧
      (s.pairState = P_PAIRED → s.pair.waiting = [] → Does .beatMissed s fun t => PairEnded 4 s t ∧ RegFrame pairRegs s t)) ∧
    (s.pair.announced = none ∨ s.on PAIR_STATE.PTP_ONLY = false → Does .ptpOnlyReset s fun t => t = s) ∧
    (s.pairOn = true → s.pairBusy = true → s.pairRole = HINDWING → s.on PAIR_STATE.PTP_ONLY = true →
      ∀ x, s.pair.announced = some x → Does .ptpOnlyReset s fun t =>
        t.filt.tSync = s.tickAfter x ∧ t.filt.reset = none ∧ t.commMem = none ∧ t.fastMem = none ∧
        Raised Reg.FILT_EVENTS 6 s t ∧ t.pairState = s.pairState) ∧
    (s.pairOn = false ∨ s.pairBusy = false ∨ s.on PAIR_STATE.PTP_ONLY = true → Does .syncLost s fun t => t = s) ∧
    (s.pairOn = true → s.pairBusy = true → s.on PAIR_STATE.PTP_ONLY = false → Does .syncLost s fun t =>
      t.on PAIR_STATE.SYNC_LOST = true ∧ t.on PAIR_STATE.PTP_ONLY = true ∧ Raised Reg.PAIR_EVENTS 2 s t ∧
      t.pairState = s.pairState ∧ RegFrame [Reg.PAIR_STATE, Reg.PAIR_EVENTS] s t ∧ RegsOnly s t) ∧
    (s.pair.waiting = [] → Does .fusionWaitExpiry s fun t => t = s) ∧
    (∀ w, s.pair.waiting = [w] →
      (s.fld PAIR_STATE.MISSED < 2 → Does .fusionWaitExpiry s fun t =>
        t.fld PAIR_STATE.MISSED = s.fld PAIR_STATE.MISSED + 1 ∧ t.pairState = s.pairState ∧
        t.held = s.held ++ [HeldRec.mk 1 0 T_PAIRSAMPLE w.own.tick
          (stampWords w.stamp ++ w.own.axes ++ [0, 0, 0] ++ [w.own.status])] ∧
        t.pair.waiting = [] ∧ t.fld PAIR_COUNTS.LATE = min (s.fld PAIR_COUNTS.LATE + 1) 0xFFFF ∧
        Raised Reg.PAIR_EVENTS 3 s t ∧ RegFrame [Reg.PAIR_STATE, Reg.PAIR_COUNTS, Reg.PAIR_EVENTS] s t) ∧
      (s.pairState = P_PAIRED → 2 ≤ s.fld PAIR_STATE.MISSED → Does .fusionWaitExpiry s fun t =>
        PairOver t ∧ t.fld PAIR_STATE.CAUSE = 1 ∧ Raised Reg.PAIR_EVENTS 1 s t ∧ Raised Reg.PAIR_EVENTS 3 s t ∧
        t.held.map (·.typ) = s.held.map (·.typ) ++ [T_PAIRSAMPLE, T_STATUS]))

/-- From every state in which the lists that stand for a fixed number of parts have that many entries (72 triads, 216
channels, 6 axes, 20 coefficient sets, 32 machines, 9 recognizers, in each tick of the engine as well, 4 PIO engines,
16 housekeeping entries), every step of every command and every base tick leads to such a state. The statements about
one of these parts take it as a premise. -/
def Obligations.StepKeepsShape : Prop :=
  ∀ s t : State, s.Shaped → step s = .next t → t.Shaped

/-- State.reset has 72 triads, 216 channels, 6 axes, 20 coefficient sets, 32 machines, 9 recognizers, 4 PIO engines
and 16 housekeeping entries. -/
def Obligations.ResetIsShaped : Prop := State.reset.Shaped
end

