-- ==== Sys2Proof/Laws/Regs.lean ====
section
/-!
SUPPORT. Laws of bit fields and of register files: reading after writing, and the canonical form.
-/
namespace Sys2Proof.Machine

/-! ### Bit fields -/

theorem testBit_bits (w : Word) (lo width i : Nat) :
    (bits w lo width).testBit i = (decide (i < width) && w.getLsbD (lo + i)) := by
  simp [bits, Nat.testBit_mod_two_pow, Nat.testBit_shiftRight, BitVec.getLsbD]

theorem getLsbD_putBits (w : Word) (lo width v i : Nat) (hi : i < 32) :
    (putBits w lo width v).getLsbD i =
      if lo ≤ i ∧ i < lo + width then v.testBit (i - lo) else w.getLsbD i := by
  simp only [putBits, BitVec.getLsbD_or, BitVec.getLsbD_and, BitVec.getLsbD_not, BitVec.getLsbD_shiftLeft,
    BitVec.getLsbD_ofNat, Nat.testBit_mod_two_pow, Nat.testBit_two_pow_sub_one]
  by_cases h1 : lo ≤ i
  · by_cases h2 : i < lo + width
    · have h3 : i - lo < width := by omega
      have h4 : ¬ i < lo := by omega
      have h5 : i - lo < 32 := by omega
      simp [h1, h2, h3, h4, h5, hi]
    · have h3 : ¬ i - lo < width := by omega
      simp [h2, h3, hi]
  · have h4 : i < lo := by omega
    simp [h1, h4, hi]

/-- A field reads back what was stored, cut to its width. -/
theorem bits_putBits_same (w : Word) (lo width v : Nat) (h : lo + width ≤ 32) :
    bits (putBits w lo width v) lo width = v % 2 ^ width := by
  apply Nat.eq_of_testBit_eq
  intro i
  rw [testBit_bits, Nat.testBit_mod_two_pow]
  by_cases hi : i < width
  · rw [getLsbD_putBits _ _ _ _ _ (by omega)]
    simp [hi]
  · simp [hi]

/-- Storing a field leaves the bits outside it. -/
theorem bits_putBits_other (w : Word) (lo width v lo' width' : Nat)
    (h : lo + width ≤ lo' ∨ lo' + width' ≤ lo) :
    bits (putBits w lo width v) lo' width' = bits w lo' width' := by
  apply Nat.eq_of_testBit_eq
  intro i
  rw [testBit_bits, testBit_bits]
  by_cases hi : i < width'
  · by_cases hb : lo' + i < 32
    · rw [getLsbD_putBits _ _ _ _ _ hb, if_neg (by omega)]
    · have h1 : ∀ x : Word, x.getLsbD (lo' + i) = false := fun x => BitVec.getLsbD_of_ge x _ (by omega)
      simp [h1]
  · simp [hi]

theorem bits_lt (w : Word) (lo width : Nat) : bits w lo width < 2 ^ width :=
  Nat.mod_lt _ (Nat.two_pow_pos width)

/-! ### Register files -/

theorem RegFile.lookup_erase (f : RegFile) (a b : Nat) :
    List.lookup b (f.erase a) = if b = a then none else List.lookup b f := by
  induction f with
  | nil => simp [RegFile.erase]
  | cons x rest ih =>
    obtain ⟨c, w⟩ := x
    simp only [RegFile.erase]
    by_cases hca : c = a
    · subst hca
      rw [if_pos rfl, ih]
      by_cases hbc : b = c
      · simp [hbc]
      · simp [hbc, List.lookup]
        split
        · rename_i h; simp at h; exact absurd h hbc
        · rfl
    · rw [if_neg hca]
      simp only [List.lookup]
      split
      · rename_i h; simp at h; subst h; simp [hca]
      · exact ih

theorem RegFile.lookup_insert (f : RegFile) (a b : Nat) (w : Word) :
    List.lookup b (f.insert a w) = if b = a then some w else List.lookup b f := by
  induction f with
  | nil =>
    simp only [RegFile.insert, List.lookup]
    by_cases h : b = a
    · simp [h]
    · have hb : (b == a) = false := by simp [h]
      simp [h, hb]
  | cons x rest ih =>
    obtain ⟨c, v⟩ := x
    simp only [RegFile.insert]
    split
    · simp only [List.lookup]
      by_cases h : b = a
      · simp [h]
      · have hb : (b == a) = false := by simp [h]
        simp [h, hb]
    · split
      · rename_i h1 h2
        subst h2
        simp only [List.lookup]
        by_cases h : b = a
        · simp [h]
        · have hb : (b == a) = false := by simp [h]
          simp [h, hb]
      · rename_i h1 h2
        simp only [List.lookup]
        by_cases h : b = c
        · subst h
          have h3 : ¬ b = a := fun e => h2 e.symm
          simp [h3]
        · have h3 : (b == c) = false := by simp [h]
          simp only [h3]
          exact ih

/-- A register reads back the word last stored. -/
@[simp] theorem RegFile.get_set_same (f : RegFile) (a : Nat) (w : Word) : (f.set a w).get a = w := by
  unfold RegFile.set RegFile.get
  split
  · rename_i h; rw [RegFile.lookup_erase]; simp [h]
  · rw [RegFile.lookup_insert]; simp

/-- Every other register keeps its word. -/
theorem RegFile.get_set_other (f : RegFile) (a b : Nat) (w : Word) (h : b ≠ a) : (f.set a w).get b = f.get b := by
  unfold RegFile.set RegFile.get
  split
  · rw [RegFile.lookup_erase]; simp [h]
  · rw [RegFile.lookup_insert]; simp [h]

theorem RegFile.get_set (f : RegFile) (a b : Nat) (w : Word) :
    (f.set a w).get b = if b = a then w else f.get b := by
  split
  · rename_i h; subst h; simp
  · rename_i h; exact f.get_set_other a b w h

/-! ### The canonical form -/

/-- Canonical form over an address bound: every address lies above `n`. -/
def RegFile.above (n : Nat) (f : RegFile) : Prop := ∀ x ∈ f, n < x.1

theorem RegFile.wf_cons (a : Nat) (w : Word) (f : RegFile) :
    RegFile.wf ((a, w) :: f) = true ↔ w ≠ resetWord a ∧ RegFile.above a f ∧ RegFile.wf f = true := by
  induction f generalizing a w with
  | nil => simp [RegFile.wf, RegFile.above]
  | cons x rest ih =>
    obtain ⟨b, v⟩ := x
    rw [RegFile.wf]
    have h2 := ih b v
    constructor
    · intro h
      simp only [Bool.and_eq_true, bne_iff_ne, ne_eq, decide_eq_true_eq] at h
      obtain ⟨⟨h3, h4⟩, h5⟩ := h
      refine ⟨h3, ?_, h5⟩
      intro y hy
      rcases List.mem_cons.mp hy with rfl | hy
      · exact h4
      · exact Nat.lt_trans h4 ((h2.mp h5).2.1 y hy)
    · rintro ⟨h3, h4, h5⟩
      simp only [Bool.and_eq_true, bne_iff_ne, ne_eq, decide_eq_true_eq]
      exact ⟨⟨h3, h4 (b, v) (List.mem_cons_self ..)⟩, h5⟩

theorem RegFile.wf_filter (p : Nat × Word → Bool) (f : RegFile) (h : f.wf = true) :
    RegFile.wf (f.filter p) = true := by
  induction f with
  | nil => rfl
  | cons x rest ih =>
    obtain ⟨a, w⟩ := x
    obtain ⟨h1, h2, h3⟩ := (RegFile.wf_cons a w rest).mp h
    rw [List.filter_cons]
    split
    · exact (RegFile.wf_cons a w _).mpr ⟨h1, fun y hy => h2 y (List.mem_filter.mp hy).1, ih h3⟩
    · exact ih h3

theorem RegFile.erase_eq_filter (a : Nat) (f : RegFile) : f.erase a = f.filter fun x => decide (x.1 ≠ a) := by
  induction f with
  | nil => rfl
  | cons x rest ih =>
    obtain ⟨b, w⟩ := x
    simp only [RegFile.erase, List.filter_cons]
    by_cases h : b = a <;> simp [h, ih]

theorem RegFile.wf_erase (a : Nat) (f : RegFile) (h : f.wf = true) : (f.erase a).wf = true := by
  rw [RegFile.erase_eq_filter]; exact f.wf_filter _ h

theorem RegFile.above_insert (n a : Nat) (w : Word) (f : RegFile) (ha : n < a) (h : f.above n) :
    RegFile.above n (f.insert a w) := by
  induction f with
  | nil => intro y hy; simp [RegFile.insert] at hy; subst hy; exact ha
  | cons x rest ih =>
    obtain ⟨b, v⟩ := x
    have h1 : n < b := h (b, v) (List.mem_cons_self ..)
    have h2 : RegFile.above n rest := fun y hy => h y (List.mem_cons_of_mem _ hy)
    simp only [RegFile.insert]
    split
    · intro y hy
      rcases List.mem_cons.mp hy with rfl | hy
      · exact ha
      · exact h y hy
    · split
      · intro y hy
        rcases List.mem_cons.mp hy with rfl | hy
        · exact ha
        · exact h2 y hy
      · intro y hy
        rcases List.mem_cons.mp hy with rfl | hy
        · exact h1
        · exact ih h2 y hy

theorem RegFile.wf_insert (a : Nat) (w : Word) (f : RegFile) (hw : w ≠ resetWord a) (h : f.wf = true) :
    (f.insert a w).wf = true := by
  induction f with
  | nil => simp [RegFile.insert, RegFile.wf, hw]
  | cons x rest ih =>
    obtain ⟨b, v⟩ := x
    obtain ⟨h1, h2, h3⟩ := (RegFile.wf_cons b v rest).mp h
    simp only [RegFile.insert]
    split
    · rename_i hab
      refine (RegFile.wf_cons a w _).mpr ⟨hw, ?_, h⟩
      intro y hy
      rcases List.mem_cons.mp hy with rfl | hy
      · exact hab
      · exact Nat.lt_trans hab (h2 y hy)
    · split
      · rename_i hab
        subst hab
        exact (RegFile.wf_cons a w _).mpr ⟨hw, h2, h3⟩
      · rename_i h4 h5
        exact (RegFile.wf_cons b v _).mpr ⟨h1, RegFile.above_insert b a w rest (by omega) h2, ih h3⟩

/-- Storing a word keeps the canonical form. -/
theorem RegFile.wf_set (f : RegFile) (a : Nat) (w : Word) (h : f.wf = true) : (f.set a w).wf = true := by
  unfold RegFile.set
  split
  · exact f.wf_erase a h
  · rename_i hw; exact f.wf_insert a w hw h

end Sys2Proof.Machine
end

