-- ==== Sys2Proof/Laws/State.lean ====
section
/-!
SUPPORT. What each basic update of the state leaves as it was, field by field, and how fields of registers read after a
store.
-/
namespace Sys2Proof.Machine

/-! ### Registers -/

@[simp] theorem State.reg_setReg_same (s : State) (a : Nat) (w : Word) : (s.setReg a w).reg a = w :=
  RegFile.get_set_same _ _ _

theorem State.reg_setReg_other (s : State) (a b : Nat) (w : Word) (h : b ≠ a) : (s.setReg a w).reg b = s.reg b :=
  RegFile.get_set_other _ _ _ _ h

theorem State.reg_setF_other (s : State) (f : Fld) (v b : Nat) (h : b ≠ f.reg) : (s.setF f v).reg b = s.reg b :=
  s.reg_setReg_other _ _ _ h

/-- A field of another register is left alone. -/
theorem State.fld_setReg_other (s : State) (g : Fld) (a : Nat) (w : Word) (h : g.reg ≠ a) :
    (s.setReg a w).fld g = s.fld g := by
  simp only [State.fld, s.reg_setReg_other _ _ _ h]

/-- A field reads back what was stored. -/
theorem State.fld_setF_same (s : State) (f : Fld) (v : Nat) (h : f.lo + f.width ≤ 32) :
    (s.setF f v).fld f = v % 2 ^ f.width := by
  simp only [State.fld, State.setF, s.reg_setReg_same]
  exact bits_putBits_same _ _ _ _ h

/-- A field apart from the one stored is left alone: in another register, or beside it in the same one. -/
theorem State.fld_setF_other (s : State) (f g : Fld) (v : Nat)
    (h : g.reg ≠ f.reg ∨ f.lo + f.width ≤ g.lo ∨ g.lo + g.width ≤ f.lo) :
    (s.setF f v).fld g = s.fld g := by
  by_cases hr : g.reg = f.reg
  · have hb := h.resolve_left (fun e => e hr)
    simp only [State.fld, State.setF, hr, s.reg_setReg_same]
    exact bits_putBits_other _ _ _ _ _ _ hb
  · exact s.fld_setReg_other _ _ _ hr

theorem State.fld_lt (s : State) (f : Fld) : s.fld f < 2 ^ f.width := bits_lt _ _ _

/-- A saturating count stores the next number, or its largest. -/
theorem State.fld_incSat (s : State) (f : Fld) (h : f.lo + f.width ≤ 32) :
    (s.incSat f).fld f = min (s.fld f + 1) (2 ^ f.width - 1) := by
  unfold State.incSat State.addSat
  rw [State.fld_setF_same _ _ _ h]
  exact Nat.mod_eq_of_lt (by have := Nat.two_pow_pos f.width; omega)

/-! ### Updates, field by field -/

@[simp] theorem State.setReg_latch (s : State) (a : Nat) (w : Word) : (s.setReg a w).latch = s.latch := rfl
@[simp] theorem State.setReg_aon (s : State) (a : Nat) (w : Word) : (s.setReg a w).aon = s.aon := rfl
@[simp] theorem State.setReg_tick (s : State) (a : Nat) (w : Word) : (s.setReg a w).tick = s.tick := rfl
@[simp] theorem State.setReg_time (s : State) (a : Nat) (w : Word) : (s.setReg a w).time = s.time := rfl
@[simp] theorem State.setReg_queue (s : State) (a : Nat) (w : Word) : (s.setReg a w).queue = s.queue := rfl
@[simp] theorem State.setReg_ring (s : State) (a : Nat) (w : Word) : (s.setReg a w).ring = s.ring := rfl
@[simp] theorem State.setReg_link (s : State) (a : Nat) (w : Word) : (s.setReg a w).link = s.link := rfl
@[simp] theorem State.setReg_boot (s : State) (a : Nat) (w : Word) : (s.setReg a w).boot = s.boot := rfl
@[simp] theorem State.setReg_array (s : State) (a : Nat) (w : Word) : (s.setReg a w).array = s.array := rfl
@[simp] theorem State.setReg_filt (s : State) (a : Nat) (w : Word) : (s.setReg a w).filt = s.filt := rfl
@[simp] theorem State.setReg_committed (s : State) (a : Nat) (w : Word) : (s.setReg a w).committed = s.committed := rfl
@[simp] theorem State.setReg_fast (s : State) (a : Nat) (w : Word) : (s.setReg a w).fast = s.fast := rfl
@[simp] theorem State.setReg_commMem (s : State) (a : Nat) (w : Word) : (s.setReg a w).commMem = s.commMem := rfl
@[simp] theorem State.setReg_fastMem (s : State) (a : Nat) (w : Word) : (s.setReg a w).fastMem = s.fastMem := rfl
@[simp] theorem State.setReg_held (s : State) (a : Nat) (w : Word) : (s.setReg a w).held = s.held := rfl
@[simp] theorem State.setReg_safety (s : State) (a : Nat) (w : Word) : (s.setReg a w).safety = s.safety := rfl
@[simp] theorem State.setReg_pins (s : State) (a : Nat) (w : Word) : (s.setReg a w).pins = s.pins := rfl
@[simp] theorem State.setReg_rearmed (s : State) (a : Nat) (w : Word) : (s.setReg a w).rearmed = s.rearmed := rfl
@[simp] theorem State.setReg_eng (s : State) (a : Nat) (w : Word) : (s.setReg a w).eng = s.eng := rfl
@[simp] theorem State.setReg_pio (s : State) (a : Nat) (w : Word) : (s.setReg a w).pio = s.pio := rfl
@[simp] theorem State.setReg_hk (s : State) (a : Nat) (w : Word) : (s.setReg a w).hk = s.hk := rfl
@[simp] theorem State.setReg_mtime (s : State) (a : Nat) (w : Word) : (s.setReg a w).mtime = s.mtime := rfl
@[simp] theorem State.setReg_t1s (s : State) (a : Nat) (w : Word) : (s.setReg a w).t1s = s.t1s := rfl
@[simp] theorem State.setReg_pair (s : State) (a : Nat) (w : Word) : (s.setReg a w).pair = s.pair := rfl
@[simp] theorem State.setReg_tw (s : State) (a : Nat) (w : Word) : (s.setReg a w).tw = s.tw := rfl
@[simp] theorem State.setReg_power (s : State) (a : Nat) (w : Word) : (s.setReg a w).power = s.power := rfl
@[simp] theorem State.setReg_entry (s : State) (a : Nat) (w : Word) : (s.setReg a w).entry = s.entry := rfl
@[simp] theorem State.setReg_xing (s : State) (a : Nat) (w : Word) : (s.setReg a w).xing = s.xing := rfl
@[simp] theorem State.setReg_busOut (s : State) (a : Nat) (w : Word) : (s.setReg a w).busOut = s.busOut := rfl
@[simp] theorem State.setReg_free (s : State) (a : Nat) (w : Word) : (s.setReg a w).free = s.free := rfl
@[simp] theorem State.setReg_pending (s : State) (a : Nat) (w : Word) : (s.setReg a w).pending = s.pending := rfl

@[simp] theorem State.setF_latch (s : State) (f : Fld) (v : Nat) : (s.setF f v).latch = s.latch := rfl
@[simp] theorem State.setF_aon (s : State) (f : Fld) (v : Nat) : (s.setF f v).aon = s.aon := rfl
@[simp] theorem State.setF_tick (s : State) (f : Fld) (v : Nat) : (s.setF f v).tick = s.tick := rfl
@[simp] theorem State.setF_time (s : State) (f : Fld) (v : Nat) : (s.setF f v).time = s.time := rfl
@[simp] theorem State.setF_queue (s : State) (f : Fld) (v : Nat) : (s.setF f v).queue = s.queue := rfl
@[simp] theorem State.setF_ring (s : State) (f : Fld) (v : Nat) : (s.setF f v).ring = s.ring := rfl
@[simp] theorem State.setF_link (s : State) (f : Fld) (v : Nat) : (s.setF f v).link = s.link := rfl
@[simp] theorem State.setF_boot (s : State) (f : Fld) (v : Nat) : (s.setF f v).boot = s.boot := rfl
@[simp] theorem State.setF_array (s : State) (f : Fld) (v : Nat) : (s.setF f v).array = s.array := rfl
@[simp] theorem State.setF_filt (s : State) (f : Fld) (v : Nat) : (s.setF f v).filt = s.filt := rfl
@[simp] theorem State.setF_committed (s : State) (f : Fld) (v : Nat) : (s.setF f v).committed = s.committed := rfl
@[simp] theorem State.setF_fast (s : State) (f : Fld) (v : Nat) : (s.setF f v).fast = s.fast := rfl
@[simp] theorem State.setF_commMem (s : State) (f : Fld) (v : Nat) : (s.setF f v).commMem = s.commMem := rfl
@[simp] theorem State.setF_fastMem (s : State) (f : Fld) (v : Nat) : (s.setF f v).fastMem = s.fastMem := rfl
@[simp] theorem State.setF_held (s : State) (f : Fld) (v : Nat) : (s.setF f v).held = s.held := rfl
@[simp] theorem State.setF_safety (s : State) (f : Fld) (v : Nat) : (s.setF f v).safety = s.safety := rfl
@[simp] theorem State.setF_pins (s : State) (f : Fld) (v : Nat) : (s.setF f v).pins = s.pins := rfl
@[simp] theorem State.setF_rearmed (s : State) (f : Fld) (v : Nat) : (s.setF f v).rearmed = s.rearmed := rfl
@[simp] theorem State.setF_eng (s : State) (f : Fld) (v : Nat) : (s.setF f v).eng = s.eng := rfl
@[simp] theorem State.setF_pio (s : State) (f : Fld) (v : Nat) : (s.setF f v).pio = s.pio := rfl
@[simp] theorem State.setF_hk (s : State) (f : Fld) (v : Nat) : (s.setF f v).hk = s.hk := rfl
@[simp] theorem State.setF_mtime (s : State) (f : Fld) (v : Nat) : (s.setF f v).mtime = s.mtime := rfl
@[simp] theorem State.setF_t1s (s : State) (f : Fld) (v : Nat) : (s.setF f v).t1s = s.t1s := rfl
@[simp] theorem State.setF_pair (s : State) (f : Fld) (v : Nat) : (s.setF f v).pair = s.pair := rfl
@[simp] theorem State.setF_tw (s : State) (f : Fld) (v : Nat) : (s.setF f v).tw = s.tw := rfl
@[simp] theorem State.setF_power (s : State) (f : Fld) (v : Nat) : (s.setF f v).power = s.power := rfl
@[simp] theorem State.setF_entry (s : State) (f : Fld) (v : Nat) : (s.setF f v).entry = s.entry := rfl
@[simp] theorem State.setF_xing (s : State) (f : Fld) (v : Nat) : (s.setF f v).xing = s.xing := rfl
@[simp] theorem State.setF_busOut (s : State) (f : Fld) (v : Nat) : (s.setF f v).busOut = s.busOut := rfl
@[simp] theorem State.setF_free (s : State) (f : Fld) (v : Nat) : (s.setF f v).free = s.free := rfl
@[simp] theorem State.setF_pending (s : State) (f : Fld) (v : Nat) : (s.setF f v).pending = s.pending := rfl

@[simp] theorem State.putArray_regs (s : State) (x : ArrayPart) : (s.putArray x).regs = s.regs := rfl
@[simp] theorem State.putArray_latch (s : State) (x : ArrayPart) : (s.putArray x).latch = s.latch := rfl
@[simp] theorem State.putArray_aon (s : State) (x : ArrayPart) : (s.putArray x).aon = s.aon := rfl
@[simp] theorem State.putArray_tick (s : State) (x : ArrayPart) : (s.putArray x).tick = s.tick := rfl
@[simp] theorem State.putArray_time (s : State) (x : ArrayPart) : (s.putArray x).time = s.time := rfl
@[simp] theorem State.putArray_queue (s : State) (x : ArrayPart) : (s.putArray x).queue = s.queue := rfl
@[simp] theorem State.putArray_ring (s : State) (x : ArrayPart) : (s.putArray x).ring = s.ring := rfl
@[simp] theorem State.putArray_link (s : State) (x : ArrayPart) : (s.putArray x).link = s.link := rfl
@[simp] theorem State.putArray_boot (s : State) (x : ArrayPart) : (s.putArray x).boot = s.boot := rfl
@[simp] theorem State.putArray_filt (s : State) (x : ArrayPart) : (s.putArray x).filt = s.filt := rfl
@[simp] theorem State.putArray_committed (s : State) (x : ArrayPart) : (s.putArray x).committed = s.committed := rfl
@[simp] theorem State.putArray_fast (s : State) (x : ArrayPart) : (s.putArray x).fast = s.fast := rfl
@[simp] theorem State.putArray_commMem (s : State) (x : ArrayPart) : (s.putArray x).commMem = s.commMem := rfl
@[simp] theorem State.putArray_fastMem (s : State) (x : ArrayPart) : (s.putArray x).fastMem = s.fastMem := rfl
@[simp] theorem State.putArray_held (s : State) (x : ArrayPart) : (s.putArray x).held = s.held := rfl
@[simp] theorem State.putArray_safety (s : State) (x : ArrayPart) : (s.putArray x).safety = s.safety := rfl
@[simp] theorem State.putArray_pins (s : State) (x : ArrayPart) : (s.putArray x).pins = s.pins := rfl
@[simp] theorem State.putArray_rearmed (s : State) (x : ArrayPart) : (s.putArray x).rearmed = s.rearmed := rfl
@[simp] theorem State.putArray_eng (s : State) (x : ArrayPart) : (s.putArray x).eng = s.eng := rfl
@[simp] theorem State.putArray_pio (s : State) (x : ArrayPart) : (s.putArray x).pio = s.pio := rfl
@[simp] theorem State.putArray_hk (s : State) (x : ArrayPart) : (s.putArray x).hk = s.hk := rfl
@[simp] theorem State.putArray_mtime (s : State) (x : ArrayPart) : (s.putArray x).mtime = s.mtime := rfl
@[simp] theorem State.putArray_t1s (s : State) (x : ArrayPart) : (s.putArray x).t1s = s.t1s := rfl
@[simp] theorem State.putArray_pair (s : State) (x : ArrayPart) : (s.putArray x).pair = s.pair := rfl
@[simp] theorem State.putArray_tw (s : State) (x : ArrayPart) : (s.putArray x).tw = s.tw := rfl
@[simp] theorem State.putArray_power (s : State) (x : ArrayPart) : (s.putArray x).power = s.power := rfl
@[simp] theorem State.putArray_entry (s : State) (x : ArrayPart) : (s.putArray x).entry = s.entry := rfl
@[simp] theorem State.putArray_xing (s : State) (x : ArrayPart) : (s.putArray x).xing = s.xing := rfl
@[simp] theorem State.putArray_busOut (s : State) (x : ArrayPart) : (s.putArray x).busOut = s.busOut := rfl
@[simp] theorem State.putArray_free (s : State) (x : ArrayPart) : (s.putArray x).free = s.free := rfl
@[simp] theorem State.putArray_pending (s : State) (x : ArrayPart) : (s.putArray x).pending = s.pending := rfl
@[simp] theorem State.putArray_array (s : State) (x : ArrayPart) : (s.putArray x).array = x := rfl

@[simp] theorem State.putBoot_regs (s : State) (x : BootPart) : (s.putBoot x).regs = s.regs := rfl
@[simp] theorem State.putBoot_latch (s : State) (x : BootPart) : (s.putBoot x).latch = s.latch := rfl
@[simp] theorem State.putBoot_aon (s : State) (x : BootPart) : (s.putBoot x).aon = s.aon := rfl
@[simp] theorem State.putBoot_tick (s : State) (x : BootPart) : (s.putBoot x).tick = s.tick := rfl
@[simp] theorem State.putBoot_time (s : State) (x : BootPart) : (s.putBoot x).time = s.time := rfl
@[simp] theorem State.putBoot_queue (s : State) (x : BootPart) : (s.putBoot x).queue = s.queue := rfl
@[simp] theorem State.putBoot_ring (s : State) (x : BootPart) : (s.putBoot x).ring = s.ring := rfl
@[simp] theorem State.putBoot_link (s : State) (x : BootPart) : (s.putBoot x).link = s.link := rfl
@[simp] theorem State.putBoot_array (s : State) (x : BootPart) : (s.putBoot x).array = s.array := rfl
@[simp] theorem State.putBoot_filt (s : State) (x : BootPart) : (s.putBoot x).filt = s.filt := rfl
@[simp] theorem State.putBoot_committed (s : State) (x : BootPart) : (s.putBoot x).committed = s.committed := rfl
@[simp] theorem State.putBoot_fast (s : State) (x : BootPart) : (s.putBoot x).fast = s.fast := rfl
@[simp] theorem State.putBoot_commMem (s : State) (x : BootPart) : (s.putBoot x).commMem = s.commMem := rfl
@[simp] theorem State.putBoot_fastMem (s : State) (x : BootPart) : (s.putBoot x).fastMem = s.fastMem := rfl
@[simp] theorem State.putBoot_held (s : State) (x : BootPart) : (s.putBoot x).held = s.held := rfl
@[simp] theorem State.putBoot_safety (s : State) (x : BootPart) : (s.putBoot x).safety = s.safety := rfl
@[simp] theorem State.putBoot_pins (s : State) (x : BootPart) : (s.putBoot x).pins = s.pins := rfl
@[simp] theorem State.putBoot_rearmed (s : State) (x : BootPart) : (s.putBoot x).rearmed = s.rearmed := rfl
@[simp] theorem State.putBoot_eng (s : State) (x : BootPart) : (s.putBoot x).eng = s.eng := rfl
@[simp] theorem State.putBoot_pio (s : State) (x : BootPart) : (s.putBoot x).pio = s.pio := rfl
@[simp] theorem State.putBoot_hk (s : State) (x : BootPart) : (s.putBoot x).hk = s.hk := rfl
@[simp] theorem State.putBoot_mtime (s : State) (x : BootPart) : (s.putBoot x).mtime = s.mtime := rfl
@[simp] theorem State.putBoot_t1s (s : State) (x : BootPart) : (s.putBoot x).t1s = s.t1s := rfl
@[simp] theorem State.putBoot_pair (s : State) (x : BootPart) : (s.putBoot x).pair = s.pair := rfl
@[simp] theorem State.putBoot_tw (s : State) (x : BootPart) : (s.putBoot x).tw = s.tw := rfl
@[simp] theorem State.putBoot_power (s : State) (x : BootPart) : (s.putBoot x).power = s.power := rfl
@[simp] theorem State.putBoot_entry (s : State) (x : BootPart) : (s.putBoot x).entry = s.entry := rfl
@[simp] theorem State.putBoot_xing (s : State) (x : BootPart) : (s.putBoot x).xing = s.xing := rfl
@[simp] theorem State.putBoot_busOut (s : State) (x : BootPart) : (s.putBoot x).busOut = s.busOut := rfl
@[simp] theorem State.putBoot_free (s : State) (x : BootPart) : (s.putBoot x).free = s.free := rfl
@[simp] theorem State.putBoot_pending (s : State) (x : BootPart) : (s.putBoot x).pending = s.pending := rfl
@[simp] theorem State.putBoot_boot (s : State) (x : BootPart) : (s.putBoot x).boot = x := rfl

@[simp] theorem State.putEng_regs (s : State) (x : EnginePart) : (s.putEng x).regs = s.regs := rfl
@[simp] theorem State.putEng_latch (s : State) (x : EnginePart) : (s.putEng x).latch = s.latch := rfl
@[simp] theorem State.putEng_aon (s : State) (x : EnginePart) : (s.putEng x).aon = s.aon := rfl
@[simp] theorem State.putEng_tick (s : State) (x : EnginePart) : (s.putEng x).tick = s.tick := rfl
@[simp] theorem State.putEng_time (s : State) (x : EnginePart) : (s.putEng x).time = s.time := rfl
@[simp] theorem State.putEng_queue (s : State) (x : EnginePart) : (s.putEng x).queue = s.queue := rfl
@[simp] theorem State.putEng_ring (s : State) (x : EnginePart) : (s.putEng x).ring = s.ring := rfl
@[simp] theorem State.putEng_link (s : State) (x : EnginePart) : (s.putEng x).link = s.link := rfl
@[simp] theorem State.putEng_boot (s : State) (x : EnginePart) : (s.putEng x).boot = s.boot := rfl
@[simp] theorem State.putEng_array (s : State) (x : EnginePart) : (s.putEng x).array = s.array := rfl
@[simp] theorem State.putEng_filt (s : State) (x : EnginePart) : (s.putEng x).filt = s.filt := rfl
@[simp] theorem State.putEng_committed (s : State) (x : EnginePart) : (s.putEng x).committed = s.committed := rfl
@[simp] theorem State.putEng_fast (s : State) (x : EnginePart) : (s.putEng x).fast = s.fast := rfl
@[simp] theorem State.putEng_commMem (s : State) (x : EnginePart) : (s.putEng x).commMem = s.commMem := rfl
@[simp] theorem State.putEng_fastMem (s : State) (x : EnginePart) : (s.putEng x).fastMem = s.fastMem := rfl
@[simp] theorem State.putEng_held (s : State) (x : EnginePart) : (s.putEng x).held = s.held := rfl
@[simp] theorem State.putEng_safety (s : State) (x : EnginePart) : (s.putEng x).safety = s.safety := rfl
@[simp] theorem State.putEng_pins (s : State) (x : EnginePart) : (s.putEng x).pins = s.pins := rfl
@[simp] theorem State.putEng_rearmed (s : State) (x : EnginePart) : (s.putEng x).rearmed = s.rearmed := rfl
@[simp] theorem State.putEng_pio (s : State) (x : EnginePart) : (s.putEng x).pio = s.pio := rfl
@[simp] theorem State.putEng_hk (s : State) (x : EnginePart) : (s.putEng x).hk = s.hk := rfl
@[simp] theorem State.putEng_mtime (s : State) (x : EnginePart) : (s.putEng x).mtime = s.mtime := rfl
@[simp] theorem State.putEng_t1s (s : State) (x : EnginePart) : (s.putEng x).t1s = s.t1s := rfl
@[simp] theorem State.putEng_pair (s : State) (x : EnginePart) : (s.putEng x).pair = s.pair := rfl
@[simp] theorem State.putEng_tw (s : State) (x : EnginePart) : (s.putEng x).tw = s.tw := rfl
@[simp] theorem State.putEng_power (s : State) (x : EnginePart) : (s.putEng x).power = s.power := rfl
@[simp] theorem State.putEng_entry (s : State) (x : EnginePart) : (s.putEng x).entry = s.entry := rfl
@[simp] theorem State.putEng_xing (s : State) (x : EnginePart) : (s.putEng x).xing = s.xing := rfl
@[simp] theorem State.putEng_busOut (s : State) (x : EnginePart) : (s.putEng x).busOut = s.busOut := rfl
@[simp] theorem State.putEng_free (s : State) (x : EnginePart) : (s.putEng x).free = s.free := rfl
@[simp] theorem State.putEng_pending (s : State) (x : EnginePart) : (s.putEng x).pending = s.pending := rfl
@[simp] theorem State.putEng_eng (s : State) (x : EnginePart) : (s.putEng x).eng = x := rfl

@[simp] theorem State.putEntry_regs (s : State) (x : EntryPart) : (s.putEntry x).regs = s.regs := rfl
@[simp] theorem State.putEntry_latch (s : State) (x : EntryPart) : (s.putEntry x).latch = s.latch := rfl
@[simp] theorem State.putEntry_aon (s : State) (x : EntryPart) : (s.putEntry x).aon = s.aon := rfl
@[simp] theorem State.putEntry_tick (s : State) (x : EntryPart) : (s.putEntry x).tick = s.tick := rfl
@[simp] theorem State.putEntry_time (s : State) (x : EntryPart) : (s.putEntry x).time = s.time := rfl
@[simp] theorem State.putEntry_queue (s : State) (x : EntryPart) : (s.putEntry x).queue = s.queue := rfl
@[simp] theorem State.putEntry_ring (s : State) (x : EntryPart) : (s.putEntry x).ring = s.ring := rfl
@[simp] theorem State.putEntry_link (s : State) (x : EntryPart) : (s.putEntry x).link = s.link := rfl
@[simp] theorem State.putEntry_boot (s : State) (x : EntryPart) : (s.putEntry x).boot = s.boot := rfl
@[simp] theorem State.putEntry_array (s : State) (x : EntryPart) : (s.putEntry x).array = s.array := rfl
@[simp] theorem State.putEntry_filt (s : State) (x : EntryPart) : (s.putEntry x).filt = s.filt := rfl
@[simp] theorem State.putEntry_committed (s : State) (x : EntryPart) : (s.putEntry x).committed = s.committed := rfl
@[simp] theorem State.putEntry_fast (s : State) (x : EntryPart) : (s.putEntry x).fast = s.fast := rfl
@[simp] theorem State.putEntry_commMem (s : State) (x : EntryPart) : (s.putEntry x).commMem = s.commMem := rfl
@[simp] theorem State.putEntry_fastMem (s : State) (x : EntryPart) : (s.putEntry x).fastMem = s.fastMem := rfl
@[simp] theorem State.putEntry_held (s : State) (x : EntryPart) : (s.putEntry x).held = s.held := rfl
@[simp] theorem State.putEntry_safety (s : State) (x : EntryPart) : (s.putEntry x).safety = s.safety := rfl
@[simp] theorem State.putEntry_pins (s : State) (x : EntryPart) : (s.putEntry x).pins = s.pins := rfl
@[simp] theorem State.putEntry_rearmed (s : State) (x : EntryPart) : (s.putEntry x).rearmed = s.rearmed := rfl
@[simp] theorem State.putEntry_eng (s : State) (x : EntryPart) : (s.putEntry x).eng = s.eng := rfl
@[simp] theorem State.putEntry_pio (s : State) (x : EntryPart) : (s.putEntry x).pio = s.pio := rfl
@[simp] theorem State.putEntry_hk (s : State) (x : EntryPart) : (s.putEntry x).hk = s.hk := rfl
@[simp] theorem State.putEntry_mtime (s : State) (x : EntryPart) : (s.putEntry x).mtime = s.mtime := rfl
@[simp] theorem State.putEntry_t1s (s : State) (x : EntryPart) : (s.putEntry x).t1s = s.t1s := rfl
@[simp] theorem State.putEntry_pair (s : State) (x : EntryPart) : (s.putEntry x).pair = s.pair := rfl
@[simp] theorem State.putEntry_tw (s : State) (x : EntryPart) : (s.putEntry x).tw = s.tw := rfl
@[simp] theorem State.putEntry_power (s : State) (x : EntryPart) : (s.putEntry x).power = s.power := rfl
@[simp] theorem State.putEntry_xing (s : State) (x : EntryPart) : (s.putEntry x).xing = s.xing := rfl
@[simp] theorem State.putEntry_busOut (s : State) (x : EntryPart) : (s.putEntry x).busOut = s.busOut := rfl
@[simp] theorem State.putEntry_free (s : State) (x : EntryPart) : (s.putEntry x).free = s.free := rfl
@[simp] theorem State.putEntry_pending (s : State) (x : EntryPart) : (s.putEntry x).pending = s.pending := rfl
@[simp] theorem State.putEntry_entry (s : State) (x : EntryPart) : (s.putEntry x).entry = x := rfl

@[simp] theorem State.putFilt_regs (s : State) (x : FilterPart) : (s.putFilt x).regs = s.regs := rfl
@[simp] theorem State.putFilt_latch (s : State) (x : FilterPart) : (s.putFilt x).latch = s.latch := rfl
@[simp] theorem State.putFilt_aon (s : State) (x : FilterPart) : (s.putFilt x).aon = s.aon := rfl
@[simp] theorem State.putFilt_tick (s : State) (x : FilterPart) : (s.putFilt x).tick = s.tick := rfl
@[simp] theorem State.putFilt_time (s : State) (x : FilterPart) : (s.putFilt x).time = s.time := rfl
@[simp] theorem State.putFilt_queue (s : State) (x : FilterPart) : (s.putFilt x).queue = s.queue := rfl
@[simp] theorem State.putFilt_ring (s : State) (x : FilterPart) : (s.putFilt x).ring = s.ring := rfl
@[simp] theorem State.putFilt_link (s : State) (x : FilterPart) : (s.putFilt x).link = s.link := rfl
@[simp] theorem State.putFilt_boot (s : State) (x : FilterPart) : (s.putFilt x).boot = s.boot := rfl
@[simp] theorem State.putFilt_array (s : State) (x : FilterPart) : (s.putFilt x).array = s.array := rfl
@[simp] theorem State.putFilt_committed (s : State) (x : FilterPart) : (s.putFilt x).committed = s.committed := rfl
@[simp] theorem State.putFilt_fast (s : State) (x : FilterPart) : (s.putFilt x).fast = s.fast := rfl
@[simp] theorem State.putFilt_commMem (s : State) (x : FilterPart) : (s.putFilt x).commMem = s.commMem := rfl
@[simp] theorem State.putFilt_fastMem (s : State) (x : FilterPart) : (s.putFilt x).fastMem = s.fastMem := rfl
@[simp] theorem State.putFilt_held (s : State) (x : FilterPart) : (s.putFilt x).held = s.held := rfl
@[simp] theorem State.putFilt_safety (s : State) (x : FilterPart) : (s.putFilt x).safety = s.safety := rfl
@[simp] theorem State.putFilt_pins (s : State) (x : FilterPart) : (s.putFilt x).pins = s.pins := rfl
@[simp] theorem State.putFilt_rearmed (s : State) (x : FilterPart) : (s.putFilt x).rearmed = s.rearmed := rfl
@[simp] theorem State.putFilt_eng (s : State) (x : FilterPart) : (s.putFilt x).eng = s.eng := rfl
@[simp] theorem State.putFilt_pio (s : State) (x : FilterPart) : (s.putFilt x).pio = s.pio := rfl
@[simp] theorem State.putFilt_hk (s : State) (x : FilterPart) : (s.putFilt x).hk = s.hk := rfl
@[simp] theorem State.putFilt_mtime (s : State) (x : FilterPart) : (s.putFilt x).mtime = s.mtime := rfl
@[simp] theorem State.putFilt_t1s (s : State) (x : FilterPart) : (s.putFilt x).t1s = s.t1s := rfl
@[simp] theorem State.putFilt_pair (s : State) (x : FilterPart) : (s.putFilt x).pair = s.pair := rfl
@[simp] theorem State.putFilt_tw (s : State) (x : FilterPart) : (s.putFilt x).tw = s.tw := rfl
@[simp] theorem State.putFilt_power (s : State) (x : FilterPart) : (s.putFilt x).power = s.power := rfl
@[simp] theorem State.putFilt_entry (s : State) (x : FilterPart) : (s.putFilt x).entry = s.entry := rfl
@[simp] theorem State.putFilt_xing (s : State) (x : FilterPart) : (s.putFilt x).xing = s.xing := rfl
@[simp] theorem State.putFilt_busOut (s : State) (x : FilterPart) : (s.putFilt x).busOut = s.busOut := rfl
@[simp] theorem State.putFilt_free (s : State) (x : FilterPart) : (s.putFilt x).free = s.free := rfl
@[simp] theorem State.putFilt_pending (s : State) (x : FilterPart) : (s.putFilt x).pending = s.pending := rfl
@[simp] theorem State.putFilt_filt (s : State) (x : FilterPart) : (s.putFilt x).filt = x := rfl

@[simp] theorem State.putHk_regs (s : State) (x : HkPart) : (s.putHk x).regs = s.regs := rfl
@[simp] theorem State.putHk_latch (s : State) (x : HkPart) : (s.putHk x).latch = s.latch := rfl
@[simp] theorem State.putHk_aon (s : State) (x : HkPart) : (s.putHk x).aon = s.aon := rfl
@[simp] theorem State.putHk_tick (s : State) (x : HkPart) : (s.putHk x).tick = s.tick := rfl
@[simp] theorem State.putHk_time (s : State) (x : HkPart) : (s.putHk x).time = s.time := rfl
@[simp] theorem State.putHk_queue (s : State) (x : HkPart) : (s.putHk x).queue = s.queue := rfl
@[simp] theorem State.putHk_ring (s : State) (x : HkPart) : (s.putHk x).ring = s.ring := rfl
@[simp] theorem State.putHk_link (s : State) (x : HkPart) : (s.putHk x).link = s.link := rfl
@[simp] theorem State.putHk_boot (s : State) (x : HkPart) : (s.putHk x).boot = s.boot := rfl
@[simp] theorem State.putHk_array (s : State) (x : HkPart) : (s.putHk x).array = s.array := rfl
@[simp] theorem State.putHk_filt (s : State) (x : HkPart) : (s.putHk x).filt = s.filt := rfl
@[simp] theorem State.putHk_committed (s : State) (x : HkPart) : (s.putHk x).committed = s.committed := rfl
@[simp] theorem State.putHk_fast (s : State) (x : HkPart) : (s.putHk x).fast = s.fast := rfl
@[simp] theorem State.putHk_commMem (s : State) (x : HkPart) : (s.putHk x).commMem = s.commMem := rfl
@[simp] theorem State.putHk_fastMem (s : State) (x : HkPart) : (s.putHk x).fastMem = s.fastMem := rfl
@[simp] theorem State.putHk_held (s : State) (x : HkPart) : (s.putHk x).held = s.held := rfl
@[simp] theorem State.putHk_safety (s : State) (x : HkPart) : (s.putHk x).safety = s.safety := rfl
@[simp] theorem State.putHk_pins (s : State) (x : HkPart) : (s.putHk x).pins = s.pins := rfl
@[simp] theorem State.putHk_rearmed (s : State) (x : HkPart) : (s.putHk x).rearmed = s.rearmed := rfl
@[simp] theorem State.putHk_eng (s : State) (x : HkPart) : (s.putHk x).eng = s.eng := rfl
@[simp] theorem State.putHk_pio (s : State) (x : HkPart) : (s.putHk x).pio = s.pio := rfl
@[simp] theorem State.putHk_mtime (s : State) (x : HkPart) : (s.putHk x).mtime = s.mtime := rfl
@[simp] theorem State.putHk_t1s (s : State) (x : HkPart) : (s.putHk x).t1s = s.t1s := rfl
@[simp] theorem State.putHk_pair (s : State) (x : HkPart) : (s.putHk x).pair = s.pair := rfl
@[simp] theorem State.putHk_tw (s : State) (x : HkPart) : (s.putHk x).tw = s.tw := rfl
@[simp] theorem State.putHk_power (s : State) (x : HkPart) : (s.putHk x).power = s.power := rfl
@[simp] theorem State.putHk_entry (s : State) (x : HkPart) : (s.putHk x).entry = s.entry := rfl
@[simp] theorem State.putHk_xing (s : State) (x : HkPart) : (s.putHk x).xing = s.xing := rfl
@[simp] theorem State.putHk_busOut (s : State) (x : HkPart) : (s.putHk x).busOut = s.busOut := rfl
@[simp] theorem State.putHk_free (s : State) (x : HkPart) : (s.putHk x).free = s.free := rfl
@[simp] theorem State.putHk_pending (s : State) (x : HkPart) : (s.putHk x).pending = s.pending := rfl
@[simp] theorem State.putHk_hk (s : State) (x : HkPart) : (s.putHk x).hk = x := rfl

@[simp] theorem State.putLink_regs (s : State) (x : LinkPart) : (s.putLink x).regs = s.regs := rfl
@[simp] theorem State.putLink_latch (s : State) (x : LinkPart) : (s.putLink x).latch = s.latch := rfl
@[simp] theorem State.putLink_aon (s : State) (x : LinkPart) : (s.putLink x).aon = s.aon := rfl
@[simp] theorem State.putLink_tick (s : State) (x : LinkPart) : (s.putLink x).tick = s.tick := rfl
@[simp] theorem State.putLink_time (s : State) (x : LinkPart) : (s.putLink x).time = s.time := rfl
@[simp] theorem State.putLink_queue (s : State) (x : LinkPart) : (s.putLink x).queue = s.queue := rfl
@[simp] theorem State.putLink_ring (s : State) (x : LinkPart) : (s.putLink x).ring = s.ring := rfl
@[simp] theorem State.putLink_boot (s : State) (x : LinkPart) : (s.putLink x).boot = s.boot := rfl
@[simp] theorem State.putLink_array (s : State) (x : LinkPart) : (s.putLink x).array = s.array := rfl
@[simp] theorem State.putLink_filt (s : State) (x : LinkPart) : (s.putLink x).filt = s.filt := rfl
@[simp] theorem State.putLink_committed (s : State) (x : LinkPart) : (s.putLink x).committed = s.committed := rfl
@[simp] theorem State.putLink_fast (s : State) (x : LinkPart) : (s.putLink x).fast = s.fast := rfl
@[simp] theorem State.putLink_commMem (s : State) (x : LinkPart) : (s.putLink x).commMem = s.commMem := rfl
@[simp] theorem State.putLink_fastMem (s : State) (x : LinkPart) : (s.putLink x).fastMem = s.fastMem := rfl
@[simp] theorem State.putLink_held (s : State) (x : LinkPart) : (s.putLink x).held = s.held := rfl
@[simp] theorem State.putLink_safety (s : State) (x : LinkPart) : (s.putLink x).safety = s.safety := rfl
@[simp] theorem State.putLink_pins (s : State) (x : LinkPart) : (s.putLink x).pins = s.pins := rfl
@[simp] theorem State.putLink_rearmed (s : State) (x : LinkPart) : (s.putLink x).rearmed = s.rearmed := rfl
@[simp] theorem State.putLink_eng (s : State) (x : LinkPart) : (s.putLink x).eng = s.eng := rfl
@[simp] theorem State.putLink_pio (s : State) (x : LinkPart) : (s.putLink x).pio = s.pio := rfl
@[simp] theorem State.putLink_hk (s : State) (x : LinkPart) : (s.putLink x).hk = s.hk := rfl
@[simp] theorem State.putLink_mtime (s : State) (x : LinkPart) : (s.putLink x).mtime = s.mtime := rfl
@[simp] theorem State.putLink_t1s (s : State) (x : LinkPart) : (s.putLink x).t1s = s.t1s := rfl
@[simp] theorem State.putLink_pair (s : State) (x : LinkPart) : (s.putLink x).pair = s.pair := rfl
@[simp] theorem State.putLink_tw (s : State) (x : LinkPart) : (s.putLink x).tw = s.tw := rfl
@[simp] theorem State.putLink_power (s : State) (x : LinkPart) : (s.putLink x).power = s.power := rfl
@[simp] theorem State.putLink_entry (s : State) (x : LinkPart) : (s.putLink x).entry = s.entry := rfl
@[simp] theorem State.putLink_xing (s : State) (x : LinkPart) : (s.putLink x).xing = s.xing := rfl
@[simp] theorem State.putLink_busOut (s : State) (x : LinkPart) : (s.putLink x).busOut = s.busOut := rfl
@[simp] theorem State.putLink_free (s : State) (x : LinkPart) : (s.putLink x).free = s.free := rfl
@[simp] theorem State.putLink_pending (s : State) (x : LinkPart) : (s.putLink x).pending = s.pending := rfl
@[simp] theorem State.putLink_link (s : State) (x : LinkPart) : (s.putLink x).link = x := rfl

@[simp] theorem State.putPair_regs (s : State) (x : PairPart) : (s.putPair x).regs = s.regs := rfl
@[simp] theorem State.putPair_latch (s : State) (x : PairPart) : (s.putPair x).latch = s.latch := rfl
@[simp] theorem State.putPair_aon (s : State) (x : PairPart) : (s.putPair x).aon = s.aon := rfl
@[simp] theorem State.putPair_tick (s : State) (x : PairPart) : (s.putPair x).tick = s.tick := rfl
@[simp] theorem State.putPair_time (s : State) (x : PairPart) : (s.putPair x).time = s.time := rfl
@[simp] theorem State.putPair_queue (s : State) (x : PairPart) : (s.putPair x).queue = s.queue := rfl
@[simp] theorem State.putPair_ring (s : State) (x : PairPart) : (s.putPair x).ring = s.ring := rfl
@[simp] theorem State.putPair_link (s : State) (x : PairPart) : (s.putPair x).link = s.link := rfl
@[simp] theorem State.putPair_boot (s : State) (x : PairPart) : (s.putPair x).boot = s.boot := rfl
@[simp] theorem State.putPair_array (s : State) (x : PairPart) : (s.putPair x).array = s.array := rfl
@[simp] theorem State.putPair_filt (s : State) (x : PairPart) : (s.putPair x).filt = s.filt := rfl
@[simp] theorem State.putPair_committed (s : State) (x : PairPart) : (s.putPair x).committed = s.committed := rfl
@[simp] theorem State.putPair_fast (s : State) (x : PairPart) : (s.putPair x).fast = s.fast := rfl
@[simp] theorem State.putPair_commMem (s : State) (x : PairPart) : (s.putPair x).commMem = s.commMem := rfl
@[simp] theorem State.putPair_fastMem (s : State) (x : PairPart) : (s.putPair x).fastMem = s.fastMem := rfl
@[simp] theorem State.putPair_held (s : State) (x : PairPart) : (s.putPair x).held = s.held := rfl
@[simp] theorem State.putPair_safety (s : State) (x : PairPart) : (s.putPair x).safety = s.safety := rfl
@[simp] theorem State.putPair_pins (s : State) (x : PairPart) : (s.putPair x).pins = s.pins := rfl
@[simp] theorem State.putPair_rearmed (s : State) (x : PairPart) : (s.putPair x).rearmed = s.rearmed := rfl
@[simp] theorem State.putPair_eng (s : State) (x : PairPart) : (s.putPair x).eng = s.eng := rfl
@[simp] theorem State.putPair_pio (s : State) (x : PairPart) : (s.putPair x).pio = s.pio := rfl
@[simp] theorem State.putPair_hk (s : State) (x : PairPart) : (s.putPair x).hk = s.hk := rfl
@[simp] theorem State.putPair_mtime (s : State) (x : PairPart) : (s.putPair x).mtime = s.mtime := rfl
@[simp] theorem State.putPair_t1s (s : State) (x : PairPart) : (s.putPair x).t1s = s.t1s := rfl
@[simp] theorem State.putPair_tw (s : State) (x : PairPart) : (s.putPair x).tw = s.tw := rfl
@[simp] theorem State.putPair_power (s : State) (x : PairPart) : (s.putPair x).power = s.power := rfl
@[simp] theorem State.putPair_entry (s : State) (x : PairPart) : (s.putPair x).entry = s.entry := rfl
@[simp] theorem State.putPair_xing (s : State) (x : PairPart) : (s.putPair x).xing = s.xing := rfl
@[simp] theorem State.putPair_busOut (s : State) (x : PairPart) : (s.putPair x).busOut = s.busOut := rfl
@[simp] theorem State.putPair_free (s : State) (x : PairPart) : (s.putPair x).free = s.free := rfl
@[simp] theorem State.putPair_pending (s : State) (x : PairPart) : (s.putPair x).pending = s.pending := rfl
@[simp] theorem State.putPair_pair (s : State) (x : PairPart) : (s.putPair x).pair = x := rfl

@[simp] theorem State.putPins_regs (s : State) (x : PinPart) : (s.putPins x).regs = s.regs := rfl
@[simp] theorem State.putPins_latch (s : State) (x : PinPart) : (s.putPins x).latch = s.latch := rfl
@[simp] theorem State.putPins_aon (s : State) (x : PinPart) : (s.putPins x).aon = s.aon := rfl
@[simp] theorem State.putPins_tick (s : State) (x : PinPart) : (s.putPins x).tick = s.tick := rfl
@[simp] theorem State.putPins_time (s : State) (x : PinPart) : (s.putPins x).time = s.time := rfl
@[simp] theorem State.putPins_queue (s : State) (x : PinPart) : (s.putPins x).queue = s.queue := rfl
@[simp] theorem State.putPins_ring (s : State) (x : PinPart) : (s.putPins x).ring = s.ring := rfl
@[simp] theorem State.putPins_link (s : State) (x : PinPart) : (s.putPins x).link = s.link := rfl
@[simp] theorem State.putPins_boot (s : State) (x : PinPart) : (s.putPins x).boot = s.boot := rfl
@[simp] theorem State.putPins_array (s : State) (x : PinPart) : (s.putPins x).array = s.array := rfl
@[simp] theorem State.putPins_filt (s : State) (x : PinPart) : (s.putPins x).filt = s.filt := rfl
@[simp] theorem State.putPins_committed (s : State) (x : PinPart) : (s.putPins x).committed = s.committed := rfl
@[simp] theorem State.putPins_fast (s : State) (x : PinPart) : (s.putPins x).fast = s.fast := rfl
@[simp] theorem State.putPins_commMem (s : State) (x : PinPart) : (s.putPins x).commMem = s.commMem := rfl
@[simp] theorem State.putPins_fastMem (s : State) (x : PinPart) : (s.putPins x).fastMem = s.fastMem := rfl
@[simp] theorem State.putPins_held (s : State) (x : PinPart) : (s.putPins x).held = s.held := rfl
@[simp] theorem State.putPins_safety (s : State) (x : PinPart) : (s.putPins x).safety = s.safety := rfl
@[simp] theorem State.putPins_rearmed (s : State) (x : PinPart) : (s.putPins x).rearmed = s.rearmed := rfl
@[simp] theorem State.putPins_eng (s : State) (x : PinPart) : (s.putPins x).eng = s.eng := rfl
@[simp] theorem State.putPins_pio (s : State) (x : PinPart) : (s.putPins x).pio = s.pio := rfl
@[simp] theorem State.putPins_hk (s : State) (x : PinPart) : (s.putPins x).hk = s.hk := rfl
@[simp] theorem State.putPins_mtime (s : State) (x : PinPart) : (s.putPins x).mtime = s.mtime := rfl
@[simp] theorem State.putPins_t1s (s : State) (x : PinPart) : (s.putPins x).t1s = s.t1s := rfl
@[simp] theorem State.putPins_pair (s : State) (x : PinPart) : (s.putPins x).pair = s.pair := rfl
@[simp] theorem State.putPins_tw (s : State) (x : PinPart) : (s.putPins x).tw = s.tw := rfl
@[simp] theorem State.putPins_power (s : State) (x : PinPart) : (s.putPins x).power = s.power := rfl
@[simp] theorem State.putPins_entry (s : State) (x : PinPart) : (s.putPins x).entry = s.entry := rfl
@[simp] theorem State.putPins_xing (s : State) (x : PinPart) : (s.putPins x).xing = s.xing := rfl
@[simp] theorem State.putPins_busOut (s : State) (x : PinPart) : (s.putPins x).busOut = s.busOut := rfl
@[simp] theorem State.putPins_free (s : State) (x : PinPart) : (s.putPins x).free = s.free := rfl
@[simp] theorem State.putPins_pending (s : State) (x : PinPart) : (s.putPins x).pending = s.pending := rfl
@[simp] theorem State.putPins_pins (s : State) (x : PinPart) : (s.putPins x).pins = x := rfl

@[simp] theorem State.putT1s_regs (s : State) (x : T1sPart) : (s.putT1s x).regs = s.regs := rfl
@[simp] theorem State.putT1s_latch (s : State) (x : T1sPart) : (s.putT1s x).latch = s.latch := rfl
@[simp] theorem State.putT1s_aon (s : State) (x : T1sPart) : (s.putT1s x).aon = s.aon := rfl
@[simp] theorem State.putT1s_tick (s : State) (x : T1sPart) : (s.putT1s x).tick = s.tick := rfl
@[simp] theorem State.putT1s_time (s : State) (x : T1sPart) : (s.putT1s x).time = s.time := rfl
@[simp] theorem State.putT1s_queue (s : State) (x : T1sPart) : (s.putT1s x).queue = s.queue := rfl
@[simp] theorem State.putT1s_ring (s : State) (x : T1sPart) : (s.putT1s x).ring = s.ring := rfl
@[simp] theorem State.putT1s_link (s : State) (x : T1sPart) : (s.putT1s x).link = s.link := rfl
@[simp] theorem State.putT1s_boot (s : State) (x : T1sPart) : (s.putT1s x).boot = s.boot := rfl
@[simp] theorem State.putT1s_array (s : State) (x : T1sPart) : (s.putT1s x).array = s.array := rfl
@[simp] theorem State.putT1s_filt (s : State) (x : T1sPart) : (s.putT1s x).filt = s.filt := rfl
@[simp] theorem State.putT1s_committed (s : State) (x : T1sPart) : (s.putT1s x).committed = s.committed := rfl
@[simp] theorem State.putT1s_fast (s : State) (x : T1sPart) : (s.putT1s x).fast = s.fast := rfl
@[simp] theorem State.putT1s_commMem (s : State) (x : T1sPart) : (s.putT1s x).commMem = s.commMem := rfl
@[simp] theorem State.putT1s_fastMem (s : State) (x : T1sPart) : (s.putT1s x).fastMem = s.fastMem := rfl
@[simp] theorem State.putT1s_held (s : State) (x : T1sPart) : (s.putT1s x).held = s.held := rfl
@[simp] theorem State.putT1s_safety (s : State) (x : T1sPart) : (s.putT1s x).safety = s.safety := rfl
@[simp] theorem State.putT1s_pins (s : State) (x : T1sPart) : (s.putT1s x).pins = s.pins := rfl
@[simp] theorem State.putT1s_rearmed (s : State) (x : T1sPart) : (s.putT1s x).rearmed = s.rearmed := rfl
@[simp] theorem State.putT1s_eng (s : State) (x : T1sPart) : (s.putT1s x).eng = s.eng := rfl
@[simp] theorem State.putT1s_pio (s : State) (x : T1sPart) : (s.putT1s x).pio = s.pio := rfl
@[simp] theorem State.putT1s_hk (s : State) (x : T1sPart) : (s.putT1s x).hk = s.hk := rfl
@[simp] theorem State.putT1s_mtime (s : State) (x : T1sPart) : (s.putT1s x).mtime = s.mtime := rfl
@[simp] theorem State.putT1s_pair (s : State) (x : T1sPart) : (s.putT1s x).pair = s.pair := rfl
@[simp] theorem State.putT1s_tw (s : State) (x : T1sPart) : (s.putT1s x).tw = s.tw := rfl
@[simp] theorem State.putT1s_power (s : State) (x : T1sPart) : (s.putT1s x).power = s.power := rfl
@[simp] theorem State.putT1s_entry (s : State) (x : T1sPart) : (s.putT1s x).entry = s.entry := rfl
@[simp] theorem State.putT1s_xing (s : State) (x : T1sPart) : (s.putT1s x).xing = s.xing := rfl
@[simp] theorem State.putT1s_busOut (s : State) (x : T1sPart) : (s.putT1s x).busOut = s.busOut := rfl
@[simp] theorem State.putT1s_free (s : State) (x : T1sPart) : (s.putT1s x).free = s.free := rfl
@[simp] theorem State.putT1s_pending (s : State) (x : T1sPart) : (s.putT1s x).pending = s.pending := rfl
@[simp] theorem State.putT1s_t1s (s : State) (x : T1sPart) : (s.putT1s x).t1s = x := rfl

@[simp] theorem State.putTime_regs (s : State) (x : TimePart) : (s.putTime x).regs = s.regs := rfl
@[simp] theorem State.putTime_latch (s : State) (x : TimePart) : (s.putTime x).latch = s.latch := rfl
@[simp] theorem State.putTime_aon (s : State) (x : TimePart) : (s.putTime x).aon = s.aon := rfl
@[simp] theorem State.putTime_tick (s : State) (x : TimePart) : (s.putTime x).tick = s.tick := rfl
@[simp] theorem State.putTime_time (s : State) (x : TimePart) : (s.putTime x).time = s.time := rfl
@[simp] theorem State.putTime_queue (s : State) (x : TimePart) : (s.putTime x).queue = s.queue := rfl
@[simp] theorem State.putTime_ring (s : State) (x : TimePart) : (s.putTime x).ring = s.ring := rfl
@[simp] theorem State.putTime_link (s : State) (x : TimePart) : (s.putTime x).link = s.link := rfl
@[simp] theorem State.putTime_boot (s : State) (x : TimePart) : (s.putTime x).boot = s.boot := rfl
@[simp] theorem State.putTime_array (s : State) (x : TimePart) : (s.putTime x).array = s.array := rfl
@[simp] theorem State.putTime_filt (s : State) (x : TimePart) : (s.putTime x).filt = s.filt := rfl
@[simp] theorem State.putTime_committed (s : State) (x : TimePart) : (s.putTime x).committed = s.committed := rfl
@[simp] theorem State.putTime_fast (s : State) (x : TimePart) : (s.putTime x).fast = s.fast := rfl
@[simp] theorem State.putTime_commMem (s : State) (x : TimePart) : (s.putTime x).commMem = s.commMem := rfl
@[simp] theorem State.putTime_fastMem (s : State) (x : TimePart) : (s.putTime x).fastMem = s.fastMem := rfl
@[simp] theorem State.putTime_held (s : State) (x : TimePart) : (s.putTime x).held = s.held := rfl
@[simp] theorem State.putTime_safety (s : State) (x : TimePart) : (s.putTime x).safety = s.safety := rfl
@[simp] theorem State.putTime_pins (s : State) (x : TimePart) : (s.putTime x).pins = s.pins := rfl
@[simp] theorem State.putTime_rearmed (s : State) (x : TimePart) : (s.putTime x).rearmed = s.rearmed := rfl
@[simp] theorem State.putTime_eng (s : State) (x : TimePart) : (s.putTime x).eng = s.eng := rfl
@[simp] theorem State.putTime_pio (s : State) (x : TimePart) : (s.putTime x).pio = s.pio := rfl
@[simp] theorem State.putTime_hk (s : State) (x : TimePart) : (s.putTime x).hk = s.hk := rfl
@[simp] theorem State.putTime_t1s (s : State) (x : TimePart) : (s.putTime x).t1s = s.t1s := rfl
@[simp] theorem State.putTime_pair (s : State) (x : TimePart) : (s.putTime x).pair = s.pair := rfl
@[simp] theorem State.putTime_tw (s : State) (x : TimePart) : (s.putTime x).tw = s.tw := rfl
@[simp] theorem State.putTime_power (s : State) (x : TimePart) : (s.putTime x).power = s.power := rfl
@[simp] theorem State.putTime_entry (s : State) (x : TimePart) : (s.putTime x).entry = s.entry := rfl
@[simp] theorem State.putTime_xing (s : State) (x : TimePart) : (s.putTime x).xing = s.xing := rfl
@[simp] theorem State.putTime_busOut (s : State) (x : TimePart) : (s.putTime x).busOut = s.busOut := rfl
@[simp] theorem State.putTime_free (s : State) (x : TimePart) : (s.putTime x).free = s.free := rfl
@[simp] theorem State.putTime_pending (s : State) (x : TimePart) : (s.putTime x).pending = s.pending := rfl
@[simp] theorem State.putTime_mtime (s : State) (x : TimePart) : (s.putTime x).mtime = x := rfl

@[simp] theorem State.outWord_regs (s : State) (w : Word) : (s.outWord w).regs = s.regs := rfl
@[simp] theorem State.outWord_latch (s : State) (w : Word) : (s.outWord w).latch = s.latch := rfl
@[simp] theorem State.outWord_aon (s : State) (w : Word) : (s.outWord w).aon = s.aon := rfl
@[simp] theorem State.outWord_tick (s : State) (w : Word) : (s.outWord w).tick = s.tick := rfl
@[simp] theorem State.outWord_time (s : State) (w : Word) : (s.outWord w).time = s.time := rfl
@[simp] theorem State.outWord_queue (s : State) (w : Word) : (s.outWord w).queue = s.queue := rfl
@[simp] theorem State.outWord_ring (s : State) (w : Word) : (s.outWord w).ring = s.ring := rfl
@[simp] theorem State.outWord_link (s : State) (w : Word) : (s.outWord w).link = s.link := rfl
@[simp] theorem State.outWord_boot (s : State) (w : Word) : (s.outWord w).boot = s.boot := rfl
@[simp] theorem State.outWord_array (s : State) (w : Word) : (s.outWord w).array = s.array := rfl
@[simp] theorem State.outWord_filt (s : State) (w : Word) : (s.outWord w).filt = s.filt := rfl
@[simp] theorem State.outWord_committed (s : State) (w : Word) : (s.outWord w).committed = s.committed := rfl
@[simp] theorem State.outWord_fast (s : State) (w : Word) : (s.outWord w).fast = s.fast := rfl
@[simp] theorem State.outWord_commMem (s : State) (w : Word) : (s.outWord w).commMem = s.commMem := rfl
@[simp] theorem State.outWord_fastMem (s : State) (w : Word) : (s.outWord w).fastMem = s.fastMem := rfl
@[simp] theorem State.outWord_held (s : State) (w : Word) : (s.outWord w).held = s.held := rfl
@[simp] theorem State.outWord_safety (s : State) (w : Word) : (s.outWord w).safety = s.safety := rfl
@[simp] theorem State.outWord_pins (s : State) (w : Word) : (s.outWord w).pins = s.pins := rfl
@[simp] theorem State.outWord_rearmed (s : State) (w : Word) : (s.outWord w).rearmed = s.rearmed := rfl
@[simp] theorem State.outWord_eng (s : State) (w : Word) : (s.outWord w).eng = s.eng := rfl
@[simp] theorem State.outWord_pio (s : State) (w : Word) : (s.outWord w).pio = s.pio := rfl
@[simp] theorem State.outWord_hk (s : State) (w : Word) : (s.outWord w).hk = s.hk := rfl
@[simp] theorem State.outWord_mtime (s : State) (w : Word) : (s.outWord w).mtime = s.mtime := rfl
@[simp] theorem State.outWord_t1s (s : State) (w : Word) : (s.outWord w).t1s = s.t1s := rfl
@[simp] theorem State.outWord_pair (s : State) (w : Word) : (s.outWord w).pair = s.pair := rfl
@[simp] theorem State.outWord_tw (s : State) (w : Word) : (s.outWord w).tw = s.tw := rfl
@[simp] theorem State.outWord_power (s : State) (w : Word) : (s.outWord w).power = s.power := rfl
@[simp] theorem State.outWord_entry (s : State) (w : Word) : (s.outWord w).entry = s.entry := rfl
@[simp] theorem State.outWord_xing (s : State) (w : Word) : (s.outWord w).xing = s.xing := rfl
@[simp] theorem State.outWord_free (s : State) (w : Word) : (s.outWord w).free = s.free := rfl
@[simp] theorem State.outWord_pending (s : State) (w : Word) : (s.outWord w).pending = s.pending := rfl

@[simp] theorem State.outByte_regs (s : State) (b : Byte) : (s.outByte b).regs = s.regs := rfl
@[simp] theorem State.outByte_latch (s : State) (b : Byte) : (s.outByte b).latch = s.latch := rfl
@[simp] theorem State.outByte_aon (s : State) (b : Byte) : (s.outByte b).aon = s.aon := rfl
@[simp] theorem State.outByte_tick (s : State) (b : Byte) : (s.outByte b).tick = s.tick := rfl
@[simp] theorem State.outByte_time (s : State) (b : Byte) : (s.outByte b).time = s.time := rfl
@[simp] theorem State.outByte_queue (s : State) (b : Byte) : (s.outByte b).queue = s.queue := rfl
@[simp] theorem State.outByte_ring (s : State) (b : Byte) : (s.outByte b).ring = s.ring := rfl
@[simp] theorem State.outByte_link (s : State) (b : Byte) : (s.outByte b).link = s.link := rfl
@[simp] theorem State.outByte_boot (s : State) (b : Byte) : (s.outByte b).boot = s.boot := rfl
@[simp] theorem State.outByte_array (s : State) (b : Byte) : (s.outByte b).array = s.array := rfl
@[simp] theorem State.outByte_filt (s : State) (b : Byte) : (s.outByte b).filt = s.filt := rfl
@[simp] theorem State.outByte_committed (s : State) (b : Byte) : (s.outByte b).committed = s.committed := rfl
@[simp] theorem State.outByte_fast (s : State) (b : Byte) : (s.outByte b).fast = s.fast := rfl
@[simp] theorem State.outByte_commMem (s : State) (b : Byte) : (s.outByte b).commMem = s.commMem := rfl
@[simp] theorem State.outByte_fastMem (s : State) (b : Byte) : (s.outByte b).fastMem = s.fastMem := rfl
@[simp] theorem State.outByte_held (s : State) (b : Byte) : (s.outByte b).held = s.held := rfl
@[simp] theorem State.outByte_safety (s : State) (b : Byte) : (s.outByte b).safety = s.safety := rfl
@[simp] theorem State.outByte_pins (s : State) (b : Byte) : (s.outByte b).pins = s.pins := rfl
@[simp] theorem State.outByte_rearmed (s : State) (b : Byte) : (s.outByte b).rearmed = s.rearmed := rfl
@[simp] theorem State.outByte_eng (s : State) (b : Byte) : (s.outByte b).eng = s.eng := rfl
@[simp] theorem State.outByte_pio (s : State) (b : Byte) : (s.outByte b).pio = s.pio := rfl
@[simp] theorem State.outByte_hk (s : State) (b : Byte) : (s.outByte b).hk = s.hk := rfl
@[simp] theorem State.outByte_mtime (s : State) (b : Byte) : (s.outByte b).mtime = s.mtime := rfl
@[simp] theorem State.outByte_t1s (s : State) (b : Byte) : (s.outByte b).t1s = s.t1s := rfl
@[simp] theorem State.outByte_pair (s : State) (b : Byte) : (s.outByte b).pair = s.pair := rfl
@[simp] theorem State.outByte_tw (s : State) (b : Byte) : (s.outByte b).tw = s.tw := rfl
@[simp] theorem State.outByte_power (s : State) (b : Byte) : (s.outByte b).power = s.power := rfl
@[simp] theorem State.outByte_entry (s : State) (b : Byte) : (s.outByte b).entry = s.entry := rfl
@[simp] theorem State.outByte_xing (s : State) (b : Byte) : (s.outByte b).xing = s.xing := rfl
@[simp] theorem State.outByte_free (s : State) (b : Byte) : (s.outByte b).free = s.free := rfl
@[simp] theorem State.outByte_pending (s : State) (b : Byte) : (s.outByte b).pending = s.pending := rfl

@[simp] theorem State.draw_regs (s : State) : (s.draw).regs = s.regs := rfl
@[simp] theorem State.draw_latch (s : State) : (s.draw).latch = s.latch := rfl
@[simp] theorem State.draw_aon (s : State) : (s.draw).aon = s.aon := rfl
@[simp] theorem State.draw_tick (s : State) : (s.draw).tick = s.tick := rfl
@[simp] theorem State.draw_time (s : State) : (s.draw).time = s.time := rfl
@[simp] theorem State.draw_queue (s : State) : (s.draw).queue = s.queue := rfl
@[simp] theorem State.draw_ring (s : State) : (s.draw).ring = s.ring := rfl
@[simp] theorem State.draw_link (s : State) : (s.draw).link = s.link := rfl
@[simp] theorem State.draw_boot (s : State) : (s.draw).boot = s.boot := rfl
@[simp] theorem State.draw_array (s : State) : (s.draw).array = s.array := rfl
@[simp] theorem State.draw_filt (s : State) : (s.draw).filt = s.filt := rfl
@[simp] theorem State.draw_committed (s : State) : (s.draw).committed = s.committed := rfl
@[simp] theorem State.draw_fast (s : State) : (s.draw).fast = s.fast := rfl
@[simp] theorem State.draw_commMem (s : State) : (s.draw).commMem = s.commMem := rfl
@[simp] theorem State.draw_fastMem (s : State) : (s.draw).fastMem = s.fastMem := rfl
@[simp] theorem State.draw_held (s : State) : (s.draw).held = s.held := rfl
@[simp] theorem State.draw_safety (s : State) : (s.draw).safety = s.safety := rfl
@[simp] theorem State.draw_pins (s : State) : (s.draw).pins = s.pins := rfl
@[simp] theorem State.draw_rearmed (s : State) : (s.draw).rearmed = s.rearmed := rfl
@[simp] theorem State.draw_eng (s : State) : (s.draw).eng = s.eng := rfl
@[simp] theorem State.draw_pio (s : State) : (s.draw).pio = s.pio := rfl
@[simp] theorem State.draw_hk (s : State) : (s.draw).hk = s.hk := rfl
@[simp] theorem State.draw_mtime (s : State) : (s.draw).mtime = s.mtime := rfl
@[simp] theorem State.draw_t1s (s : State) : (s.draw).t1s = s.t1s := rfl
@[simp] theorem State.draw_pair (s : State) : (s.draw).pair = s.pair := rfl
@[simp] theorem State.draw_tw (s : State) : (s.draw).tw = s.tw := rfl
@[simp] theorem State.draw_power (s : State) : (s.draw).power = s.power := rfl
@[simp] theorem State.draw_entry (s : State) : (s.draw).entry = s.entry := rfl
@[simp] theorem State.draw_xing (s : State) : (s.draw).xing = s.xing := rfl
@[simp] theorem State.draw_busOut (s : State) : (s.draw).busOut = s.busOut := rfl
@[simp] theorem State.draw_pending (s : State) : (s.draw).pending = s.pending := rfl

end Sys2Proof.Machine
end

