-- ==== Sys2Proof/Laws/Canonical.lean ====
section
/-!
SUPPORT. Every operation keeps the canonical form of the register file (one lemma per operation, one per host command's
effect).
-/
set_option linter.unusedTactic false
set_option linter.unreachableTactic false

namespace Sys2Proof.Machine

theorem wf_when (b : Bool) (f : State → State) (s : State) (h : Canon s.regs s.latch)
    (hf : ∀ t : State, Canon t.regs t.latch → Canon (f t).regs (f t).latch) : Canon (s.when b f).regs (s.when b f).latch := by
  unfold State.when; split
  · exact hf _ h
  · exact h

theorem wf_setReg (a : Nat) (w : Word) (s : State) (h : Canon s.regs s.latch) : Canon (s.setReg a w).regs (s.setReg a w).latch :=
  ⟨RegFile.wf_set _ _ _ h.1, h.2⟩

theorem wf_setF (f : Fld) (v : Nat) (s : State) (h : Canon s.regs s.latch) : Canon (State.setF f v s).regs (State.setF f v s).latch := by
  unfold State.setF; try dsimp only
  repeat' first
    | with_reducible assumption
    | with_reducible apply wf_setReg
    | (split <;> try dsimp only)
    | (intros; try dsimp only)

theorem wf_addSat (f : Fld) (n : Nat) (s : State) (h : Canon s.regs s.latch) : Canon (State.addSat f n s).regs (State.addSat f n s).latch := by
  unfold State.addSat; try dsimp only
  repeat' first
    | with_reducible assumption
    | with_reducible apply wf_setF
    | (split <;> try dsimp only)
    | (intros; try dsimp only)

theorem wf_incSat (f : Fld) (s : State) (h : Canon s.regs s.latch) : Canon (State.incSat f s).regs (State.incSat f s).latch := by
  unfold State.incSat; try dsimp only
  repeat' first
    | with_reducible assumption
    | with_reducible apply wf_addSat
    | (split <;> try dsimp only)
    | (intros; try dsimp only)

theorem wf_maxF (f : Fld) (v : Nat) (s : State) (h : Canon s.regs s.latch) : Canon (State.maxF f v s).regs (State.maxF f v s).latch := by
  unfold State.maxF; try dsimp only
  repeat' first
    | with_reducible assumption
    | with_reducible apply wf_setF
    | (split <;> try dsimp only)
    | (intros; try dsimp only)

theorem wf_alertAgain (t : Target) (s : State) (h : Canon s.regs s.latch) : Canon (State.alertAgain t s).regs (State.alertAgain t s).latch := by
  unfold State.alertAgain; try dsimp only
  repeat' first
    | with_reducible assumption
    | (split <;> try dsimp only)
    | (intros; try dsimp only)

theorem wf_postTo (t : Target) (n : Nat) (s : State) (h : Canon s.regs s.latch) : Canon (State.postTo t n s).regs (State.postTo t n s).latch := by
  unfold State.postTo; try dsimp only
  repeat' first
    | with_reducible assumption
    | with_reducible apply wf_setF
    | with_reducible apply wf_incSat
    | with_reducible apply wf_alertAgain
    | (split <;> try dsimp only)
    | (intros; try dsimp only)

theorem wf_post (n : Nat) (s : State) (h : Canon s.regs s.latch) : Canon (State.post n s).regs (State.post n s).latch := by
  unfold State.post; try dsimp only
  repeat' first
    | with_reducible assumption
    | with_reducible apply wf_when
    | with_reducible apply wf_postTo
    | (split <;> try dsimp only)
    | (intros; try dsimp only)

theorem wf_raise (a k : Nat) (s : State) (h : Canon s.regs s.latch) : Canon (State.raise a k s).regs (State.raise a k s).latch := by
  unfold State.raise; try dsimp only
  repeat' first
    | with_reducible assumption
    | with_reducible apply wf_setF
    | with_reducible apply wf_post
    | (split <;> try dsimp only)
    | (intros; try dsimp only)

theorem wf_claim (t : Target) (s : State) (h : Canon s.regs s.latch) : Canon (State.claim t s).regs (State.claim t s).latch := by
  unfold State.claim; try dsimp only
  repeat' first
    | with_reducible assumption
    | with_reducible apply wf_setF
    | (split <;> try dsimp only)
    | (intros; try dsimp only)

theorem wf_resample (t : Target) (n : Nat) (s : State) (h : Canon s.regs s.latch) : Canon (State.resample t n s).regs (State.resample t n s).latch := by
  unfold State.resample; try dsimp only
  repeat' first
    | with_reducible assumption
    | with_reducible apply wf_postTo
    | (split <;> try dsimp only)
    | (intros; try dsimp only)

theorem wf_complete (t : Target) (n : Nat) (s : State) (h : Canon s.regs s.latch) : Canon (State.complete t n s).regs (State.complete t n s).latch := by
  unfold State.complete; try dsimp only
  repeat' first
    | with_reducible assumption
    | with_reducible apply wf_setF
    | with_reducible apply wf_incSat
    | with_reducible apply wf_resample
    | (split <;> try dsimp only)
    | (intros; try dsimp only)

theorem wf_setEnable (t : Target) (n v : Nat) (s : State) (h : Canon s.regs s.latch) : Canon (State.setEnable t n v s).regs (State.setEnable t n v s).latch := by
  unfold State.setEnable; try dsimp only
  repeat' first
    | with_reducible assumption
    | with_reducible apply wf_setF
    | with_reducible apply wf_resample
    | (split <;> try dsimp only)
    | (intros; try dsimp only)

theorem wf_forUpTo (f : Nat → State → State) (hf : ∀ k (t : State), Canon t.regs t.latch → Canon (f k t).regs (f k t).latch) :
    ∀ (n : Nat) (s : State), Canon s.regs s.latch → Canon (s.forUpTo f n).regs (s.forUpTo f n).latch
  | 0, _, h => h
  | n + 1, s, h => hf n _ (wf_forUpTo f hf n s h)

theorem wf_each {α : Type} (f : α → State → State) (hf : ∀ x (t : State), Canon t.regs t.latch → Canon (f x t).regs (f x t).latch) :
    ∀ (xs : List α) (s : State), Canon s.regs s.latch → Canon (s.each f xs).regs (s.each f xs).latch
  | [], _, h => h
  | x :: xs, s, h => wf_each f hf xs _ (hf x s h)

theorem wf_draw (s : State) (h : Canon s.regs s.latch) : Canon (State.draw s).regs (State.draw s).latch := by
  unfold State.draw; try dsimp only
  repeat' first
    | with_reducible assumption
    | (split <;> try dsimp only)
    | (intros; try dsimp only)

theorem wf_watermark (s : State) (h : Canon s.regs s.latch) : Canon (State.watermark s).regs (State.watermark s).latch := by
  unfold State.watermark; try dsimp only
  repeat' first
    | with_reducible assumption
    | with_reducible apply wf_raise
    | (split <;> try dsimp only)
    | (intros; try dsimp only)

theorem wf_enqueue (r : Rec) (s : State) (h : Canon s.regs s.latch) : Canon (State.enqueue r s).regs (State.enqueue r s).latch := by
  unfold State.enqueue; try dsimp only
  repeat' first
    | with_reducible assumption
    | (split <;> try dsimp only)
    | (intros; try dsimp only)

theorem wf_skipSeq (n : Nat) (s : State) (h : Canon s.regs s.latch) : Canon (State.skipSeq n s).regs (State.skipSeq n s).latch := by
  unfold State.skipSeq; try dsimp only
  repeat' first
    | with_reducible assumption
    | (split <;> try dsimp only)
    | (intros; try dsimp only)

theorem wf_dropRecs (cause : Nat) (rs : List Rec) (s : State) (h : Canon s.regs s.latch) : Canon (State.dropRecs cause rs s).regs (State.dropRecs cause rs s).latch := by
  unfold State.dropRecs; try dsimp only
  repeat' first
    | with_reducible assumption
    | with_reducible apply wf_addSat
    | with_reducible apply wf_raise
    | (split <;> try dsimp only)
    | (intros; try dsimp only)

theorem wf_trimCapture (s : State) (h : Canon s.regs s.latch) : Canon (State.trimCapture s).regs (State.trimCapture s).latch := by
  unfold State.trimCapture; try dsimp only
  repeat' first
    | with_reducible assumption
    | with_reducible apply wf_setF
    | (split <;> try dsimp only)
    | (intros; try dsimp only)

theorem wf_ringStore (r : Rec) (seq : Nat) (s : State) (h : Canon s.regs s.latch) : Canon (State.ringStore r seq s).regs (State.ringStore r seq s).latch := by
  unfold State.ringStore; try dsimp only
  repeat' first
    | with_reducible assumption
    | with_reducible apply wf_setF
    | with_reducible apply wf_raise
    | with_reducible apply wf_trimCapture
    | (split <;> try dsimp only)
    | (intros; try dsimp only)

theorem wf_ringEmpty (s : State) (h : Canon s.regs s.latch) : Canon (State.ringEmpty s).regs (State.ringEmpty s).latch := by
  unfold State.ringEmpty; try dsimp only
  repeat' first
    | with_reducible assumption
    | with_reducible apply wf_setF
    | (split <;> try dsimp only)
    | (intros; try dsimp only)

theorem wf_ringConfigPoint (s : State) (h : Canon s.regs s.latch) : Canon (State.ringConfigPoint s).regs (State.ringConfigPoint s).latch := by
  unfold State.ringConfigPoint; try dsimp only
  repeat' first
    | with_reducible assumption
    | with_reducible apply wf_ringEmpty
    | (split <;> try dsimp only)
    | (intros; try dsimp only)

theorem wf_commitRec (r : Rec) (s : State) (h : Canon s.regs s.latch) : Canon (State.commitRec r s).regs (State.commitRec r s).latch := by
  unfold State.commitRec; try dsimp only
  repeat' first
    | with_reducible assumption
    | with_reducible apply wf_enqueue
    | with_reducible apply wf_ringStore
    | (split <;> try dsimp only)
    | (intros; try dsimp only)

theorem wf_commitDropped (r : Rec) (s : State) (h : Canon s.regs s.latch) : Canon (State.commitDropped r s).regs (State.commitDropped r s).latch := by
  unfold State.commitDropped; try dsimp only
  repeat' first
    | with_reducible assumption
    | with_reducible apply wf_skipSeq
    | with_reducible apply wf_ringStore
    | (split <;> try dsimp only)
    | (intros; try dsimp only)

theorem wf_commitAll (recs : List Rec) (s : State) (h : Canon s.regs s.latch) : Canon (State.commitAll recs s).regs (State.commitAll recs s).latch := by
  unfold State.commitAll; try dsimp only
  repeat' first
    | with_reducible assumption
    | with_reducible apply wf_each
    | with_reducible apply wf_watermark
    | with_reducible apply wf_dropRecs
    | with_reducible apply wf_ringConfigPoint
    | with_reducible apply wf_commitRec
    | with_reducible apply wf_commitDropped
    | (split <;> try dsimp only)
    | (intros; try dsimp only)

theorem wf_commitOne (r : Rec) (s : State) (h : Canon s.regs s.latch) : Canon (State.commitOne r s).regs (State.commitOne r s).latch := by
  unfold State.commitOne; try dsimp only
  repeat' first
    | with_reducible assumption
    | with_reducible apply wf_commitAll
    | (split <;> try dsimp only)
    | (intros; try dsimp only)

theorem wf_flushVisible (s : State) (h : Canon s.regs s.latch) : Canon (State.flushVisible s).regs (State.flushVisible s).latch := by
  unfold State.flushVisible; try dsimp only
  repeat' first
    | with_reducible assumption
    | (split <;> try dsimp only)
    | (intros; try dsimp only)

theorem wf_queueFlush (s : State) (h : Canon s.regs s.latch) : Canon (State.queueFlush s).regs (State.queueFlush s).latch := by
  unfold State.queueFlush; try dsimp only
  repeat' first
    | with_reducible assumption
    | with_reducible apply wf_commitRec
    | with_reducible apply wf_flushVisible
    | (split <;> try dsimp only)
    | (intros; try dsimp only)

theorem wf_syncSink (s : State) (h : Canon s.regs s.latch) : Canon (State.syncSink s).regs (State.syncSink s).latch := by
  unfold State.syncSink; try dsimp only
  repeat' first
    | with_reducible assumption
    | (split <;> try dsimp only)
    | (intros; try dsimp only)

theorem wf_captureTrigger (desc tick source machine : Nat) (s : State) (h : Canon s.regs s.latch) : Canon (State.captureTrigger desc tick source machine s).regs (State.captureTrigger desc tick source machine s).latch := by
  unfold State.captureTrigger; try dsimp only
  repeat' first
    | with_reducible assumption
    | with_reducible apply wf_setF
    | with_reducible apply wf_incSat
    | with_reducible apply wf_raise
    | with_reducible apply wf_commitOne
    | (split <;> try dsimp only)
    | (intros; try dsimp only)

theorem wf_captureEnd (s : State) (h : Canon s.regs s.latch) : Canon (State.captureEnd s).regs (State.captureEnd s).latch := by
  unfold State.captureEnd; try dsimp only
  repeat' first
    | with_reducible assumption
    | with_reducible apply wf_setF
    | with_reducible apply wf_raise
    | with_reducible apply wf_commitOne
    | (split <;> try dsimp only)
    | (intros; try dsimp only)

theorem wf_ringRelease (s : State) (h : Canon s.regs s.latch) : Canon (State.ringRelease s).regs (State.ringRelease s).latch := by
  unfold State.ringRelease; try dsimp only
  repeat' first
    | with_reducible assumption
    | with_reducible apply wf_setF
    | with_reducible apply wf_ringEmpty
    | (split <;> try dsimp only)
    | (intros; try dsimp only)

theorem wf_ringEnable (s : State) (h : Canon s.regs s.latch) : Canon (State.ringEnable s).regs (State.ringEnable s).latch := by
  unfold State.ringEnable; try dsimp only
  repeat' first
    | with_reducible assumption
    | with_reducible apply wf_setF
    | (split <;> try dsimp only)
    | (intros; try dsimp only)

theorem wf_sendFrame (f : Frame) (s : State) (h : Canon s.regs s.latch) : Canon (State.sendFrame f s).regs (State.sendFrame f s).latch := by
  unfold State.sendFrame; try dsimp only
  repeat' first
    | with_reducible assumption
    | (split <;> try dsimp only)
    | (intros; try dsimp only)

theorem wf_deliver (o : Origin) (drop : Bool) (bs : List Byte) (s : State) (h : Canon s.regs s.latch) : Canon (State.deliver o drop bs s).regs (State.deliver o drop bs s).latch := by
  unfold State.deliver; try dsimp only
  repeat' first
    | with_reducible assumption
    | with_reducible apply wf_incSat
    | with_reducible apply wf_raise
    | with_reducible apply wf_sendFrame
    | (split <;> try dsimp only)
    | (intros; try dsimp only)

theorem wf_cacheReply (o : Origin) (tag : Byte) (crc : Word) (bs : List Byte) (s : State) (h : Canon s.regs s.latch) : Canon (State.cacheReply o tag crc bs s).regs (State.cacheReply o tag crc bs s).latch := by
  unfold State.cacheReply; try dsimp only
  repeat' first
    | with_reducible assumption
    | (split <;> try dsimp only)
    | (intros; try dsimp only)

theorem wf_answer (op : Nat) (r : Req) (drop : Bool) (v : Verdict) (s : State) (h : Canon s.regs s.latch) : Canon (State.answer op r drop v s).regs (State.answer op r drop v s).latch := by
  unfold State.answer; try dsimp only
  repeat' first
    | with_reducible assumption
    | with_reducible apply wf_deliver
    | with_reducible apply wf_cacheReply
    | (split <;> try dsimp only)
    | (intros; try dsimp only)

theorem wf_finish (op : Nat) (r : Req) (s : State) (h : Canon s.regs s.latch) : Canon (State.finish op r s).1.regs (State.finish op r s).1.latch := by
  unfold State.finish; try dsimp only
  repeat' first
    | with_reducible assumption
    | (split <;> try dsimp only)
    | (intros; try dsimp only)

theorem wf_Cmd_run (c : Cmd) (r : Req) (s : State) (h : Canon s.regs s.latch)
    (he : ∀ t : State, Canon t.regs t.latch → Canon (c.effect r t).1.regs (c.effect r t).1.latch) : Canon (Cmd.run c r s).regs (Cmd.run c r s).latch := by
  have reply : ∀ (v : Verdict) (t : State), Canon t.regs t.latch →
      Canon ((t.finish c.op r).1.answer c.op r (t.finish c.op r).2 v).regs ((t.finish c.op r).1.answer c.op r (t.finish c.op r).2 v).latch :=
    fun v t ht => wf_answer _ _ _ _ _ (wf_finish _ _ _ ht)
  unfold Cmd.run; dsimp only
  repeat' first
    | with_reducible exact reply _ _ h
    | with_reducible exact reply _ _ (he _ h)
    | split

theorem wf_putLink (l : LinkPart) (s : State) (h : Canon s.regs s.latch) : Canon (State.putLink l s).regs (State.putLink l s).latch := by
  unfold State.putLink; try dsimp only
  repeat' first
    | with_reducible assumption
    | (split <;> try dsimp only)
    | (intros; try dsimp only)

theorem wf_discardPartial (s : State) (h : Canon s.regs s.latch) : Canon (State.discardPartial s).regs (State.discardPartial s).latch := by
  unfold State.discardPartial; try dsimp only
  repeat' first
    | with_reducible assumption
    | with_reducible apply wf_putLink
    | (split <;> try dsimp only)
    | (intros; try dsimp only)

theorem wf_dropReply (s : State) (h : Canon s.regs s.latch) : Canon (State.dropReply s).regs (State.dropReply s).latch := by
  unfold State.dropReply; try dsimp only
  repeat' first
    | with_reducible assumption
    | with_reducible apply wf_incSat
    | with_reducible apply wf_putLink
    | (split <;> try dsimp only)
    | (intros; try dsimp only)

theorem wf_mbxClear (s : State) (h : Canon s.regs s.latch) : Canon (State.mbxClear s).regs (State.mbxClear s).latch := by
  unfold State.mbxClear; try dsimp only
  repeat' first
    | with_reducible assumption
    | with_reducible apply wf_addSat
    | with_reducible apply wf_putLink
    | (split <;> try dsimp only)
    | (intros; try dsimp only)

theorem wf_outByte (b : Byte) (s : State) (h : Canon s.regs s.latch) : Canon (State.outByte b s).regs (State.outByte b s).latch := by
  unfold State.outByte; try dsimp only
  repeat' first
    | with_reducible assumption
    | (split <;> try dsimp only)
    | (intros; try dsimp only)

theorem wf_outWord (w : Word) (s : State) (h : Canon s.regs s.latch) : Canon (State.outWord w s).regs (State.outWord w s).latch := by
  unfold State.outWord; try dsimp only
  repeat' first
    | with_reducible assumption
    | (split <;> try dsimp only)
    | (intros; try dsimp only)

theorem wf_mailboxRead (s : State) (h : Canon s.regs s.latch) : Canon (State.mailboxRead s).regs (State.mailboxRead s).latch := by
  unfold State.mailboxRead; try dsimp only
  repeat' first
    | with_reducible assumption
    | with_reducible apply wf_putLink
    | with_reducible apply wf_outByte
    | (split <;> try dsimp only)
    | (intros; try dsimp only)

theorem wf_queueCommand (q : QCmd) (s : State) (h : Canon s.regs s.latch) : Canon (State.queueCommand q s).regs (State.queueCommand q s).latch := by
  unfold State.queueCommand; try dsimp only
  repeat' first
    | with_reducible assumption
    | with_reducible apply wf_putLink
    | (split <;> try dsimp only)
    | (intros; try dsimp only)

theorem ite_elim {α : Type} {c : Prop} [Decidable c] {a b x : α} {q : Prop} (e : (if c then a else b) = x)
    (ha : a = x → q) (hb : b = x → q) : q := by
  by_cases hc : c
  · exact ha (by rw [← e, if_pos hc])
  · exact hb (by rw [← e, if_neg hc])

theorem wf_judge (o : Origin) (bytes : List Byte) (ingress : Nat) (s : State) (h : Canon s.regs s.latch) :
    ∀ t, State.judge o bytes ingress s = .done t → Canon t.regs t.latch := by
  intro t e
  unfold State.judge at e
  dsimp only at e
  have done : ∀ u : State, Canon u.regs u.latch → Judged.done u = .done t → Canon t.regs t.latch :=
    fun u hu e => Judged.done.inj e ▸ hu
  have hd : ∀ b, Canon (State.deliver o false b s).regs (State.deliver o false b s).latch := fun b => wf_deliver _ _ _ _ h
  have hd' : ∀ f b, Canon (State.deliver o false b (State.incSat f s)).regs (State.deliver o false b (State.incSat f s)).latch :=
    fun f b => wf_deliver _ _ _ _ (wf_incSat _ _ h)
  have hw := wf_when (s.fld PWR_STATE.STATE == 1) (State.incSat T1S_DISCARDS.DUSK) s h (fun t ht => wf_incSat _ t ht)
  have hm := wf_incSat MBX_COUNTS.OVERRUNS _ (wf_raise Reg.MBX_EVENTS 1 _ h)
  refine ite_elim e (done _ hw) fun e => ite_elim e (done _ hm) fun e => ite_elim e (done _ h) fun e =>
    ite_elim e (done _ (hd _)) fun e => ite_elim e (done _ (hd' _ _)) fun e => ite_elim e (done _ (hd _)) fun e =>
    ite_elim e (done _ (hd _)) fun e => ite_elim e (done _ (hd _)) fun e => ite_elim e Judged.noConfusion fun e => ?_
  cases hc : s.cached o (BitVec.ofNat 8 (byteAt bytes 2)) (wordAt bytes (4 + half bytes 0)) with
  | some x => rw [hc] at e; exact done _ (hd' _ _) e
  | none =>
    rw [hc] at e
    exact ite_elim e (done _ h) fun e => ite_elim e (done _ (hd' _ _)) (done _ (wf_queueCommand _ _ h))

theorem wf_hold (rank key : Nat) (r : Rec) (s : State) (h : Canon s.regs s.latch) : Canon (State.hold rank key r s).regs (State.hold rank key r s).latch := by
  unfold State.hold; try dsimp only
  repeat' first
    | with_reducible assumption
    | (split <;> try dsimp only)
    | (intros; try dsimp only)

theorem wf_emitStatus (tied : Bool) (r : Rec) (s : State) (h : Canon s.regs s.latch) : Canon (State.emitStatus tied r s).regs (State.emitStatus tied r s).latch := by
  unfold State.emitStatus; try dsimp only
  repeat' first
    | with_reducible assumption
    | with_reducible apply wf_commitOne
    | with_reducible apply wf_hold
    | (split <;> try dsimp only)
    | (intros; try dsimp only)

theorem wf_holdPins (mask : Nat) (s : State) (h : Canon s.regs s.latch) : Canon (State.holdPins mask s).regs (State.holdPins mask s).latch := by
  unfold State.holdPins; try dsimp only
  repeat' first
    | with_reducible assumption
    | (split <;> try dsimp only)
    | (intros; try dsimp only)

theorem wf_outputsOff (s : State) (h : Canon s.regs s.latch) : Canon (State.outputsOff s).regs (State.outputsOff s).latch := by
  unfold State.outputsOff; try dsimp only
  repeat' first
    | with_reducible assumption
    | with_reducible apply wf_setF
    | (split <;> try dsimp only)
    | (intros; try dsimp only)

theorem wf_setSafe (st : Nat) (s : State) (h : Canon s.regs s.latch) : Canon (State.setSafe st s).regs (State.setSafe st s).latch := by
  unfold State.setSafe; try dsimp only
  repeat' first
    | with_reducible assumption
    | with_reducible apply wf_setF
    | (split <;> try dsimp only)
    | (intros; try dsimp only)

theorem wf_recordTrip (cause reason origin tick : Nat) (s : State) (h : Canon s.regs s.latch) : Canon (State.recordTrip cause reason origin tick s).regs (State.recordTrip cause reason origin tick s).latch := by
  unfold State.recordTrip; try dsimp only
  repeat' first
    | with_reducible assumption
    | with_reducible apply wf_setReg
    | (split <;> try dsimp only)
    | (intros; try dsimp only)

theorem wf_safeEvents (cause next : Nat) (s : State) (h : Canon s.regs s.latch) : Canon (State.safeEvents cause next s).regs (State.safeEvents cause next s).latch := by
  unfold State.safeEvents; try dsimp only
  repeat' first
    | with_reducible assumption
    | with_reducible apply wf_incSat
    | with_reducible apply wf_raise
    | (split <;> try dsimp only)
    | (intros; try dsimp only)

theorem wf_latchFault (cause next : Nat) (s : State) (h : Canon s.regs s.latch) : Canon (State.latchFault cause next s).regs (State.latchFault cause next s).latch := by
  unfold State.latchFault; try dsimp only
  repeat' first
    | with_reducible assumption
    | with_reducible apply wf_setF
    | (split <;> try dsimp only)
    | (intros; try dsimp only)

theorem wf_tripPins (next : Nat) (s : State) (h : Canon s.regs s.latch) : Canon (State.tripPins next s).regs (State.tripPins next s).latch := by
  unfold State.tripPins; try dsimp only
  repeat' first
    | with_reducible assumption
    | with_reducible apply wf_holdPins
    | (split <;> try dsimp only)
    | (intros; try dsimp only)

theorem wf_tripCapture (next tick : Nat) (s : State) (h : Canon s.regs s.latch) : Canon (State.tripCapture next tick s).regs (State.tripCapture next tick s).latch := by
  unfold State.tripCapture; try dsimp only
  repeat' first
    | with_reducible assumption
    | with_reducible apply wf_captureTrigger
    | (split <;> try dsimp only)
    | (intros; try dsimp only)

theorem wf_safeEnter (next cause reason origin tick : Nat) (tied : Bool) (s : State) (h : Canon s.regs s.latch) : Canon (State.safeEnter next cause reason origin tick tied s).regs (State.safeEnter next cause reason origin tick tied s).latch := by
  unfold State.safeEnter; try dsimp only
  repeat' first
    | with_reducible assumption
    | with_reducible apply wf_emitStatus
    | with_reducible apply wf_outputsOff
    | with_reducible apply wf_setSafe
    | with_reducible apply wf_recordTrip
    | with_reducible apply wf_safeEvents
    | with_reducible apply wf_latchFault
    | with_reducible apply wf_tripPins
    | with_reducible apply wf_tripCapture
    | (split <;> try dsimp only)
    | (intros; try dsimp only)

theorem wf_safePath (cause reason origin tick : Nat) (tied : Bool) (s : State) (h : Canon s.regs s.latch) : Canon (State.safePath cause reason origin tick tied s).regs (State.safePath cause reason origin tick tied s).latch := by
  unfold State.safePath; try dsimp only
  repeat' first
    | with_reducible assumption
    | with_reducible apply wf_when
    | with_reducible apply wf_incSat
    | with_reducible apply wf_recordTrip
    | with_reducible apply wf_safeEnter
    | (split <;> try dsimp only)
    | (intros; try dsimp only)

theorem wf_machineSafe (n reason tick : Nat) (s : State) (h : Canon s.regs s.latch) : Canon (State.machineSafe n reason tick s).regs (State.machineSafe n reason tick s).latch := by
  unfold State.machineSafe; try dsimp only
  repeat' first
    | with_reducible assumption
    | with_reducible apply wf_incSat
    | with_reducible apply wf_safePath
    | (split <;> try dsimp only)
    | (intros; try dsimp only)

theorem wf_faultSafe (n tick : Nat) (s : State) (h : Canon s.regs s.latch) : Canon (State.faultSafe n tick s).regs (State.faultSafe n tick s).latch := by
  unfold State.faultSafe; try dsimp only
  repeat' first
    | with_reducible assumption
    | with_reducible apply wf_safePath
    | (split <;> try dsimp only)
    | (intros; try dsimp only)

theorem wf_recognizerSafe (cause i reason tick : Nat) (s : State) (h : Canon s.regs s.latch) : Canon (State.recognizerSafe cause i reason tick s).regs (State.recognizerSafe cause i reason tick s).latch := by
  unfold State.recognizerSafe; try dsimp only
  repeat' first
    | with_reducible assumption
    | with_reducible apply wf_incSat
    | with_reducible apply wf_safePath
    | (split <;> try dsimp only)
    | (intros; try dsimp only)

theorem wf_disarmedQuiet (s : State) (h : Canon s.regs s.latch) : Canon (State.disarmedQuiet s).regs (State.disarmedQuiet s).latch := by
  unfold State.disarmedQuiet; try dsimp only
  repeat' first
    | with_reducible assumption
    | with_reducible apply wf_commitOne
    | with_reducible apply wf_setSafe
    | (split <;> try dsimp only)
    | (intros; try dsimp only)

theorem wf_safeRefuse (status lock : Nat) (s : State) (h : Canon s.regs s.latch) : Canon (State.safeRefuse status lock s).regs (State.safeRefuse status lock s).latch := by
  unfold State.safeRefuse; try dsimp only
  repeat' first
    | with_reducible assumption
    | with_reducible apply wf_setF
    | with_reducible apply wf_raise
    | (split <;> try dsimp only)
    | (intros; try dsimp only)

theorem wf_armAccept (seed : Nat) (s : State) (h : Canon s.regs s.latch) : Canon (State.armAccept seed s).regs (State.armAccept seed s).latch := by
  unfold State.armAccept; try dsimp only
  repeat' first
    | with_reducible assumption
    | with_reducible apply wf_setF
    | with_reducible apply wf_setSafe
    | (split <;> try dsimp only)
    | (intros; try dsimp only)

theorem wf_arm (seed : Nat) (s : State) (h : Canon s.regs s.latch) : Canon (State.arm seed s).1.regs (State.arm seed s).1.latch := by
  unfold State.arm; try dsimp only
  repeat' first
    | with_reducible assumption
    | with_reducible apply wf_safeRefuse
    | with_reducible apply wf_armAccept
    | (split <;> try dsimp only)
    | (intros; try dsimp only)

theorem wf_heartbeat (q : Nat) (s : State) (h : Canon s.regs s.latch) : Canon (State.heartbeat q s).1.regs (State.heartbeat q s).1.latch := by
  unfold State.heartbeat; try dsimp only
  repeat' first
    | with_reducible assumption
    | with_reducible apply wf_setF
    | with_reducible apply wf_incSat
    | with_reducible apply wf_setSafe
    | (split <;> try dsimp only)
    | (intros; try dsimp only)

theorem wf_disarm (s : State) (h : Canon s.regs s.latch) : Canon (State.disarm s).regs (State.disarm s).latch := by
  unfold State.disarm; try dsimp only
  repeat' first
    | with_reducible assumption
    | with_reducible apply wf_safePath
    | (split <;> try dsimp only)
    | (intros; try dsimp only)

theorem wf_faultClear (s : State) (h : Canon s.regs s.latch) : Canon (State.faultClear s).1.regs (State.faultClear s).1.latch := by
  unfold State.faultClear; try dsimp only
  repeat' first
    | with_reducible assumption
    | with_reducible apply wf_setF
    | with_reducible apply wf_disarmedQuiet
    | (split <;> try dsimp only)
    | (intros; try dsimp only)

theorem wf_putSafeLevel (w : Word) (s : State) (h : Canon s.regs s.latch) : Canon (State.putSafeLevel w s).regs (State.putSafeLevel w s).latch := by
  unfold State.putSafeLevel; try dsimp only
  repeat' first
    | with_reducible assumption
    | with_reducible apply wf_setF
    | with_reducible apply wf_holdPins
    | (split <;> try dsimp only)
    | (intros; try dsimp only)

theorem wf_putWritable (a : Nat) (w : Word) (s : State) (h : Canon s.regs s.latch) : Canon (State.putWritable a w s).regs (State.putWritable a w s).latch := by
  unfold State.putWritable; try dsimp only
  repeat' first
    | with_reducible assumption
    | with_reducible apply wf_setReg
    | (split <;> try dsimp only)
    | (intros; try dsimp only)

theorem wf_safeConfigApply (p : List Byte) (s : State) (h : Canon s.regs s.latch) : Canon (safeConfigApply p s).regs (safeConfigApply p s).latch := by
  unfold safeConfigApply; try dsimp only
  repeat' first
    | with_reducible assumption
    | with_reducible apply wf_putSafeLevel
    | with_reducible apply wf_putWritable
    | (split <;> try dsimp only)
    | (intros; try dsimp only)

theorem wf_cmdSafeArm (r : Req) (s : State) (h : Canon s.regs s.latch) : Canon (Cmd.effect cmdSafeArm r s).1.regs (Cmd.effect cmdSafeArm r s).1.latch := by
  unfold cmdSafeArm; try dsimp only
  repeat' first
    | with_reducible assumption
    | with_reducible apply wf_armAccept
    | (split <;> try dsimp only)
    | (intros; try dsimp only)

theorem wf_cmdSafeHeartbeat (r : Req) (s : State) (h : Canon s.regs s.latch) : Canon (Cmd.effect cmdSafeHeartbeat r s).1.regs (Cmd.effect cmdSafeHeartbeat r s).1.latch := by
  unfold cmdSafeHeartbeat; try dsimp only
  repeat' first
    | with_reducible assumption
    | with_reducible apply wf_heartbeat
    | (split <;> try dsimp only)
    | (intros; try dsimp only)

theorem wf_heartbeatCommand (r : Req) (s : State) (h : Canon s.regs s.latch) : Canon (heartbeatCommand r s).regs (heartbeatCommand r s).latch := by
  unfold heartbeatCommand; try dsimp only
  repeat' first
    | with_reducible assumption
    | with_reducible apply wf_answer
    | with_reducible apply wf_heartbeat
    | with_reducible apply wf_Cmd_run
    | with_reducible apply wf_cmdSafeHeartbeat
    | (split <;> try dsimp only)
    | (intros; try dsimp only)

theorem wf_cmdSafeDisarm (r : Req) (s : State) (h : Canon s.regs s.latch) : Canon (Cmd.effect cmdSafeDisarm r s).1.regs (Cmd.effect cmdSafeDisarm r s).1.latch := by
  unfold cmdSafeDisarm; try dsimp only
  repeat' first
    | with_reducible assumption
    | with_reducible apply wf_disarm
    | (split <;> try dsimp only)
    | (intros; try dsimp only)

theorem wf_cmdSafeFaultClear (r : Req) (s : State) (h : Canon s.regs s.latch) : Canon (Cmd.effect cmdSafeFaultClear r s).1.regs (Cmd.effect cmdSafeFaultClear r s).1.latch := by
  unfold cmdSafeFaultClear; try dsimp only
  repeat' first
    | with_reducible assumption
    | with_reducible apply wf_faultClear
    | (split <;> try dsimp only)
    | (intros; try dsimp only)

theorem wf_cmdSafeConfig (r : Req) (s : State) (h : Canon s.regs s.latch) : Canon (Cmd.effect cmdSafeConfig r s).1.regs (Cmd.effect cmdSafeConfig r s).1.latch := by
  unfold cmdSafeConfig; try dsimp only
  repeat' first
    | with_reducible assumption
    | with_reducible apply wf_safeConfigApply
    | (split <;> try dsimp only)
    | (intros; try dsimp only)

theorem wf_cmdSafeStatus (r : Req) (s : State) (h : Canon s.regs s.latch) : Canon (Cmd.effect cmdSafeStatus r s).1.regs (Cmd.effect cmdSafeStatus r s).1.latch := by
  unfold cmdSafeStatus; try dsimp only
  repeat' first
    | with_reducible assumption
    | (split <;> try dsimp only)
    | (intros; try dsimp only)

theorem wf_syncDelay (s : State) (h : Canon s.regs s.latch) : Canon (State.syncDelay s).regs (State.syncDelay s).latch := by
  unfold State.syncDelay; try dsimp only
  repeat' first
    | with_reducible assumption
    | with_reducible apply wf_setF
    | (split <;> try dsimp only)
    | (intros; try dsimp only)

theorem wf_ringOnly (r : Rec) (s : State) (h : Canon s.regs s.latch) : Canon (State.ringOnly r s).regs (State.ringOnly r s).latch := by
  unfold State.ringOnly; try dsimp only
  repeat' first
    | with_reducible assumption
    | with_reducible apply wf_when
    | with_reducible apply wf_ringStore
    | (split <;> try dsimp only)
    | (intros; try dsimp only)

theorem wf_mappingChanged (s : State) (h : Canon s.regs s.latch) : Canon (State.mappingChanged s).regs (State.mappingChanged s).latch := by
  unfold State.mappingChanged; try dsimp only
  repeat' first
    | with_reducible assumption
    | with_reducible apply wf_ringOnly
    | (split <;> try dsimp only)
    | (intros; try dsimp only)

theorem wf_putEng (e : EnginePart) (s : State) (h : Canon s.regs s.latch) : Canon (State.putEng e s).regs (State.putEng e s).latch := by
  unfold State.putEng; try dsimp only
  repeat' first
    | with_reducible assumption
    | (split <;> try dsimp only)
    | (intros; try dsimp only)

theorem wf_setMach (n : Nat) (f : Mach → Mach) (s : State) (h : Canon s.regs s.latch) : Canon (State.setMach n f s).regs (State.setMach n f s).latch := by
  unfold State.setMach; try dsimp only
  repeat' first
    | with_reducible assumption
    | with_reducible apply wf_putEng
    | (split <;> try dsimp only)
    | (intros; try dsimp only)

theorem wf_emBit (a n : Nat) (b : Bool) (s : State) (h : Canon s.regs s.latch) : Canon (State.emBit a n b s).regs (State.emBit a n b s).latch := by
  unfold State.emBit; try dsimp only
  repeat' first
    | with_reducible assumption
    | with_reducible apply wf_setF
    | (split <;> try dsimp only)
    | (intros; try dsimp only)

theorem wf_setMachState (n st : Nat) (s : State) (h : Canon s.regs s.latch) : Canon (State.setMachState n st s).regs (State.setMachState n st s).latch := by
  unfold State.setMachState; try dsimp only
  repeat' first
    | with_reducible assumption
    | with_reducible apply wf_setMach
    | with_reducible apply wf_emBit
    | (split <;> try dsimp only)
    | (intros; try dsimp only)

theorem wf_setTick (t : Nat) (f : EngTick → EngTick) (s : State) (h : Canon s.regs s.latch) : Canon (State.setTick t f s).regs (State.setTick t f s).latch := by
  unfold State.setTick; try dsimp only
  repeat' first
    | with_reducible assumption
    | with_reducible apply wf_putEng
    | (split <;> try dsimp only)
    | (intros; try dsimp only)

theorem wf_falsestopMarks (s : State) (h : Canon s.regs s.latch) : Canon (State.falsestopMarks s).regs (State.falsestopMarks s).latch := by
  unfold State.falsestopMarks; try dsimp only
  repeat' first
    | with_reducible assumption
    | with_reducible apply wf_incSat
    | with_reducible apply wf_raise
    | (split <;> try dsimp only)
    | (intros; try dsimp only)

theorem wf_falsestopHeld (key origin action detail tick addr : Nat) (value : Word) (s : State) (h : Canon s.regs s.latch) : Canon (State.falsestopHeld key origin action detail tick addr value s).regs (State.falsestopHeld key origin action detail tick addr value s).latch := by
  unfold State.falsestopHeld; try dsimp only
  repeat' first
    | with_reducible assumption
    | with_reducible apply wf_hold
    | with_reducible apply wf_falsestopMarks
    | (split <;> try dsimp only)
    | (intros; try dsimp only)

theorem wf_falsestopNow (origin action detail tick addr : Nat) (value : Word) (s : State) (h : Canon s.regs s.latch) : Canon (State.falsestopNow origin action detail tick addr value s).regs (State.falsestopNow origin action detail tick addr value s).latch := by
  unfold State.falsestopNow; try dsimp only
  repeat' first
    | with_reducible assumption
    | with_reducible apply wf_commitOne
    | with_reducible apply wf_falsestopMarks
    | (split <;> try dsimp only)
    | (intros; try dsimp only)

theorem wf_setPio (k : Nat) (f : PioEngine → PioEngine) (s : State) (h : Canon s.regs s.latch) : Canon (State.setPio k f s).regs (State.setPio k f s).latch := by
  unfold State.setPio; try dsimp only
  repeat' first
    | with_reducible assumption
    | (split <;> try dsimp only)
    | (intros; try dsimp only)

theorem wf_putMport (k : Nat) (w : Word) (s : State) (h : Canon s.regs s.latch) : Canon (State.putMport k w s).regs (State.putMport k w s).latch := by
  unfold State.putMport; try dsimp only
  repeat' first
    | with_reducible assumption
    | with_reducible apply wf_setPio
    | (split <;> try dsimp only)
    | (intros; try dsimp only)

theorem wf_reportActs (n : Nat) (report : Bool) (s : State) (h : Canon s.regs s.latch) : Canon (State.reportActs n report s).regs (State.reportActs n report s).latch := by
  unfold State.reportActs; try dsimp only
  repeat' first
    | with_reducible assumption
    | with_reducible apply wf_each
    | with_reducible apply wf_setMach
    | with_reducible apply wf_falsestopNow
    | (split <;> try dsimp only)
    | (intros; try dsimp only)

theorem wf_stopMach (n : Nat) (report : Bool) (s : State) (h : Canon s.regs s.latch) : Canon (State.stopMach n report s).regs (State.stopMach n report s).latch := by
  unfold State.stopMach; try dsimp only
  repeat' first
    | with_reducible assumption
    | with_reducible apply wf_setMach
    | with_reducible apply wf_emBit
    | with_reducible apply wf_setMachState
    | with_reducible apply wf_reportActs
    | (split <;> try dsimp only)
    | (intros; try dsimp only)

theorem wf_machFault (n code addr tick : Nat) (s : State) (h : Canon s.regs s.latch) : Canon (State.machFault n code addr tick s).regs (State.machFault n code addr tick s).latch := by
  unfold State.machFault; try dsimp only
  repeat' first
    | with_reducible assumption
    | with_reducible apply wf_when
    | with_reducible apply wf_raise
    | with_reducible apply wf_hold
    | with_reducible apply wf_faultSafe
    | with_reducible apply wf_setMach
    | with_reducible apply wf_setMachState
    | with_reducible apply wf_stopMach
    | (split <;> try dsimp only)
    | (intros; try dsimp only)

theorem wf_fallback (n reason : Nat) (r : OpenRun) (s : State) (h : Canon s.regs s.latch) : Canon (State.fallback n reason r s).regs (State.fallback n reason r s).latch := by
  unfold State.fallback; try dsimp only
  repeat' first
    | with_reducible assumption
    | with_reducible apply wf_when
    | with_reducible apply wf_incSat
    | with_reducible apply wf_raise
    | with_reducible apply wf_hold
    | with_reducible apply wf_setMach
    | with_reducible apply wf_emBit
    | (split <;> try dsimp only)
    | (intros; try dsimp only)

theorem wf_perform (n tick : Nat) (basis : Bool) (e : Effect) (s : State) (h : Canon s.regs s.latch) : Canon (State.perform n tick basis e s).regs (State.perform n tick basis e s).latch := by
  unfold State.perform; try dsimp only
  repeat' first
    | with_reducible assumption
    | with_reducible apply wf_post
    | with_reducible apply wf_raise
    | with_reducible apply wf_captureTrigger
    | with_reducible apply wf_hold
    | with_reducible apply wf_machineSafe
    | with_reducible apply wf_emBit
    | with_reducible apply wf_putMport
    | with_reducible apply wf_stopMach
    | (split <;> try dsimp only)
    | (intros; try dsimp only)

theorem wf_outNow (n : Nat) (r : OpenRun) (addr : Nat) (basis : Bool) (e : Effect) (s : State) (h : Canon s.regs s.latch) : Canon (State.outNow n r addr basis e s).regs (State.outNow n r addr basis e s).latch := by
  unfold State.outNow; try dsimp only
  repeat' first
    | with_reducible assumption
    | with_reducible apply wf_perform
    | (split <;> try dsimp only)
    | (intros; try dsimp only)

theorem wf_outSpecAct (n : Nat) (r : OpenRun) (addr : Nat) (e : Effect) (s : State) (h : Canon s.regs s.latch) : Canon (State.outSpecAct n r addr e s).regs (State.outSpecAct n r addr e s).latch := by
  unfold State.outSpecAct; try dsimp only
  repeat' first
    | with_reducible assumption
    | with_reducible apply wf_setMach
    | with_reducible apply wf_perform
    | (split <;> try dsimp only)
    | (intros; try dsimp only)

theorem wf_poolPeak (s : State) (h : Canon s.regs s.latch) : Canon (State.poolPeak s).regs (State.poolPeak s).latch := by
  unfold State.poolPeak; try dsimp only
  repeat' first
    | with_reducible assumption
    | with_reducible apply wf_maxF
    | (split <;> try dsimp only)
    | (intros; try dsimp only)

theorem wf_decideActs (n tick : Nat) (tr : List TraceEntry) (s : State) (h : Canon s.regs s.latch) : Canon (State.decideActs n tick tr s).regs (State.decideActs n tick tr s).latch := by
  unfold State.decideActs; try dsimp only
  repeat' first
    | with_reducible assumption
    | with_reducible apply wf_when
    | with_reducible apply wf_each
    | with_reducible apply wf_setMach
    | with_reducible apply wf_falsestopHeld
    | (split <;> try dsimp only)
    | (intros; try dsimp only)

theorem wf_endRun (n : Nat) (r : OpenRun) (after : MState) (halted : Bool) (s : State) (h : Canon s.regs s.latch) : Canon (State.endRun n r after halted s).regs (State.endRun n r after halted s).latch := by
  unfold State.endRun; try dsimp only
  repeat' first
    | with_reducible assumption
    | with_reducible apply wf_when
    | with_reducible apply wf_setMach
    | with_reducible apply wf_stopMach
    | with_reducible apply wf_decideActs
    | (split <;> try dsimp only)
    | (intros; try dsimp only)

theorem wf_advance (n : Nat) (r : OpenRun) (pc : Nat) (s : State) (h : Canon s.regs s.latch) : Canon (State.advance n r pc s).regs (State.advance n r pc s).latch := by
  unfold State.advance; try dsimp only
  repeat' first
    | with_reducible assumption
    | with_reducible apply wf_setMach
    | with_reducible apply wf_machFault
    | (split <;> try dsimp only)
    | (intros; try dsimp only)

theorem wf_output (n addr : Nat) (r : OpenRun) (tr : List TraceEntry) (e : Effect) (s : State) (h : Canon s.regs s.latch) : Canon (State.output n addr r tr e s).regs (State.output n addr r tr e s).latch := by
  unfold State.output; try dsimp only
  repeat' first
    | with_reducible assumption
    | with_reducible apply wf_fallback
    | with_reducible apply wf_outNow
    | with_reducible apply wf_outSpecAct
    | with_reducible apply wf_endRun
    | with_reducible apply wf_advance
    | (split <;> try dsimp only)
    | (intros; try dsimp only)

theorem wf_runWord (n : Nat) (w : Word) (s : State) (h : Canon s.regs s.latch) : Canon (State.runWord n w s).regs (State.runWord n w s).latch := by
  unfold State.runWord; try dsimp only
  repeat' first
    | with_reducible assumption
    | with_reducible apply wf_fallback
    | with_reducible apply wf_poolPeak
    | with_reducible apply wf_endRun
    | with_reducible apply wf_advance
    | with_reducible apply wf_output
    | (split <;> try dsimp only)
    | (intros; try dsimp only)

theorem wf_fetchStep (n : Nat) (s : State) (h : Canon s.regs s.latch) : Canon (State.fetchStep n s).regs (State.fetchStep n s).latch := by
  unfold State.fetchStep; try dsimp only
  repeat' first
    | with_reducible assumption
    | with_reducible apply wf_machFault
    | with_reducible apply wf_runWord
    | (split <;> try dsimp only)
    | (intros; try dsimp only)

theorem wf_finishRun (n : Nat) : ∀ (k : Nat) (s : State), Canon s.regs s.latch → Canon (s.finishRun n k).regs (s.finishRun n k).latch
  | 0, _, h => h
  | k + 1, s, h => by
    unfold State.finishRun; split
    · exact wf_finishRun n k _ (wf_fetchStep n s h)
    · exact h

theorem wf_endOpen (n : Nat) (s : State) (h : Canon s.regs s.latch) : Canon (State.endOpen n s).regs (State.endOpen n s).latch := by
  unfold State.endOpen; try dsimp only
  repeat' first
    | with_reducible assumption
    | with_reducible apply wf_finishRun
    | (split <;> try dsimp only)
    | (intros; try dsimp only)

theorem wf_endAll (s : State) (h : Canon s.regs s.latch) : Canon (State.endAll s).regs (State.endAll s).latch := by
  unfold State.endAll; try dsimp only
  repeat' first
    | with_reducible assumption
    | with_reducible apply wf_forUpTo
    | with_reducible apply wf_endOpen
    | (split <;> try dsimp only)
    | (intros; try dsimp only)

theorem wf_openNext (n : Nat) (s : State) (h : Canon s.regs s.latch) : Canon (State.openNext n s).regs (State.openNext n s).latch := by
  unfold State.openNext; try dsimp only
  repeat' first
    | with_reducible assumption
    | with_reducible apply wf_setMach
    | (split <;> try dsimp only)
    | (intros; try dsimp only)

theorem wf_catchUp (n t : Nat) : ∀ (k : Nat) (s : State), Canon s.regs s.latch → Canon (s.catchUp n t k).regs (s.catchUp n t k).latch
  | 0, _, h => h
  | k + 1, s, h => by
    have ho := wf_endOpen n s h
    unfold State.catchUp; dsimp only; split
    · exact ho
    · split
      · exact wf_catchUp n t k _ (wf_endOpen _ _ (wf_openNext _ _ ho))
      · exact ho

theorem wf_performHeld (n tick : Nat) (basis : Bool) (acts : List SpecAct) (outs : List Output) (s : State) (h : Canon s.regs s.latch) : Canon (State.performHeld n tick basis acts outs s).regs (State.performHeld n tick basis acts outs s).latch := by
  unfold State.performHeld; try dsimp only
  repeat' first
    | with_reducible assumption
    | with_reducible apply wf_each
    | with_reducible apply wf_perform
    | (split <;> try dsimp only)
    | (intros; try dsimp only)

theorem wf_confirmRun (n : Nat) (rr : RunRec) (basis : Bool) (outs : List Output) (s : State) (h : Canon s.regs s.latch) : Canon (State.confirmRun n rr basis outs s).regs (State.confirmRun n rr basis outs s).latch := by
  unfold State.confirmRun; try dsimp only
  repeat' first
    | with_reducible assumption
    | with_reducible apply wf_setMach
    | with_reducible apply wf_decideActs
    | with_reducible apply wf_performHeld
    | (split <;> try dsimp only)
    | (intros; try dsimp only)

theorem wf_specLast (tick origin addr : Nat) (s : State) (h : Canon s.regs s.latch) : Canon (State.specLast tick origin addr s).regs (State.specLast tick origin addr s).latch := by
  unfold State.specLast; try dsimp only
  repeat' first
    | with_reducible assumption
    | with_reducible apply wf_setReg
    | (split <;> try dsimp only)
    | (intros; try dsimp only)

theorem wf_refute (n : Nat) (rr : RunRec) (addr : Nat) (s : State) (h : Canon s.regs s.latch) : Canon (State.refute n rr addr s).regs (State.refute n rr addr s).latch := by
  unfold State.refute; try dsimp only
  repeat' first
    | with_reducible assumption
    | with_reducible apply wf_incSat
    | with_reducible apply wf_setMach
    | with_reducible apply wf_openNext
    | with_reducible apply wf_specLast
    | (split <;> try dsimp only)
    | (intros; try dsimp only)

theorem wf_resolveMach (n : Nat) (e : EngTick) (s : State) (h : Canon s.regs s.latch) : Canon (State.resolveMach n e s).regs (State.resolveMach n e s).latch := by
  unfold State.resolveMach; try dsimp only
  repeat' first
    | with_reducible assumption
    | with_reducible apply wf_incSat
    | with_reducible apply wf_openNext
    | with_reducible apply wf_confirmRun
    | with_reducible apply wf_refute
    | (split <;> try dsimp only)
    | (intros; try dsimp only)

theorem wf_voidMach (n : Nat) (e : EngTick) (s : State) (h : Canon s.regs s.latch) : Canon (State.voidMach n e s).regs (State.voidMach n e s).latch := by
  unfold State.voidMach; try dsimp only
  repeat' first
    | with_reducible assumption
    | with_reducible apply wf_confirmRun
    | (split <;> try dsimp only)
    | (intros; try dsimp only)

theorem wf_pruneTicks (s : State) (h : Canon s.regs s.latch) : Canon (State.pruneTicks s).regs (State.pruneTicks s).latch := by
  unfold State.pruneTicks; try dsimp only
  repeat' first
    | with_reducible assumption
    | with_reducible apply wf_putEng
    | (split <;> try dsimp only)
    | (intros; try dsimp only)

theorem wf_grantRecs (n : Nat) (s : State) (h : Canon s.regs s.latch) : Canon (State.grantRecs n s).1.regs (State.grantRecs n s).1.latch := by
  unfold State.grantRecs; try dsimp only
  repeat' first
    | with_reducible assumption
    | with_reducible apply wf_addSat
    | with_reducible apply wf_raise
    | (split <;> try dsimp only)
    | (intros; try dsimp only)

theorem wf_specRequest (cfg : RecCfg) (i t : Nat) (req : Option (Nat × Nat)) (s : State) (h : Canon s.regs s.latch) : Canon (State.specRequest cfg i t req s).regs (State.specRequest cfg i t req s).latch := by
  unfold State.specRequest; try dsimp only
  repeat' first
    | with_reducible assumption
    | with_reducible apply wf_recognizerSafe
    | with_reducible apply wf_putEng
    | (split <;> try dsimp only)
    | (intros; try dsimp only)

theorem wf_putSpec (cfg : RecCfg) (i t : Nat) (x : Dec × RecDone) (s : State) (h : Canon s.regs s.latch) : Canon (State.putSpec cfg i t x s).regs (State.putSpec cfg i t x s).latch := by
  unfold State.putSpec; try dsimp only
  repeat' first
    | with_reducible assumption
    | with_reducible apply wf_putEng
    | with_reducible apply wf_setTick
    | with_reducible apply wf_poolPeak
    | with_reducible apply wf_grantRecs
    | with_reducible apply wf_specRequest
    | (split <;> try dsimp only)
    | (intros; try dsimp only)

theorem wf_finishDue (i t : Nat) (s : State) (h : Canon s.regs s.latch) : Canon (State.finishDue i t s).regs (State.finishDue i t s).latch := by
  unfold State.finishDue; try dsimp only
  repeat' first
    | with_reducible assumption
    | with_reducible apply wf_setTick
    | with_reducible apply wf_putSpec
    | (split <;> try dsimp only)
    | (intros; try dsimp only)

theorem wf_finishAllDue (s : State) (h : Canon s.regs s.latch) : Canon (State.finishAllDue s).regs (State.finishAllDue s).latch := by
  unfold State.finishAllDue; try dsimp only
  repeat' first
    | with_reducible assumption
    | with_reducible apply wf_forUpTo
    | with_reducible apply wf_finishDue
    | (split <;> try dsimp only)
    | (intros; try dsimp only)

theorem wf_evalSpec (t : Nat) (now : Bool) (s : State) (h : Canon s.regs s.latch) : Canon (State.evalSpec t now s).regs (State.evalSpec t now s).latch := by
  unfold State.evalSpec; try dsimp only
  repeat' first
    | with_reducible assumption
    | with_reducible apply wf_forUpTo
    | with_reducible apply wf_putSpec
    | (split <;> try dsimp only)
    | (intros; try dsimp only)

theorem wf_applyCfg (t : Nat) (s : State) (h : Canon s.regs s.latch) : Canon (State.applyCfg t s).regs (State.applyCfg t s).latch := by
  unfold State.applyCfg; try dsimp only
  repeat' first
    | with_reducible assumption
    | with_reducible apply wf_each
    | with_reducible apply wf_putEng
    | with_reducible apply wf_falsestopNow
    | (split <;> try dsimp only)
    | (intros; try dsimp only)

theorem wf_recSettle (cfg : RecCfg) (i t : Nat) (basis : Bool) (x : Dec × RecDone) (s : State) (h : Canon s.regs s.latch) : Canon (State.recSettle cfg i t basis x s).regs (State.recSettle cfg i t basis x s).latch := by
  unfold State.recSettle; try dsimp only
  repeat' first
    | with_reducible assumption
    | with_reducible apply wf_when
    | with_reducible apply wf_setReg
    | with_reducible apply wf_setF
    | with_reducible apply wf_raise
    | with_reducible apply wf_each
    | with_reducible apply wf_hold
    | with_reducible apply wf_putEng
    | (split <;> try dsimp only)
    | (intros; try dsimp only)

theorem wf_recDecide (i t : Nat) (basis : Bool) (req : Option (Nat × Nat)) (s : State) (h : Canon s.regs s.latch) : Canon (State.recDecide i t basis req s).regs (State.recDecide i t basis req s).latch := by
  unfold State.recDecide; try dsimp only
  repeat' first
    | with_reducible assumption
    | with_reducible apply wf_recognizerSafe
    | with_reducible apply wf_putEng
    | with_reducible apply wf_falsestopHeld
    | (split <;> try dsimp only)
    | (intros; try dsimp only)

theorem wf_replayRecs (t : Nat) (s : State) (h : Canon s.regs s.latch) : Canon (State.replayRecs t s).regs (State.replayRecs t s).latch := by
  unfold State.replayRecs; try dsimp only
  repeat' first
    | with_reducible assumption
    | with_reducible apply wf_each
    | with_reducible apply wf_setTick
    | with_reducible apply wf_evalSpec
    | (split <;> try dsimp only)
    | (intros; try dsimp only)

theorem wf_resolveRecs (e : EngTick) (f : Fused) (s : State) (h : Canon s.regs s.latch) : Canon (State.resolveRecs e f s).regs (State.resolveRecs e f s).latch := by
  unfold State.resolveRecs; try dsimp only
  repeat' first
    | with_reducible assumption
    | with_reducible apply wf_incSat
    | with_reducible apply wf_forUpTo
    | with_reducible apply wf_putEng
    | with_reducible apply wf_setTick
    | with_reducible apply wf_specLast
    | with_reducible apply wf_recSettle
    | with_reducible apply wf_recDecide
    | with_reducible apply wf_replayRecs
    | (split <;> try dsimp only)
    | (intros; try dsimp only)

theorem wf_voidRecs (e : EngTick) (s : State) (h : Canon s.regs s.latch) : Canon (State.voidRecs e s).regs (State.voidRecs e s).latch := by
  unfold State.voidRecs; try dsimp only
  repeat' first
    | with_reducible assumption
    | with_reducible apply wf_forUpTo
    | with_reducible apply wf_setTick
    | with_reducible apply wf_recSettle
    | with_reducible apply wf_recDecide
    | (split <;> try dsimp only)
    | (intros; try dsimp only)

theorem wf_voidTick (t : Nat) (s : State) (h : Canon s.regs s.latch) : Canon (State.voidTick t s).regs (State.voidTick t s).latch := by
  unfold State.voidTick; try dsimp only
  repeat' first
    | with_reducible assumption
    | with_reducible apply wf_forUpTo
    | with_reducible apply wf_setTick
    | with_reducible apply wf_endAll
    | with_reducible apply wf_voidMach
    | with_reducible apply wf_finishAllDue
    | with_reducible apply wf_voidRecs
    | (split <;> try dsimp only)
    | (intros; try dsimp only)

theorem wf_resolveVoids : ∀ (k : Nat) (s : State), Canon s.regs s.latch → Canon (s.resolveVoids k).regs (s.resolveVoids k).latch
  | 0, _, h => h
  | k + 1, s, h => by
    unfold State.resolveVoids; split
    · split
      · exact wf_resolveVoids k _ (wf_voidTick _ _ h)
      · exact h
    · exact h

theorem wf_voidWhere (p : Nat → Bool) (s : State) (h : Canon s.regs s.latch) : Canon (State.voidWhere p s).regs (State.voidWhere p s).latch := by
  unfold State.voidWhere; try dsimp only
  repeat' first
    | with_reducible assumption
    | with_reducible apply wf_putEng
    | with_reducible apply wf_pruneTicks
    | with_reducible apply wf_resolveVoids
    | (split <;> try dsimp only)
    | (intros; try dsimp only)

theorem wf_putArray (a : ArrayPart) (s : State) (h : Canon s.regs s.latch) : Canon (State.putArray a s).regs (State.putArray a s).latch := by
  unfold State.putArray; try dsimp only
  repeat' first
    | with_reducible assumption
    | (split <;> try dsimp only)
    | (intros; try dsimp only)

theorem wf_setTriad (k : Nat) (f : Triad → Triad) (s : State) (h : Canon s.regs s.latch) : Canon (State.setTriad k f s).regs (State.setTriad k f s).latch := by
  unfold State.setTriad; try dsimp only
  repeat' first
    | with_reducible assumption
    | with_reducible apply wf_putArray
    | (split <;> try dsimp only)
    | (intros; try dsimp only)

theorem wf_setChan (c : Nat) (f : Chan → Chan) (s : State) (h : Canon s.regs s.latch) : Canon (State.setChan c f s).regs (State.setChan c f s).latch := by
  unfold State.setChan; try dsimp only
  repeat' first
    | with_reducible assumption
    | with_reducible apply wf_putArray
    | (split <;> try dsimp only)
    | (intros; try dsimp only)

theorem wf_triadHealth (kind k at_ tick detail : Nat) (s : State) (h : Canon s.regs s.latch) : Canon (State.triadHealth kind k at_ tick detail s).regs (State.triadHealth kind k at_ tick detail s).latch := by
  unfold State.triadHealth; try dsimp only
  repeat' first
    | with_reducible assumption
    | (split <;> try dsimp only)
    | (intros; try dsimp only)

theorem wf_settlingRecord (v : Settling) (resume preset : Nat) (s : State) (h : Canon s.regs s.latch) : Canon (State.settlingRecord v resume preset s).regs (State.settlingRecord v resume preset s).latch := by
  unfold State.settlingRecord; try dsimp only
  repeat' first
    | with_reducible assumption
    | with_reducible apply wf_raise
    | with_reducible apply wf_commitOne
    | with_reducible apply wf_voidWhere
    | (split <;> try dsimp only)
    | (intros; try dsimp only)

theorem wf_settleResume (resume preset : Nat) (s : State) (h : Canon s.regs s.latch) : Canon (State.settleResume resume preset s).regs (State.settleResume resume preset s).latch := by
  unfold State.settleResume; try dsimp only
  repeat' first
    | with_reducible assumption
    | with_reducible apply wf_settlingRecord
    | (split <;> try dsimp only)
    | (intros; try dsimp only)

theorem wf_settleAtLock (s : State) (h : Canon s.regs s.latch) : Canon (State.settleAtLock s).regs (State.settleAtLock s).latch := by
  unfold State.settleAtLock; try dsimp only
  repeat' first
    | with_reducible assumption
    | with_reducible apply wf_settleResume
    | (split <;> try dsimp only)
    | (intros; try dsimp only)

theorem wf_syncDriveFault (s : State) (h : Canon s.regs s.latch) : Canon (State.syncDriveFault s).regs (State.syncDriveFault s).latch := by
  unfold State.syncDriveFault; try dsimp only
  repeat' first
    | with_reducible assumption
    | with_reducible apply wf_setF
    | (split <;> try dsimp only)
    | (intros; try dsimp only)

theorem wf_setLock (k : Nat) (on_ : Bool) (s : State) (h : Canon s.regs s.latch) : Canon (State.setLock k on_ s).regs (State.setLock k on_ s).latch := by
  unfold State.setLock; try dsimp only
  repeat' first
    | with_reducible assumption
    | with_reducible apply wf_setF
    | (split <;> try dsimp only)
    | (intros; try dsimp only)

theorem wf_syncUncomp (s : State) (h : Canon s.regs s.latch) : Canon (State.syncUncomp s).regs (State.syncUncomp s).latch := by
  unfold State.syncUncomp; try dsimp only
  repeat' first
    | with_reducible assumption
    | with_reducible apply wf_setF
    | (split <;> try dsimp only)
    | (intros; try dsimp only)

theorem wf_freshTemp (d : Nat) (s : State) (h : Canon s.regs s.latch) : Canon (State.freshTemp d s).regs (State.freshTemp d s).latch := by
  unfold State.freshTemp; try dsimp only
  repeat' first
    | with_reducible assumption
    | with_reducible apply wf_putArray
    | with_reducible apply wf_syncUncomp
    | (split <;> try dsimp only)
    | (intros; try dsimp only)

theorem wf_requestProfile (p : Nat) (s : State) (h : Canon s.regs s.latch) : Canon (State.requestProfile p s).regs (State.requestProfile p s).latch := by
  unfold State.requestProfile; try dsimp only
  repeat' first
    | with_reducible assumption
    | with_reducible apply wf_setF
    | with_reducible apply wf_putArray
    | (split <;> try dsimp only)
    | (intros; try dsimp only)

theorem wf_startTriad (k : Nat) (s : State) (h : Canon s.regs s.latch) : Canon (State.startTriad k s).regs (State.startTriad k s).latch := by
  unfold State.startTriad; try dsimp only
  repeat' first
    | with_reducible assumption
    | with_reducible apply wf_setTriad
    | (split <;> try dsimp only)
    | (intros; try dsimp only)

theorem wf_parkTriad (t k : Nat) (s : State) (h : Canon s.regs s.latch) : Canon (State.parkTriad t k s).regs (State.parkTriad t k s).latch := by
  unfold State.parkTriad; try dsimp only
  repeat' first
    | with_reducible assumption
    | with_reducible apply wf_incSat
    | with_reducible apply wf_raise
    | with_reducible apply wf_setTriad
    | with_reducible apply wf_triadHealth
    | with_reducible apply wf_syncDriveFault
    | with_reducible apply wf_setLock
    | (split <;> try dsimp only)
    | (intros; try dsimp only)

theorem wf_profileTriad (p t k : Nat) (s : State) (h : Canon s.regs s.latch) : Canon (State.profileTriad p t k s).regs (State.profileTriad p t k s).latch := by
  unfold State.profileTriad; try dsimp only
  repeat' first
    | with_reducible assumption
    | with_reducible apply wf_putArray
    | with_reducible apply wf_setTriad
    | with_reducible apply wf_startTriad
    | with_reducible apply wf_parkTriad
    | (split <;> try dsimp only)
    | (intros; try dsimp only)

theorem wf_profileDone (s : State) (h : Canon s.regs s.latch) : Canon (State.profileDone s).regs (State.profileDone s).latch := by
  unfold State.profileDone; try dsimp only
  repeat' first
    | with_reducible assumption
    | with_reducible apply wf_setF
    | with_reducible apply wf_putArray
    | (split <;> try dsimp only)
    | (intros; try dsimp only)

theorem wf_testReport (k code : Nat) (s : State) (h : Canon s.regs s.latch) : Canon (State.testReport k code s).regs (State.testReport k code s).latch := by
  unfold State.testReport; try dsimp only
  repeat' first
    | with_reducible assumption
    | with_reducible apply wf_raise
    | with_reducible apply wf_putArray
    | with_reducible apply wf_triadHealth
    | (split <;> try dsimp only)
    | (intros; try dsimp only)

theorem wf_testNext (branch : Nat) :
    ∀ (ks : List Nat) (s : State), Canon s.regs s.latch → Canon (s.testNext branch ks).regs (s.testNext branch ks).latch
  | [], s, h => by
    unfold State.testNext; split
    · exact wf_putArray _ _ h
    · exact h
  | k :: rest, s, h => by
    unfold State.testNext; split
    · exact wf_testNext branch rest _ (wf_testReport _ _ _ h)
    · split
      · exact wf_setTriad _ _ _ (wf_putArray _ _ h)
      · exact h

theorem wf_testEnd (s : State) (h : Canon s.regs s.latch) : Canon (State.testEnd s).regs (State.testEnd s).latch := by
  unfold State.testEnd; try dsimp only
  repeat' first
    | with_reducible assumption
    | with_reducible apply wf_setF
    | with_reducible apply wf_raise
    | with_reducible apply wf_putArray
    | (split <;> try dsimp only)
    | (intros; try dsimp only)

theorem wf_testStart (reinstate : Bool) (die : Option Nat) (queues : List (List Nat)) (s : State) (h : Canon s.regs s.latch) : Canon (State.testStart reinstate die queues s).regs (State.testStart reinstate die queues s).latch := by
  unfold State.testStart; try dsimp only
  repeat' first
    | with_reducible assumption
    | with_reducible apply wf_setF
    | with_reducible apply wf_forUpTo
    | with_reducible apply wf_putArray
    | with_reducible apply wf_testNext
    | with_reducible apply wf_testEnd
    | (split <;> try dsimp only)
    | (intros; try dsimp only)

theorem wf_dieRestored (d : Nat) (s : State) (h : Canon s.regs s.latch) : Canon (State.dieRestored d s).regs (State.dieRestored d s).latch := by
  unfold State.dieRestored; try dsimp only
  repeat' first
    | with_reducible assumption
    | with_reducible apply wf_setF
    | (split <;> try dsimp only)
    | (intros; try dsimp only)

theorem wf_reinstateTriad (k : Nat) (s : State) (h : Canon s.regs s.latch) : Canon (State.reinstateTriad k s).regs (State.reinstateTriad k s).latch := by
  unfold State.reinstateTriad; try dsimp only
  repeat' first
    | with_reducible assumption
    | with_reducible apply wf_forUpTo
    | with_reducible apply wf_setTriad
    | with_reducible apply wf_setChan
    | with_reducible apply wf_startTriad
    | with_reducible apply wf_dieRestored
    | (split <;> try dsimp only)
    | (intros; try dsimp only)

theorem wf_testReturn (k : Nat) (s : State) (h : Canon s.regs s.latch) : Canon (State.testReturn k s).regs (State.testReturn k s).latch := by
  unfold State.testReturn; try dsimp only
  repeat' first
    | with_reducible assumption
    | with_reducible apply wf_setTriad
    | with_reducible apply wf_startTriad
    | (split <;> try dsimp only)
    | (intros; try dsimp only)

theorem wf_finishTest (k code : Nat) (s : State) (h : Canon s.regs s.latch) : Canon (finishTest k code s).regs (finishTest k code s).latch := by
  unfold finishTest; try dsimp only
  repeat' first
    | with_reducible assumption
    | with_reducible apply wf_putArray
    | with_reducible apply wf_setTriad
    | with_reducible apply wf_testReport
    | with_reducible apply wf_testNext
    | with_reducible apply wf_testEnd
    | with_reducible apply wf_reinstateTriad
    | with_reducible apply wf_testReturn
    | (split <;> try dsimp only)
    | (intros; try dsimp only)

theorem wf_cmdSelftest (r : Req) (s : State) (h : Canon s.regs s.latch) : Canon (Cmd.effect cmdSelftest r s).1.regs (Cmd.effect cmdSelftest r s).1.latch := by
  unfold cmdSelftest; try dsimp only
  repeat' first
    | with_reducible assumption
    | with_reducible apply wf_testStart
    | (split <;> try dsimp only)
    | (intros; try dsimp only)

theorem wf_cmdReinstate (r : Req) (s : State) (h : Canon s.regs s.latch) : Canon (Cmd.effect cmdReinstate r s).1.regs (Cmd.effect cmdReinstate r s).1.latch := by
  unfold cmdReinstate; try dsimp only
  repeat' first
    | with_reducible assumption
    | with_reducible apply wf_testStart
    | (split <;> try dsimp only)
    | (intros; try dsimp only)

theorem wf_abortDiag (s : State) (h : Canon s.regs s.latch) : Canon (State.abortDiag s).regs (State.abortDiag s).latch := by
  unfold State.abortDiag; try dsimp only
  repeat' first
    | with_reducible assumption
    | with_reducible apply wf_each
    | with_reducible apply wf_putArray
    | with_reducible apply wf_testReport
    | with_reducible apply wf_testEnd
    | with_reducible apply wf_testReturn
    | (split <;> try dsimp only)
    | (intros; try dsimp only)

theorem wf_cmdSetProfile (r : Req) (s : State) (h : Canon s.regs s.latch) : Canon (Cmd.effect cmdSetProfile r s).1.regs (Cmd.effect cmdSetProfile r s).1.latch := by
  unfold cmdSetProfile; try dsimp only
  repeat' first
    | with_reducible assumption
    | with_reducible apply wf_requestProfile
    | (split <;> try dsimp only)
    | (intros; try dsimp only)

theorem wf_putRange (f : Fld) (code : Nat) (s : State) (h : Canon s.regs s.latch) : Canon (putRange f code s).regs (putRange f code s).latch := by
  unfold putRange; try dsimp only
  repeat' first
    | with_reducible assumption
    | with_reducible apply wf_setF
    | (split <;> try dsimp only)
    | (intros; try dsimp only)

theorem wf_cmdSetRanges (r : Req) (s : State) (h : Canon s.regs s.latch) : Canon (Cmd.effect cmdSetRanges r s).1.regs (Cmd.effect cmdSetRanges r s).1.latch := by
  unfold cmdSetRanges; try dsimp only
  repeat' first
    | with_reducible assumption
    | with_reducible apply wf_putRange
    | (split <;> try dsimp only)
    | (intros; try dsimp only)

theorem wf_cmdArrayStatus (r : Req) (s : State) (h : Canon s.regs s.latch) : Canon (Cmd.effect cmdArrayStatus r s).1.regs (Cmd.effect cmdArrayStatus r s).1.latch := by
  unfold cmdArrayStatus; try dsimp only
  repeat' first
    | with_reducible assumption
    | (split <;> try dsimp only)
    | (intros; try dsimp only)

theorem wf_calDeltaApply (p : List Byte) (s : State) (h : Canon s.regs s.latch) : Canon (calDeltaApply p s).regs (calDeltaApply p s).latch := by
  unfold calDeltaApply; try dsimp only
  repeat' first
    | with_reducible assumption
    | with_reducible apply wf_putArray
    | (split <;> try dsimp only)
    | (intros; try dsimp only)

theorem wf_cmdSetCalDelta (r : Req) (s : State) (h : Canon s.regs s.latch) : Canon (Cmd.effect cmdSetCalDelta r s).1.regs (Cmd.effect cmdSetCalDelta r s).1.latch := by
  unfold cmdSetCalDelta; try dsimp only
  repeat' first
    | with_reducible assumption
    | with_reducible apply wf_calDeltaApply
    | (split <;> try dsimp only)
    | (intros; try dsimp only)

theorem wf_cmdSentinelConfig (r : Req) (s : State) (h : Canon s.regs s.latch) : Canon (Cmd.effect cmdSentinelConfig r s).1.regs (Cmd.effect cmdSentinelConfig r s).1.latch := by
  unfold cmdSentinelConfig; try dsimp only
  repeat' first
    | with_reducible assumption
    | with_reducible apply wf_putWritable
    | (split <;> try dsimp only)
    | (intros; try dsimp only)

theorem wf_cmdTriadRead (r : Req) (s : State) (h : Canon s.regs s.latch) : Canon (Cmd.effect cmdTriadRead r s).1.regs (Cmd.effect cmdTriadRead r s).1.latch := by
  unfold cmdTriadRead; try dsimp only
  repeat' first
    | with_reducible assumption
    | (split <;> try dsimp only)
    | (intros; try dsimp only)

theorem wf_putTime (p : TimePart) (s : State) (h : Canon s.regs s.latch) : Canon (State.putTime p s).regs (State.putTime p s).latch := by
  unfold State.putTime; try dsimp only
  repeat' first
    | with_reducible assumption
    | (split <;> try dsimp only)
    | (intros; try dsimp only)

theorem wf_setTime (t : Int) (s : State) (h : Canon s.regs s.latch) : Canon (State.setTime t s).regs (State.setTime t s).latch := by
  unfold State.setTime; try dsimp only
  repeat' first
    | with_reducible assumption
    | (split <;> try dsimp only)
    | (intros; try dsimp only)

theorem wf_stepMade (s : State) (h : Canon s.regs s.latch) : Canon (State.stepMade s).regs (State.stepMade s).latch := by
  unfold State.stepMade; try dsimp only
  repeat' first
    | with_reducible assumption
    | with_reducible apply wf_setF
    | with_reducible apply wf_incSat
    | with_reducible apply wf_raise
    | (split <;> try dsimp only)
    | (intros; try dsimp only)

theorem wf_applyDelta (s : State) (h : Canon s.regs s.latch) : Canon (State.applyDelta s).regs (State.applyDelta s).latch := by
  unfold State.applyDelta; try dsimp only
  repeat' first
    | with_reducible assumption
    | with_reducible apply wf_setF
    | with_reducible apply wf_putTime
    | with_reducible apply wf_setTime
    | with_reducible apply wf_stepMade
    | (split <;> try dsimp only)
    | (intros; try dsimp only)

theorem wf_applySet (s : State) (h : Canon s.regs s.latch) : Canon (State.applySet s).regs (State.applySet s).latch := by
  unfold State.applySet; try dsimp only
  repeat' first
    | with_reducible assumption
    | with_reducible apply wf_putTime
    | with_reducible apply wf_setTime
    | with_reducible apply wf_stepMade
    | (split <;> try dsimp only)
    | (intros; try dsimp only)

theorem wf_applyRate (s : State) (h : Canon s.regs s.latch) : Canon (State.applyRate s).regs (State.applyRate s).latch := by
  unfold State.applyRate; try dsimp only
  repeat' first
    | with_reducible assumption
    | with_reducible apply wf_setReg
    | with_reducible apply wf_putTime
    | (split <;> try dsimp only)
    | (intros; try dsimp only)

theorem wf_setServo (v : Nat) (s : State) (h : Canon s.regs s.latch) : Canon (State.setServo v s).regs (State.setServo v s).latch := by
  unfold State.setServo; try dsimp only
  repeat' first
    | with_reducible assumption
    | with_reducible apply wf_when
    | with_reducible apply wf_setF
    | with_reducible apply wf_raise
    | (split <;> try dsimp only)
    | (intros; try dsimp only)

theorem wf_rearm (s : State) (h : Canon s.regs s.latch) : Canon (State.rearm s).regs (State.rearm s).latch := by
  unfold State.rearm; try dsimp only
  repeat' first
    | with_reducible assumption
    | with_reducible apply wf_setF
    | with_reducible apply wf_putTime
    | with_reducible apply wf_setServo
    | (split <;> try dsimp only)
    | (intros; try dsimp only)

theorem wf_countLock (below refused : Bool) (s : State) (h : Canon s.regs s.latch) : Canon (State.countLock below refused s).regs (State.countLock below refused s).latch := by
  unfold State.countLock; try dsimp only
  repeat' first
    | with_reducible assumption
    | with_reducible apply wf_when
    | with_reducible apply wf_putTime
    | with_reducible apply wf_setServo
    | (split <;> try dsimp only)
    | (intros; try dsimp only)

theorem wf_refuseJump (s : State) (h : Canon s.regs s.latch) : Canon (State.refuseJump s).regs (State.refuseJump s).latch := by
  unfold State.refuseJump; try dsimp only
  repeat' first
    | with_reducible assumption
    | with_reducible apply wf_setF
    | with_reducible apply wf_incSat
    | with_reducible apply wf_raise
    | with_reducible apply wf_commitOne
    | (split <;> try dsimp only)
    | (intros; try dsimp only)

theorem wf_correctRate (o : Int) (s : State) (h : Canon s.regs s.latch) : Canon (State.correctRate o s).regs (State.correctRate o s).latch := by
  unfold State.correctRate; try dsimp only
  repeat' first
    | with_reducible assumption
    | with_reducible apply wf_setF
    | with_reducible apply wf_putTime
    | (split <;> try dsimp only)
    | (intros; try dsimp only)

theorem wf_measure (o : Int) (s : State) (h : Canon s.regs s.latch) : Canon (State.measure o s).regs (State.measure o s).latch := by
  unfold State.measure; try dsimp only
  repeat' first
    | with_reducible assumption
    | with_reducible apply wf_setReg
    | with_reducible apply wf_putTime
    | with_reducible apply wf_countLock
    | with_reducible apply wf_refuseJump
    | with_reducible apply wf_correctRate
    | (split <;> try dsimp only)
    | (intros; try dsimp only)

theorem wf_cmdTimeGet (r : Req) (s : State) (h : Canon s.regs s.latch) : Canon (Cmd.effect cmdTimeGet r s).1.regs (Cmd.effect cmdTimeGet r s).1.latch := by
  unfold cmdTimeGet; try dsimp only
  repeat' first
    | with_reducible assumption
    | (split <;> try dsimp only)
    | (intros; try dsimp only)

theorem wf_cmdTimeSet (r : Req) (s : State) (h : Canon s.regs s.latch) : Canon (Cmd.effect cmdTimeSet r s).1.regs (Cmd.effect cmdTimeSet r s).1.latch := by
  unfold cmdTimeSet; try dsimp only
  repeat' first
    | with_reducible assumption
    | with_reducible apply wf_putTime
    | (split <;> try dsimp only)
    | (intros; try dsimp only)

theorem wf_timeAdjustApply (p : List Byte) (s : State) (h : Canon s.regs s.latch) : Canon (timeAdjustApply p s).regs (timeAdjustApply p s).latch := by
  unfold timeAdjustApply; try dsimp only
  repeat' first
    | with_reducible assumption
    | with_reducible apply wf_when
    | with_reducible apply wf_setF
    | with_reducible apply wf_putTime
    | (split <;> try dsimp only)
    | (intros; try dsimp only)

theorem wf_cmdTimeAdjust (r : Req) (s : State) (h : Canon s.regs s.latch) : Canon (Cmd.effect cmdTimeAdjust r s).1.regs (Cmd.effect cmdTimeAdjust r s).1.latch := by
  unfold cmdTimeAdjust; try dsimp only
  repeat' first
    | with_reducible assumption
    | with_reducible apply wf_timeAdjustApply
    | (split <;> try dsimp only)
    | (intros; try dsimp only)

theorem wf_putTimeCfg (w : Word) (s : State) (h : Canon s.regs s.latch) : Canon (State.putTimeCfg w s).regs (State.putTimeCfg w s).latch := by
  unfold State.putTimeCfg; try dsimp only
  repeat' first
    | with_reducible assumption
    | with_reducible apply wf_when
    | with_reducible apply wf_putWritable
    | with_reducible apply wf_rearm
    | (split <;> try dsimp only)
    | (intros; try dsimp only)

theorem wf_cmdTimeConfig (r : Req) (s : State) (h : Canon s.regs s.latch) : Canon (Cmd.effect cmdTimeConfig r s).1.regs (Cmd.effect cmdTimeConfig r s).1.latch := by
  unfold cmdTimeConfig; try dsimp only
  repeat' first
    | with_reducible assumption
    | with_reducible apply wf_setReg
    | with_reducible apply wf_putTimeCfg
    | (split <;> try dsimp only)
    | (intros; try dsimp only)

theorem wf_cmdTsRead (r : Req) (s : State) (h : Canon s.regs s.latch) : Canon (Cmd.effect cmdTsRead r s).1.regs (Cmd.effect cmdTsRead r s).1.latch := by
  unfold cmdTsRead; try dsimp only
  repeat' first
    | with_reducible assumption
    | with_reducible apply wf_putTime
    | (split <;> try dsimp only)
    | (intros; try dsimp only)

theorem wf_writeTime (a : Nat) (w : Word) (s : State) (h : Canon s.regs s.latch) : Canon (State.writeTime a w s).regs (State.writeTime a w s).latch := by
  unfold State.writeTime; try dsimp only
  repeat' first
    | with_reducible assumption
    | with_reducible apply wf_when
    | with_reducible apply wf_setReg
    | with_reducible apply wf_putTimeCfg
    | (split <;> try dsimp only)
    | (intros; try dsimp only)

theorem wf_putT1s (t : T1sPart) (s : State) (h : Canon s.regs s.latch) : Canon (State.putT1s t s).regs (State.putT1s t s).latch := by
  unfold State.putT1s; try dsimp only
  repeat' first
    | with_reducible assumption
    | (split <;> try dsimp only)
    | (intros; try dsimp only)

theorem wf_plcaApply (s : State) (h : Canon s.regs s.latch) : Canon (State.plcaApply s).regs (State.plcaApply s).latch := by
  unfold State.plcaApply; try dsimp only
  repeat' first
    | with_reducible assumption
    | with_reducible apply wf_setF
    | with_reducible apply wf_putT1s
    | (split <;> try dsimp only)
    | (intros; try dsimp only)

theorem wf_plcaInStep (s : State) (h : Canon s.regs s.latch) : Canon (State.plcaInStep s).regs (State.plcaInStep s).latch := by
  unfold State.plcaInStep; try dsimp only
  repeat' first
    | with_reducible assumption
    | with_reducible apply wf_when
    | with_reducible apply wf_setF
    | with_reducible apply wf_raise
    | (split <;> try dsimp only)
    | (intros; try dsimp only)

theorem wf_writePlca (w : Word) (s : State) (h : Canon s.regs s.latch) : Canon (State.writePlca w s).regs (State.writePlca w s).latch := by
  unfold State.writePlca; try dsimp only
  repeat' first
    | with_reducible assumption
    | with_reducible apply wf_setF
    | with_reducible apply wf_putWritable
    | with_reducible apply wf_plcaApply
    | (split <;> try dsimp only)
    | (intros; try dsimp only)

theorem wf_dropStream (n : Nat) (s : State) (h : Canon s.regs s.latch) : Canon (State.dropStream n s).regs (State.dropStream n s).latch := by
  unfold State.dropStream; try dsimp only
  repeat' first
    | with_reducible assumption
    | with_reducible apply wf_syncSink
    | with_reducible apply wf_putT1s
    | (split <;> try dsimp only)
    | (intros; try dsimp only)

theorem wf_frameSent (f : Frame) (s : State) (h : Canon s.regs s.latch) : Canon (State.frameSent f s).regs (State.frameSent f s).latch := by
  unfold State.frameSent; try dsimp only
  repeat' first
    | with_reducible assumption
    | with_reducible apply wf_putTime
    | with_reducible apply wf_putT1s
    | (split <;> try dsimp only)
    | (intros; try dsimp only)

theorem wf_dropContribs (s : State) (h : Canon s.regs s.latch) : Canon (State.dropContribs s).regs (State.dropContribs s).latch := by
  unfold State.dropContribs; try dsimp only
  repeat' first
    | with_reducible assumption
    | (split <;> try dsimp only)
    | (intros; try dsimp only)

theorem wf_sendContribs (outcome : TxOutcome) (s : State) (h : Canon s.regs s.latch) : Canon (State.sendContribs outcome s).regs (State.sendContribs outcome s).latch := by
  unfold State.sendContribs; try dsimp only
  repeat' first
    | with_reducible assumption
    | with_reducible apply wf_incSat
    | with_reducible apply wf_putT1s
    | with_reducible apply wf_frameSent
    | with_reducible apply wf_dropContribs
    | (split <;> try dsimp only)
    | (intros; try dsimp only)

theorem wf_writeT1s (a : Nat) (w : Word) (s : State) (h : Canon s.regs s.latch) : Canon (State.writeT1s a w s).regs (State.writeT1s a w s).latch := by
  unfold State.writeT1s; try dsimp only
  repeat' first
    | with_reducible assumption
    | with_reducible apply wf_setF
    | with_reducible apply wf_putWritable
    | with_reducible apply wf_writePlca
    | (split <;> try dsimp only)
    | (intros; try dsimp only)

theorem wf_putPair (p : PairPart) (s : State) (h : Canon s.regs s.latch) : Canon (State.putPair p s).regs (State.putPair p s).latch := by
  unfold State.putPair; try dsimp only
  repeat' first
    | with_reducible assumption
    | (split <;> try dsimp only)
    | (intros; try dsimp only)

theorem wf_syncPair (s : State) (h : Canon s.regs s.latch) : Canon (State.syncPair s).regs (State.syncPair s).latch := by
  unfold State.syncPair; try dsimp only
  repeat' first
    | with_reducible assumption
    | with_reducible apply wf_setF
    | (split <;> try dsimp only)
    | (intros; try dsimp only)

theorem wf_sendPair (msg reason time : Nat) (s : State) (h : Canon s.regs s.latch) : Canon (State.sendPair msg reason time s).regs (State.sendPair msg reason time s).latch := by
  unfold State.sendPair; try dsimp only
  repeat' first
    | with_reducible assumption
    | with_reducible apply wf_sendFrame
    | with_reducible apply wf_putT1s
    | (split <;> try dsimp only)
    | (intros; try dsimp only)

theorem wf_alphaReady (t : Nat) (alpha : List Word) (s : State) (h : Canon s.regs s.latch) : Canon (State.alphaReady t alpha s).regs (State.alphaReady t alpha s).latch := by
  unfold State.alphaReady; try dsimp only
  repeat' first
    | with_reducible assumption
    | with_reducible apply wf_forUpTo
    | with_reducible apply wf_setTick
    | with_reducible apply wf_openNext
    | (split <;> try dsimp only)
    | (intros; try dsimp only)

theorem wf_formPair (w : PairWait) (c : Contrib) (s : State) (h : Canon s.regs s.latch) : Canon (State.formPair w c s).regs (State.formPair w c s).latch := by
  unfold State.formPair; try dsimp only
  repeat' first
    | with_reducible assumption
    | with_reducible apply wf_setReg
    | with_reducible apply wf_setF
    | with_reducible apply wf_hold
    | with_reducible apply wf_putPair
    | with_reducible apply wf_alphaReady
    | (split <;> try dsimp only)
    | (intros; try dsimp only)

theorem wf_pairLate (s : State) (h : Canon s.regs s.latch) : Canon (State.pairLate s).regs (State.pairLate s).latch := by
  unfold State.pairLate; try dsimp only
  repeat' first
    | with_reducible assumption
    | with_reducible apply wf_incSat
    | with_reducible apply wf_raise
    | (split <;> try dsimp only)
    | (intros; try dsimp only)

theorem wf_formAlone (w : PairWait) (s : State) (h : Canon s.regs s.latch) : Canon (State.formAlone w s).regs (State.formAlone w s).latch := by
  unfold State.formAlone; try dsimp only
  repeat' first
    | with_reducible assumption
    | with_reducible apply wf_hold
    | with_reducible apply wf_putPair
    | with_reducible apply wf_alphaReady
    | with_reducible apply wf_pairLate
    | (split <;> try dsimp only)
    | (intros; try dsimp only)

theorem wf_pairIdle (s : State) (h : Canon s.regs s.latch) : Canon (State.pairIdle s).regs (State.pairIdle s).latch := by
  unfold State.pairIdle; try dsimp only
  repeat' first
    | with_reducible assumption
    | with_reducible apply wf_setF
    | with_reducible apply wf_putTime
    | with_reducible apply wf_rearm
    | with_reducible apply wf_putPair
    | (split <;> try dsimp only)
    | (intros; try dsimp only)

theorem wf_failJoin (reason : Nat) (s : State) (h : Canon s.regs s.latch) : Canon (State.failJoin reason s).regs (State.failJoin reason s).latch := by
  unfold State.failJoin; try dsimp only
  repeat' first
    | with_reducible assumption
    | with_reducible apply wf_setF
    | with_reducible apply wf_raise
    | with_reducible apply wf_pairIdle
    | (split <;> try dsimp only)
    | (intros; try dsimp only)

theorem wf_failOpen (s : State) (h : Canon s.regs s.latch) : Canon (State.failOpen s).regs (State.failOpen s).latch := by
  unfold State.failOpen; try dsimp only
  repeat' first
    | with_reducible assumption
    | with_reducible apply wf_draw
    | with_reducible apply wf_failJoin
    | (split <;> try dsimp only)
    | (intros; try dsimp only)

theorem wf_pairLeave (cause : Nat) (tell : Bool) (s : State) (h : Canon s.regs s.latch) : Canon (State.pairLeave cause tell s).regs (State.pairLeave cause tell s).latch := by
  unfold State.pairLeave; try dsimp only
  repeat' first
    | with_reducible assumption
    | with_reducible apply wf_when
    | with_reducible apply wf_setReg
    | with_reducible apply wf_setF
    | with_reducible apply wf_incSat
    | with_reducible apply wf_raise
    | with_reducible apply wf_each
    | with_reducible apply wf_sendPair
    | with_reducible apply wf_formAlone
    | with_reducible apply wf_pairIdle
    | (split <;> try dsimp only)
    | (intros; try dsimp only)

theorem wf_pairCommandLeave (s : State) (h : Canon s.regs s.latch) : Canon (State.pairCommandLeave s).regs (State.pairCommandLeave s).latch := by
  unfold State.pairCommandLeave; try dsimp only
  repeat' first
    | with_reducible assumption
    | with_reducible apply wf_failJoin
    | with_reducible apply wf_pairLeave
    | (split <;> try dsimp only)
    | (intros; try dsimp only)

theorem wf_pairConfigLeave (s : State) (h : Canon s.regs s.latch) : Canon (State.pairConfigLeave s).regs (State.pairConfigLeave s).latch := by
  unfold State.pairConfigLeave; try dsimp only
  repeat' first
    | with_reducible assumption
    | with_reducible apply wf_failJoin
    | with_reducible apply wf_pairLeave
    | (split <;> try dsimp only)
    | (intros; try dsimp only)

theorem wf_pairPowerLeave (tell : Bool) (s : State) (h : Canon s.regs s.latch) : Canon (State.pairPowerLeave tell s).regs (State.pairPowerLeave tell s).latch := by
  unfold State.pairPowerLeave; try dsimp only
  repeat' first
    | with_reducible assumption
    | with_reducible apply wf_failOpen
    | with_reducible apply wf_pairLeave
    | (split <;> try dsimp only)
    | (intros; try dsimp only)

theorem wf_dropOldContribs (stamp : Int) (s : State) (h : Canon s.regs s.latch) : Canon (State.dropOldContribs stamp s).regs (State.dropOldContribs stamp s).latch := by
  unfold State.dropOldContribs; try dsimp only
  repeat' first
    | with_reducible assumption
    | with_reducible apply wf_forUpTo
    | with_reducible apply wf_putPair
    | with_reducible apply wf_pairLate
    | (split <;> try dsimp only)
    | (intros; try dsimp only)

theorem wf_pairSample (values omega : List Rat) (before : Option (List Rat)) (own : Fused) (s : State) (h : Canon s.regs s.latch) : Canon (State.pairSample values omega before own s).regs (State.pairSample values omega before own s).latch := by
  unfold State.pairSample; try dsimp only
  repeat' first
    | with_reducible assumption
    | with_reducible apply wf_putPair
    | with_reducible apply wf_formPair
    | with_reducible apply wf_dropOldContribs
    | (split <;> try dsimp only)
    | (intros; try dsimp only)

theorem wf_voteAxisChans (ticks : Nat) (c : Rat) (vs : List Voter) (s : State) (h : Canon s.regs s.latch) : Canon (State.voteAxisChans ticks c vs s).regs (State.voteAxisChans ticks c vs s).latch := by
  unfold State.voteAxisChans; try dsimp only
  repeat' first
    | with_reducible assumption
    | with_reducible apply wf_each
    | with_reducible apply wf_setChan
    | (split <;> try dsimp only)
    | (intros; try dsimp only)

theorem wf_syncVoteStatus (s : State) (h : Canon s.regs s.latch) : Canon (State.syncVoteStatus s).regs (State.syncVoteStatus s).latch := by
  unfold State.syncVoteStatus; try dsimp only
  repeat' first
    | with_reducible assumption
    | with_reducible apply wf_setF
    | (split <;> try dsimp only)
    | (intros; try dsimp only)

theorem wf_syncQuorum (t : Nat) (s : State) (h : Canon s.regs s.latch) : Canon (State.syncQuorum t s).regs (State.syncQuorum t s).latch := by
  unfold State.syncQuorum; try dsimp only
  repeat' first
    | with_reducible assumption
    | with_reducible apply wf_setF
    | (split <;> try dsimp only)
    | (intros; try dsimp only)

theorem wf_boundary (s : State) (h : Canon s.regs s.latch) : Canon (State.boundary s).regs (State.boundary s).latch := by
  unfold State.boundary; try dsimp only
  repeat' first
    | with_reducible assumption
    | with_reducible apply wf_each
    | with_reducible apply wf_putArray
    | with_reducible apply wf_setChan
    | (split <;> try dsimp only)
    | (intros; try dsimp only)

theorem wf_flagEvents (sat clip : Nat) (s : State) (h : Canon s.regs s.latch) : Canon (State.flagEvents sat clip s).regs (State.flagEvents sat clip s).latch := by
  unfold State.flagEvents; try dsimp only
  repeat' first
    | with_reducible assumption
    | with_reducible apply wf_when
    | with_reducible apply wf_setF
    | with_reducible apply wf_raise
    | with_reducible apply wf_forUpTo
    | (split <;> try dsimp only)
    | (intros; try dsimp only)

theorem wf_quorumLost (t lost : Nat) (s : State) (h : Canon s.regs s.latch) : Canon (State.quorumLost t lost s).regs (State.quorumLost t lost s).latch := by
  unfold State.quorumLost; try dsimp only
  repeat' first
    | with_reducible assumption
    | with_reducible apply wf_raise
    | with_reducible apply wf_hold
    | with_reducible apply wf_safePath
    | (split <;> try dsimp only)
    | (intros; try dsimp only)

theorem wf_splitOnset (t began : Nat) (s : State) (h : Canon s.regs s.latch) : Canon (State.splitOnset t began s).regs (State.splitOnset t began s).latch := by
  unfold State.splitOnset; try dsimp only
  repeat' first
    | with_reducible assumption
    | with_reducible apply wf_addSat
    | with_reducible apply wf_raise
    | with_reducible apply wf_hold
    | (split <;> try dsimp only)
    | (intros; try dsimp only)

theorem wf_endSettling (s : State) (h : Canon s.regs s.latch) : Canon (State.endSettling s).regs (State.endSettling s).latch := by
  unfold State.endSettling; try dsimp only
  repeat' first
    | with_reducible assumption
    | with_reducible apply wf_setF
    | (split <;> try dsimp only)
    | (intros; try dsimp only)

theorem wf_vote (t : Nat) (xs : List Sample) (s : State) (h : Canon s.regs s.latch) : Canon (State.vote t xs s).regs (State.vote t xs s).latch := by
  unfold State.vote
  extract_lets -merge s1 dt f values s2 sp mask window stepped old quorum axes src1 s3 was lost began s4 m sat clip
    uncomp fused before src2 s5 s6 s7 s8 k s9
  have h1 : Canon s1.regs s1.latch := wf_endSettling _ (wf_boundary _ h)
  clear_value s1
  have h2 : Canon s2.regs s2.latch := wf_forUpTo _ (fun _ _ ht => wf_voteAxisChans _ _ _ _ ht) _ _ h1
  clear_value s2
  have h3 : Canon s3.regs s3.latch := wf_putArray _ _ h2
  clear_value s3
  have h4 : Canon s4.regs s4.latch := wf_syncQuorum _ _ (wf_syncVoteStatus _ h3)
  clear_value s4
  have h5 : Canon s5.regs s5.latch := h4
  clear_value s5
  have h6 : Canon s6.regs s6.latch := wf_flagEvents _ _ _ h5
  clear_value s6
  have h7 : Canon s7.regs s7.latch := by
    show Canon (if _ then _ else _ : State).regs (if _ then _ else _ : State).latch
    split
    · exact h6
    · exact wf_hold _ _ _ _ h6
  clear_value s7
  have h8 : Canon s8.regs s8.latch := wf_pairSample _ _ _ _ _ h7
  clear_value s8
  have h9 : Canon s9.regs s9.latch := by
    show Canon (if _ then _ else _ : State).regs (if _ then _ else _ : State).latch
    split
    · exact wf_hold _ _ _ _ h8
    · exact h8
  clear_value s9
  exact wf_quorumLost _ _ _ (wf_splitOnset _ _ _ h9)

theorem wf_retireTriad (k detail : Nat) (s : State) (h : Canon s.regs s.latch) : Canon (State.retireTriad k detail s).regs (State.retireTriad k detail s).latch := by
  unfold State.retireTriad; try dsimp only
  repeat' first
    | with_reducible assumption
    | with_reducible apply wf_incSat
    | with_reducible apply wf_putArray
    | with_reducible apply wf_setTriad
    | with_reducible apply wf_syncDriveFault
    | with_reducible apply wf_setLock
    | with_reducible apply wf_finishTest
    | (split <;> try dsimp only)
    | (intros; try dsimp only)

theorem wf_substitute (t k : Nat) (s : State) (h : Canon s.regs s.latch) : Canon (State.substitute t k s).regs (State.substitute t k s).latch := by
  unfold State.substitute; try dsimp only
  repeat' first
    | with_reducible assumption
    | with_reducible apply wf_raise
    | with_reducible apply wf_hold
    | with_reducible apply wf_putArray
    | with_reducible apply wf_startTriad
    | with_reducible apply wf_parkTriad
    | (split <;> try dsimp only)
    | (intros; try dsimp only)

theorem wf_applyRetire (t k : Nat) (s : State) (h : Canon s.regs s.latch) : Canon (State.applyRetire t k s).regs (State.applyRetire t k s).latch := by
  unfold State.applyRetire; try dsimp only
  repeat' first
    | with_reducible assumption
    | with_reducible apply wf_raise
    | with_reducible apply wf_triadHealth
    | with_reducible apply wf_retireTriad
    | with_reducible apply wf_substitute
    | (split <;> try dsimp only)
    | (intros; try dsimp only)

theorem wf_applyDie (t d : Nat) (s : State) (h : Canon s.regs s.latch) : Canon (State.applyDie t d s).regs (State.applyDie t d s).latch := by
  unfold State.applyDie; try dsimp only
  repeat' first
    | with_reducible assumption
    | with_reducible apply wf_setF
    | with_reducible apply wf_incSat
    | with_reducible apply wf_raise
    | with_reducible apply wf_each
    | with_reducible apply wf_putArray
    | with_reducible apply wf_retireTriad
    | with_reducible apply wf_substitute
    | (split <;> try dsimp only)
    | (intros; try dsimp only)

theorem wf_staleVote (t : Nat) (first : Bool) (s : State) (h : Canon s.regs s.latch) : Canon (State.staleVote t first s).regs (State.staleVote t first s).latch := by
  unfold State.staleVote; try dsimp only
  repeat' first
    | with_reducible assumption
    | with_reducible apply wf_putArray
    | with_reducible apply wf_syncVoteStatus
    | with_reducible apply wf_quorumLost
    | (split <;> try dsimp only)
    | (intros; try dsimp only)

theorem wf_putFilt (f : FilterPart) (s : State) (h : Canon s.regs s.latch) : Canon (State.putFilt f s).regs (State.putFilt f s).latch := by
  unfold State.putFilt; try dsimp only
  repeat' first
    | with_reducible assumption
    | (split <;> try dsimp only)
    | (intros; try dsimp only)

theorem wf_coeffWriteApply (p : List Byte) (s : State) (h : Canon s.regs s.latch) : Canon (coeffWriteApply p s).regs (coeffWriteApply p s).latch := by
  unfold coeffWriteApply; try dsimp only
  repeat' first
    | with_reducible assumption
    | with_reducible apply wf_setF
    | with_reducible apply wf_putFilt
    | (split <;> try dsimp only)
    | (intros; try dsimp only)

theorem wf_syncSuspended (s : State) (h : Canon s.regs s.latch) : Canon (State.syncSuspended s).regs (State.syncSuspended s).latch := by
  unfold State.syncSuspended; try dsimp only
  repeat' first
    | with_reducible assumption
    | with_reducible apply wf_when
    | with_reducible apply wf_setF
    | with_reducible apply wf_raise
    | (split <;> try dsimp only)
    | (intros; try dsimp only)

theorem wf_useSlot (new : Option Nat) (s : State) (h : Canon s.regs s.latch) : Canon (State.useSlot new s).regs (State.useSlot new s).latch := by
  unfold State.useSlot; try dsimp only
  repeat' first
    | with_reducible assumption
    | with_reducible apply wf_setF
    | with_reducible apply wf_raise
    | with_reducible apply wf_hold
    | with_reducible apply wf_pairConfigLeave
    | (split <;> try dsimp only)
    | (intros; try dsimp only)

theorem wf_notchPeriod (engine : Nat) (period : Word) (s : State) (h : Canon s.regs s.latch) : Canon (State.notchPeriod engine period s).regs (State.notchPeriod engine period s).latch := by
  unfold State.notchPeriod; try dsimp only
  repeat' first
    | with_reducible assumption
    | with_reducible apply wf_setF
    | with_reducible apply wf_putFilt
    | (split <;> try dsimp only)
    | (intros; try dsimp only)

theorem wf_bankApply (a g : Nat) (s : State) (h : Canon s.regs s.latch) : Canon (bankApply a g s).regs (bankApply a g s).latch := by
  unfold bankApply; try dsimp only
  repeat' first
    | with_reducible assumption
    | with_reducible apply wf_setF
    | with_reducible apply wf_putFilt
    | (split <;> try dsimp only)
    | (intros; try dsimp only)

theorem wf_keepGrid (last : Nat) (s : State) (h : Canon s.regs s.latch) : Canon (State.keepGrid last s).regs (State.keepGrid last s).latch := by
  unfold State.keepGrid; try dsimp only
  repeat' first
    | with_reducible assumption
    | with_reducible apply wf_putFilt
    | (split <;> try dsimp only)
    | (intros; try dsimp only)

theorem wf_settleMove (s : State) (h : Canon s.regs s.latch) : Canon (State.settleMove s).regs (State.settleMove s).latch := by
  unfold State.settleMove; try dsimp only
  repeat' first
    | with_reducible assumption
    | with_reducible apply wf_settleResume
    | (split <;> try dsimp only)
    | (intros; try dsimp only)

theorem wf_voidOffGrid (s : State) (h : Canon s.regs s.latch) : Canon (State.voidOffGrid s).regs (State.voidOffGrid s).latch := by
  unfold State.voidOffGrid; try dsimp only
  repeat' first
    | with_reducible assumption
    | with_reducible apply wf_voidWhere
    | (split <;> try dsimp only)
    | (intros; try dsimp only)

theorem wf_decimReset (t : Nat) (s : State) (h : Canon s.regs s.latch) : Canon (State.decimReset t s).regs (State.decimReset t s).latch := by
  unfold State.decimReset; try dsimp only
  repeat' first
    | with_reducible assumption
    | with_reducible apply wf_raise
    | with_reducible apply wf_mappingChanged
    | with_reducible apply wf_putFilt
    | with_reducible apply wf_keepGrid
    | with_reducible apply wf_settleMove
    | with_reducible apply wf_voidOffGrid
    | (split <;> try dsimp only)
    | (intros; try dsimp only)

theorem wf_decimResetAlone (t : Nat) (s : State) (h : Canon s.regs s.latch) : Canon (State.decimResetAlone t s).regs (State.decimResetAlone t s).latch := by
  unfold State.decimResetAlone; try dsimp only
  repeat' first
    | with_reducible assumption
    | with_reducible apply wf_pairConfigLeave
    | with_reducible apply wf_decimReset
    | (split <;> try dsimp only)
    | (intros; try dsimp only)

theorem wf_requestReset (t : Nat) (s : State) (h : Canon s.regs s.latch) : Canon (State.requestReset t s).regs (State.requestReset t s).latch := by
  unfold State.requestReset; try dsimp only
  repeat' first
    | with_reducible assumption
    | with_reducible apply wf_putFilt
    | (split <;> try dsimp only)
    | (intros; try dsimp only)

theorem wf_requestPreset (c : Nat) (s : State) (h : Canon s.regs s.latch) : Canon (State.requestPreset c s).regs (State.requestPreset c s).latch := by
  unfold State.requestPreset; try dsimp only
  repeat' first
    | with_reducible assumption
    | with_reducible apply wf_setF
    | with_reducible apply wf_putFilt
    | (split <;> try dsimp only)
    | (intros; try dsimp only)

theorem wf_notchAtPreset (s : State) (h : Canon s.regs s.latch) : Canon (State.notchAtPreset s).regs (State.notchAtPreset s).latch := by
  unfold State.notchAtPreset; try dsimp only
  repeat' first
    | with_reducible assumption
    | with_reducible apply wf_putFilt
    | with_reducible apply wf_syncSuspended
    | with_reducible apply wf_useSlot
    | (split <;> try dsimp only)
    | (intros; try dsimp only)

theorem wf_rescaleNoise (old new : Nat) (s : State) (h : Canon s.regs s.latch) : Canon (State.rescaleNoise old new s).regs (State.rescaleNoise old new s).latch := by
  unfold State.rescaleNoise; try dsimp only
  repeat' first
    | with_reducible assumption
    | with_reducible apply wf_putArray
    | (split <;> try dsimp only)
    | (intros; try dsimp only)

theorem wf_presetApply (c : PresetChange) (s : State) (h : Canon s.regs s.latch) : Canon (State.presetApply c s).regs (State.presetApply c s).latch := by
  unfold State.presetApply; try dsimp only
  repeat' first
    | with_reducible assumption
    | with_reducible apply wf_setF
    | with_reducible apply wf_syncDelay
    | with_reducible apply wf_mappingChanged
    | with_reducible apply wf_pairConfigLeave
    | with_reducible apply wf_putFilt
    | with_reducible apply wf_keepGrid
    | with_reducible apply wf_settleMove
    | with_reducible apply wf_voidOffGrid
    | with_reducible apply wf_notchAtPreset
    | with_reducible apply wf_rescaleNoise
    | (split <;> try dsimp only)
    | (intros; try dsimp only)

theorem wf_cmdSetPreset (r : Req) (s : State) (h : Canon s.regs s.latch) : Canon (Cmd.effect cmdSetPreset r s).1.regs (Cmd.effect cmdSetPreset r s).1.latch := by
  unfold cmdSetPreset; try dsimp only
  repeat' first
    | with_reducible assumption
    | with_reducible apply wf_requestPreset
    | (split <;> try dsimp only)
    | (intros; try dsimp only)

theorem wf_cmdCoeffWrite (r : Req) (s : State) (h : Canon s.regs s.latch) : Canon (Cmd.effect cmdCoeffWrite r s).1.regs (Cmd.effect cmdCoeffWrite r s).1.latch := by
  unfold cmdCoeffWrite; try dsimp only
  repeat' first
    | with_reducible assumption
    | with_reducible apply wf_coeffWriteApply
    | with_reducible apply wf_syncSuspended
    | (split <;> try dsimp only)
    | (intros; try dsimp only)

theorem wf_coeffCommitApply (p : List Byte) (s : State) (h : Canon s.regs s.latch) : Canon (coeffCommitApply p s).regs (coeffCommitApply p s).latch := by
  unfold coeffCommitApply; try dsimp only
  repeat' first
    | with_reducible assumption
    | with_reducible apply wf_setF
    | with_reducible apply wf_putFilt
    | (split <;> try dsimp only)
    | (intros; try dsimp only)

theorem wf_cmdCoeffCommit (r : Req) (s : State) (h : Canon s.regs s.latch) : Canon (Cmd.effect cmdCoeffCommit r s).1.regs (Cmd.effect cmdCoeffCommit r s).1.latch := by
  unfold cmdCoeffCommit; try dsimp only
  repeat' first
    | with_reducible assumption
    | with_reducible apply wf_syncSuspended
    | with_reducible apply wf_coeffCommitApply
    | (split <;> try dsimp only)
    | (intros; try dsimp only)

theorem wf_cmdBankSelect (r : Req) (s : State) (h : Canon s.regs s.latch) : Canon (Cmd.effect cmdBankSelect r s).1.regs (Cmd.effect cmdBankSelect r s).1.latch := by
  unfold cmdBankSelect; try dsimp only
  repeat' first
    | with_reducible assumption
    | with_reducible apply wf_bankApply
    | (split <;> try dsimp only)
    | (intros; try dsimp only)

theorem wf_cmdDecimSync (r : Req) (s : State) (h : Canon s.regs s.latch) : Canon (Cmd.effect cmdDecimSync r s).1.regs (Cmd.effect cmdDecimSync r s).1.latch := by
  unfold cmdDecimSync; try dsimp only
  repeat' first
    | with_reducible assumption
    | with_reducible apply wf_requestReset
    | (split <;> try dsimp only)
    | (intros; try dsimp only)

theorem wf_notchApply (w : Word) (s : State) (h : Canon s.regs s.latch) : Canon (notchApply w s).regs (notchApply w s).latch := by
  unfold notchApply; try dsimp only
  repeat' first
    | with_reducible assumption
    | with_reducible apply wf_putWritable
    | with_reducible apply wf_putFilt
    | with_reducible apply wf_syncSuspended
    | with_reducible apply wf_useSlot
    | (split <;> try dsimp only)
    | (intros; try dsimp only)

theorem wf_cmdNotchConfig (r : Req) (s : State) (h : Canon s.regs s.latch) : Canon (Cmd.effect cmdNotchConfig r s).1.regs (Cmd.effect cmdNotchConfig r s).1.latch := by
  unfold cmdNotchConfig; try dsimp only
  repeat' first
    | with_reducible assumption
    | with_reducible apply wf_notchApply
    | (split <;> try dsimp only)
    | (intros; try dsimp only)

theorem wf_putHk (k : HkPart) (s : State) (h : Canon s.regs s.latch) : Canon (State.putHk k s).regs (State.putHk k s).latch := h

theorem wf_setSlice (k v : Nat) (s : State) (h : Canon s.regs s.latch) : Canon (State.setSlice k v s).regs (State.setSlice k v s).latch := by
  unfold State.setSlice; try dsimp only
  repeat' first
    | with_reducible assumption
    | with_reducible apply wf_setF
    | (split <;> try dsimp only)
    | (intros; try dsimp only)

theorem wf_syncSlices (s : State) (h : Canon s.regs s.latch) : Canon (State.syncSlices s).regs (State.syncSlices s).latch := by
  unfold State.syncSlices; try dsimp only
  repeat' first
    | with_reducible assumption
    | with_reducible apply wf_setF
    | (split <;> try dsimp only)
    | (intros; try dsimp only)

theorem wf_retireSlice (k : Nat) (s : State) (h : Canon s.regs s.latch) : Canon (State.retireSlice k s).regs (State.retireSlice k s).latch := by
  unfold State.retireSlice; try dsimp only
  repeat' first
    | with_reducible assumption
    | with_reducible apply wf_incSat
    | with_reducible apply wf_putHk
    | with_reducible apply wf_setSlice
    | with_reducible apply wf_syncSlices
    | (split <;> try dsimp only)
    | (intros; try dsimp only)

theorem wf_restartWindow (k : Nat) (s : State) (h : Canon s.regs s.latch) : Canon (State.restartWindow k s).regs (State.restartWindow k s).latch := h

theorem wf_publish (k v : Nat) (s : State) (h : Canon s.regs s.latch) : Canon (State.publish k v s).regs (State.publish k v s).latch := by
  unfold State.publish
  repeat' first
    | with_reducible exact wf_freshTemp _ _ (wf_setF _ _ _ h)
    | with_reducible exact wf_setF _ _ _ h
    | with_reducible exact h
    | split

theorem wf_hkSeqApply (p : List Byte) (s : State) (h : Canon s.regs s.latch) : Canon (hkSeqApply p s).regs (hkSeqApply p s).latch := by
  unfold hkSeqApply; try dsimp only
  repeat' first
    | with_reducible assumption
    | with_reducible apply wf_setReg
    | with_reducible apply wf_setF
    | with_reducible apply wf_each
    | (split <;> try dsimp only)
    | (intros; try dsimp only)

theorem wf_cmdHkSequence (r : Req) (s : State) (h : Canon s.regs s.latch) : Canon (Cmd.effect cmdHkSequence r s).1.regs (Cmd.effect cmdHkSequence r s).1.latch := by
  unfold cmdHkSequence; try dsimp only
  repeat' first
    | with_reducible assumption
    | with_reducible apply wf_hkSeqApply
    | (split <;> try dsimp only)
    | (intros; try dsimp only)

theorem wf_hkWindowApply (p : List Byte) (s : State) (h : Canon s.regs s.latch) : Canon (hkWindowApply p s).regs (hkWindowApply p s).latch := by
  unfold hkWindowApply; try dsimp only
  repeat' first
    | with_reducible assumption
    | with_reducible apply wf_setReg
    | with_reducible apply wf_setF
    | (split <;> try dsimp only)
    | (intros; try dsimp only)

theorem wf_cmdHkWindow (r : Req) (s : State) (h : Canon s.regs s.latch) : Canon (Cmd.effect cmdHkWindow r s).1.regs (Cmd.effect cmdHkWindow r s).1.latch := by
  unfold cmdHkWindow; try dsimp only
  repeat' first
    | with_reducible assumption
    | with_reducible apply wf_hkWindowApply
    | (split <;> try dsimp only)
    | (intros; try dsimp only)

theorem wf_cmdHkRead (r : Req) (s : State) (h : Canon s.regs s.latch) : Canon (Cmd.effect cmdHkRead r s).1.regs (Cmd.effect cmdHkRead r s).1.latch := by
  unfold cmdHkRead; try dsimp only
  repeat' first
    | with_reducible assumption
    | (split <;> try dsimp only)
    | (intros; try dsimp only)

theorem wf_cmdHkStatus (r : Req) (s : State) (h : Canon s.regs s.latch) : Canon (Cmd.effect cmdHkStatus r s).1.regs (Cmd.effect cmdHkStatus r s).1.latch := by
  unfold cmdHkStatus; try dsimp only
  repeat' first
    | with_reducible assumption
    | (split <;> try dsimp only)
    | (intros; try dsimp only)

theorem wf_writeHk (a : Nat) (w : Word) (s : State) (h : Canon s.regs s.latch) : Canon (State.writeHk a w s).regs (State.writeHk a w s).latch := by
  unfold State.writeHk; try dsimp only
  repeat' first
    | with_reducible assumption
    | with_reducible apply wf_setReg
    | with_reducible apply wf_setF
    | (split <;> try dsimp only)
    | (intros; try dsimp only)

theorem wf_putPmem (a : Nat) (w : Word) (s : State) (h : Canon s.regs s.latch) : Canon (State.putPmem a w s).regs (State.putPmem a w s).latch := by
  unfold State.putPmem; try dsimp only
  repeat' first
    | with_reducible assumption
    | with_reducible apply wf_putEng
    | (split <;> try dsimp only)
    | (intros; try dsimp only)

theorem wf_emLoadApply (p : List Byte) (s : State) (h : Canon s.regs s.latch) : Canon (emLoadApply p s).regs (emLoadApply p s).latch := by
  unfold emLoadApply; try dsimp only
  repeat' first
    | with_reducible assumption
    | with_reducible apply wf_each
    | with_reducible apply wf_putPmem
    | (split <;> try dsimp only)
    | (intros; try dsimp only)

theorem wf_cmdEmLoad (r : Req) (s : State) (h : Canon s.regs s.latch) : Canon (Cmd.effect cmdEmLoad r s).1.regs (Cmd.effect cmdEmLoad r s).1.latch := by
  unfold cmdEmLoad; try dsimp only
  repeat' first
    | with_reducible assumption
    | with_reducible apply wf_emLoadApply
    | (split <;> try dsimp only)
    | (intros; try dsimp only)

theorem wf_emRegion (n entry len : Nat) (s : State) (h : Canon s.regs s.latch) : Canon (State.emRegion n entry len s).regs (State.emRegion n entry len s).latch := by
  unfold State.emRegion; try dsimp only
  repeat' first
    | with_reducible assumption
    | with_reducible apply wf_setMach
    | with_reducible apply wf_setMachState
    | (split <;> try dsimp only)
    | (intros; try dsimp only)

theorem wf_emConfigApply (p : List Byte) (s : State) (h : Canon s.regs s.latch) : Canon (emConfigApply p s).regs (emConfigApply p s).latch := by
  unfold emConfigApply; try dsimp only
  repeat' first
    | with_reducible assumption
    | with_reducible apply wf_setMach
    | with_reducible apply wf_emRegion
    | (split <;> try dsimp only)
    | (intros; try dsimp only)

theorem wf_cmdEmConfig (r : Req) (s : State) (h : Canon s.regs s.latch) : Canon (Cmd.effect cmdEmConfig r s).1.regs (Cmd.effect cmdEmConfig r s).1.latch := by
  unfold cmdEmConfig; try dsimp only
  repeat' first
    | with_reducible assumption
    | with_reducible apply wf_emConfigApply
    | (split <;> try dsimp only)
    | (intros; try dsimp only)

theorem wf_startMach (t0 n : Nat) (s : State) (h : Canon s.regs s.latch) : Canon (State.startMach t0 n s).regs (State.startMach t0 n s).latch := by
  unfold State.startMach; try dsimp only
  repeat' first
    | with_reducible assumption
    | with_reducible apply wf_setMach
    | with_reducible apply wf_emBit
    | with_reducible apply wf_setMachState
    | (split <;> try dsimp only)
    | (intros; try dsimp only)

theorem wf_emStartApply (mask : Nat) (s : State) (h : Canon s.regs s.latch) : Canon (emStartApply mask s).regs (emStartApply mask s).latch := by
  unfold emStartApply; try dsimp only
  repeat' first
    | with_reducible assumption
    | with_reducible apply wf_each
    | with_reducible apply wf_startMach
    | (split <;> try dsimp only)
    | (intros; try dsimp only)

theorem wf_cmdEmStart (r : Req) (s : State) (h : Canon s.regs s.latch) : Canon (Cmd.effect cmdEmStart r s).1.regs (Cmd.effect cmdEmStart r s).1.latch := by
  unfold cmdEmStart; try dsimp only
  repeat' first
    | with_reducible assumption
    | with_reducible apply wf_emStartApply
    | (split <;> try dsimp only)
    | (intros; try dsimp only)

theorem wf_emStopApply (mask : Nat) (s : State) (h : Canon s.regs s.latch) : Canon (emStopApply mask s).regs (emStopApply mask s).latch := by
  unfold emStopApply; try dsimp only
  repeat' first
    | with_reducible assumption
    | with_reducible apply wf_each
    | with_reducible apply wf_stopMach
    | (split <;> try dsimp only)
    | (intros; try dsimp only)

theorem wf_cmdEmStop (r : Req) (s : State) (h : Canon s.regs s.latch) : Canon (Cmd.effect cmdEmStop r s).1.regs (Cmd.effect cmdEmStop r s).1.latch := by
  unfold cmdEmStop; try dsimp only
  repeat' first
    | with_reducible assumption
    | with_reducible apply wf_emStopApply
    | (split <;> try dsimp only)
    | (intros; try dsimp only)

theorem wf_emParam (n k : Nat) (w : Word) (s : State) (h : Canon s.regs s.latch) : Canon (State.emParam n k w s).regs (State.emParam n k w s).latch := by
  unfold State.emParam; try dsimp only
  repeat' first
    | with_reducible assumption
    | with_reducible apply wf_setMach
    | (split <;> try dsimp only)
    | (intros; try dsimp only)

theorem wf_emParamApply (p : List Byte) (s : State) (h : Canon s.regs s.latch) : Canon (emParamApply p s).regs (emParamApply p s).latch := by
  unfold emParamApply; try dsimp only
  repeat' first
    | with_reducible assumption
    | with_reducible apply wf_each
    | with_reducible apply wf_emParam
    | (split <;> try dsimp only)
    | (intros; try dsimp only)

theorem wf_cmdEmParam (r : Req) (s : State) (h : Canon s.regs s.latch) : Canon (Cmd.effect cmdEmParam r s).1.regs (Cmd.effect cmdEmParam r s).1.latch := by
  unfold cmdEmParam; try dsimp only
  repeat' first
    | with_reducible assumption
    | with_reducible apply wf_emParamApply
    | (split <;> try dsimp only)
    | (intros; try dsimp only)

theorem wf_applyParams (t : Nat) (s : State) (h : Canon s.regs s.latch) : Canon (State.applyParams t s).regs (State.applyParams t s).latch := by
  unfold State.applyParams; try dsimp only
  repeat' first
    | with_reducible assumption
    | with_reducible apply wf_putEng
    | (split <;> try dsimp only)
    | (intros; try dsimp only)

theorem wf_cmdEmReadState (r : Req) (s : State) (h : Canon s.regs s.latch) : Canon (Cmd.effect cmdEmReadState r s).1.regs (Cmd.effect cmdEmReadState r s).1.latch := by
  unfold cmdEmReadState; try dsimp only
  repeat' first
    | with_reducible assumption
    | (split <;> try dsimp only)
    | (intros; try dsimp only)

theorem wf_cmdEmCrc (r : Req) (s : State) (h : Canon s.regs s.latch) : Canon (Cmd.effect cmdEmCrc r s).1.regs (Cmd.effect cmdEmCrc r s).1.latch := by
  unfold cmdEmCrc; try dsimp only
  repeat' first
    | with_reducible assumption
    | (split <;> try dsimp only)
    | (intros; try dsimp only)

theorem wf_emRefused (status reason addr : Nat) (s : State) (h : Canon s.regs s.latch) : Canon (State.emRefused status reason addr s).regs (State.emRefused status reason addr s).latch := by
  unfold State.emRefused; try dsimp only
  repeat' first
    | with_reducible assumption
    | with_reducible apply wf_setF
    | (split <;> try dsimp only)
    | (intros; try dsimp only)

theorem wf_writeEmRegion (w : Word) (s : State) (h : Canon s.regs s.latch) : Canon (State.writeEmRegion w s).regs (State.writeEmRegion w s).latch := by
  unfold State.writeEmRegion; try dsimp only
  repeat' first
    | with_reducible assumption
    | with_reducible apply wf_emRegion
    | with_reducible apply wf_emRefused
    | (split <;> try dsimp only)
    | (intros; try dsimp only)

theorem wf_writeEmFlags (w : Word) (s : State) (h : Canon s.regs s.latch) : Canon (State.writeEmFlags w s).regs (State.writeEmFlags w s).latch := by
  unfold State.writeEmFlags; try dsimp only
  repeat' first
    | with_reducible assumption
    | with_reducible apply wf_setMach
    | with_reducible apply wf_emRefused
    | (split <;> try dsimp only)
    | (intros; try dsimp only)

theorem wf_emStep (s : State) (h : Canon s.regs s.latch) : Canon (State.emStep s).regs (State.emStep s).latch := by
  unfold State.emStep; try dsimp only
  repeat' first
    | with_reducible assumption
    | with_reducible apply wf_setF
    | (split <;> try dsimp only)
    | (intros; try dsimp only)

theorem wf_writeEmPmem (w : Word) (s : State) (h : Canon s.regs s.latch) : Canon (State.writeEmPmem w s).regs (State.writeEmPmem w s).latch := by
  unfold State.writeEmPmem; try dsimp only
  repeat' first
    | with_reducible assumption
    | with_reducible apply wf_putPmem
    | with_reducible apply wf_emRefused
    | with_reducible apply wf_emStep
    | (split <;> try dsimp only)
    | (intros; try dsimp only)

theorem wf_writeEmStart (w : Word) (s : State) (h : Canon s.regs s.latch) : Canon (State.writeEmStart w s).regs (State.writeEmStart w s).latch := by
  unfold State.writeEmStart; try dsimp only
  repeat' first
    | with_reducible assumption
    | with_reducible apply wf_emStartApply
    | with_reducible apply wf_emRefused
    | (split <;> try dsimp only)
    | (intros; try dsimp only)

theorem wf_pushCfg (clear : Nat) (s : State) (h : Canon s.regs s.latch) : Canon (State.pushCfg clear s).regs (State.pushCfg clear s).latch := by
  unfold State.pushCfg; try dsimp only
  repeat' first
    | with_reducible assumption
    | with_reducible apply wf_putEng
    | (split <;> try dsimp only)
    | (intros; try dsimp only)

theorem wf_recConfigApply (p : List Byte) (s : State) (h : Canon s.regs s.latch) : Canon (recConfigApply p s).regs (recConfigApply p s).latch := by
  unfold recConfigApply; try dsimp only
  repeat' first
    | with_reducible assumption
    | with_reducible apply wf_putWritable
    | with_reducible apply wf_pushCfg
    | (split <;> try dsimp only)
    | (intros; try dsimp only)

theorem wf_cmdRecConfig (r : Req) (s : State) (h : Canon s.regs s.latch) : Canon (Cmd.effect cmdRecConfig r s).1.regs (Cmd.effect cmdRecConfig r s).1.latch := by
  unfold cmdRecConfig; try dsimp only
  repeat' first
    | with_reducible assumption
    | with_reducible apply wf_recConfigApply
    | (split <;> try dsimp only)
    | (intros; try dsimp only)

theorem wf_recEnableApply (p : List Byte) (s : State) (h : Canon s.regs s.latch) : Canon (recEnableApply p s).regs (recEnableApply p s).latch := by
  unfold recEnableApply; try dsimp only
  repeat' first
    | with_reducible assumption
    | with_reducible apply wf_setF
    | with_reducible apply wf_pushCfg
    | (split <;> try dsimp only)
    | (intros; try dsimp only)

theorem wf_cmdRecEnable (r : Req) (s : State) (h : Canon s.regs s.latch) : Canon (Cmd.effect cmdRecEnable r s).1.regs (Cmd.effect cmdRecEnable r s).1.latch := by
  unfold cmdRecEnable; try dsimp only
  repeat' first
    | with_reducible assumption
    | with_reducible apply wf_recEnableApply
    | (split <;> try dsimp only)
    | (intros; try dsimp only)

theorem wf_recWheelApply (p : List Byte) (s : State) (h : Canon s.regs s.latch) : Canon (recWheelApply p s).regs (recWheelApply p s).latch := by
  unfold recWheelApply; try dsimp only
  repeat' first
    | with_reducible assumption
    | with_reducible apply wf_putWritable
    | with_reducible apply wf_pushCfg
    | (split <;> try dsimp only)
    | (intros; try dsimp only)

theorem wf_cmdRecWheel (r : Req) (s : State) (h : Canon s.regs s.latch) : Canon (Cmd.effect cmdRecWheel r s).1.regs (Cmd.effect cmdRecWheel r s).1.latch := by
  unfold cmdRecWheel; try dsimp only
  repeat' first
    | with_reducible assumption
    | with_reducible apply wf_recWheelApply
    | (split <;> try dsimp only)
    | (intros; try dsimp only)

theorem wf_cmdRecClear (r : Req) (s : State) (h : Canon s.regs s.latch) : Canon (Cmd.effect cmdRecClear r s).1.regs (Cmd.effect cmdRecClear r s).1.latch := by
  unfold cmdRecClear; try dsimp only
  repeat' first
    | with_reducible assumption
    | with_reducible apply wf_pushCfg
    | (split <;> try dsimp only)
    | (intros; try dsimp only)

theorem wf_cmdRecRead (r : Req) (s : State) (h : Canon s.regs s.latch) : Canon (Cmd.effect cmdRecRead r s).1.regs (Cmd.effect cmdRecRead r s).1.latch := by
  unfold cmdRecRead; try dsimp only
  repeat' first
    | with_reducible assumption
    | (split <;> try dsimp only)
    | (intros; try dsimp only)

theorem wf_recRefused (status rec_ word : Nat) (s : State) (h : Canon s.regs s.latch) : Canon (State.recRefused status rec_ word s).regs (State.recRefused status rec_ word s).latch := by
  unfold State.recRefused; try dsimp only
  repeat' first
    | with_reducible assumption
    | with_reducible apply wf_setF
    | (split <;> try dsimp only)
    | (intros; try dsimp only)

theorem wf_writeRec (a : Nat) (w : Word) (s : State) (h : Canon s.regs s.latch) : Canon (State.writeRec a w s).regs (State.writeRec a w s).latch := by
  unfold State.writeRec; try dsimp only
  repeat' first
    | with_reducible assumption
    | with_reducible apply wf_setReg
    | with_reducible apply wf_putWritable
    | with_reducible apply wf_pushCfg
    | with_reducible apply wf_recRefused
    | (split <;> try dsimp only)
    | (intros; try dsimp only)

theorem wf_putPins (p : PinPart) (s : State) (h : Canon s.regs s.latch) : Canon (State.putPins p s).regs (State.putPins p s).latch := by
  unfold State.putPins; try dsimp only
  repeat' first
    | with_reducible assumption
    | (split <;> try dsimp only)
    | (intros; try dsimp only)

theorem wf_applySafeLevel (mask : Nat) (s : State) (h : Canon s.regs s.latch) : Canon (State.applySafeLevel mask s).regs (State.applySafeLevel mask s).latch := by
  unfold State.applySafeLevel; try dsimp only
  repeat' first
    | with_reducible assumption
    | with_reducible apply wf_putPins
    | (split <;> try dsimp only)
    | (intros; try dsimp only)

theorem wf_releasePins (mask : Nat) (s : State) (h : Canon s.regs s.latch) : Canon (State.releasePins mask s).regs (State.releasePins mask s).latch := by
  unfold State.releasePins; try dsimp only
  repeat' first
    | with_reducible assumption
    | with_reducible apply wf_putPins
    | (split <;> try dsimp only)
    | (intros; try dsimp only)

theorem wf_pioDrive (k : Nat) (w : Word) (s : State) (h : Canon s.regs s.latch) : Canon (State.pioDrive k w s).regs (State.pioDrive k w s).latch := by
  unfold State.pioDrive; try dsimp only
  repeat' first
    | with_reducible assumption
    | with_reducible apply wf_putPins
    | (split <;> try dsimp only)
    | (intros; try dsimp only)

theorem wf_setPioState (k st : Nat) (s : State) (h : Canon s.regs s.latch) : Canon (State.setPioState k st s).regs (State.setPioState k st s).latch := by
  unfold State.setPioState; try dsimp only
  repeat' first
    | with_reducible assumption
    | with_reducible apply wf_setF
    | with_reducible apply wf_setPio
    | (split <;> try dsimp only)
    | (intros; try dsimp only)

theorem wf_pioExec (k : Nat) (w : Word) (s : State) (h : Canon s.regs s.latch) : Canon (State.pioExec k w s).regs (State.pioExec k w s).latch := by
  unfold State.pioExec; try dsimp only
  repeat' first
    | with_reducible assumption
    | with_reducible apply wf_raise
    | with_reducible apply wf_setPio
    | with_reducible apply wf_notchPeriod
    | with_reducible apply wf_pioDrive
    | with_reducible apply wf_setPioState
    | (split <;> try dsimp only)
    | (intros; try dsimp only)

theorem wf_pioCycle (k : Nat) (w : Word) (s : State) (h : Canon s.regs s.latch) : Canon (State.pioCycle k w s).regs (State.pioCycle k w s).latch := by
  unfold State.pioCycle; try dsimp only
  repeat' first
    | with_reducible assumption
    | with_reducible apply wf_setPio
    | with_reducible apply wf_pioExec
    | (split <;> try dsimp only)
    | (intros; try dsimp only)

theorem wf_legacyFire (k : Nat) (s : State) (h : Canon s.regs s.latch) : Canon (State.legacyFire k s).regs (State.legacyFire k s).latch := by
  unfold State.legacyFire; try dsimp only
  repeat' first
    | with_reducible assumption
    | with_reducible apply wf_when
    | with_reducible apply wf_raise
    | with_reducible apply wf_setPio
    | with_reducible apply wf_putPins
    | with_reducible apply wf_setPioState
    | (split <;> try dsimp only)
    | (intros; try dsimp only)

theorem wf_pioTick (k : Nat) (s : State) (h : Canon s.regs s.latch) : Canon (State.pioTick k s).regs (State.pioTick k s).latch := by
  unfold State.pioTick; try dsimp only
  repeat' first
    | with_reducible assumption
    | with_reducible apply wf_setPio
    | with_reducible apply wf_pioCycle
    | with_reducible apply wf_legacyFire
    | (split <;> try dsimp only)
    | (intros; try dsimp only)

theorem wf_pioRun : ∀ (n : Nat) (s : State), Canon s.regs s.latch → Canon (s.pioRun n).regs (s.pioRun n).latch
  | 0, _, h => h
  | n + 1, _, h =>
    wf_pioRun n _ (wf_pioTick 3 _ (wf_pioTick 2 _ (wf_pioTick 1 _ (wf_pioTick 0 _ h))))

theorem wf_pioRefused (status reason addr : Nat) (s : State) (h : Canon s.regs s.latch) : Canon (State.pioRefused status reason addr s).regs (State.pioRefused status reason addr s).latch := by
  unfold State.pioRefused; try dsimp only
  repeat' first
    | with_reducible assumption
    | with_reducible apply wf_setF
    | (split <;> try dsimp only)
    | (intros; try dsimp only)

theorem wf_putPioWord (k a : Nat) (w : Word) (s : State) (h : Canon s.regs s.latch) : Canon (State.putPioWord k a w s).regs (State.putPioWord k a w s).latch := by
  unfold State.putPioWord; try dsimp only
  repeat' first
    | with_reducible assumption
    | with_reducible apply wf_setPio
    | (split <;> try dsimp only)
    | (intros; try dsimp only)

theorem wf_pioLoadApply (p : List Byte) (s : State) (h : Canon s.regs s.latch) : Canon (pioLoadApply p s).regs (pioLoadApply p s).latch := by
  unfold pioLoadApply; try dsimp only
  repeat' first
    | with_reducible assumption
    | with_reducible apply wf_each
    | with_reducible apply wf_putPioWord
    | (split <;> try dsimp only)
    | (intros; try dsimp only)

theorem wf_cmdPioLoad (r : Req) (s : State) (h : Canon s.regs s.latch) : Canon (Cmd.effect cmdPioLoad r s).1.regs (Cmd.effect cmdPioLoad r s).1.latch := by
  unfold cmdPioLoad; try dsimp only
  repeat' first
    | with_reducible assumption
    | with_reducible apply wf_pioLoadApply
    | (split <;> try dsimp only)
    | (intros; try dsimp only)

theorem wf_pioStartApply (p : List Byte) (s : State) (h : Canon s.regs s.latch) : Canon (pioStartApply p s).regs (pioStartApply p s).latch := by
  unfold pioStartApply; try dsimp only
  repeat' first
    | with_reducible assumption
    | with_reducible apply wf_each
    | with_reducible apply wf_setPio
    | with_reducible apply wf_putPins
    | with_reducible apply wf_releasePins
    | with_reducible apply wf_setPioState
    | (split <;> try dsimp only)
    | (intros; try dsimp only)

theorem wf_cmdPioStart (r : Req) (s : State) (h : Canon s.regs s.latch) : Canon (Cmd.effect cmdPioStart r s).1.regs (Cmd.effect cmdPioStart r s).1.latch := by
  unfold cmdPioStart; try dsimp only
  repeat' first
    | with_reducible assumption
    | with_reducible apply wf_pioStartApply
    | (split <;> try dsimp only)
    | (intros; try dsimp only)

theorem wf_pioStop (k : Nat) (s : State) (h : Canon s.regs s.latch) : Canon (State.pioStop k s).regs (State.pioStop k s).latch := by
  unfold State.pioStop; try dsimp only
  repeat' first
    | with_reducible assumption
    | with_reducible apply wf_applySafeLevel
    | with_reducible apply wf_setPioState
    | (split <;> try dsimp only)
    | (intros; try dsimp only)

theorem wf_cmdPioStop (r : Req) (s : State) (h : Canon s.regs s.latch) : Canon (Cmd.effect cmdPioStop r s).1.regs (Cmd.effect cmdPioStop r s).1.latch := by
  unfold cmdPioStop; try dsimp only
  repeat' first
    | with_reducible assumption
    | with_reducible apply wf_each
    | with_reducible apply wf_pioStop
    | (split <;> try dsimp only)
    | (intros; try dsimp only)

theorem wf_pioInjectApply (p : List Byte) (s : State) (h : Canon s.regs s.latch) : Canon (pioInjectApply p s).regs (pioInjectApply p s).latch := by
  unfold pioInjectApply; try dsimp only
  repeat' first
    | with_reducible assumption
    | with_reducible apply wf_setPio
    | with_reducible apply wf_pioExec
    | (split <;> try dsimp only)
    | (intros; try dsimp only)

theorem wf_cmdPioInject (r : Req) (s : State) (h : Canon s.regs s.latch) : Canon (Cmd.effect cmdPioInject r s).1.regs (Cmd.effect cmdPioInject r s).1.latch := by
  unfold cmdPioInject; try dsimp only
  repeat' first
    | with_reducible assumption
    | with_reducible apply wf_pioInjectApply
    | (split <;> try dsimp only)
    | (intros; try dsimp only)

theorem wf_pioConfigApply (p : List Byte) (s : State) (h : Canon s.regs s.latch) : Canon (pioConfigApply p s).regs (pioConfigApply p s).latch := by
  unfold pioConfigApply; try dsimp only
  repeat' first
    | with_reducible assumption
    | with_reducible apply wf_setReg
    | with_reducible apply wf_releasePins
    | (split <;> try dsimp only)
    | (intros; try dsimp only)

theorem wf_cmdPioConfig (r : Req) (s : State) (h : Canon s.regs s.latch) : Canon (Cmd.effect cmdPioConfig r s).1.regs (Cmd.effect cmdPioConfig r s).1.latch := by
  unfold cmdPioConfig; try dsimp only
  repeat' first
    | with_reducible assumption
    | with_reducible apply wf_pioConfigApply
    | (split <;> try dsimp only)
    | (intros; try dsimp only)

theorem wf_cmdPioStatus (r : Req) (s : State) (h : Canon s.regs s.latch) : Canon (Cmd.effect cmdPioStatus r s).1.regs (Cmd.effect cmdPioStatus r s).1.latch := by
  unfold cmdPioStatus; try dsimp only
  repeat' first
    | with_reducible assumption
    | (split <;> try dsimp only)
    | (intros; try dsimp only)

theorem wf_pioStep (s : State) (h : Canon s.regs s.latch) : Canon (State.pioStep s).regs (State.pioStep s).latch := by
  unfold State.pioStep; try dsimp only
  repeat' first
    | with_reducible assumption
    | with_reducible apply wf_setF
    | (split <;> try dsimp only)
    | (intros; try dsimp only)

theorem wf_writePioPmem (w : Word) (s : State) (h : Canon s.regs s.latch) : Canon (State.writePioPmem w s).regs (State.writePioPmem w s).latch := by
  unfold State.writePioPmem; try dsimp only
  repeat' first
    | with_reducible assumption
    | with_reducible apply wf_pioRefused
    | with_reducible apply wf_putPioWord
    | with_reducible apply wf_pioStep
    | (split <;> try dsimp only)
    | (intros; try dsimp only)

theorem wf_writePioConfig (a : Nat) (w : Word) (s : State) (h : Canon s.regs s.latch) : Canon (State.writePioConfig a w s).regs (State.writePioConfig a w s).latch := by
  unfold State.writePioConfig; try dsimp only
  repeat' first
    | with_reducible assumption
    | with_reducible apply wf_setReg
    | with_reducible apply wf_releasePins
    | with_reducible apply wf_pioRefused
    | (split <;> try dsimp only)
    | (intros; try dsimp only)

theorem wf_addTick (e : EngTick) (s : State) (h : Canon s.regs s.latch) : Canon (State.addTick e s).regs (State.addTick e s).latch := by
  unfold State.addTick; try dsimp only
  repeat' first
    | with_reducible assumption
    | with_reducible apply wf_putEng
    | (split <;> try dsimp only)
    | (intros; try dsimp only)

theorem wf_engineSettle (s : State) (h : Canon s.regs s.latch) : Canon (State.engineSettle s).regs (State.engineSettle s).latch := by
  unfold State.engineSettle; try dsimp only
  repeat' first
    | with_reducible assumption
    | with_reducible apply wf_endAll
    | with_reducible apply wf_finishAllDue
    | (split <;> try dsimp only)
    | (intros; try dsimp only)

theorem wf_fastArrive (t : Nat) (xs : List Sample) (s : State) (h : Canon s.regs s.latch) : Canon (State.fastArrive t xs s).regs (State.fastArrive t xs s).latch := by
  unfold State.fastArrive; try dsimp only
  repeat' first
    | with_reducible assumption
    | with_reducible apply wf_maxF
    | with_reducible apply wf_forUpTo
    | with_reducible apply wf_putEng
    | with_reducible apply wf_openNext
    | with_reducible apply wf_pruneTicks
    | with_reducible apply wf_evalSpec
    | with_reducible apply wf_applyCfg
    | with_reducible apply wf_resolveVoids
    | with_reducible apply wf_applyParams
    | with_reducible apply wf_addTick
    | with_reducible apply wf_engineSettle
    | (split <;> try dsimp only)
    | (intros; try dsimp only)

theorem wf_commArrive (f : Fused) (s : State) (h : Canon s.regs s.latch) : Canon (State.commArrive f s).regs (State.commArrive f s).latch := by
  unfold State.commArrive; try dsimp only
  repeat' first
    | with_reducible assumption
    | with_reducible apply wf_forUpTo
    | with_reducible apply wf_setTick
    | with_reducible apply wf_resolveMach
    | with_reducible apply wf_resolveRecs
    | with_reducible apply wf_voidWhere
    | with_reducible apply wf_addTick
    | with_reducible apply wf_engineSettle
    | (split <;> try dsimp only)
    | (intros; try dsimp only)

theorem wf_commitTick (hs : List HeldRec) (s : State) (h : Canon s.regs s.latch) : Canon (State.commitTick hs s).regs (State.commitTick hs s).latch := by
  unfold State.commitTick; try dsimp only
  repeat' first
    | with_reducible assumption
    | with_reducible apply wf_each
    | with_reducible apply wf_ringConfigPoint
    | with_reducible apply wf_commitAll
    | with_reducible apply wf_ringOnly
    | (split <;> try dsimp only)
    | (intros; try dsimp only)

theorem wf_dawnTime (t : Nat) (s : State) (h : Canon s.regs s.latch) : Canon (State.dawnTime t s).regs (State.dawnTime t s).latch := by
  unfold State.dawnTime; try dsimp only
  repeat' first
    | with_reducible assumption
    | with_reducible apply wf_commitOne
    | (split <;> try dsimp only)
    | (intros; try dsimp only)

theorem wf_commitHeld (t : Nat) (s : State) (h : Canon s.regs s.latch) : Canon (State.commitHeld t s).regs (State.commitHeld t s).latch := by
  unfold State.commitHeld; try dsimp only
  repeat' first
    | with_reducible assumption
    | with_reducible apply wf_each
    | with_reducible apply wf_commitTick
    | (split <;> try dsimp only)
    | (intros; try dsimp only)

theorem wf_loseFast (t : Nat) (s : State) (h : Canon s.regs s.latch) : Canon (State.loseFast t s).regs (State.loseFast t s).latch := by
  unfold State.loseFast; try dsimp only
  repeat' first
    | with_reducible assumption
    | with_reducible apply wf_putEng
    | with_reducible apply wf_applyCfg
    | with_reducible apply wf_applyParams
    | with_reducible apply wf_addTick
    | with_reducible apply wf_engineSettle
    | (split <;> try dsimp only)
    | (intros; try dsimp only)

theorem wf_loseCommitted (stage t : Nat) (s : State) (h : Canon s.regs s.latch) : Canon (State.loseCommitted stage t s).regs (State.loseCommitted stage t s).latch := by
  unfold State.loseCommitted; try dsimp only
  repeat' first
    | with_reducible assumption
    | with_reducible apply wf_hold
    | with_reducible apply wf_staleVote
    | (split <;> try dsimp only)
    | (intros; try dsimp only)

theorem wf_lateStage (stage t : Nat) (s : State) (h : Canon s.regs s.latch) : Canon (State.lateStage stage t s).regs (State.lateStage stage t s).latch := by
  unfold State.lateStage; try dsimp only
  repeat' first
    | with_reducible assumption
    | with_reducible apply wf_setF
    | with_reducible apply wf_raise
    | with_reducible apply wf_loseFast
    | with_reducible apply wf_loseCommitted
    | (split <;> try dsimp only)
    | (intros; try dsimp only)

theorem wf_edgeIgnored (s : State) (h : Canon s.regs s.latch) : Canon (State.edgeIgnored s).regs (State.edgeIgnored s).latch := by
  unfold State.edgeIgnored; try dsimp only
  repeat' first
    | with_reducible assumption
    | with_reducible apply wf_incSat
    | with_reducible apply wf_raise
    | (split <;> try dsimp only)
    | (intros; try dsimp only)

theorem wf_putBoundary (b : Nat) (s : State) (h : Canon s.regs s.latch) : Canon (State.putBoundary b s).regs (State.putBoundary b s).latch := by
  unfold State.putBoundary; try dsimp only
  repeat' first
    | with_reducible assumption
    | with_reducible apply wf_setReg
    | (split <;> try dsimp only)
    | (intros; try dsimp only)

theorem wf_beginJoin (b : Nat) (s : State) (h : Canon s.regs s.latch) : Canon (State.beginJoin b s).regs (State.beginJoin b s).latch := by
  unfold State.beginJoin; try dsimp only
  repeat' first
    | with_reducible assumption
    | with_reducible apply wf_setF
    | with_reducible apply wf_putPair
    | with_reducible apply wf_putBoundary
    | (split <;> try dsimp only)
    | (intros; try dsimp only)

theorem wf_sendJoinReq (s : State) (h : Canon s.regs s.latch) : Canon (State.sendJoinReq s).regs (State.sendJoinReq s).latch := by
  unfold State.sendJoinReq; try dsimp only
  repeat' first
    | with_reducible assumption
    | with_reducible apply wf_sendPair
    | (split <;> try dsimp only)
    | (intros; try dsimp only)

theorem wf_startJoin (s : State) (h : Canon s.regs s.latch) : Canon (State.startJoin s).regs (State.startJoin s).latch := by
  unfold State.startJoin; try dsimp only
  repeat' first
    | with_reducible assumption
    | with_reducible apply wf_beginJoin
    | with_reducible apply wf_sendJoinReq
    | (split <;> try dsimp only)
    | (intros; try dsimp only)

theorem wf_learnPartner (p : List Byte) (s : State) (h : Canon s.regs s.latch) : Canon (State.learnPartner p s).regs (State.learnPartner p s).latch := by
  unfold State.learnPartner; try dsimp only
  repeat' first
    | with_reducible assumption
    | with_reducible apply wf_setReg
    | with_reducible apply wf_setF
    | with_reducible apply wf_forUpTo
    | with_reducible apply wf_putPair
    | (split <;> try dsimp only)
    | (intros; try dsimp only)

theorem wf_partnerLeave (s : State) (h : Canon s.regs s.latch) : Canon (State.partnerLeave s).regs (State.partnerLeave s).latch := by
  unfold State.partnerLeave; try dsimp only
  repeat' first
    | with_reducible assumption
    | with_reducible apply wf_failOpen
    | with_reducible apply wf_pairLeave
    | (split <;> try dsimp only)
    | (intros; try dsimp only)

theorem wf_takeContrib (c : Contrib) (s : State) (h : Canon s.regs s.latch) : Canon (State.takeContrib c s).regs (State.takeContrib c s).latch := by
  unfold State.takeContrib; try dsimp only
  repeat' first
    | with_reducible assumption
    | with_reducible apply wf_putPair
    | with_reducible apply wf_formPair
    | with_reducible apply wf_pairLate
    | (split <;> try dsimp only)
    | (intros; try dsimp only)

theorem wf_pairConfigApply (p : List Byte) (s : State) (h : Canon s.regs s.latch) : Canon (pairConfigApply p s).regs (pairConfigApply p s).latch := by
  unfold pairConfigApply; try dsimp only
  repeat' first
    | with_reducible assumption
    | with_reducible apply wf_setReg
    | with_reducible apply wf_putWritable
    | with_reducible apply wf_syncPair
    | (split <;> try dsimp only)
    | (intros; try dsimp only)

theorem wf_cmdPairConfig (r : Req) (s : State) (h : Canon s.regs s.latch) : Canon (Cmd.effect cmdPairConfig r s).1.regs (Cmd.effect cmdPairConfig r s).1.latch := by
  unfold cmdPairConfig; try dsimp only
  repeat' first
    | with_reducible assumption
    | with_reducible apply wf_pairConfigApply
    | (split <;> try dsimp only)
    | (intros; try dsimp only)

theorem wf_cmdPairJoin (r : Req) (s : State) (h : Canon s.regs s.latch) : Canon (Cmd.effect cmdPairJoin r s).1.regs (Cmd.effect cmdPairJoin r s).1.latch := by
  unfold cmdPairJoin; try dsimp only
  repeat' first
    | with_reducible assumption
    | with_reducible apply wf_startJoin
    | (split <;> try dsimp only)
    | (intros; try dsimp only)

theorem wf_cmdPairLeave (r : Req) (s : State) (h : Canon s.regs s.latch) : Canon (Cmd.effect cmdPairLeave r s).1.regs (Cmd.effect cmdPairLeave r s).1.latch := by
  unfold cmdPairLeave; try dsimp only
  repeat' first
    | with_reducible assumption
    | with_reducible apply wf_pairCommandLeave
    | (split <;> try dsimp only)
    | (intros; try dsimp only)

theorem wf_cmdPairStatus (r : Req) (s : State) (h : Canon s.regs s.latch) : Canon (Cmd.effect cmdPairStatus r s).1.regs (Cmd.effect cmdPairStatus r s).1.latch := by
  unfold cmdPairStatus; try dsimp only
  repeat' first
    | with_reducible assumption
    | (split <;> try dsimp only)
    | (intros; try dsimp only)

theorem wf_writePair (a : Nat) (w : Word) (s : State) (h : Canon s.regs s.latch) : Canon (State.writePair a w s).regs (State.writePair a w s).latch := by
  unfold State.writePair; try dsimp only
  repeat' first
    | with_reducible assumption
    | with_reducible apply wf_setF
    | with_reducible apply wf_putWritable
    | with_reducible apply wf_syncPair
    | (split <;> try dsimp only)
    | (intros; try dsimp only)

theorem wf_takeVisible (n : Nat) (s : State) (h : Canon s.regs s.latch) : Canon (State.takeVisible n s).regs (State.takeVisible n s).latch := by
  unfold State.takeVisible; try dsimp only
  repeat' first
    | with_reducible assumption
    | with_reducible apply wf_syncSink
    | (split <;> try dsimp only)
    | (intros; try dsimp only)

theorem wf_cmdQueueRead (r : Req) (s : State) (h : Canon s.regs s.latch) : Canon (Cmd.effect cmdQueueRead r s).1.regs (Cmd.effect cmdQueueRead r s).1.latch := by
  unfold cmdQueueRead; try dsimp only
  repeat' first
    | with_reducible assumption
    | with_reducible apply wf_takeVisible
    | (split <;> try dsimp only)
    | (intros; try dsimp only)

theorem wf_cmdQueueFlush (r : Req) (s : State) (h : Canon s.regs s.latch) : Canon (Cmd.effect cmdQueueFlush r s).1.regs (Cmd.effect cmdQueueFlush r s).1.latch := by
  unfold cmdQueueFlush; try dsimp only
  repeat' first
    | with_reducible assumption
    | with_reducible apply wf_queueFlush
    | (split <;> try dsimp only)
    | (intros; try dsimp only)

theorem wf_putQueueCfg (w : Word) (s : State) (h : Canon s.regs s.latch) : Canon (State.putQueueCfg w s).regs (State.putQueueCfg w s).latch := by
  unfold State.putQueueCfg; try dsimp only
  repeat' first
    | with_reducible assumption
    | with_reducible apply wf_watermark
    | with_reducible apply wf_syncSink
    | with_reducible apply wf_putWritable
    | (split <;> try dsimp only)
    | (intros; try dsimp only)

theorem wf_cmdQueueConfig (r : Req) (s : State) (h : Canon s.regs s.latch) : Canon (Cmd.effect cmdQueueConfig r s).1.regs (Cmd.effect cmdQueueConfig r s).1.latch := by
  unfold cmdQueueConfig; try dsimp only
  repeat' first
    | with_reducible assumption
    | with_reducible apply wf_setReg
    | with_reducible apply wf_putQueueCfg
    | (split <;> try dsimp only)
    | (intros; try dsimp only)

theorem wf_queueByte (s : State) (h : Canon s.regs s.latch) : Canon (State.queueByte s).regs (State.queueByte s).latch := by
  unfold State.queueByte; try dsimp only
  repeat' first
    | with_reducible assumption
    | with_reducible apply wf_syncSink
    | with_reducible apply wf_outByte
    | (split <;> try dsimp only)
    | (intros; try dsimp only)

theorem wf_cmdRingConfig (r : Req) (s : State) (h : Canon s.regs s.latch) : Canon (Cmd.effect cmdRingConfig r s).1.regs (Cmd.effect cmdRingConfig r s).1.latch := by
  unfold cmdRingConfig; try dsimp only
  repeat' first
    | with_reducible assumption
    | with_reducible apply wf_setReg
    | with_reducible apply wf_forUpTo
    | with_reducible apply wf_ringEnable
    | with_reducible apply wf_putWritable
    | (split <;> try dsimp only)
    | (intros; try dsimp only)

theorem wf_commandTrigger (desc : Nat) (s : State) (h : Canon s.regs s.latch) : Canon (State.commandTrigger desc s).regs (State.commandTrigger desc s).latch := by
  unfold State.commandTrigger; try dsimp only
  repeat' first
    | with_reducible assumption
    | with_reducible apply wf_captureTrigger
    | (split <;> try dsimp only)
    | (intros; try dsimp only)

theorem wf_cmdRingTrigger (r : Req) (s : State) (h : Canon s.regs s.latch) : Canon (Cmd.effect cmdRingTrigger r s).1.regs (Cmd.effect cmdRingTrigger r s).1.latch := by
  unfold cmdRingTrigger; try dsimp only
  repeat' first
    | with_reducible assumption
    | with_reducible apply wf_commandTrigger
    | (split <;> try dsimp only)
    | (intros; try dsimp only)

theorem wf_cmdRingRead (r : Req) (s : State) (h : Canon s.regs s.latch) : Canon (Cmd.effect cmdRingRead r s).1.regs (Cmd.effect cmdRingRead r s).1.latch := by
  unfold cmdRingRead; try dsimp only
  repeat' first
    | with_reducible assumption
    | (split <;> try dsimp only)
    | (intros; try dsimp only)

theorem wf_cmdRingRelease (r : Req) (s : State) (h : Canon s.regs s.latch) : Canon (Cmd.effect cmdRingRelease r s).1.regs (Cmd.effect cmdRingRelease r s).1.latch := by
  unfold cmdRingRelease; try dsimp only
  repeat' first
    | with_reducible assumption
    | with_reducible apply wf_ringRelease
    | (split <;> try dsimp only)
    | (intros; try dsimp only)

theorem wf_ringCmd (w : Word) (s : State) (h : Canon s.regs s.latch) : Canon (State.ringCmd w s).regs (State.ringCmd w s).latch := by
  unfold State.ringCmd; try dsimp only
  repeat' first
    | with_reducible assumption
    | with_reducible apply wf_ringEmpty
    | with_reducible apply wf_ringRelease
    | with_reducible apply wf_commandTrigger
    | (split <;> try dsimp only)
    | (intros; try dsimp only)

theorem wf_twStart (s : State) (h : Canon s.regs s.latch) : Canon (State.twStart s).regs (State.twStart s).latch := by
  unfold State.twStart; try dsimp only
  repeat' first
    | with_reducible assumption
    | with_reducible apply wf_setF
    | (split <;> try dsimp only)
    | (intros; try dsimp only)

theorem wf_busAccess (a n : Nat) (s : State) (h : Canon s.regs s.latch) : Canon (State.busAccess a n s).regs (State.busAccess a n s).latch := by
  unfold State.busAccess; try dsimp only
  repeat' first
    | with_reducible assumption
    | with_reducible apply wf_setF
    | with_reducible apply wf_twStart
    | (split <;> try dsimp only)
    | (intros; try dsimp only)

theorem wf_byBus (bus : Bool) (a : Nat) (f : State → State) (s : State) (h : Canon s.regs s.latch)
    (hf : ∀ t : State, Canon t.regs t.latch → Canon (f t).regs (f t).latch) : Canon (s.byBus bus a f).regs (s.byBus bus a f).latch := by
  unfold State.byBus; split
  · split
    · exact wf_twStart _ h
    · exact hf _ (wf_busAccess _ _ _ (wf_twStart _ h))
  · exact hf _ h

theorem wf_busRead (bytes : Fin 5) (a : Nat) (s : State) (h : Canon s.regs s.latch) : Canon (State.busRead bytes a s).regs (State.busRead bytes a s).latch := by
  unfold State.busRead; try dsimp only
  repeat' first
    | with_reducible assumption
    | with_reducible apply wf_busAccess
    | (split <;> try dsimp only)
    | (intros; try dsimp only)

theorem wf_doorbell (w : Word) (s : State) (h : Canon s.regs s.latch) : Canon (State.doorbell w s).regs (State.doorbell w s).latch := by
  unfold State.doorbell; try dsimp only
  repeat' first
    | with_reducible assumption
    | with_reducible apply wf_incSat
    | with_reducible apply wf_post
    | (split <;> try dsimp only)
    | (intros; try dsimp only)

theorem wf_hostSet (w : Word) (s : State) (h : Canon s.regs s.latch) : Canon (State.hostSet w s).regs (State.hostSet w s).latch := by
  unfold State.hostSet; try dsimp only
  repeat' first
    | with_reducible assumption
    | with_reducible apply wf_setEnable
    | (split <;> try dsimp only)
    | (intros; try dsimp only)

theorem wf_hostEnWrite (j : Nat) (w : Word) (s : State) (h : Canon s.regs s.latch) : Canon (State.hostEnWrite j w s).regs (State.hostEnWrite j w s).latch := by
  unfold State.hostEnWrite; try dsimp only
  repeat' first
    | with_reducible assumption
    | with_reducible apply wf_setEnable
    | with_reducible apply wf_forUpTo
    | (split <;> try dsimp only)
    | (intros; try dsimp only)

theorem wf_cpEnables (s : State) (h : Canon s.regs s.latch) : Canon (State.cpEnables s).regs (State.cpEnables s).latch := by
  unfold State.cpEnables; try dsimp only
  repeat' first
    | with_reducible assumption
    | with_reducible apply wf_setEnable
    | with_reducible apply wf_forUpTo
    | with_reducible apply wf_draw
    | (split <;> try dsimp only)
    | (intros; try dsimp only)

theorem wf_clearTarget (t : Target) (s : State) (h : Canon s.regs s.latch) : Canon (State.clearTarget t s).regs (State.clearTarget t s).latch := by
  unfold State.clearTarget; try dsimp only
  repeat' first
    | with_reducible assumption
    | with_reducible apply wf_setF
    | with_reducible apply wf_forUpTo
    | (split <;> try dsimp only)
    | (intros; try dsimp only)

theorem wf_clearCp (s : State) (h : Canon s.regs s.latch) : Canon (State.clearCp s).regs (State.clearCp s).latch := by
  unfold State.clearCp; try dsimp only
  repeat' first
    | with_reducible assumption
    | with_reducible apply wf_setF
    | with_reducible apply wf_forUpTo
    | with_reducible apply wf_clearTarget
    | (split <;> try dsimp only)
    | (intros; try dsimp only)

theorem wf_resampleAll (s : State) (h : Canon s.regs s.latch) : Canon (State.resampleAll s).regs (State.resampleAll s).latch := by
  unfold State.resampleAll; try dsimp only
  repeat' first
    | with_reducible assumption
    | with_reducible apply wf_resample
    | with_reducible apply wf_forUpTo
    | (split <;> try dsimp only)
    | (intros; try dsimp only)

theorem wf_xingReset (k : Nat) (s : State) (h : Canon s.regs s.latch) : Canon (State.xingReset k s).regs (State.xingReset k s).latch := by
  unfold State.xingReset; try dsimp only
  repeat' first
    | with_reducible assumption
    | (split <;> try dsimp only)
    | (intros; try dsimp only)

theorem wf_stopMachines (report : Bool) (s : State) (h : Canon s.regs s.latch) : Canon (State.stopMachines report s).regs (State.stopMachines report s).latch := by
  unfold State.stopMachines; try dsimp only
  repeat' first
    | with_reducible assumption
    | with_reducible apply wf_forUpTo
    | with_reducible apply wf_stopMach
    | (split <;> try dsimp only)
    | (intros; try dsimp only)

theorem wf_stopRecs (report : Bool) (s : State) (h : Canon s.regs s.latch) : Canon (State.stopRecs report s).regs (State.stopRecs report s).latch := by
  unfold State.stopRecs; try dsimp only
  repeat' first
    | with_reducible assumption
    | with_reducible apply wf_setReg
    | with_reducible apply wf_each
    | with_reducible apply wf_putEng
    | with_reducible apply wf_falsestopNow
    | (split <;> try dsimp only)
    | (intros; try dsimp only)

theorem wf_stopSensing (s : State) (h : Canon s.regs s.latch) : Canon (State.stopSensing s).regs (State.stopSensing s).latch := by
  unfold State.stopSensing; try dsimp only
  repeat' first
    | with_reducible assumption
    | with_reducible apply wf_setReg
    | with_reducible apply wf_setF
    | with_reducible apply wf_putArray
    | with_reducible apply wf_putFilt
    | (split <;> try dsimp only)
    | (intros; try dsimp only)

theorem wf_stopPio (s : State) (h : Canon s.regs s.latch) : Canon (State.stopPio s).regs (State.stopPio s).latch := by
  unfold State.stopPio; try dsimp only
  repeat' first
    | with_reducible assumption
    | with_reducible apply wf_each
    | with_reducible apply wf_pioStop
    | (split <;> try dsimp only)
    | (intros; try dsimp only)

theorem wf_leaveImago (s : State) (h : Canon s.regs s.latch) : Canon (State.leaveImago s).regs (State.leaveImago s).latch := by
  unfold State.leaveImago; try dsimp only
  repeat' first
    | with_reducible assumption
    | with_reducible apply wf_setF
    | with_reducible apply wf_flushVisible
    | with_reducible apply wf_safePath
    | with_reducible apply wf_finishAllDue
    | with_reducible apply wf_pairPowerLeave
    | with_reducible apply wf_commitHeld
    | with_reducible apply wf_stopMachines
    | with_reducible apply wf_stopRecs
    | with_reducible apply wf_stopSensing
    | with_reducible apply wf_stopPio
    | (split <;> try dsimp only)
    | (intros; try dsimp only)

theorem wf_enterStage (st entry : Nat) (s : State) (h : Canon s.regs s.latch) : Canon (State.enterStage st entry s).regs (State.enterStage st entry s).latch := by
  unfold State.enterStage; try dsimp only
  repeat' first
    | with_reducible assumption
    | with_reducible apply wf_setF
    | with_reducible apply wf_raise
    | with_reducible apply wf_cpEnables
    | (split <;> try dsimp only)
    | (intros; try dsimp only)

theorem wf_noiseAtFloor (s : State) (h : Canon s.regs s.latch) : Canon (State.noiseAtFloor s).regs (State.noiseAtFloor s).latch := by
  unfold State.noiseAtFloor; try dsimp only
  repeat' first
    | with_reducible assumption
    | with_reducible apply wf_putArray
    | (split <;> try dsimp only)
    | (intros; try dsimp only)

theorem wf_startSensing (cause : Nat) (s : State) (h : Canon s.regs s.latch) : Canon (State.startSensing cause s).regs (State.startSensing cause s).latch := by
  unfold State.startSensing; try dsimp only
  repeat' first
    | with_reducible assumption
    | with_reducible apply wf_setF
    | with_reducible apply wf_putArray
    | with_reducible apply wf_settleAtLock
    | with_reducible apply wf_syncDriveFault
    | with_reducible apply wf_putFilt
    | (split <;> try dsimp only)
    | (intros; try dsimp only)

theorem wf_enterImago (entry schema : Nat) (s : State) (h : Canon s.regs s.latch) : Canon (State.enterImago entry schema s).regs (State.enterImago entry schema s).latch := by
  unfold State.enterImago; try dsimp only
  repeat' first
    | with_reducible assumption
    | with_reducible apply wf_setF
    | with_reducible apply wf_disarmedQuiet
    | with_reducible apply wf_enterStage
    | with_reducible apply wf_noiseAtFloor
    | (split <;> try dsimp only)
    | (intros; try dsimp only)

theorem wf_resumeTime (tick0 time0 : Nat) (rate : Int) (cycles : Nat) (s : State) (h : Canon s.regs s.latch) : Canon (State.resumeTime tick0 time0 rate cycles s).regs (State.resumeTime tick0 time0 rate cycles s).latch := by
  unfold State.resumeTime; try dsimp only
  repeat' first
    | with_reducible assumption
    | with_reducible apply wf_setF
    | with_reducible apply wf_raise
    | with_reducible apply wf_setTime
    | (split <;> try dsimp only)
    | (intros; try dsimp only)

theorem wf_dropCommands (s : State) (h : Canon s.regs s.latch) : Canon (State.dropCommands s).regs (State.dropCommands s).latch := by
  unfold State.dropCommands; try dsimp only
  repeat' first
    | with_reducible assumption
    | with_reducible apply wf_putLink
    | with_reducible apply wf_putTime
    | (split <;> try dsimp only)
    | (intros; try dsimp only)

theorem wf_dropStaged (s : State) (h : Canon s.regs s.latch) : Canon (State.dropStaged s).regs (State.dropStaged s).latch := by
  unfold State.dropStaged; try dsimp only
  repeat' first
    | with_reducible assumption
    | (split <;> try dsimp only)
    | (intros; try dsimp only)

theorem wf_restartLarva (brownout : Bool) (s : State) (h : Canon s.regs s.latch) : Canon (State.restartLarva brownout s).regs (State.restartLarva brownout s).latch := by
  unfold State.restartLarva; try dsimp only
  repeat' first
    | with_reducible assumption
    | with_reducible apply wf_setF
    | with_reducible apply wf_enterStage
    | (split <;> try dsimp only)
    | (intros; try dsimp only)

theorem wf_safetyReset (s : State) (h : Canon s.regs s.latch) : Canon (State.safetyReset s).regs (State.safetyReset s).latch := by
  unfold State.safetyReset; try dsimp only
  repeat' first
    | with_reducible assumption
    | with_reducible apply wf_setF
    | with_reducible apply wf_incSat
    | with_reducible apply wf_safePath
    | (split <;> try dsimp only)
    | (intros; try dsimp only)

theorem wf_controlReset (cut : Nat) (s : State) (h : Canon s.regs s.latch) : Canon (State.controlReset cut s).regs (State.controlReset cut s).latch := by
  unfold State.controlReset; try dsimp only
  repeat' first
    | with_reducible assumption
    | with_reducible apply wf_when
    | with_reducible apply wf_each
    | with_reducible apply wf_flushVisible
    | with_reducible apply wf_holdPins
    | with_reducible apply wf_pairPowerLeave
    | with_reducible apply wf_applySafeLevel
    | with_reducible apply wf_clearCp
    | with_reducible apply wf_xingReset
    | with_reducible apply wf_stopMachines
    | with_reducible apply wf_stopRecs
    | with_reducible apply wf_stopSensing
    | with_reducible apply wf_stopPio
    | with_reducible apply wf_dropCommands
    | with_reducible apply wf_dropStaged
    | with_reducible apply wf_restartLarva
    | with_reducible apply wf_safetyReset
    | (split <;> try dsimp only)
    | (intros; try dsimp only)

theorem wf_putEntry (e : EntryPart) (s : State) (h : Canon s.regs s.latch) : Canon (State.putEntry e s).regs (State.putEntry e s).latch := by
  unfold State.putEntry; try dsimp only
  repeat' first
    | with_reducible assumption
    | (split <;> try dsimp only)
    | (intros; try dsimp only)

theorem wf_onePhase (p : Nat) (s : State) (h : Canon s.regs s.latch) : Canon (State.onePhase p s).regs (State.onePhase p s).latch := by
  unfold State.onePhase; try dsimp only
  repeat' first
    | with_reducible assumption
    | with_reducible apply wf_setF
    | (split <;> try dsimp only)
    | (intros; try dsimp only)

theorem wf_startPhase (s : State) (h : Canon s.regs s.latch) : Canon (State.startPhase s).regs (State.startPhase s).latch := by
  unfold State.startPhase; try dsimp only
  repeat' first
    | with_reducible assumption
    | with_reducible apply wf_draw
    | with_reducible apply wf_onePhase
    | (split <;> try dsimp only)
    | (intros; try dsimp only)

theorem wf_syncLimit (s : State) (h : Canon s.regs s.latch) : Canon (State.syncLimit s).regs (State.syncLimit s).latch := by
  unfold State.syncLimit; try dsimp only
  repeat' first
    | with_reducible assumption
    | with_reducible apply wf_setF
    | (split <;> try dsimp only)
    | (intros; try dsimp only)

theorem wf_limitOn (k : Nat) (s : State) (h : Canon s.regs s.latch) : Canon (State.limitOn k s).regs (State.limitOn k s).latch := by
  unfold State.limitOn; try dsimp only
  repeat' first
    | with_reducible assumption
    | with_reducible apply wf_incSat
    | with_reducible apply wf_raise
    | with_reducible apply wf_putEntry
    | with_reducible apply wf_syncLimit
    | (split <;> try dsimp only)
    | (intros; try dsimp only)

theorem wf_limitOff (k : Nat) (s : State) (h : Canon s.regs s.latch) : Canon (State.limitOff k s).regs (State.limitOff k s).latch := by
  unfold State.limitOff; try dsimp only
  repeat' first
    | with_reducible assumption
    | with_reducible apply wf_putEntry
    | with_reducible apply wf_syncLimit
    | (split <;> try dsimp only)
    | (intros; try dsimp only)

theorem wf_vauxOff (why : Nat) (s : State) (h : Canon s.regs s.latch) : Canon (State.vauxOff why s).regs (State.vauxOff why s).latch := by
  unfold State.vauxOff; try dsimp only
  repeat' first
    | with_reducible assumption
    | with_reducible apply wf_setF
    | with_reducible apply wf_putEntry
    | with_reducible apply wf_limitOff
    | (split <;> try dsimp only)
    | (intros; try dsimp only)

theorem wf_vauxOn (s : State) (h : Canon s.regs s.latch) : Canon (State.vauxOn s).regs (State.vauxOn s).latch := by
  unfold State.vauxOn; try dsimp only
  repeat' first
    | with_reducible assumption
    | with_reducible apply wf_setF
    | with_reducible apply wf_putEntry
    | with_reducible apply wf_startPhase
    | (split <;> try dsimp only)
    | (intros; try dsimp only)

theorem wf_vauxRestart (s : State) (h : Canon s.regs s.latch) : Canon (State.vauxRestart s).regs (State.vauxRestart s).latch := by
  unfold State.vauxRestart; try dsimp only
  repeat' first
    | with_reducible assumption
    | with_reducible apply wf_incSat
    | with_reducible apply wf_raise
    | with_reducible apply wf_vauxOn
    | (split <;> try dsimp only)
    | (intros; try dsimp only)

theorem wf_losePower (held : Nat → Bool) (s : State) (h : Canon s.regs s.latch) : Canon (State.losePower held s).regs (State.losePower held s).latch := by
  unfold State.losePower; dsimp only
  exact wf_setReg _ _ _ (wf_setReg _ _ _ (⟨RegFile.wf_filter _ _ h.1, rfl⟩))

theorem wf_brownoutHold (s : State) (h : Canon s.regs s.latch) : Canon (State.brownoutHold s).regs (State.brownoutHold s).latch := by
  unfold State.brownoutHold; try dsimp only
  repeat' first
    | with_reducible assumption
    | with_reducible apply wf_putEntry
    | with_reducible apply wf_losePower
    | (split <;> try dsimp only)
    | (intros; try dsimp only)

theorem wf_reportCap (s : State) (h : Canon s.regs s.latch) : Canon (State.reportCap s).regs (State.reportCap s).latch := by
  unfold State.reportCap; try dsimp only
  repeat' first
    | with_reducible assumption
    | with_reducible apply wf_when
    | with_reducible apply wf_setF
    | with_reducible apply wf_raise
    | (split <;> try dsimp only)
    | (intros; try dsimp only)

theorem wf_estimateCap (charge dv : Nat) (s : State) (h : Canon s.regs s.latch) : Canon (State.estimateCap charge dv s).regs (State.estimateCap charge dv s).latch := by
  unfold State.estimateCap; try dsimp only
  repeat' first
    | with_reducible assumption
    | with_reducible apply wf_when
    | with_reducible apply wf_setF
    | with_reducible apply wf_raise
    | with_reducible apply wf_reportCap
    | (split <;> try dsimp only)
    | (intros; try dsimp only)

theorem wf_retirePhase (p cause dev : Nat) (s : State) (h : Canon s.regs s.latch) : Canon (State.retirePhase p cause dev s).regs (State.retirePhase p cause dev s).latch := by
  unfold State.retirePhase; try dsimp only
  repeat' first
    | with_reducible assumption
    | with_reducible apply wf_setF
    | with_reducible apply wf_incSat
    | with_reducible apply wf_raise
    | with_reducible apply wf_onePhase
    | with_reducible apply wf_limitOn
    | with_reducible apply wf_vauxOff
    | (split <;> try dsimp only)
    | (intros; try dsimp only)

theorem wf_phaseBack (p : Nat) (s : State) (h : Canon s.regs s.latch) : Canon (State.phaseBack p s).regs (State.phaseBack p s).latch := by
  unfold State.phaseBack; try dsimp only
  repeat' first
    | with_reducible assumption
    | with_reducible apply wf_setF
    | with_reducible apply wf_limitOn
    | with_reducible apply wf_limitOff
    | with_reducible apply wf_vauxRestart
    | (split <;> try dsimp only)
    | (intros; try dsimp only)

theorem wf_cmdConvConfig (r : Req) (s : State) (h : Canon s.regs s.latch) : Canon (Cmd.effect cmdConvConfig r s).1.regs (Cmd.effect cmdConvConfig r s).1.latch := by
  unfold cmdConvConfig; try dsimp only
  repeat' first
    | with_reducible assumption
    | with_reducible apply wf_setReg
    | (split <;> try dsimp only)
    | (intros; try dsimp only)

theorem wf_cmdConvStatus (r : Req) (s : State) (h : Canon s.regs s.latch) : Canon (Cmd.effect cmdConvStatus r s).1.regs (Cmd.effect cmdConvStatus r s).1.latch := by
  unfold cmdConvStatus; try dsimp only
  repeat' first
    | with_reducible assumption
    | (split <;> try dsimp only)
    | (intros; try dsimp only)

theorem wf_writeConvCfg (w : Word) (s : State) (h : Canon s.regs s.latch) : Canon (State.writeConvCfg w s).regs (State.writeConvCfg w s).latch := by
  unfold State.writeConvCfg; try dsimp only
  repeat' first
    | with_reducible assumption
    | with_reducible apply wf_setReg
    | with_reducible apply wf_setF
    | (split <;> try dsimp only)
    | (intros; try dsimp only)

theorem wf_cmdPowerVote (r : Req) (s : State) (h : Canon s.regs s.latch) : Canon (Cmd.effect cmdPowerVote r s).1.regs (Cmd.effect cmdPowerVote r s).1.latch := by
  unfold cmdPowerVote; try dsimp only
  repeat' first
    | with_reducible assumption
    | with_reducible apply wf_setF
    | (split <;> try dsimp only)
    | (intros; try dsimp only)

theorem wf_cmdNightConfig (r : Req) (s : State) (h : Canon s.regs s.latch) : Canon (Cmd.effect cmdNightConfig r s).1.regs (Cmd.effect cmdNightConfig r s).1.latch := by
  unfold cmdNightConfig; try dsimp only
  repeat' first
    | with_reducible assumption
    | with_reducible apply wf_setReg
    | (split <;> try dsimp only)
    | (intros; try dsimp only)

theorem wf_cmdPowerStatus (r : Req) (s : State) (h : Canon s.regs s.latch) : Canon (Cmd.effect cmdPowerStatus r s).1.regs (Cmd.effect cmdPowerStatus r s).1.latch := by
  unfold cmdPowerStatus; try dsimp only
  repeat' first
    | with_reducible assumption
    | (split <;> try dsimp only)
    | (intros; try dsimp only)

theorem wf_writeNight (a : Nat) (w : Word) (s : State) (h : Canon s.regs s.latch) : Canon (State.writeNight a w s).regs (State.writeNight a w s).latch := by
  unfold State.writeNight; try dsimp only
  repeat' first
    | with_reducible assumption
    | with_reducible apply wf_setReg
    | (split <;> try dsimp only)
    | (intros; try dsimp only)

theorem wf_intoCocoon (s : State) (h : Canon s.regs s.latch) : Canon (State.intoCocoon s).regs (State.intoCocoon s).latch := by
  unfold State.intoCocoon; try dsimp only
  repeat' first
    | with_reducible assumption
    | with_reducible apply wf_putArray
    | with_reducible apply wf_putFilt
    | with_reducible apply wf_losePower
    | (split <;> try dsimp only)
    | (intros; try dsimp only)

theorem wf_nightPins (s : State) (h : Canon s.regs s.latch) : Canon (State.nightPins s).regs (State.nightPins s).latch := by
  unfold State.nightPins; try dsimp only
  repeat' first
    | with_reducible assumption
    | with_reducible apply wf_putPins
    | (split <;> try dsimp only)
    | (intros; try dsimp only)

theorem wf_startDawn (codes : List Nat) (pins : Nat) (s : State) (h : Canon s.regs s.latch) : Canon (State.startDawn codes pins s).regs (State.startDawn codes pins s).latch := by
  unfold State.startDawn; try dsimp only
  repeat' first
    | with_reducible assumption
    | with_reducible apply wf_when
    | with_reducible apply wf_setF
    | with_reducible apply wf_vauxOn
    | (split <;> try dsimp only)
    | (intros; try dsimp only)

theorem wf_wake (code pins : Nat) (s : State) (h : Canon s.regs s.latch) : Canon (State.wake code pins s).regs (State.wake code pins s).latch := by
  unfold State.wake; try dsimp only
  repeat' first
    | with_reducible assumption
    | with_reducible apply wf_startDawn
    | (split <;> try dsimp only)
    | (intros; try dsimp only)

theorem wf_sentinelFilter (v : List Rat) (s : State) (h : Canon s.regs s.latch) : Canon (State.sentinelFilter v s).regs (State.sentinelFilter v s).latch := by
  unfold State.sentinelFilter; try dsimp only
  repeat' first
    | with_reducible assumption
    | with_reducible apply wf_putArray
    | (split <;> try dsimp only)
    | (intros; try dsimp only)

theorem wf_theftNight (t : Nat) (s : State) (h : Canon s.regs s.latch) : Canon (State.theftNight t s).regs (State.theftNight t s).latch := by
  unfold State.theftNight; try dsimp only
  repeat' first
    | with_reducible assumption
    | with_reducible apply wf_when
    | with_reducible apply wf_putEng
    | with_reducible apply wf_wake
    | (split <;> try dsimp only)
    | (intros; try dsimp only)

theorem wf_Cmd_runNoting (c : Cmd) (note : Verdict → State → State) (r : Req) (s : State) (h : Canon s.regs s.latch)
    (he : ∀ t : State, Canon t.regs t.latch → Canon (c.effect r t).1.regs (c.effect r t).1.latch)
    (hn : ∀ v (t : State), Canon t.regs t.latch → Canon (note v t).regs (note v t).latch) :
    Canon (Cmd.runNoting c note r s).regs (Cmd.runNoting c note r s).latch := by
  unfold Cmd.runNoting
  split
  · exact hn _ _ (wf_Cmd_run c r s h he)
  · exact wf_Cmd_run c r s h he

theorem wf_putBoot (b : BootPart) (s : State) (h : Canon s.regs s.latch) : Canon (State.putBoot b s).regs (State.putBoot b s).latch := by
  unfold State.putBoot; try dsimp only
  repeat' first
    | with_reducible assumption
    | (split <;> try dsimp only)
    | (intros; try dsimp only)

theorem wf_cmdIdentify (r : Req) (s : State) (h : Canon s.regs s.latch) : Canon (Cmd.effect cmdIdentify r s).1.regs (Cmd.effect cmdIdentify r s).1.latch := by
  unfold cmdIdentify; try dsimp only
  repeat' first
    | with_reducible assumption
    | with_reducible apply wf_draw
    | (split <;> try dsimp only)
    | (intros; try dsimp only)

theorem wf_putSlot (k : Nat) (v : Slot) (s : State) (h : Canon s.regs s.latch) : Canon (State.putSlot k v s).regs (State.putSlot k v s).latch := by
  unfold State.putSlot; try dsimp only
  repeat' first
    | with_reducible assumption
    | with_reducible apply wf_putBoot
    | (split <;> try dsimp only)
    | (intros; try dsimp only)

theorem wf_putBlock (k : Nat) (b : Option (List Byte)) (s : State) (h : Canon s.regs s.latch) : Canon (State.putBlock k b s).regs (State.putBlock k b s).latch := by
  unfold State.putBlock; try dsimp only
  repeat' first
    | with_reducible assumption
    | with_reducible apply wf_setF
    | with_reducible apply wf_putSlot
    | (split <;> try dsimp only)
    | (intros; try dsimp only)

theorem wf_setActive (k : Option Nat) (s : State) (h : Canon s.regs s.latch) : Canon (State.setActive k s).regs (State.setActive k s).latch := by
  unfold State.setActive; try dsimp only
  repeat' first
    | with_reducible assumption
    | with_reducible apply wf_setReg
    | with_reducible apply wf_setF
    | (split <;> try dsimp only)
    | (intros; try dsimp only)

theorem wf_noteImg (k : Nat) (v : Verdict) (s : State) (h : Canon s.regs s.latch) : Canon (noteImg k v s).regs (noteImg k v s).latch := by
  unfold noteImg; try dsimp only
  repeat' first
    | with_reducible assumption
    | with_reducible apply wf_setF
    | (split <;> try dsimp only)
    | (intros; try dsimp only)

theorem wf_cmdImgBegin (r : Req) (s : State) (h : Canon s.regs s.latch) : Canon (Cmd.effect cmdImgBegin r s).1.regs (Cmd.effect cmdImgBegin r s).1.latch := by
  unfold cmdImgBegin; try dsimp only
  repeat' first
    | with_reducible assumption
    | with_reducible apply wf_when
    | with_reducible apply wf_setF
    | with_reducible apply wf_putSlot
    | (split <;> try dsimp only)
    | (intros; try dsimp only)

theorem wf_cmdImgWrite (r : Req) (s : State) (h : Canon s.regs s.latch) : Canon (Cmd.effect cmdImgWrite r s).1.regs (Cmd.effect cmdImgWrite r s).1.latch := by
  unfold cmdImgWrite; try dsimp only
  repeat' first
    | with_reducible assumption
    | with_reducible apply wf_when
    | with_reducible apply wf_setF
    | with_reducible apply wf_putSlot
    | (split <;> try dsimp only)
    | (intros; try dsimp only)

theorem wf_cmdImgVerify (r : Req) (s : State) (h : Canon s.regs s.latch) : Canon (Cmd.effect cmdImgVerify r s).1.regs (Cmd.effect cmdImgVerify r s).1.latch := by
  unfold cmdImgVerify; try dsimp only
  repeat' first
    | with_reducible assumption
    | with_reducible apply wf_setF
    | with_reducible apply wf_raise
    | (split <;> try dsimp only)
    | (intros; try dsimp only)

theorem wf_noteVerify (k : Nat) (v : Verdict) (s : State) (h : Canon s.regs s.latch) : Canon (noteVerify k v s).regs (noteVerify k v s).latch := by
  unfold noteVerify; try dsimp only
  repeat' first
    | with_reducible assumption
    | with_reducible apply wf_setF
    | with_reducible apply wf_incSat
    | with_reducible apply wf_raise
    | with_reducible apply wf_noteImg
    | (split <;> try dsimp only)
    | (intros; try dsimp only)

theorem wf_activate (k : Nat) (s : State) (h : Canon s.regs s.latch) : Canon (State.activate k s).regs (State.activate k s).latch := by
  unfold State.activate; try dsimp only
  repeat' first
    | with_reducible assumption
    | with_reducible apply wf_when
    | with_reducible apply wf_setF
    | with_reducible apply wf_raise
    | with_reducible apply wf_leaveImago
    | with_reducible apply wf_enterStage
    | with_reducible apply wf_putBoot
    | with_reducible apply wf_putBlock
    | with_reducible apply wf_setActive
    | (split <;> try dsimp only)
    | (intros; try dsimp only)

theorem wf_cmdImgActivate (r : Req) (s : State) (h : Canon s.regs s.latch) : Canon (Cmd.effect cmdImgActivate r s).1.regs (Cmd.effect cmdImgActivate r s).1.latch := by
  unfold cmdImgActivate; try dsimp only
  repeat' first
    | with_reducible assumption
    | with_reducible apply wf_activate
    | (split <;> try dsimp only)
    | (intros; try dsimp only)

theorem wf_cmdBootStatus (r : Req) (s : State) (h : Canon s.regs s.latch) : Canon (Cmd.effect cmdBootStatus r s).1.regs (Cmd.effect cmdBootStatus r s).1.latch := by
  unfold cmdBootStatus; try dsimp only
  repeat' first
    | with_reducible assumption
    | (split <;> try dsimp only)
    | (intros; try dsimp only)

theorem wf_sectionCmd (typ : Nat) (c : Cmd) (e : sectionCmd typ = some c) (r : Req) (s : State)
    (h : Canon s.regs s.latch) : Canon (c.effect r s).1.regs (c.effect r s).1.latch := by
  unfold sectionCmd at e
  split at e <;> first | injection e with e | cases e
  all_goals subst e
  exacts [wf_cmdSetProfile _ _ h, wf_cmdSetRanges _ _ h, wf_cmdSetCalDelta _ _ h, wf_cmdSentinelConfig _ _ h, wf_cmdSetPreset _ _ h,
    wf_cmdNotchConfig _ _ h, wf_cmdEmLoad _ _ h, wf_cmdEmConfig _ _ h, wf_cmdEmStart _ _ h, wf_cmdEmParam _ _ h,
    wf_cmdRecEnable _ _ h, wf_cmdRecConfig _ _ h, wf_cmdRecWheel _ _ h, wf_cmdSafeConfig _ _ h, wf_cmdQueueConfig _ _ h,
    wf_cmdRingConfig _ _ h, wf_cmdNightConfig _ _ h, wf_cmdConvConfig _ _ h, wf_cmdTimeConfig _ _ h, wf_cmdPairConfig _ _ h,
    wf_cmdPioLoad _ _ h, wf_cmdPioStart _ _ h, wf_cmdPioConfig _ _ h, wf_cmdHkSequence _ _ h, wf_cmdHkWindow _ _ h]

theorem wf_sectionApply (x : Section) (s : State) (h : Canon s.regs s.latch) : Canon (sectionApply x s).regs (sectionApply x s).latch := by
  unfold sectionApply
  split
  · exact h
  · split
    · dsimp only; split
      · exact wf_putWritable _ _ _ h
      · exact wf_setReg _ _ _ h
    · split
      · rename_i hc; exact wf_sectionCmd _ _ hc _ _ h
      · exact h

theorem wf_blockBase (s : State) (h : Canon s.regs s.latch) : Canon (State.blockBase s).regs (State.blockBase s).latch := by
  unfold State.blockBase; try dsimp only
  repeat' first
    | with_reducible assumption
    | with_reducible apply wf_setReg
    | with_reducible apply wf_each
    | with_reducible apply wf_putEng
    | with_reducible apply wf_putArray
    | with_reducible apply wf_stopMachines
    | with_reducible apply wf_stopPio
    | (split <;> try dsimp only)
    | (intros; try dsimp only)

theorem wf_applyType (secs : List Section) (absent : Bool) (t : Nat) (s : State) (h : Canon s.regs s.latch) : Canon (applyType secs absent t s).regs (applyType secs absent t s).latch := by
  unfold applyType; try dsimp only
  repeat' first
    | with_reducible assumption
    | with_reducible apply wf_each
    | with_reducible apply wf_sectionApply
    | (split <;> try dsimp only)
    | (intros; try dsimp only)

theorem wf_applyBlock (secs : List Section) (s : State) (h : Canon s.regs s.latch) : Canon (State.applyBlock secs s).regs (State.applyBlock secs s).latch := by
  unfold State.applyBlock; try dsimp only
  repeat' first
    | with_reducible assumption
    | with_reducible apply wf_each
    | with_reducible apply wf_blockBase
    | with_reducible apply wf_applyType
    | (split <;> try dsimp only)
    | (intros; try dsimp only)

theorem wf_storeBlock (b : List Byte) (s : State) (h : Canon s.regs s.latch) : Canon (State.storeBlock b s).regs (State.storeBlock b s).latch := by
  unfold State.storeBlock; try dsimp only
  repeat' first
    | with_reducible assumption
    | with_reducible apply wf_putBlock
    | (split <;> try dsimp only)
    | (intros; try dsimp only)

theorem wf_imagoWith (entry : Nat) (b : List Byte) (s : State) (h : Canon s.regs s.latch) : Canon (State.imagoWith entry b s).regs (State.imagoWith entry b s).latch := by
  unfold State.imagoWith; try dsimp only
  repeat' first
    | with_reducible assumption
    | with_reducible apply wf_startSensing
    | with_reducible apply wf_enterImago
    | with_reducible apply wf_applyBlock
    | (split <;> try dsimp only)
    | (intros; try dsimp only)

theorem wf_acceptBlock (b : List Byte) (s : State) (h : Canon s.regs s.latch) : Canon (State.acceptBlock b s).regs (State.acceptBlock b s).latch := by
  unfold State.acceptBlock; try dsimp only
  repeat' first
    | with_reducible assumption
    | with_reducible apply wf_setF
    | with_reducible apply wf_raise
    | with_reducible apply wf_putBoot
    | with_reducible apply wf_applyBlock
    | with_reducible apply wf_storeBlock
    | with_reducible apply wf_imagoWith
    | (split <;> try dsimp only)
    | (intros; try dsimp only)

theorem wf_cmdSettingsWrite (r : Req) (s : State) (h : Canon s.regs s.latch) : Canon (Cmd.effect cmdSettingsWrite r s).1.regs (Cmd.effect cmdSettingsWrite r s).1.latch := by
  unfold cmdSettingsWrite; try dsimp only
  repeat' first
    | with_reducible assumption
    | with_reducible apply wf_putBoot
    | (split <;> try dsimp only)
    | (intros; try dsimp only)

theorem wf_cmdSettingsApply (r : Req) (s : State) (h : Canon s.regs s.latch) : Canon (Cmd.effect cmdSettingsApply r s).1.regs (Cmd.effect cmdSettingsApply r s).1.latch := by
  unfold cmdSettingsApply; try dsimp only
  repeat' first
    | with_reducible assumption
    | with_reducible apply wf_acceptBlock
    | (split <;> try dsimp only)
    | (intros; try dsimp only)

theorem wf_noteReject (v : Verdict) (s : State) (h : Canon s.regs s.latch) : Canon (noteReject v s).regs (noteReject v s).latch := by
  unfold noteReject; try dsimp only
  repeat' first
    | with_reducible assumption
    | with_reducible apply wf_setReg
    | with_reducible apply wf_incSat
    | with_reducible apply wf_raise
    | (split <;> try dsimp only)
    | (intros; try dsimp only)

theorem wf_revert (s : State) (h : Canon s.regs s.latch) : Canon (State.revert s).regs (State.revert s).latch := by
  unfold State.revert; try dsimp only
  repeat' first
    | with_reducible assumption
    | with_reducible apply wf_when
    | with_reducible apply wf_setF
    | with_reducible apply wf_incSat
    | with_reducible apply wf_leaveImago
    | with_reducible apply wf_enterStage
    | with_reducible apply wf_putBoot
    | with_reducible apply wf_putBlock
    | with_reducible apply wf_setActive
    | (split <;> try dsimp only)
    | (intros; try dsimp only)

theorem wf_cmdRevert (r : Req) (s : State) (h : Canon s.regs s.latch) : Canon (Cmd.effect cmdRevert r s).1.regs (Cmd.effect cmdRevert r s).1.latch := by
  unfold cmdRevert; try dsimp only
  repeat' first
    | with_reducible assumption
    | with_reducible apply wf_revert
    | (split <;> try dsimp only)
    | (intros; try dsimp only)

theorem wf_pairReset (cut : Nat) (s : State) (h : Canon s.regs s.latch) : Canon (State.pairReset cut s).regs (State.pairReset cut s).latch := by
  unfold State.pairReset; try dsimp only
  repeat' first
    | with_reducible assumption
    | with_reducible apply wf_safetyReset
    | with_reducible apply wf_controlReset
    | (split <;> try dsimp only)
    | (intros; try dsimp only)

theorem wf_countRestart (s : State) (h : Canon s.regs s.latch) : Canon (State.countRestart s).regs (State.countRestart s).latch := by
  unfold State.countRestart; try dsimp only
  repeat' first
    | with_reducible assumption
    | with_reducible apply wf_incSat
    | with_reducible apply wf_raise
    | with_reducible apply wf_putBoot
    | (split <;> try dsimp only)
    | (intros; try dsimp only)

theorem wf_cocoonLost (s : State) (h : Canon s.regs s.latch) : Canon (State.cocoonLost s).regs (State.cocoonLost s).latch := by
  unfold State.cocoonLost; try dsimp only
  repeat' first
    | with_reducible assumption
    | with_reducible apply wf_setF
    | with_reducible apply wf_outputsOff
    | with_reducible apply wf_setSafe
    | with_reducible apply wf_putTime
    | with_reducible apply wf_losePower
    | (split <;> try dsimp only)
    | (intros; try dsimp only)

theorem wf_reapply (s : State) (h : Canon s.regs s.latch) : Canon (State.reapply s).regs (State.reapply s).latch := by
  unfold State.reapply; try dsimp only
  repeat' first
    | with_reducible assumption
    | with_reducible apply wf_each
    | with_reducible apply wf_pushCfg
    | with_reducible apply wf_applyType
    | (split <;> try dsimp only)
    | (intros; try dsimp only)

theorem wf_restoreSelections (s : State) (h : Canon s.regs s.latch) : Canon (State.restoreSelections s).regs (State.restoreSelections s).latch := by
  unfold State.restoreSelections; try dsimp only
  repeat' first
    | with_reducible assumption
    | with_reducible apply wf_setF
    | with_reducible apply wf_syncDelay
    | with_reducible apply wf_putArray
    | (split <;> try dsimp only)
    | (intros; try dsimp only)

theorem wf_settleOwed (s : State) (h : Canon s.regs s.latch) : Canon (State.settleOwed s).regs (State.settleOwed s).latch := by
  unfold State.settleOwed; try dsimp only
  repeat' first
    | with_reducible assumption
    | with_reducible apply wf_when
    | with_reducible apply wf_recognizerSafe
    | with_reducible apply wf_putEng
    | with_reducible apply wf_recSettle
    | (split <;> try dsimp only)
    | (intros; try dsimp only)

theorem wf_ringAtDawn (s : State) (h : Canon s.regs s.latch) : Canon (State.ringAtDawn s).regs (State.ringAtDawn s).latch := by
  unfold State.ringAtDawn; try dsimp only
  repeat' first
    | with_reducible assumption
    | with_reducible apply wf_ringEmpty
    | (split <;> try dsimp only)
    | (intros; try dsimp only)

theorem wf_dawnImago (s : State) (h : Canon s.regs s.latch) : Canon (State.dawnImago s).regs (State.dawnImago s).latch := by
  unfold State.dawnImago; try dsimp only
  repeat' first
    | with_reducible assumption
    | with_reducible apply wf_when
    | with_reducible apply wf_holdPins
    | with_reducible apply wf_noiseAtFloor
    | with_reducible apply wf_startSensing
    | with_reducible apply wf_reapply
    | with_reducible apply wf_settleOwed
    | (split <;> try dsimp only)
    | (intros; try dsimp only)

theorem wf_latchAll (s : State) : ∀ (as : List Nat) (l : RegFile), l.wf = true →
    (as.foldl (fun l f => l.set f (s.liveWord f)) l).wf = true
  | [], _, h => h
  | _ :: as, _, h => wf_latchAll s as _ (RegFile.wf_set _ _ _ h)

theorem wf_readEffect (a : Nat) (s : State) (h : Canon s.regs s.latch) : Canon (State.readEffect a s).regs (State.readEffect a s).latch := by
  unfold State.readEffect
  split
  · exact wf_claim _ _ h
  split
  · exact wf_emStep _ h
  split
  · exact wf_pioStep _ h
  · exact ⟨h.1, wf_latchAll s _ _ h.2⟩

theorem wf_writeW1c (a : Nat) (w : Word) (s : State) (h : Canon s.regs s.latch) : Canon (State.writeW1c a w s).regs (State.writeW1c a w s).latch := by
  unfold State.writeW1c; try dsimp only
  repeat' first
    | with_reducible assumption
    | with_reducible apply wf_setReg
    | with_reducible apply wf_watermark
    | (split <;> try dsimp only)
    | (intros; try dsimp only)

theorem wf_writeMbxCtrl (w : Word) (s : State) (h : Canon s.regs s.latch) : Canon (State.writeMbxCtrl w s).regs (State.writeMbxCtrl w s).latch := by
  unfold State.writeMbxCtrl; try dsimp only
  repeat' first
    | with_reducible assumption
    | with_reducible apply wf_when
    | with_reducible apply wf_discardPartial
    | with_reducible apply wf_dropReply
    | with_reducible apply wf_mbxClear
    | (split <;> try dsimp only)
    | (intros; try dsimp only)

theorem wf_writeInt (a : Nat) (w : Word) (s : State) (h : Canon s.regs s.latch) : Canon (State.writeInt a w s).regs (State.writeInt a w s).latch := by
  unfold State.writeInt; try dsimp only
  repeat' first
    | with_reducible assumption
    | with_reducible apply wf_complete
    | with_reducible apply wf_doorbell
    | with_reducible apply wf_hostSet
    | with_reducible apply wf_hostEnWrite
    | (split <;> try dsimp only)
    | (intros; try dsimp only)

theorem wf_writeQueue (a : Nat) (w : Word) (s : State) (h : Canon s.regs s.latch) : Canon (State.writeQueue a w s).regs (State.writeQueue a w s).latch := by
  unfold State.writeQueue; try dsimp only
  repeat' first
    | with_reducible assumption
    | with_reducible apply wf_when
    | with_reducible apply wf_queueFlush
    | with_reducible apply wf_ringEnable
    | with_reducible apply wf_putWritable
    | with_reducible apply wf_putQueueCfg
    | with_reducible apply wf_ringCmd
    | (split <;> try dsimp only)
    | (intros; try dsimp only)

theorem wf_writeAddr2 (bus : Bool) (w : Word) (s : State) (h : Canon s.regs s.latch) : Canon (State.writeAddr2 bus w s).regs (State.writeAddr2 bus w s).latch := by
  unfold State.writeAddr2; try dsimp only
  repeat' first
    | with_reducible assumption
    | with_reducible apply wf_setF
    | with_reducible apply wf_putWritable
    | (split <;> try dsimp only)
    | (intros; try dsimp only)

theorem wf_writePio (a : Nat) (w : Word) (s : State) (h : Canon s.regs s.latch) : Canon (State.writePio a w s).regs (State.writePio a w s).latch := by
  unfold State.writePio; try dsimp only
  repeat' first
    | with_reducible assumption
    | with_reducible apply wf_putWritable
    | with_reducible apply wf_putMport
    | with_reducible apply wf_writePioPmem
    | with_reducible apply wf_writePioConfig
    | (split <;> try dsimp only)
    | (intros; try dsimp only)

theorem wf_hbRefused (status : Nat) (s : State) (h : Canon s.regs s.latch) : Canon (State.hbRefused status s).regs (State.hbRefused status s).latch := by
  unfold State.hbRefused; try dsimp only
  repeat' first
    | with_reducible assumption
    | with_reducible apply wf_setF
    | (split <;> try dsimp only)
    | (intros; try dsimp only)

theorem wf_writeHb (w : Word) (s : State) (h : Canon s.regs s.latch) : Canon (State.writeHb w s).regs (State.writeHb w s).latch := by
  unfold State.writeHb; try dsimp only
  repeat' first
    | with_reducible assumption
    | with_reducible apply wf_heartbeat
    | with_reducible apply wf_hbRefused
    | (split <;> try dsimp only)
    | (intros; try dsimp only)

theorem wf_safeCmd (w : Word) (s : State) (h : Canon s.regs s.latch) : Canon (State.safeCmd w s).regs (State.safeCmd w s).latch := by
  have hf := wf_faultClear s h
  unfold State.safeCmd
  split
  · split <;> rename_i he <;> rw [he] at hf
    · exact wf_hbRefused _ _ hf
    · exact hf
  · repeat' first
      | exact wf_disarm _ h
      | exact wf_arm _ _ h
      | exact h
      | split

theorem wf_writeSafeLevel (w : Word) (s : State) (h : Canon s.regs s.latch) : Canon (State.writeSafeLevel w s).regs (State.writeSafeLevel w s).latch := by
  unfold State.writeSafeLevel; try dsimp only
  repeat' first
    | with_reducible assumption
    | with_reducible apply wf_safeRefuse
    | with_reducible apply wf_putSafeLevel
    | (split <;> try dsimp only)
    | (intros; try dsimp only)

theorem wf_writeSafe (a : Nat) (w : Word) (s : State) (h : Canon s.regs s.latch) : Canon (State.writeSafe a w s).regs (State.writeSafe a w s).latch := by
  unfold State.writeSafe; try dsimp only
  repeat' first
    | with_reducible assumption
    | with_reducible apply wf_safeRefuse
    | with_reducible apply wf_putWritable
    | with_reducible apply wf_writeHb
    | with_reducible apply wf_safeCmd
    | with_reducible apply wf_writeSafeLevel
    | (split <;> try dsimp only)
    | (intros; try dsimp only)

theorem wf_writeReinstate (w : Word) (s : State) (h : Canon s.regs s.latch) : Canon (State.writeReinstate w s).regs (State.writeReinstate w s).latch := by
  unfold State.writeReinstate; try dsimp only
  repeat' first
    | with_reducible assumption
    | with_reducible apply wf_setF
    | with_reducible apply wf_putWritable
    | with_reducible apply wf_testStart
    | (split <;> try dsimp only)
    | (intros; try dsimp only)

theorem wf_writeSelftest (w : Word) (s : State) (h : Canon s.regs s.latch) : Canon (State.writeSelftest w s).regs (State.writeSelftest w s).latch := by
  unfold State.writeSelftest; try dsimp only
  repeat' first
    | with_reducible assumption
    | with_reducible apply wf_putWritable
    | with_reducible apply wf_testStart
    | (split <;> try dsimp only)
    | (intros; try dsimp only)

theorem wf_writeRange (w : Word) (s : State) (h : Canon s.regs s.latch) : Canon (State.writeRange w s).regs (State.writeRange w s).latch := by
  unfold State.writeRange; try dsimp only
  repeat' first
    | with_reducible assumption
    | with_reducible apply wf_putRange
    | (split <;> try dsimp only)
    | (intros; try dsimp only)

theorem wf_writeArray (a : Nat) (w : Word) (s : State) (h : Canon s.regs s.latch) : Canon (State.writeArray a w s).regs (State.writeArray a w s).latch := by
  unfold State.writeArray; try dsimp only
  repeat' first
    | with_reducible assumption
    | with_reducible apply wf_putWritable
    | with_reducible apply wf_requestProfile
    | with_reducible apply wf_writeReinstate
    | with_reducible apply wf_writeSelftest
    | with_reducible apply wf_writeRange
    | (split <;> try dsimp only)
    | (intros; try dsimp only)

theorem wf_writePreset (w : Word) (s : State) (h : Canon s.regs s.latch) : Canon (State.writePreset w s).regs (State.writePreset w s).latch := by
  unfold State.writePreset; try dsimp only
  repeat' first
    | with_reducible assumption
    | with_reducible apply wf_requestPreset
    | (split <;> try dsimp only)
    | (intros; try dsimp only)

theorem wf_writeBank (w : Word) (s : State) (h : Canon s.regs s.latch) : Canon (State.writeBank w s).regs (State.writeBank w s).latch := by
  unfold State.writeBank; try dsimp only
  repeat' first
    | with_reducible assumption
    | with_reducible apply wf_setF
    | with_reducible apply wf_bankApply
    | (split <;> try dsimp only)
    | (intros; try dsimp only)

theorem wf_writeFilt (a : Nat) (w : Word) (s : State) (h : Canon s.regs s.latch) : Canon (State.writeFilt a w s).regs (State.writeFilt a w s).latch := by
  unfold State.writeFilt; try dsimp only
  repeat' first
    | with_reducible assumption
    | with_reducible apply wf_putWritable
    | with_reducible apply wf_notchApply
    | with_reducible apply wf_writePreset
    | with_reducible apply wf_writeBank
    | (split <;> try dsimp only)
    | (intros; try dsimp only)

theorem wf_writeEm (a : Nat) (w : Word) (s : State) (h : Canon s.regs s.latch) : Canon (State.writeEm a w s).regs (State.writeEm a w s).latch := by
  unfold State.writeEm; try dsimp only
  repeat' first
    | with_reducible assumption
    | with_reducible apply wf_putWritable
    | with_reducible apply wf_emStopApply
    | with_reducible apply wf_emParam
    | with_reducible apply wf_writeEmRegion
    | with_reducible apply wf_writeEmFlags
    | with_reducible apply wf_writeEmPmem
    | with_reducible apply wf_writeEmStart
    | (split <;> try dsimp only)
    | (intros; try dsimp only)

theorem wf_writeReg (bus : Bool) (a : Nat) (w : Word) (s : State) (h : Canon s.regs s.latch) : Canon (State.writeReg bus a w s).regs (State.writeReg bus a w s).latch := by
  unfold State.writeReg; try dsimp only
  repeat' first
    | with_reducible assumption
    | with_reducible apply wf_putWritable
    | with_reducible apply wf_writeTime
    | with_reducible apply wf_writeT1s
    | with_reducible apply wf_writeHk
    | with_reducible apply wf_writeRec
    | with_reducible apply wf_writePair
    | with_reducible apply wf_writeConvCfg
    | with_reducible apply wf_writeNight
    | with_reducible apply wf_writeW1c
    | with_reducible apply wf_writeMbxCtrl
    | with_reducible apply wf_writeInt
    | with_reducible apply wf_writeQueue
    | with_reducible apply wf_writeAddr2
    | with_reducible apply wf_writePio
    | with_reducible apply wf_writeSafe
    | with_reducible apply wf_writeArray
    | with_reducible apply wf_writeFilt
    | with_reducible apply wf_writeEm
    | (split <;> try dsimp only)
    | (intros; try dsimp only)

theorem wf_cmdNop (r : Req) (s : State) (h : Canon s.regs s.latch) : Canon (Cmd.effect cmdNop r s).1.regs (Cmd.effect cmdNop r s).1.latch := by
  unfold cmdNop; try dsimp only
  repeat' first
    | with_reducible assumption
    | (split <;> try dsimp only)
    | (intros; try dsimp only)

theorem wf_readWords : ∀ (n a : Nat) (ws : List Word) (s : State),
    Canon s.regs s.latch → Canon (s.readWords n a ws).1.regs (s.readWords n a ws).1.latch
  | 0, _, _, _, h => h
  | n + 1, a, ws, s, h => wf_readWords n (a + 4) _ _ (wf_readEffect a s h)

theorem wf_latchRange (a n : Nat) (s : State) (h : Canon s.regs s.latch) : Canon (State.latchRange a n s).regs (State.latchRange a n s).latch := by
  unfold State.latchRange; try dsimp only
  repeat' first
    | with_reducible assumption
    | with_reducible apply wf_when
    | with_reducible apply wf_each
    | with_reducible apply wf_readEffect
    | (split <;> try dsimp only)
    | (intros; try dsimp only)

theorem wf_cmdRead (r : Req) (s : State) (h : Canon s.regs s.latch) : Canon (Cmd.effect cmdRead r s).1.regs (Cmd.effect cmdRead r s).1.latch := by
  unfold cmdRead; try dsimp only
  repeat' first
    | with_reducible assumption
    | with_reducible apply wf_readWords
    | with_reducible apply wf_latchRange
    | (split <;> try dsimp only)
    | (intros; try dsimp only)

theorem wf_writeWords : ∀ (ws : List Word) (a : Nat) (s : State), Canon s.regs s.latch → Canon (s.writeWords a ws).regs (s.writeWords a ws).latch
  | [], _, _, h => h
  | w :: ws, a, s, h => wf_writeWords ws (a + 4) _ (wf_writeReg false a w s h)

theorem wf_cmdWrite (r : Req) (s : State) (h : Canon s.regs s.latch) : Canon (Cmd.effect cmdWrite r s).1.regs (Cmd.effect cmdWrite r s).1.latch := by
  unfold cmdWrite; try dsimp only
  repeat' first
    | with_reducible assumption
    | with_reducible apply wf_writeWords
    | (split <;> try dsimp only)
    | (intros; try dsimp only)

theorem wf_cmdModify (r : Req) (s : State) (h : Canon s.regs s.latch) : Canon (Cmd.effect cmdModify r s).1.regs (Cmd.effect cmdModify r s).1.latch := by
  unfold cmdModify; try dsimp only
  repeat' first
    | with_reducible assumption
    | with_reducible apply wf_writeReg
    | (split <;> try dsimp only)
    | (intros; try dsimp only)

theorem wf_endReply (status : Nat) (q : QCmd) (s : State) (h : Canon s.regs s.latch) : Canon (State.endReply status q s).regs (State.endReply status q s).latch := by
  unfold State.endReply; try dsimp only
  repeat' first
    | with_reducible assumption
    | with_reducible apply wf_deliver
    | (split <;> try dsimp only)
    | (intros; try dsimp only)

theorem wf_endExecuting (status : Nat) (s : State) (h : Canon s.regs s.latch) : Canon (State.endExecuting status s).regs (State.endExecuting status s).latch := by
  unfold State.endExecuting; try dsimp only
  repeat' first
    | with_reducible assumption
    | with_reducible apply wf_endReply
    | (split <;> try dsimp only)
    | (intros; try dsimp only)

theorem wf_endAborted (s : State) (h : Canon s.regs s.latch) : Canon (State.endAborted s).regs (State.endAborted s).latch := by
  unfold State.endAborted; try dsimp only
  repeat' first
    | with_reducible assumption
    | with_reducible apply wf_incSat
    | with_reducible apply wf_endExecuting
    | (split <;> try dsimp only)
    | (intros; try dsimp only)

theorem wf_endOps (ops : List Nat) (s : State) (h : Canon s.regs s.latch) : Canon (State.endOps ops s).1.regs (State.endOps ops s).1.latch := by
  unfold State.endOps; try dsimp only
  repeat' first
    | with_reducible assumption
    | with_reducible apply wf_endAborted
    | (split <;> try dsimp only)
    | (intros; try dsimp only)

theorem wf_abortCommands (s : State) (h : Canon s.regs s.latch) : Canon (State.abortCommands s).1.regs (State.abortCommands s).1.latch := by
  unfold State.abortCommands; try dsimp only
  repeat' first
    | with_reducible assumption
    | with_reducible apply wf_forUpTo
    | with_reducible apply wf_endAborted
    | (split <;> try dsimp only)
    | (intros; try dsimp only)

theorem wf_abortRing (s : State) (h : Canon s.regs s.latch) : Canon (State.abortRing s).regs (State.abortRing s).latch := by
  unfold State.abortRing; try dsimp only
  repeat' first
    | with_reducible assumption
    | with_reducible apply wf_setF
    | with_reducible apply wf_ringRelease
    | (split <;> try dsimp only)
    | (intros; try dsimp only)

theorem wf_abortImage (s : State) (h : Canon s.regs s.latch) : Canon (State.abortImage s).regs (State.abortImage s).latch := by
  unfold State.abortImage; try dsimp only
  repeat' first
    | with_reducible assumption
    | with_reducible apply wf_when
    | with_reducible apply wf_setF
    | with_reducible apply wf_putBoot
    | with_reducible apply wf_putSlot
    | (split <;> try dsimp only)
    | (intros; try dsimp only)

theorem wf_abortScope (k : Nat) (s : State) (h : Canon s.regs s.latch) : Canon (abortScope k s).1.regs (abortScope k s).1.latch := by
  unfold abortScope; try dsimp only
  repeat' first
    | with_reducible assumption
    | with_reducible apply wf_when
    | with_reducible apply wf_queueFlush
    | with_reducible apply wf_abortDiag
    | with_reducible apply wf_pairCommandLeave
    | with_reducible apply wf_stopMachines
    | with_reducible apply wf_stopPio
    | with_reducible apply wf_endOps
    | with_reducible apply wf_abortCommands
    | with_reducible apply wf_abortRing
    | with_reducible apply wf_abortImage
    | (split <;> try dsimp only)
    | (intros; try dsimp only)

theorem wf_abortScopes : ∀ (ks : List Nat) (x : State × Nat × Nat),
    Canon x.1.regs x.1.latch → Canon (abortScopes ks x).1.regs (abortScopes ks x).1.latch
  | [], _, h => h
  | k :: ks, x, h => by
    unfold abortScopes
    exact wf_abortScopes ks _ (wf_abortScope _ _ h)

theorem wf_cmdAbort (r : Req) (s : State) (h : Canon s.regs s.latch) : Canon (Cmd.effect cmdAbort r s).1.regs (Cmd.effect cmdAbort r s).1.latch := by
  unfold cmdAbort; try dsimp only
  repeat' first
    | with_reducible assumption
    | with_reducible apply wf_incSat
    | with_reducible apply wf_abortScopes
    | (split <;> try dsimp only)
    | (intros; try dsimp only)

theorem wf_runImmediate (op : Nat) (r : Req) (s : State) (h : Canon s.regs s.latch) : Canon (runImmediate op r s).regs (runImmediate op r s).latch := by
  unfold runImmediate; try dsimp only
  repeat' first
    | with_reducible assumption
    | with_reducible apply wf_heartbeatCommand
    | with_reducible apply wf_Cmd_run
    | with_reducible apply wf_cmdAbort
    | with_reducible apply wf_cmdEmStop
    | with_reducible apply wf_cmdNop
    | with_reducible apply wf_cmdSafeDisarm
    | with_reducible apply wf_cmdSafeStatus
    | (split <;> try dsimp only)
    | (intros; try dsimp only)

theorem wf_receive (o : Origin) (bytes : List Byte) (ingress : Nat) (s : State) (h : Canon s.regs s.latch) :
    Canon (State.receive o bytes ingress s).regs (State.receive o bytes ingress s).latch := by
  unfold State.receive
  split <;> rename_i hd
  · exact wf_judge o bytes ingress s h _ hd
  · exact wf_runImmediate _ _ _ h

theorem wf_mailboxWrite (first : Bool) (b : Byte) (s : State) (h : Canon s.regs s.latch) : Canon (State.mailboxWrite first b s).regs (State.mailboxWrite first b s).latch := by
  unfold State.mailboxWrite; try dsimp only
  repeat' first
    | with_reducible assumption
    | with_reducible apply wf_putLink
    | with_reducible apply wf_discardPartial
    | with_reducible apply wf_receive
    | (split <;> try dsimp only)
    | (intros; try dsimp only)

theorem wf_passByte (page : Nat) (s : State) (h : Canon s.regs s.latch) : Canon (State.passByte page s).regs (State.passByte page s).latch := by
  unfold State.passByte; try dsimp only
  repeat' first
    | with_reducible assumption
    | with_reducible apply wf_setF
    | (split <;> try dsimp only)
    | (intros; try dsimp only)

theorem wf_partialWord (s : State) (h : Canon s.regs s.latch) : Canon (State.partialWord s).regs (State.partialWord s).latch := by
  unfold State.partialWord; try dsimp only
  repeat' first
    | with_reducible assumption
    | with_reducible apply wf_incSat
    | with_reducible apply wf_raise
    | (split <;> try dsimp only)
    | (intros; try dsimp only)

theorem wf_selectPage (p : Nat) (s : State) (h : Canon s.regs s.latch) : Canon (State.selectPage p s).regs (State.selectPage p s).latch := by
  unfold State.selectPage; try dsimp only
  repeat' first
    | with_reducible assumption
    | with_reducible apply wf_setF
    | with_reducible apply wf_raise
    | (split <;> try dsimp only)
    | (intros; try dsimp only)

theorem wf_dataBytes : ∀ (bs : List Byte) (first : Bool) (buf : List Byte) (s : State),
    Canon s.regs s.latch → Canon (s.dataBytes bs first buf).regs (s.dataBytes bs first buf).latch
  | [], first, buf, s, h => by
    unfold State.dataBytes; split
    · exact h
    · exact wf_partialWord s h
  | b :: bs, first, buf, s, h => by
    have hp := wf_passByte (s.fld TW_PAGE.PAGE) s h
    unfold State.dataBytes; dsimp only
    repeat' first
      | exact wf_dataBytes bs _ _ _ (wf_mailboxWrite _ _ _ hp)
      | exact wf_dataBytes bs _ _ _ hp
      | exact wf_dataBytes bs _ _ _ (wf_writeReg true _ _ _ hp)
      | exact wf_dataBytes bs _ _ _ (wf_partialWord _ hp)
      | split

theorem wf_applySegment (bytes : List Byte) (s : State) (h : Canon s.regs s.latch) : Canon (State.applySegment bytes s).regs (State.applySegment bytes s).latch := by
  unfold State.applySegment; try dsimp only
  repeat' first
    | with_reducible assumption
    | with_reducible apply wf_setF
    | with_reducible apply wf_selectPage
    | with_reducible apply wf_dataBytes
    | (split <;> try dsimp only)
    | (intros; try dsimp only)

theorem wf_stopPec (before rest : List Byte) (s : State) (h : Canon s.regs s.latch) : Canon (State.stopPec before rest s).regs (State.stopPec before rest s).latch := by
  unfold State.stopPec; try dsimp only
  repeat' first
    | with_reducible assumption
    | with_reducible apply wf_incSat
    | with_reducible apply wf_raise
    | with_reducible apply wf_applySegment
    | (split <;> try dsimp only)
    | (intros; try dsimp only)

theorem wf_twIdle (s : State) (h : Canon s.regs s.latch) : Canon (State.twIdle s).regs (State.twIdle s).latch := by
  unfold State.twIdle; try dsimp only
  repeat' first
    | with_reducible assumption
    | with_reducible apply wf_setF
    | (split <;> try dsimp only)
    | (intros; try dsimp only)

theorem wf_baseTick (s : State) (h : Canon s.regs s.latch) : Canon (State.baseTick s).regs (State.baseTick s).latch := by
  unfold State.baseTick; try dsimp only
  repeat' first
    | with_reducible assumption
    | with_reducible apply wf_forUpTo
    | with_reducible apply wf_endOpen
    | with_reducible apply wf_openNext
    | with_reducible apply wf_setTime
    | with_reducible apply wf_pioRun
    | (split <;> try dsimp only)
    | (intros; try dsimp only)

end Sys2Proof.Machine
end

