-- ==== Sys2Proof/Laws/Dispatch.lean ====
section
/-!
SUPPORT. The dispatch, one equation per command, so that no later proof unfolds it.
-/
namespace Sys2Proof.Machine

theorem act_next {f : State → State} {s : State} (h : s.aon = true) : act f s = .next (f s) := by simp [act, h]

theorem act_off {f : State → State} {s : State} (h : s.aon = false) : act f s = .next s := by simp [act, h]

theorem exec_powerUp (strap : Bool) (s : State) : exec (.powerUp strap) s = execPowerUp strap s := rfl
theorem exec_vbatReversal (s : State) : exec (.vbatReversal) s = execVbatReversal s := rfl
theorem exec_inputDisconnect (s : State) : exec (.inputDisconnect) s = execInputDisconnect s := rfl
theorem exec_inputReconnect (s : State) : exec (.inputReconnect) s = execInputReconnect s := rfl
theorem exec_vbatLowReport (s : State) : exec (.vbatLowReport) s = execVbatLowReport s := rfl
theorem exec_rideThroughEntry (esr : BitVec 16) (s : State) : exec (.rideThroughEntry esr) s = execRideThroughEntry esr s := rfl
theorem exec_rideThroughEnd (low ms : BitVec 16) (charge : Word) (dv : BitVec 16) (stale : Bool) (s : State) : exec (.rideThroughEnd low ms charge dv stale) s = execRideThroughEnd low ms charge dv stale s := rfl
theorem exec_capacitanceEstimate (cap : BitVec 16) (s : State) : exec (.capacitanceEstimate cap) s = execCapacitanceEstimate cap s := rfl
theorem exec_shedThresholdCrossing (s : State) : exec (.shedThresholdCrossing) s = execShedThresholdCrossing s := rfl
theorem exec_rearmThresholdCrossing (s : State) : exec (.rearmThresholdCrossing) s = execRearmThresholdCrossing s := rfl
theorem exec_shedDelayExpiry (s : State) : exec (.shedDelayExpiry) s = execShedDelayExpiry s := rfl
theorem exec_stopThresholdCrossing (s : State) : exec (.stopThresholdCrossing) s = execStopThresholdCrossing s := rfl
theorem exec_brownoutExit (cycles : BitVec 64) (s : State) : exec (.brownoutExit cycles) s = execBrownoutExit cycles s := rfl
theorem exec_aonSupplyLoss (s : State) : exec (.aonSupplyLoss) s = execAonSupplyLoss s := rfl
theorem exec_vauxStartThreshold (s : State) : exec (.vauxStartThreshold) s = execVauxStartThreshold s := rfl
theorem exec_vauxLow (s : State) : exec (.vauxLow) s = execVauxLow s := rfl
theorem exec_vauxOkReached (s : State) : exec (.vauxOkReached) s = execVauxOkReached s := rfl
theorem exec_phaseRetirement (p cause : Fin 3) (dev : Byte) (s : State) : exec (.phaseRetirement p cause dev) s = execPhaseRetirement p cause dev s := rfl
theorem exec_phaseRetry (p : Fin 3) (light : Bool) (again : Option (Fin 3 × Byte)) (s : State) : exec (.phaseRetry p light again) s = execPhaseRetry p light again s := rfl
theorem exec_phaseRotation (s : State) : exec (.phaseRotation) s = execPhaseRotation s := rfl
theorem exec_overloadLimit (s : State) : exec (.overloadLimit) s = execOverloadLimit s := rfl
theorem exec_overloadRelease (s : State) : exec (.overloadRelease) s = execOverloadRelease s := rfl
theorem exec_limitOffExpiry (s : State) : exec (.limitOffExpiry) s = execLimitOffExpiry s := rfl
theorem exec_limitRestartAttempt (s : State) : exec (.limitRestartAttempt) s = execLimitRestartAttempt s := rfl
theorem exec_vauxStartRetry (s : State) : exec (.vauxStartRetry) s = execVauxStartRetry s := rfl
theorem exec_thermalLimit (s : State) : exec (.thermalLimit) s = execThermalLimit s := rfl
theorem exec_thermalShutdown (s : State) : exec (.thermalShutdown) s = execThermalShutdown s := rfl
theorem exec_thermalRelease (s : State) : exec (.thermalRelease) s = execThermalRelease s := rfl
theorem exec_controlPairReset (cut : BitVec 11) (s : State) : exec (.controlPairReset cut) s = execControlPairReset cut s := rfl
theorem exec_codeRamEccError (cut : BitVec 11) (s : State) : exec (.codeRamEccError cut) s = execCodeRamEccError cut s := rfl
theorem exec_restartVerify (intact : Bool) (s : State) : exec (.restartVerify intact) s = execRestartVerify intact s := rfl
theorem exec_revertImagoEntry (s : State) : exec (.revertImagoEntry) s = execRevertImagoEntry s := rfl
theorem exec_requestReceived (origin : Origin) (bytes : List Byte) (latched : BitVec 96) (s : State) : exec (.requestReceived origin bytes latched) s = execRequestReceived origin bytes latched s := rfl
theorem exec_partialRequestTimeout (s : State) : exec (.partialRequestTimeout) s = execPartialRequestTimeout s := rfl
theorem exec_commandTimeout (s : State) : exec (.commandTimeout) s = execCommandTimeout s := rfl
theorem exec_mbxWindowWrite (b : Byte) (first : Bool) (s : State) : exec (.mbxWindowWrite b first) s = execMbxWindowWrite b first s := rfl
theorem exec_mbxWindowRead (s : State) : exec (.mbxWindowRead) s = execMbxWindowRead s := rfl
theorem exec_discardReq (bus : Bool) (s : State) : exec (.discardReq bus) s = execDiscardReq bus s := rfl
theorem exec_dropReply (bus : Bool) (s : State) : exec (.dropReply bus) s = execDropReply bus s := rfl
theorem exec_mbxClear (bus : Bool) (s : State) : exec (.mbxClear bus) s = execMbxClear bus s := rfl
theorem exec_nop (r : Req) (s : State) : exec (.nop r) s = execNop r s := rfl
theorem exec_identify (r : Req) (s : State) : exec (.identify r) s = execIdentify r s := rfl
theorem exec_abort (r : Req) (s : State) : exec (.abort r) s = execAbort r s := rfl
theorem exec_read (r : Req) (s : State) : exec (.read r) s = execRead r s := rfl
theorem exec_write (r : Req) (s : State) : exec (.write r) s = execWrite r s := rfl
theorem exec_modify (r : Req) (s : State) : exec (.modify r) s = execModify r s := rfl
theorem exec_imgBegin (r : Req) (s : State) : exec (.imgBegin r) s = execImgBegin r s := rfl
theorem exec_imgWrite (r : Req) (s : State) : exec (.imgWrite r) s = execImgWrite r s := rfl
theorem exec_imgVerify (r : Req) (s : State) : exec (.imgVerify r) s = execImgVerify r s := rfl
theorem exec_imgActivate (r : Req) (s : State) : exec (.imgActivate r) s = execImgActivate r s := rfl
theorem exec_settingsWrite (r : Req) (s : State) : exec (.settingsWrite r) s = execSettingsWrite r s := rfl
theorem exec_settingsApply (r : Req) (s : State) : exec (.settingsApply r) s = execSettingsApply r s := rfl
theorem exec_revert (r : Req) (s : State) : exec (.revert r) s = execRevert r s := rfl
theorem exec_bootStatus (r : Req) (s : State) : exec (.bootStatus r) s = execBootStatus r s := rfl
theorem exec_setProfile (r : Req) (s : State) : exec (.setProfile r) s = execSetProfile r s := rfl
theorem exec_setRanges (r : Req) (s : State) : exec (.setRanges r) s = execSetRanges r s := rfl
theorem exec_arrayStatus (r : Req) (s : State) : exec (.arrayStatus r) s = execArrayStatus r s := rfl
theorem exec_setCalDelta (r : Req) (s : State) : exec (.setCalDelta r) s = execSetCalDelta r s := rfl
theorem exec_sentinelConfig (r : Req) (s : State) : exec (.sentinelConfig r) s = execSentinelConfig r s := rfl
theorem exec_selftest (r : Req) (s : State) : exec (.selftest r) s = execSelftest r s := rfl
theorem exec_reinstate (r : Req) (s : State) : exec (.reinstate r) s = execReinstate r s := rfl
theorem exec_triadRead (r : Req) (s : State) : exec (.triadRead r) s = execTriadRead r s := rfl
theorem exec_setPreset (r : Req) (s : State) : exec (.setPreset r) s = execSetPreset r s := rfl
theorem exec_coeffWrite (r : Req) (s : State) : exec (.coeffWrite r) s = execCoeffWrite r s := rfl
theorem exec_coeffCommit (r : Req) (s : State) : exec (.coeffCommit r) s = execCoeffCommit r s := rfl
theorem exec_bankSelect (r : Req) (s : State) : exec (.bankSelect r) s = execBankSelect r s := rfl
theorem exec_decimSync (r : Req) (s : State) : exec (.decimSync r) s = execDecimSync r s := rfl
theorem exec_notchConfig (r : Req) (s : State) : exec (.notchConfig r) s = execNotchConfig r s := rfl
theorem exec_emLoad (r : Req) (s : State) : exec (.emLoad r) s = execEmLoad r s := rfl
theorem exec_emConfig (r : Req) (s : State) : exec (.emConfig r) s = execEmConfig r s := rfl
theorem exec_emStart (r : Req) (s : State) : exec (.emStart r) s = execEmStart r s := rfl
theorem exec_emStop (r : Req) (s : State) : exec (.emStop r) s = execEmStop r s := rfl
theorem exec_emParam (r : Req) (s : State) : exec (.emParam r) s = execEmParam r s := rfl
theorem exec_emReadState (r : Req) (s : State) : exec (.emReadState r) s = execEmReadState r s := rfl
theorem exec_emCrc (r : Req) (s : State) : exec (.emCrc r) s = execEmCrc r s := rfl
theorem exec_recEnable (r : Req) (s : State) : exec (.recEnable r) s = execRecEnable r s := rfl
theorem exec_recConfig (r : Req) (s : State) : exec (.recConfig r) s = execRecConfig r s := rfl
theorem exec_recWheel (r : Req) (s : State) : exec (.recWheel r) s = execRecWheel r s := rfl
theorem exec_recClear (r : Req) (s : State) : exec (.recClear r) s = execRecClear r s := rfl
theorem exec_recRead (r : Req) (s : State) : exec (.recRead r) s = execRecRead r s := rfl
theorem exec_safeArm (r : Req) (s : State) : exec (.safeArm r) s = execSafeArm r s := rfl
theorem exec_safeHeartbeat (r : Req) (s : State) : exec (.safeHeartbeat r) s = execSafeHeartbeat r s := rfl
theorem exec_safeDisarm (r : Req) (s : State) : exec (.safeDisarm r) s = execSafeDisarm r s := rfl
theorem exec_safeFaultClear (r : Req) (s : State) : exec (.safeFaultClear r) s = execSafeFaultClear r s := rfl
theorem exec_safeConfig (r : Req) (s : State) : exec (.safeConfig r) s = execSafeConfig r s := rfl
theorem exec_safeStatus (r : Req) (s : State) : exec (.safeStatus r) s = execSafeStatus r s := rfl
theorem exec_queueRead (r : Req) (s : State) : exec (.queueRead r) s = execQueueRead r s := rfl
theorem exec_queueFlush (r : Req) (s : State) : exec (.queueFlush r) s = execQueueFlush r s := rfl
theorem exec_queueConfig (r : Req) (s : State) : exec (.queueConfig r) s = execQueueConfig r s := rfl
theorem exec_ringConfig (r : Req) (s : State) : exec (.ringConfig r) s = execRingConfig r s := rfl
theorem exec_ringTrigger (r : Req) (s : State) : exec (.ringTrigger r) s = execRingTrigger r s := rfl
theorem exec_ringRead (r : Req) (s : State) : exec (.ringRead r) s = execRingRead r s := rfl
theorem exec_ringRelease (r : Req) (s : State) : exec (.ringRelease r) s = execRingRelease r s := rfl
theorem exec_ringClear (bus : Bool) (s : State) : exec (.ringClear bus) s = execRingClear bus s := rfl
theorem exec_powerVote (r : Req) (s : State) : exec (.powerVote r) s = execPowerVote r s := rfl
theorem exec_nightConfig (r : Req) (s : State) : exec (.nightConfig r) s = execNightConfig r s := rfl
theorem exec_powerStatus (r : Req) (s : State) : exec (.powerStatus r) s = execPowerStatus r s := rfl
theorem exec_convConfig (r : Req) (s : State) : exec (.convConfig r) s = execConvConfig r s := rfl
theorem exec_convStatus (r : Req) (s : State) : exec (.convStatus r) s = execConvStatus r s := rfl
theorem exec_timeGet (r : Req) (s : State) : exec (.timeGet r) s = execTimeGet r s := rfl
theorem exec_timeSet (r : Req) (s : State) : exec (.timeSet r) s = execTimeSet r s := rfl
theorem exec_timeAdjust (r : Req) (s : State) : exec (.timeAdjust r) s = execTimeAdjust r s := rfl
theorem exec_timeConfig (r : Req) (s : State) : exec (.timeConfig r) s = execTimeConfig r s := rfl
theorem exec_tsRead (r : Req) (s : State) : exec (.tsRead r) s = execTsRead r s := rfl
theorem exec_pairConfig (r : Req) (s : State) : exec (.pairConfig r) s = execPairConfig r s := rfl
theorem exec_pairJoin (r : Req) (s : State) : exec (.pairJoin r) s = execPairJoin r s := rfl
theorem exec_pairLeave (r : Req) (s : State) : exec (.pairLeave r) s = execPairLeave r s := rfl
theorem exec_pairStatus (r : Req) (s : State) : exec (.pairStatus r) s = execPairStatus r s := rfl
theorem exec_pioLoad (r : Req) (s : State) : exec (.pioLoad r) s = execPioLoad r s := rfl
theorem exec_pioStart (r : Req) (s : State) : exec (.pioStart r) s = execPioStart r s := rfl
theorem exec_pioStop (r : Req) (s : State) : exec (.pioStop r) s = execPioStop r s := rfl
theorem exec_pioInject (r : Req) (s : State) : exec (.pioInject r) s = execPioInject r s := rfl
theorem exec_pioConfig (r : Req) (s : State) : exec (.pioConfig r) s = execPioConfig r s := rfl
theorem exec_pioStatus (r : Req) (s : State) : exec (.pioStatus r) s = execPioStatus r s := rfl
theorem exec_hkSequence (r : Req) (s : State) : exec (.hkSequence r) s = execHkSequence r s := rfl
theorem exec_hkWindow (r : Req) (s : State) : exec (.hkWindow r) s = execHkWindow r s := rfl
theorem exec_hkRead (r : Req) (s : State) : exec (.hkRead r) s = execHkRead r s := rfl
theorem exec_hkStatus (r : Req) (s : State) : exec (.hkStatus r) s = execHkStatus r s := rfl
theorem exec_registerWrite (bus : Bool) (addr : BitVec 16) (w : Word) (s : State) : exec (.registerWrite bus addr w) s = execRegisterWrite bus addr w s := rfl
theorem exec_emRegionWrite (bus : Bool) (w : Word) (s : State) : exec (.emRegionWrite bus w) s = execEmRegionWrite bus w s := rfl
theorem exec_emFlagsWrite (bus : Bool) (w : Word) (s : State) : exec (.emFlagsWrite bus w) s = execEmFlagsWrite bus w s := rfl
theorem exec_emPmemData (bus : Bool) (w : Word) (s : State) : exec (.emPmemData bus w) s = execEmPmemData bus w s := rfl
theorem exec_pioPmemData (bus : Bool) (w : Option Word) (s : State) : exec (.pioPmemData bus w) s = execPioPmemData bus w s := rfl
theorem exec_pioMportWrite (bus : Bool) (k : Fin 4) (w : Word) (s : State) : exec (.pioMportWrite bus k w) s = execPioMportWrite bus k w s := rfl
theorem exec_pioSafeLevelWrite (bus : Bool) (w : Word) (s : State) : exec (.pioSafeLevelWrite bus w) s = execPioSafeLevelWrite bus w s := rfl
theorem exec_twAddr2Write (bus : Bool) (w : Word) (s : State) : exec (.twAddr2Write bus w) s = execTwAddr2Write bus w s := rfl
theorem exec_t1sPlcaWrite (w : Word) (s : State) : exec (.t1sPlcaWrite w) s = execT1sPlcaWrite w s := rfl
theorem exec_intDoorbell (bus : Bool) (w : Word) (s : State) : exec (.intDoorbell bus w) s = execIntDoorbell bus w s := rfl
theorem exec_intHostClaim (bytes : Fin 5) (s : State) : exec (.intHostClaim bytes) s = execIntHostClaim bytes s := rfl
theorem exec_intCpClaim (s : State) : exec (.intCpClaim) s = execIntCpClaim s := rfl
theorem exec_intHostComplete (bus : Bool) (w : Word) (s : State) : exec (.intHostComplete bus w) s = execIntHostComplete bus w s := rfl
theorem exec_intCpComplete (n : BitVec 7) (s : State) : exec (.intCpComplete n) s = execIntCpComplete n s := rfl
theorem exec_intHostSet (bus : Bool) (w : Word) (s : State) : exec (.intHostSet bus w) s = execIntHostSet bus w s := rfl
theorem exec_intHostEnWrite (bus : Bool) (j : Fin 8) (w : Word) (s : State) : exec (.intHostEnWrite bus j w) s = execIntHostEnWrite bus j w s := rfl
theorem exec_sentinelXy (bytes : Fin 5) (s : State) : exec (.sentinelXy bytes) s = execSentinelXy bytes s := rfl
theorem exec_triadZXy (bytes : Fin 5) (s : State) : exec (.triadZXy bytes) s = execTriadZXy bytes s := rfl
theorem exec_filtDelayNs (bytes : Fin 5) (s : State) : exec (.filtDelayNs bytes) s = execFiltDelayNs bytes s := rfl
theorem exec_syncTickLo (bytes : Fin 5) (s : State) : exec (.syncTickLo bytes) s = execSyncTickLo bytes s := rfl
theorem exec_emState (bytes : Fin 5) (s : State) : exec (.emState bytes) s = execEmState bytes s := rfl
theorem exec_emStartTickLo (bytes : Fin 5) (s : State) : exec (.emStartTickLo bytes) s = execEmStartTickLo bytes s := rfl
theorem exec_specLastLo (bytes : Fin 5) (s : State) : exec (.specLastLo bytes) s = execSpecLastLo bytes s := rfl
theorem exec_safeTrip (bytes : Fin 5) (s : State) : exec (.safeTrip bytes) s = execSafeTrip bytes s := rfl
theorem exec_ringTrigTickLo (bytes : Fin 5) (s : State) : exec (.ringTrigTickLo bytes) s = execRingTrigTickLo bytes s := rfl
theorem exec_idSerialLo (bytes : Fin 5) (s : State) : exec (.idSerialLo bytes) s = execIdSerialLo bytes s := rfl
theorem exec_timeNow0 (bytes : Fin 5) (s : State) : exec (.timeNow0 bytes) s = execTimeNow0 bytes s := rfl
theorem exec_pairBoundaryLo (bytes : Fin 5) (s : State) : exec (.pairBoundaryLo bytes) s = execPairBoundaryLo bytes s := rfl
theorem exec_pioState (k : Fin 4) (bytes : Fin 5) (s : State) : exec (.pioState k bytes) s = execPioState k bytes s := rfl
theorem exec_xingInfo (bytes : Fin 5) (s : State) : exec (.xingInfo bytes) s = execXingInfo bytes s := rfl
theorem exec_queueWindowRead (s : State) : exec (.queueWindowRead) s = execQueueWindowRead s := rfl
theorem exec_driveLock (g : Fin 24) (s : State) : exec (.driveLock g) s = execDriveLock g s := rfl
theorem exec_driveFault (g : Fin 24) (s : State) : exec (.driveFault g) s = execDriveFault g s := rfl
theorem exec_tempModelUpdate (s : State) : exec (.tempModelUpdate) s = execTempModelUpdate s := rfl
theorem exec_dieTempStale (d : Fin 5) (s : State) : exec (.dieTempStale d) s = execDieTempStale d s := rfl
theorem exec_selftestTriadDone (k : Fin 72) (result : TestResult) (s : State) : exec (.selftestTriadDone k result) s = execSelftestTriadDone k result s := rfl
theorem exec_profileBoundary (t : BitVec 64) (s : State) : exec (.profileBoundary t) s = execProfileBoundary t s := rfl
theorem exec_triadJoin (k : Fin 72) (t : BitVec 64) (s : State) : exec (.triadJoin k t) s = execTriadJoin k t s := rfl
theorem exec_sentinelSample (x y z : BitVec 16) (cycles : BitVec 64) (s : State) : exec (.sentinelSample x y z cycles) s = execSentinelSample x y z cycles s := rfl
theorem exec_sentinelWake (s : State) : exec (.sentinelWake) s = execSentinelWake s := rfl
theorem exec_committedVote (t : BitVec 64) (xs : List (Word × Bool)) (s : State) : exec (.committedVote t xs) s = execCommittedVote t xs s := rfl
theorem exec_quorumRestored (s : State) : exec (.quorumRestored) s = execQuorumRestored s := rfl
theorem exec_suspectEntry (k : Fin 72) (s : State) : exec (.suspectEntry k) s = execSuspectEntry k s := rfl
theorem exec_suspectClear (k : Fin 72) (s : State) : exec (.suspectClear k) s = execSuspectClear k s := rfl
theorem exec_retirementRequest (k : Fin 72) (s : State) : exec (.retirementRequest k) s = execRetirementRequest k s := rfl
theorem exec_retirementDecision (what : Retire) (s : State) : exec (.retirementDecision what) s = execRetirementDecision what s := rfl
theorem exec_retirementApply (t : BitVec 64) (s : State) : exec (.retirementApply t) s = execRetirementApply t s := rfl
theorem exec_lateStage (stage : Fin 7) (t : BitVec 64) (s : State) : exec (.lateStage stage t) s = execLateStage stage t s := rfl
theorem exec_arbitrationWaitExceeded (what : ArbWait) (s : State) : exec (.arbitrationWaitExceeded what) s = execArbitrationWaitExceeded what s := rfl
theorem exec_presetApply (s : State) : exec (.presetApply) s = execPresetApply s := rfl
theorem exec_presetChangeComplete (s : State) : exec (.presetChangeComplete) s = execPresetChangeComplete s := rfl
theorem exec_bankSwapApply (s : State) : exec (.bankSwapApply) s = execBankSwapApply s := rfl
theorem exec_notchPeriodWord (engine : Fin 4) (period : Word) (s : State) : exec (.notchPeriodWord engine period) s = execNotchPeriodWord engine period s := rfl
theorem exec_notchSetChange (s : State) : exec (.notchSetChange) s = execNotchSetChange s := rfl
theorem exec_tachLost (s : State) : exec (.tachLost) s = execTachLost s := rfl
theorem exec_syncEdge (cycles : Fin 1200) (rising : Bool) (s : State) : exec (.syncEdge cycles rising) s = execSyncEdge cycles rising s := rfl
theorem exec_decimSyncApply (s : State) : exec (.decimSyncApply) s = execDecimSyncApply s := rfl
theorem exec_fastSampleArrival (t : BitVec 64) (xs : List (Word × Bool)) (s : State) : exec (.fastSampleArrival t xs) s = execFastSampleArrival t xs s := rfl
theorem exec_committedSampleArrival (t : BitVec 64) (s : State) : exec (.committedSampleArrival t) s = execCommittedSampleArrival t s := rfl
theorem exec_replayRun (n : Fin 32) (s : State) : exec (.replayRun n) s = execReplayRun n s := rfl
theorem exec_tickCommit (t : BitVec 64) (s : State) : exec (.tickCommit t) s = execTickCommit t s := rfl
theorem exec_specRejoin (n : Fin 32) (s : State) : exec (.specRejoin n) s = execSpecRejoin n s := rfl
theorem exec_emParamApply (t : BitVec 64) (s : State) : exec (.emParamApply t) s = execEmParamApply t s := rfl
theorem exec_recConfigApply (t : BitVec 64) (s : State) : exec (.recConfigApply t) s = execRecConfigApply t s := rfl
theorem exec_recDeclare (k : Fin 9) (s : State) : exec (.recDeclare k) s = execRecDeclare k s := rfl
theorem exec_recRelease (k : Fin 9) (s : State) : exec (.recRelease k) s = execRecRelease k s := rfl
theorem exec_theftReference (s : State) : exec (.theftReference) s = execTheftReference s := rfl
theorem exec_ixNop (n : Fin 32) (cond : Fin 16) (s : State) : exec (.ixNop n cond) s = execIxNop n cond s := rfl
theorem exec_ixLdi (n : Fin 32) (cond : Fin 16) (d : Fin 8) (imm : BitVec 16) (s : State) : exec (.ixLdi n cond d imm) s = execIxLdi n cond d imm s := rfl
theorem exec_ixLdh (n : Fin 32) (cond : Fin 16) (d : Fin 8) (imm : BitVec 16) (s : State) : exec (.ixLdh n cond d imm) s = execIxLdh n cond d imm s := rfl
theorem exec_ixMov (n : Fin 32) (cond : Fin 16) (d sr : Fin 8) (s : State) : exec (.ixMov n cond d sr) s = execIxMov n cond d sr s := rfl
theorem exec_ixRd (n : Fin 32) (cond : Fin 16) (d : Fin 8) (stream : BitVec 8) (s : State) : exec (.ixRd n cond d stream) s = execIxRd n cond d stream s := rfl
theorem exec_ixAdd (n : Fin 32) (cond : Fin 16) (d sr : Fin 8) (s : State) : exec (.ixAdd n cond d sr) s = execIxAdd n cond d sr s := rfl
theorem exec_ixAddi (n : Fin 32) (cond : Fin 16) (d : Fin 8) (imm : BitVec 16) (s : State) : exec (.ixAddi n cond d imm) s = execIxAddi n cond d imm s := rfl
theorem exec_ixSub (n : Fin 32) (cond : Fin 16) (d sr : Fin 8) (s : State) : exec (.ixSub n cond d sr) s = execIxSub n cond d sr s := rfl
theorem exec_ixCmp (n : Fin 32) (cond : Fin 16) (d sr : Fin 8) (s : State) : exec (.ixCmp n cond d sr) s = execIxCmp n cond d sr s := rfl
theorem exec_ixCmpi (n : Fin 32) (cond : Fin 16) (d : Fin 8) (imm : BitVec 16) (s : State) : exec (.ixCmpi n cond d imm) s = execIxCmpi n cond d imm s := rfl
theorem exec_ixMul (n : Fin 32) (cond : Fin 16) (d sr : Fin 8) (k : BitVec 5) (s : State) : exec (.ixMul n cond d sr k) s = execIxMul n cond d sr k s := rfl
theorem exec_ixAbs (n : Fin 32) (cond : Fin 16) (d sr : Fin 8) (s : State) : exec (.ixAbs n cond d sr) s = execIxAbs n cond d sr s := rfl
theorem exec_ixMin (n : Fin 32) (cond : Fin 16) (d sr : Fin 8) (s : State) : exec (.ixMin n cond d sr) s = execIxMin n cond d sr s := rfl
theorem exec_ixMax (n : Fin 32) (cond : Fin 16) (d sr : Fin 8) (s : State) : exec (.ixMax n cond d sr) s = execIxMax n cond d sr s := rfl
theorem exec_ixAnd (n : Fin 32) (cond : Fin 16) (d sr : Fin 8) (s : State) : exec (.ixAnd n cond d sr) s = execIxAnd n cond d sr s := rfl
theorem exec_ixOr (n : Fin 32) (cond : Fin 16) (d sr : Fin 8) (s : State) : exec (.ixOr n cond d sr) s = execIxOr n cond d sr s := rfl
theorem exec_ixXor (n : Fin 32) (cond : Fin 16) (d sr : Fin 8) (s : State) : exec (.ixXor n cond d sr) s = execIxXor n cond d sr s := rfl
theorem exec_ixShr (n : Fin 32) (cond : Fin 16) (d sr : Fin 8) (k : BitVec 5) (s : State) : exec (.ixShr n cond d sr k) s = execIxShr n cond d sr k s := rfl
theorem exec_ixShl (n : Fin 32) (cond : Fin 16) (d sr : Fin 8) (k : BitVec 5) (s : State) : exec (.ixShl n cond d sr k) s = execIxShl n cond d sr k s := rfl
theorem exec_ixMag3 (n : Fin 32) (cond : Fin 16) (d : Fin 8) (sr : Fin 6) (s : State) : exec (.ixMag3 n cond d sr) s = execIxMag3 n cond d sr s := rfl
theorem exec_ixFilt (n : Fin 32) (cond : Fin 16) (d sr : Fin 8) (k : BitVec 5) (s : State) : exec (.ixFilt n cond d sr k) s = execIxFilt n cond d sr k s := rfl
theorem exec_ixTset (n : Fin 32) (cond : Fin 16) (timer : Fin 4) (imm : BitVec 16) (s : State) : exec (.ixTset n cond timer imm) s = execIxTset n cond timer imm s := rfl
theorem exec_ixTsetv (n : Fin 32) (cond : Fin 16) (timer : Fin 4) (sr : Fin 8) (s : State) : exec (.ixTsetv n cond timer sr) s = execIxTsetv n cond timer sr s := rfl
theorem exec_ixTclr (n : Fin 32) (cond : Fin 16) (timer : Fin 4) (s : State) : exec (.ixTclr n cond timer) s = execIxTclr n cond timer s := rfl
theorem exec_ixTst (n : Fin 32) (cond : Fin 16) (timer : Fin 4) (s : State) : exec (.ixTst n cond timer) s = execIxTst n cond timer s := rfl
theorem exec_ixCadd (n : Fin 32) (cond : Fin 16) (ctr : Fin 2) (imm : BitVec 16) (s : State) : exec (.ixCadd n cond ctr imm) s = execIxCadd n cond ctr imm s := rfl
theorem exec_ixCclr (n : Fin 32) (cond : Fin 16) (ctr : Fin 2) (s : State) : exec (.ixCclr n cond ctr) s = execIxCclr n cond ctr s := rfl
theorem exec_ixJmp (n : Fin 32) (cond : Fin 16) (target : BitVec 13) (s : State) : exec (.ixJmp n cond target) s = execIxJmp n cond target s := rfl
theorem exec_ixEnd (n : Fin 32) (cond : Fin 16) (s : State) : exec (.ixEnd n cond) s = execIxEnd n cond s := rfl
theorem exec_ixNext (n : Fin 32) (cond : Fin 16) (target : BitVec 13) (s : State) : exec (.ixNext n cond target) s = execIxNext n cond target s := rfl
theorem exec_ixHalt (n : Fin 32) (cond : Fin 16) (s : State) : exec (.ixHalt n cond) s = execIxHalt n cond s := rfl
theorem exec_ixCkpt (n : Fin 32) (cond : Fin 16) (s : State) : exec (.ixCkpt n cond) s = execIxCkpt n cond s := rfl
theorem exec_ixEmit (n : Fin 32) (cond : Fin 16) (d sr : Fin 8) (code : BitVec 16) (s : State) : exec (.ixEmit n cond d sr code) s = execIxEmit n cond d sr code s := rfl
theorem exec_ixSafeoff (n : Fin 32) (cond : Fin 16) (reason : BitVec 8) (s : State) : exec (.ixSafeoff n cond reason) s = execIxSafeoff n cond reason s := rfl
theorem exec_ixPiow (n : Fin 32) (cond : Fin 16) (sr : Fin 8) (engine : Fin 4) (s : State) : exec (.ixPiow n cond sr engine) s = execIxPiow n cond sr engine s := rfl
theorem exec_ixBell (n : Fin 32) (cond : Fin 16) (source : Option (Fin 8)) (s : State) : exec (.ixBell n cond source) s = execIxBell n cond source s := rfl
theorem exec_ixCapt (n : Fin 32) (cond : Fin 16) (desc : Fin 4) (s : State) : exec (.ixCapt n cond desc) s = execIxCapt n cond desc s := rfl
theorem exec_ixVote (n : Fin 32) (cond : Fin 16) (v : Bool) (s : State) : exec (.ixVote n cond v) s = execIxVote n cond v s := rfl
theorem exec_heartbeatTimeout (s : State) : exec (.heartbeatTimeout) s = execHeartbeatTimeout s := rfl
theorem exec_safeBClose (edges : Bool) (s : State) : exec (.safeBClose edges) s = execSafeBClose edges s := rfl
theorem exec_readbackFault (pinB : Bool) (s : State) : exec (.readbackFault pinB) s = execReadbackFault pinB s := rfl
theorem exec_stateExchange (s : State) : exec (.stateExchange) s = execStateExchange s := rfl
theorem exec_monitorDisagree (s : State) : exec (.monitorDisagree) s = execMonitorDisagree s := rfl
theorem exec_safeBDischargeEnd (s : State) : exec (.safeBDischargeEnd) s = execSafeBDischargeEnd s := rfl
theorem exec_overflowGap (s : State) : exec (.overflowGap) s = execOverflowGap s := rfl
theorem exec_queueEccError (k : Fin 1024) (s : State) : exec (.queueEccError k) s = execQueueEccError k s := rfl
theorem exec_ringCaptureEnd (s : State) : exec (.ringCaptureEnd) s = execRingCaptureEnd s := rfl
theorem exec_ringPointerMismatch (oneCopy : Bool) (s : State) : exec (.ringPointerMismatch oneCopy) s = execRingPointerMismatch oneCopy s := rfl
theorem exec_timeSecondRecord (s : State) : exec (.timeSecondRecord) s = execTimeSecondRecord s := rfl
theorem exec_housekeepingRecord (s : State) : exec (.housekeepingRecord) s = execHousekeepingRecord s := rfl
theorem exec_streamFrameAge (s : State) : exec (.streamFrameAge) s = execStreamFrameAge s := rfl
theorem exec_corruptedFrame (fcs : Bool) (s : State) : exec (.corruptedFrame fcs) s = execCorruptedFrame fcs s := rfl
theorem exec_beaconReceived (s : State) : exec (.beaconReceived) s = execBeaconReceived s := rfl
theorem exec_beaconLoss (s : State) : exec (.beaconLoss) s = execBeaconLoss s := rfl
theorem exec_transmitOpportunity (outcome : TxOutcome) (s : State) : exec (.transmitOpportunity outcome) s = execTransmitOpportunity outcome s := rfl
theorem exec_syncFollowUp (latched origin : BitVec 96) (oneStep : Bool) (s : State) : exec (.syncFollowUp latched origin oneStep) s = execSyncFollowUp latched origin oneStep s := rfl
theorem exec_pdelayReq (latched : BitVec 96) (seq : BitVec 16) (s : State) : exec (.pdelayReq latched seq) s = execPdelayReq latched seq s := rfl
theorem exec_pdelayResp (latched t2 t3 : BitVec 96) (s : State) : exec (.pdelayResp latched t2 t3) s = execPdelayResp latched t2 t3 s := rfl
theorem exec_servoHoldover (s : State) : exec (.servoHoldover) s = execServoHoldover s := rfl
theorem exec_timeStepApply (s : State) : exec (.timeStepApply) s = execTimeStepApply s := rfl
theorem exec_txTimestamp (latched : BitVec 96) (s : State) : exec (.txTimestamp latched) s = execTxTimestamp latched s := rfl
theorem exec_hostTsExpiry (s : State) : exec (.hostTsExpiry) s = execHostTsExpiry s := rfl
theorem exec_aonCalibration (period : Word) (s : State) : exec (.aonCalibration period) s = execAonCalibration period s := rfl
theorem exec_pairMasterSync (s : State) : exec (.pairMasterSync) s = execPairMasterSync s := rfl
theorem exec_twPageSelect (p : Byte) (s : State) : exec (.twPageSelect p) s = execTwPageSelect p s := rfl
theorem exec_twStop (before rest : List Byte) (s : State) : exec (.twStop before rest) s = execTwStop before rest s := rfl
theorem exec_twBusTimeout (partly : Bool) (cut : BitVec 2) (s : State) : exec (.twBusTimeout partly cut) s = execTwBusTimeout partly cut s := rfl
theorem exec_twStuckLine (sda : Bool) (s : State) : exec (.twStuckLine sda) s = execTwStuckLine sda s := rfl
theorem exec_alertResponse (won : Bool) (s : State) : exec (.alertResponse won) s = execAlertResponse won s := rfl
theorem exec_alertRepeat (s : State) : exec (.alertRepeat) s = execAlertRepeat s := rfl
theorem exec_nightAddressMatch (s : State) : exec (.nightAddressMatch) s = execNightAddressMatch s := rfl
theorem exec_joinReqReceived (mac : BitVec 48) (payload : List Byte) (s : State) : exec (.joinReqReceived mac payload) s = execJoinReqReceived mac payload s := rfl
theorem exec_joinAckReceived (mac : BitVec 48) (payload : List Byte) (s : State) : exec (.joinAckReceived mac payload) s = execJoinAckReceived mac payload s := rfl
theorem exec_joinNakReceived (mac : BitVec 48) (payload : List Byte) (s : State) : exec (.joinNakReceived mac payload) s = execJoinNakReceived mac payload s := rfl
theorem exec_joinAckDeadline (s : State) : exec (.joinAckDeadline) s = execJoinAckDeadline s := rfl
theorem exec_pairBoundary (locked : Bool) (s : State) : exec (.pairBoundary locked) s = execPairBoundary locked s := rfl
theorem exec_autoJoin (s : State) : exec (.autoJoin) s = execAutoJoin s := rfl
theorem exec_syncPulse (s : State) : exec (.syncPulse) s = execSyncPulse s := rfl
theorem exec_beatReceived (mac : BitVec 48) (payload : List Byte) (s : State) : exec (.beatReceived mac payload) s = execBeatReceived mac payload s := rfl
theorem exec_ptpOnlyReset (s : State) : exec (.ptpOnlyReset) s = execPtpOnlyReset s := rfl
theorem exec_syncLost (s : State) : exec (.syncLost) s = execSyncLost s := rfl
theorem exec_beatMissed (s : State) : exec (.beatMissed) s = execBeatMissed s := rfl
theorem exec_leaveReceived (mac : BitVec 48) (s : State) : exec (.leaveReceived mac) s = execLeaveReceived mac s := rfl
theorem exec_contributionReceived (mac : BitVec 48) (payload : List Byte) (s : State) : exec (.contributionReceived mac payload) s = execContributionReceived mac payload s := rfl
theorem exec_fusionWaitExpiry (s : State) : exec (.fusionWaitExpiry) s = execFusionWaitExpiry s := rfl
theorem exec_duskBegin (s : State) : exec (.duskBegin) s = execDuskBegin s := rfl
theorem exec_nightEntry (s : State) : exec (.nightEntry) s = execNightEntry s := rfl
theorem exec_wakePioLevel (p : Fin 6) (s : State) : exec (.wakePioLevel p) s = execWakePioLevel p s := rfl
theorem exec_wakePioEdge (p : Fin 6) (late : Bool) (s : State) : exec (.wakePioEdge p late) s = execWakePioEdge p late s := rfl
theorem exec_nightTimerExpiry (s : State) : exec (.nightTimerExpiry) s = execNightTimerExpiry s := rfl
theorem exec_dawnRegulatorReady (s : State) : exec (.dawnRegulatorReady) s = execDawnRegulatorReady s := rfl
theorem exec_dawnOscillatorReady (s : State) : exec (.dawnOscillatorReady) s = execDawnOscillatorReady s := rfl
theorem exec_dawnMemoryReady (ok : Bool) (s : State) : exec (.dawnMemoryReady ok) s = execDawnMemoryReady ok s := rfl
theorem exec_dawnComplete (cycles : BitVec 64) (ms : Word) (cut : BitVec 11) (s : State) : exec (.dawnComplete cycles ms cut) s = execDawnComplete cycles ms cut s := rfl
theorem exec_hkPass (s : State) : exec (.hkPass) s = execHkPass s := rfl
theorem exec_hkConversionDone (k : Fin 16) (value : BitVec 16) (sat : Bool) (s : State) : exec (.hkConversionDone k value sat) s = execHkConversionDone k value sat s := rfl
theorem exec_sliceCalibration (good : Bool) (s : State) : exec (.sliceCalibration good) s = execSliceCalibration good s := rfl
theorem exec_sliceSwap (disagree : Bool) (s : State) : exec (.sliceSwap disagree) s = execSliceSwap disagree s := rfl
theorem exec_legacyActionFire (k : Fin 4) (s : State) : exec (.legacyActionFire k) s = execLegacyActionFire k s := rfl
theorem exec_pioNop (k : Fin 4) (s : State) : exec (.pioNop k) s = execPioNop k s := rfl
theorem exec_pioJmp (k : Fin 4) (pins : BitVec 6) (cond : Fin 8) (pin target : BitVec 6) (s : State) : exec (.pioJmp k pins cond pin target) s = execPioJmp k pins cond pin target s := rfl
theorem exec_pioSet (k : Fin 4) (mask levels : BitVec 6) (s : State) : exec (.pioSet k mask levels) s = execPioSet k mask levels s := rfl
theorem exec_pioDir (k : Fin 4) (mask dirs : BitVec 6) (s : State) : exec (.pioDir k mask dirs) s = execPioDir k mask dirs s := rfl
theorem exec_pioShin (k : Fin 4) (pins : BitVec 6) (width : Fin 4) (pin : Fin 6) (s : State) : exec (.pioShin k pins width pin) s = execPioShin k pins width pin s := rfl
theorem exec_pioJtab (k : Fin 4) (base : Fin 49) (s : State) : exec (.pioJtab k base) s = execPioJtab k base s := rfl
theorem exec_pioAddj (k : Fin 4) (reg : Fin 3) (delta target : BitVec 6) (s : State) : exec (.pioAddj k reg delta target) s = execPioAddj k reg delta target s := rfl
theorem exec_pioLdi (k : Fin 4) (reg : Fin 3) (value : BitVec 16) (s : State) : exec (.pioLdi k reg value) s = execPioLdi k reg value s := rfl
theorem exec_pioPut (k : Fin 4) (reg : Fin 3) (reload : BitVec 16) (s : State) : exec (.pioPut k reg reload) s = execPioPut k reg reload s := rfl
theorem exec_pioGet (k : Fin 4) (reg : Fin 3) (s : State) : exec (.pioGet k reg) s = execPioGet k reg s := rfl
theorem exec_pioSetx (k : Fin 4) (mask : BitVec 6) (s : State) : exec (.pioSetx k mask) s = execPioSetx k mask s := rfl
theorem exec_pioIrq (k : Fin 4) (s : State) : exec (.pioIrq k) s = execPioIrq k s := rfl
theorem exec_pioHalt (k : Fin 4) (s : State) : exec (.pioHalt k) s = execPioHalt k s := rfl
theorem exec_twPointerSet (p : Byte) (s : State) : exec (.twPointerSet p) s = execTwPointerSet p s := rfl
theorem exec_repeatedStart (rest : List Byte) (s : State) : exec (.repeatedStart rest) s = execRepeatedStart rest s := rfl
theorem exec_twStuckLineClear (sda : Bool) (s : State) : exec (.twStuckLineClear sda) s = execTwStuckLineClear sda s := rfl
theorem exec_phaseShedding (active : Fin 8) (s : State) : exec (.phaseShedding active) s = execPhaseShedding active s := rfl
theorem exec_beaconTransmit (s : State) : exec (.beaconTransmit) s = execBeaconTransmit s := rfl
theorem exec_pdelayReqTransmit (s : State) : exec (.pdelayReqTransmit) s = execPdelayReqTransmit s := rfl

end Sys2Proof.Machine
end

