-- ==== Sys2Proof/Laws/Frames.lean ====
section
/-!
SUPPORT. What the shared operations over registers and interrupt sources change, and what they leave alone.
-/
namespace Sys2Proof.Machine

/-! ### Registers -/

theorem State.reg_setF_same (s : State) (f : Fld) (v : Nat) : (s.setF f v).reg f.reg = putF f v (s.reg f.reg) :=
  s.reg_setReg_same _ _

theorem RegFrame.refl (as : List Nat) (s : State) : RegFrame as s s := fun _ _ _ => rfl

theorem RegFrame.trans {as : List Nat} {s t u : State} (h : RegFrame as s t) (k : RegFrame as t u) : RegFrame as s u :=
  fun a ha hp => (k a ha hp).trans (h a ha hp)

theorem RegFrame.mono {as bs : List Nat} {s t : State} (h : RegFrame as s t) (hs : ∀ a ∈ as, a ∈ bs) : RegFrame bs s t :=
  fun a ha hp => h a (fun m => ha (hs a m)) hp

/-- A state with the same registers. -/
theorem RegFrame.of_regs {as : List Nat} {s t : State} (h : t.regs = s.regs) : RegFrame as s t := fun a _ _ => by
  simp only [State.reg, h]

/-- A further change that leaves the registers alone. -/
theorem RegFrame.regs {as : List Nat} {s t u : State} (h : RegFrame as s t) (e : u.regs = t.regs) : RegFrame as s u :=
  h.trans (.of_regs e)

theorem RegFrame.setReg {as : List Nat} {s t : State} (h : RegFrame as s t) (a : Nat) (w : Word)
    (ha : a ∈ as ∨ a ∈ pendRegs) : RegFrame as s (t.setReg a w) := fun b hb hp =>
  (t.reg_setReg_other a b w fun e => by subst e; exact ha.elim hb hp).trans (h b hb hp)

theorem RegFrame.setF {as : List Nat} {s t : State} (h : RegFrame as s t) (f : Fld) (v : Nat)
    (ha : f.reg ∈ as ∨ f.reg ∈ pendRegs) : RegFrame as s (t.setF f v) := h.setReg _ _ ha

theorem RegFrame.addSat {as : List Nat} {s t : State} (h : RegFrame as s t) (f : Fld) (n : Nat)
    (ha : f.reg ∈ as ∨ f.reg ∈ pendRegs) : RegFrame as s (t.addSat f n) := h.setF _ _ ha

theorem RegFrame.incSat {as : List Nat} {s t : State} (h : RegFrame as s t) (f : Fld)
    (ha : f.reg ∈ as ∨ f.reg ∈ pendRegs) : RegFrame as s (t.incSat f) := h.setF _ _ ha

theorem RegFrame.maxF {as : List Nat} {s t : State} (h : RegFrame as s t) (f : Fld) (v : Nat)
    (ha : f.reg ∈ as ∨ f.reg ∈ pendRegs) : RegFrame as s (t.maxF f v) := h.setF _ _ ha

/-! ### Posting -/

/-- A bit map's register of source `n` is one of the first four. -/
theorem Target.pend_reg_mem (g : Target) (n : Nat) (hn : n < 128) : (g.pend n).reg ∈ pendRegs := by
  have h : n / 32 = 0 ∨ n / 32 = 1 ∨ n / 32 = 2 ∨ n / 32 = 3 := by omega
  cases g <;> simp only [Target.pend, mapF] <;> rcases h with h | h | h | h <;> rw [h] <;> decide

theorem Target.merged_reg_mem (g : Target) : g.merged.reg ∈ pendRegs := by cases g <;> decide

theorem State.alertAgain_regs (g : Target) (s : State) : (s.alertAgain g).regs = s.regs := by cases g <;> rfl

theorem RegFrame.postTo {as : List Nat} {s t : State} (h : RegFrame as s t) (g : Target) (n : Nat) (hn : n < 128) :
    RegFrame as s (t.postTo g n) := by
  unfold State.postTo
  split
  · exact h
  · split
    · exact h.incSat _ (.inr g.merged_reg_mem)
    · exact (h.setF _ _ (.inr (g.pend_reg_mem n hn))).trans (RegFrame.of_regs (State.alertAgain_regs _ _))

theorem RegFrame.post {as : List Nat} {s t : State} (h : RegFrame as s t) (n : Nat) (hn : n < 128) :
    RegFrame as s (t.post n) := by
  unfold State.post State.when
  split
  · exact (h.postTo _ n hn).postTo _ n hn
  · exact h

/-- Raising an event changes its events register and what is pending. -/
theorem RegFrame.raise {as : List Nat} {s t : State} (h : RegFrame as s t) (a k : Nat) (ha : a ∈ as)
    (hn : sourceOf a k < 128) : RegFrame as s (t.raise a k) := (h.setF _ _ (.inl ha)).post _ hn

/-- A register that no source's pending bit stands in reads the same after a post. -/
theorem State.reg_post (s : State) (n a : Nat) (hn : n < 128) (ha : a ∉ pendRegs) : (s.post n).reg a = s.reg a :=
  (RegFrame.refl [] s).post n hn a (by simp) ha

theorem State.fld_post (s : State) (n : Nat) (f : Fld) (hn : n < 128) (ha : f.reg ∉ pendRegs) :
    (s.post n).fld f = s.fld f := by
  simp only [State.fld, s.reg_post n _ hn ha]

theorem State.reg_raise (s : State) (a k b : Nat) (hn : sourceOf a k < 128) (hb : b ∉ pendRegs) (ne : b ≠ a) :
    (s.raise a k).reg b = s.reg b := by
  unfold State.raise
  rw [State.reg_post _ _ _ hn hb, State.reg_setF_other _ _ _ _ ne]

theorem State.fld_raise (s : State) (a k : Nat) (f : Fld) (hn : sourceOf a k < 128) (hb : f.reg ∉ pendRegs)
    (ne : f.reg ≠ a) : (s.raise a k).fld f = s.fld f := by
  simp only [State.fld, s.reg_raise a k _ hn hb ne]

/-- The word of the events register after a raise. -/
theorem State.reg_raise_same (s : State) (a k : Nat) (hn : sourceOf a k < 128) (ha : a ∉ pendRegs) :
    (s.raise a k).reg a = putF (bitF a k) 1 (s.reg a) := by
  unfold State.raise
  rw [State.reg_post _ _ _ hn ha]
  exact State.reg_setF_same s (bitF a k) 1

/-! ### What else stays -/

theorem RegsOnly.refl (s : State) : RegsOnly s s := rfl

theorem RegsOnly.trans {s t u : State} (h : RegsOnly s t) (k : RegsOnly t u) : RegsOnly s u := by
  unfold RegsOnly at *
  rw [k, h]

theorem RegsOnly.setReg (s : State) (a : Nat) (w : Word) : RegsOnly s (s.setReg a w) := rfl
theorem RegsOnly.setF (s : State) (f : Fld) (v : Nat) : RegsOnly s (s.setF f v) := rfl
theorem RegsOnly.addSat (s : State) (f : Fld) (n : Nat) : RegsOnly s (s.addSat f n) := rfl
theorem RegsOnly.incSat (s : State) (f : Fld) : RegsOnly s (s.incSat f) := rfl
theorem RegsOnly.maxF (s : State) (f : Fld) (v : Nat) : RegsOnly s (s.maxF f v) := rfl

theorem RegsOnly.alertAgain (s : State) (g : Target) : RegsOnly s (s.alertAgain g) := by cases g <;> rfl

theorem RegsOnly.postTo (s : State) (g : Target) (n : Nat) : RegsOnly s (s.postTo g n) := by
  unfold State.postTo
  split
  · exact .refl s
  · split
    · exact .incSat s _
    · exact (RegsOnly.setF s _ _).trans (.alertAgain _ g)

theorem RegsOnly.post (s : State) (n : Nat) : RegsOnly s (s.post n) := by
  unfold State.post State.when
  split
  · exact (RegsOnly.postTo s .host n).trans (.postTo _ .cp n)
  · exact .refl s

theorem RegsOnly.raise (s : State) (a k : Nat) : RegsOnly s (s.raise a k) :=
  (RegsOnly.setF s _ _).trans (.post _ _)

/-! ### A posted source is pending -/

theorem Target.en_not_pend (g h : Target) (n m : Nat) (hn : n < 128) (hm : m < 128) : (g.en n).reg ≠ (h.pend m).reg := by
  cases g <;> cases h <;> simp only [Target.en, Target.pend, mapF, Reg.INT_HOST_EN, Reg.INT_CP_EN, Reg.INT_HOST_PEND,
    Reg.INT_CP_PEND] <;> omega

theorem State.fld_of_regs {s t : State} (h : t.regs = s.regs) (f : Fld) : t.fld f = s.fld f := by
  simp only [State.fld, State.reg, h]

/-- A field that a post to one target does not reach. -/
theorem State.fld_postTo_other (s : State) (g : Target) (n : Nat) (f : Fld) (h1 : f.reg ≠ (g.pend n).reg)
    (h2 : f.reg ≠ g.merged.reg) : (s.postTo g n).fld f = s.fld f := by
  unfold State.postTo
  split
  · rfl
  · split
    · exact s.fld_setF_other _ _ _ (.inl h2)
    · rw [State.fld_of_regs (State.alertAgain_regs g _)]
      exact s.fld_setF_other _ _ _ (.inl h1)

theorem Target.pend_not_merged (g h : Target) (n : Nat) (hn : n < 128) : (g.pend n).reg ≠ h.merged.reg := by
  have k : n / 32 = 0 ∨ n / 32 = 1 ∨ n / 32 = 2 ∨ n / 32 = 3 := by omega
  cases g <;> cases h <;> simp only [Target.pend, mapF] <;> rcases k with k | k | k | k <;> rw [k] <;> decide

theorem Target.pend_targets (n m : Nat) (hn : n < 128) (hm : m < 128) :
    (Target.host.pend n).reg ≠ (Target.cp.pend m).reg := by
  simp only [Target.pend, mapF, Reg.INT_HOST_PEND, Reg.INT_CP_PEND]; omega

theorem Target.en_not_merged (g h : Target) (n : Nat) (hn : n < 128) : (g.en n).reg ≠ h.merged.reg := by
  cases g <;> cases h <;> simp only [Target.en, Target.merged, Reg.INT_HOST_EN, Reg.INT_CP_EN, INT_HOST_COUNTS.MERGED,
    INT_CP_COUNTS.MERGED, Reg.INT_HOST_COUNTS, Reg.INT_CP_COUNTS] <;> omega

/-- A posted source is pending where its target enables it. -/
theorem State.postTo_pends (s : State) (g : Target) (n : Nat) (hn : n < 128) (he : s.fld (g.en n) ≠ 0) :
    (s.postTo g n).on (g.pend n) = true := by
  unfold State.postTo
  rw [if_neg he]
  split
  · rename_i h
    unfold State.on State.incSat State.addSat
    rw [State.fld_setF_other _ _ _ _ (.inl (g.pend_not_merged g n hn))]
    exact h
  · unfold State.on
    rw [State.fld_of_regs (State.alertAgain_regs g _), State.fld_setF_same _ _ _ (by
      cases g <;> simp only [Target.pend, mapF] <;> omega)]
    cases g <;> rfl

theorem State.post_pended (s : State) (n : Nat) (hn : n < 128) : Pended n s (s.post n) := by
  intro hnoon g he
  unfold State.post State.when
  rw [if_pos hnoon]
  cases g with
  | host =>
    have h := s.postTo_pends .host n hn he
    unfold State.on at *
    rw [State.fld_postTo_other _ _ _ _ (Target.pend_targets n n hn hn) (Target.pend_not_merged .host .cp n hn)]
    exact h
  | cp =>
    refine State.postTo_pends _ .cp n hn ?_
    rw [State.fld_postTo_other _ _ _ _ (Target.en_not_pend .cp .host n n hn hn) (Target.en_not_merged .cp .host n hn)]
    exact he

/-- Storing a field apart from the enables and the mode leaves what a post depends on. -/
theorem Pended.of_setF {s t : State} {n : Nat} {f : Fld} {v : Nat} (h : Pended n (s.setF f v) t)
    (hm : f.reg ≠ Reg.PWR_STATE) (he : ∀ g : Target, f.reg ≠ (g.en n).reg) : Pended n s t := by
  intro hn g hg
  refine h ?_ g ?_
  · unfold State.noon at *
    rw [State.fld_setF_other _ _ _ _ (.inl (Ne.symm hm))]
    exact hn
  · rw [State.fld_setF_other _ _ _ _ (.inl (Ne.symm (he g)))]
    exact hg

theorem State.raise_raised (s : State) (a k : Nat) (hk : k < 32) (hn : sourceOf a k < 128) (ha : a ∉ pendRegs)
    (hm : a ≠ Reg.PWR_STATE) (he : ∀ g : Target, a ≠ (g.en (sourceOf a k)).reg) : Raised a k s (s.raise a k) := by
  refine ⟨?_, (State.post_pended _ _ hn).of_setF hm he⟩
  unfold State.on State.raise
  rw [State.fld_post _ _ _ hn ha, State.fld_setF_same _ _ _ (by simp only [bitF]; omega)]
  rfl

end Sys2Proof.Machine
end

