-- ==== Sys2Proof/Laws/Interrupt.lean ====
section
/-!
SUPPORT. The claim order of the interrupt controller (R402): what the scan of all sources finds.
-/
namespace Sys2Proof.Machine

/-- A pending source that its target enables. -/
abbrev Waits (s : State) (g : Target) (m : Nat) : Prop := s.on (g.pend m) = true ∧ s.enLevel g m ≠ 0

/-- The scan finds nothing exactly where nothing from its lower bound on waits, else the best that waits there. -/
theorem State.bestPending_spec (s : State) (g : Target) : ∀ k, k ≤ 128 →
    match s.bestPending g k with
    | none => ∀ m, 128 - k ≤ m → m < 128 → ¬ Waits s g m
    | some n => 128 - k ≤ n ∧ n < 128 ∧ Waits s g n ∧ ∀ m, 128 - k ≤ m → m < 128 → Waits s g m →
        s.enLevel g m ≤ s.enLevel g n ∧ (s.enLevel g m = s.enLevel g n → n ≤ m)
  | 0, _ => by
    simp only [State.bestPending]
    intro m h1 h2; omega
  | k + 1, hk => by
    have ih := s.bestPending_spec g k (by omega)
    have hn : 127 - k = 128 - (k + 1) := by omega
    unfold State.bestPending
    dsimp only
    by_cases hw : (s.on (g.pend (127 - k)) && s.enLevel g (127 - k) != 0) = true
    · rw [if_pos hw]
      have hw' : Waits s g (127 - k) := by simpa using hw
      cases hr : s.bestPending g k with
      | none =>
        rw [hr] at ih
        try rw [hr]
        dsimp only at ih ⊢
        refine ⟨by omega, by omega, hw', fun m h1 h2 hm => ?_⟩
        by_cases e : m = 127 - k
        · subst e; exact ⟨Nat.le_refl _, fun _ => Nat.le_refl _⟩
        · exact absurd hm (ih m (by omega) h2)
      | some n =>
        rw [hr] at ih
        try rw [hr]
        dsimp only at ih ⊢
        obtain ⟨h0, h1, h2, h3⟩ := ih
        by_cases hlt : s.enLevel g (127 - k) < s.enLevel g n
        · rw [if_pos hlt]
          refine ⟨by omega, h1, h2, fun m k1 k2 hm => ?_⟩
          by_cases e : m = 127 - k
          · subst e; exact ⟨by omega, by omega⟩
          · exact h3 m (by omega) k2 hm
        · rw [if_neg hlt]
          refine ⟨by omega, by omega, hw', fun m k1 k2 hm => ?_⟩
          by_cases e : m = 127 - k
          · subst e; exact ⟨Nat.le_refl _, fun _ => Nat.le_refl _⟩
          · have := h3 m (by omega) k2 hm
            exact ⟨by omega, by omega⟩
    · rw [if_neg hw]
      have hw' : ¬ Waits s g (127 - k) := by simpa using hw
      cases hr : s.bestPending g k with
      | none =>
        rw [hr] at ih
        try rw [hr]
        dsimp only at ih ⊢
        intro m h1 h2 hm
        by_cases e : m = 127 - k
        · subst e; exact hw' hm
        · exact ih m (by omega) h2 hm
      | some n =>
        rw [hr] at ih
        try rw [hr]
        dsimp only at ih ⊢
        obtain ⟨h0, h1, h2, h3⟩ := ih
        refine ⟨by omega, h1, h2, fun m k1 k2 hm => ?_⟩
        by_cases e : m = 127 - k
        · subst e; exact absurd hm hw'
        · exact h3 m (by omega) k2 hm

/-- The scan of all sources finds the one a claim takes. -/
theorem State.bestPending_of_claimable (s : State) (g : Target) (n : Nat) (h : Claimable s g n) :
    s.bestPending g 128 = some n := by
  have sp := s.bestPending_spec g 128 (Nat.le_refl _)
  obtain ⟨h0, h1, h2, h3⟩ := h
  cases hb : s.bestPending g 128 with
  | none => rw [hb] at sp; exact absurd ⟨h1, h2⟩ (sp n (by omega) h0)
  | some m =>
    rw [hb] at sp
    obtain ⟨_, k1, ⟨k2, _⟩, k3⟩ := sp
    have a := k3 n (by omega) h0 ⟨h1, h2⟩
    have b := h3 m k1 k2
    have := a.2 (by omega)
    have := b.2 (by omega)
    exact congrArg some (by omega)

/-- It finds nothing where nothing enabled is pending. -/
theorem State.bestPending_of_nothing (s : State) (g : Target) (h : NothingPends s g) : s.bestPending g 128 = none := by
  have sp := s.bestPending_spec g 128 (Nat.le_refl _)
  cases hb : s.bestPending g 128 with
  | none => rfl
  | some m =>
    rw [hb] at sp
    obtain ⟨_, k1, ⟨k2, k3⟩, _⟩ := sp
    exact absurd (h m k1 k2) k3

/-! ### What a claim and a bus read do -/

theorem Target.active_not_pend (g : Target) (n m : Nat) (hn : n < 128) (_ : m < 128) : (g.active m).reg ≠ (g.pend n).reg := by
  cases g <;> simp only [Target.active, Target.pend, mapF, Reg.INT_HOST_ACT, Reg.INT_HOST_PEND, Reg.INT_CP_ACT, Reg.INT_CP_PEND] <;> omega
theorem mapF_other (b n m : Nat) (h : m ≠ n) : (mapF b m).reg ≠ (mapF b n).reg ∨ (mapF b n).lo + (mapF b n).width ≤ (mapF b m).lo ∨ (mapF b m).lo + (mapF b m).width ≤ (mapF b n).lo := by
  simp only [mapF]; omega
theorem State.claim_of_claimable (s : State) (g : Target) (n : Nat) (h : Claimable s g n) : s.claim g = (s.setF (g.pend n) 0).setF (g.active n) 1 := by
  simp only [State.claim, s.bestPending_of_claimable g n h]
theorem State.claim_of_nothing (s : State) (g : Target) (h : NothingPends s g) : s.claim g = s := by
  simp only [State.claim, s.bestPending_of_nothing g h]
theorem State.claimWord_of_claimable (s : State) (g : Target) (n : Nat) (h : Claimable s g n) : s.claimWord g = w32 (n + 256 * s.fld (g.en n)) := by
  simp only [State.claimWord, s.bestPending_of_claimable g n h]
theorem State.claimWord_of_nothing (s : State) (g : Target) (h : NothingPends s g) : s.claimWord g = 0x80 := by
  simp only [State.claimWord, s.bestPending_of_nothing g h]
theorem Target.width_le (g : Target) (n : Nat) : (g.pend n).lo + (g.pend n).width ≤ 32 ∧ (g.active n).lo + (g.active n).width ≤ 32 := by
  cases g <;> simp only [Target.active, Target.pend, mapF] <;> omega

theorem State.claimed_fields (s : State) (g : Target) (n : Nat) (hn : n < 128) :
    let t := (s.setF (g.pend n) 0).setF (g.active n) 1
    t.fld (g.pend n) = 0 ∧ t.fld (g.active n) = 1 ∧ OtherSources g n s t ∧
    (∀ a, a ≠ (g.pend n).reg → a ≠ (g.active n).reg → t.reg a = s.reg a) := by
  refine ⟨?_, ?_, fun m hm hne => ⟨?_, ?_⟩, fun a h1 h2 => ?_⟩
  · rw [State.fld_setF_other _ _ _ _ (.inl (Ne.symm (Target.active_not_pend g n n hn hn))), State.fld_setF_same _ _ _ (Target.width_le g n).1]
    simp
  · rw [State.fld_setF_same _ _ _ (Target.width_le g n).2]
    cases g <;> rfl
  · rw [State.fld_setF_other _ _ _ _ (.inl (Ne.symm (Target.active_not_pend g m n hm hn)))]
    exact State.fld_setF_other _ _ _ _ (by cases g <;> exact mapF_other _ n m hne)
  · rw [State.fld_setF_other _ _ _ _ (by cases g <;> exact mapF_other _ n m hne)]
    exact State.fld_setF_other _ _ _ _ (.inl (Target.active_not_pend g n m hn hm))
  · rw [State.reg_setF_other _ _ _ _ h2, State.reg_setF_other _ _ _ _ h1]

theorem State.reg_busRead (s : State) (bytes : Fin 5) (a b : Nat) (h : b ∉ busRegs) : (s.busRead bytes a).reg b = s.reg b := by
  simp only [busRegs, List.mem_cons, List.not_mem_nil, or_false, not_or] at h
  unfold State.busRead State.busAccess State.twStart
  split
  · rfl
  · rw [State.reg_setF_other _ _ _ _ h.2]
    split
    · rfl
    · rw [State.reg_setF_other _ _ _ _ h.1]; rfl
theorem State.busRead_only (s : State) (bytes : Fin 5) (a : Nat) : BusOnly s (s.busRead bytes a) ∧ (s.busRead bytes a).busOut = s.busOut := by
  unfold State.busRead State.busAccess State.twStart
  split
  · exact ⟨rfl, rfl⟩
  · split <;> exact ⟨rfl, rfl⟩
theorem BusOnly.trans {s t u : State} (h : BusOnly s t) (k : BusOnly t u) : BusOnly s u := by
  unfold BusOnly at *; rw [k, h]
theorem State.fld_busRead (s : State) (bytes : Fin 5) (a : Nat) (f : Fld) (h : f.reg ∉ busRegs) : (s.busRead bytes a).fld f = s.fld f := by
  simp only [State.fld, State.reg_busRead _ _ _ _ h]
theorem Target.not_busRegs (g : Target) (n : Nat) (hn : n < 128) : (g.pend n).reg ∉ busRegs ∧ (g.active n).reg ∉ busRegs := by
  cases g <;> simp only [busRegs, Target.active, Target.pend, mapF, Reg.INT_HOST_ACT, Reg.INT_HOST_PEND, Reg.INT_CP_ACT, Reg.INT_CP_PEND, Reg.TW_STATUS, Reg.TW_PAGE,
   List.mem_cons, List.not_mem_nil, or_false, not_or] <;> omega

end Sys2Proof.Machine
end

