-- ==== Sys2Proof/Laws/Records.lean ====
section
/-!
SUPPORT. What committing records and taking a path to SAFE off can change (chapters 9 and 10), said once.
-/
namespace Sys2Proof.Machine

/-! ### Commit (R230 to R238) -/

theorem RegFrame.watermark {as : List Nat} {s t : State} (h : RegFrame as s t) (hs : ∀ a ∈ commitRegs, a ∈ as) :
    RegFrame as s t.watermark := by
  unfold State.watermark; dsimp only
  split
  · exact h.raise _ _ (hs _ (by decide)) (by decide)
  · exact h

theorem RegFrame.trimCapture {as : List Nat} {s t : State} (h : RegFrame as s t) (hs : ∀ a ∈ commitRegs, a ∈ as) :
    RegFrame as s t.trimCapture := by
  unfold State.trimCapture
  split
  · exact (h.setF _ _ (.inl (hs _ (by decide)))).setF _ _ (.inl (hs _ (by decide)))
  · exact h

theorem RegFrame.ringStore {as : List Nat} {s t : State} (h : RegFrame as s t) (hs : ∀ a ∈ commitRegs, a ∈ as)
    (r : Rec) (seq : Nat) : RegFrame as s (t.ringStore r seq) := by
  unfold State.ringStore; dsimp only
  split
  · split
    · exact (h.setF _ _ (.inl (hs _ (by decide)))).raise _ _ (hs _ (by decide)) (by decide)
    · exact RegFrame.trimCapture (h.regs rfl) hs
  · exact h

theorem RegFrame.commitRec {as : List Nat} {s t : State} (h : RegFrame as s t) (hs : ∀ a ∈ commitRegs, a ∈ as) (r : Rec) :
    RegFrame as s (t.commitRec r) := by
  unfold State.commitRec; dsimp only
  refine RegFrame.ringStore ?_ hs _ _
  exact h.regs rfl

theorem RegFrame.commitDropped {as : List Nat} {s t : State} (h : RegFrame as s t) (hs : ∀ a ∈ commitRegs, a ∈ as)
    (r : Rec) : RegFrame as s (t.commitDropped r) := by
  unfold State.commitDropped; dsimp only
  refine RegFrame.ringStore ?_ hs _ _
  exact h.regs rfl

theorem RegFrame.each {α : Type} {as : List Nat} {f : α → State → State}
    (hf : ∀ x {s t : State}, RegFrame as s t → RegFrame as s (f x t)) :
    ∀ (xs : List α) {s t : State}, RegFrame as s t → RegFrame as s (t.each f xs)
  | [], _, _, h => h
  | x :: xs, _, _, h => RegFrame.each hf xs (hf x h)

theorem RegFrame.dropRecs {as : List Nat} {s t : State} (h : RegFrame as s t) (hs : ∀ a ∈ commitRegs, a ∈ as)
    (cause : Nat) (rs : List Rec) : RegFrame as s (t.dropRecs cause rs) := by
  unfold State.dropRecs; dsimp only
  refine RegFrame.raise ?_ _ _ (hs _ (by decide)) (by split <;> decide)
  refine RegFrame.addSat ?_ _ _ (.inl (hs _ (by decide)))
  exact h.regs rfl

theorem RegFrame.ringEmpty {as : List Nat} {s t : State} (h : RegFrame as s t) (hs : ∀ a ∈ commitRegs, a ∈ as) :
    RegFrame as s t.ringEmpty := by
  unfold State.ringEmpty; dsimp only
  exact RegFrame.setF (RegFrame.setF (RegFrame.setF (h.regs rfl) _ _ (.inl (hs _ (by decide)))) _ _
    (.inl (hs _ (by decide)))) _ _ (.inl (hs _ (by decide)))

theorem RegFrame.ringConfigPoint {as : List Nat} {s t : State} (h : RegFrame as s t) (hs : ∀ a ∈ commitRegs, a ∈ as) :
    RegFrame as s t.ringConfigPoint := by
  unfold State.ringConfigPoint
  split
  · exact h
  · exact RegFrame.ringEmpty (h.regs rfl) hs

theorem RegFrame.commitAll {as : List Nat} {s t : State} (h : RegFrame as s t) (hs : ∀ a ∈ commitRegs, a ∈ as)
    (rs : List Rec) : RegFrame as s (t.commitAll rs) := by
  have hp := h.ringConfigPoint hs
  have hrec : ∀ {u : State}, RegFrame as s u → RegFrame as s (u.each State.commitRec rs) := fun hu =>
    RegFrame.each (fun r _ _ h => RegFrame.commitRec h hs r) rs hu
  have hdrop : ∀ {u : State}, RegFrame as s u → RegFrame as s (u.each State.commitDropped rs) := fun hu =>
    RegFrame.each (fun r _ _ h => RegFrame.commitDropped h hs r) rs hu
  unfold State.commitAll
  split
  · exact h
  split
  · exact hp
  extract_lets u need free
  split
  · split
    · exact (hrec hp).watermark hs
    · exact (hdrop hp).dropRecs hs _ _
  · split
    · refine (hrec (RegFrame.commitRec ?_ hs _)).watermark hs
      exact hp.regs rfl
    · exact (hdrop hp).dropRecs hs _ _

theorem RegFrame.commitOne {as : List Nat} {s t : State} (h : RegFrame as s t) (hs : ∀ a ∈ commitRegs, a ∈ as) (r : Rec) :
    RegFrame as s (t.commitOne r) := h.commitAll hs _

theorem RegFrame.captureTrigger {as : List Nat} {s t : State} (h : RegFrame as s t) (hs : ∀ a ∈ commitRegs, a ∈ as)
    (desc tick source machine : Nat) : RegFrame as s (t.captureTrigger desc tick source machine) := by
  unfold State.captureTrigger; dsimp only
  split
  · refine RegFrame.commitOne (RegFrame.raise ?_ _ _ (hs _ (by decide)) (by decide)) hs _
    exact RegFrame.setF (RegFrame.setF (RegFrame.setF (RegFrame.setF (h.regs rfl) _ _
      (.inl (hs _ (by decide)))) _ _ (.inl (hs _ (by decide)))) _ _ (.inl (hs _ (by decide)))) _ _
      (.inl (hs _ (by decide)))
  · exact h.incSat _ (.inl (hs _ (by decide)))

/-! ### Paths to SAFE off (R213 to R225) -/

theorem RegFrame.emitStatus {as : List Nat} {s t : State} (h : RegFrame as s t) (hs : ∀ a ∈ commitRegs, a ∈ as)
    (tied : Bool) (r : Rec) : RegFrame as s (t.emitStatus tied r) := by
  unfold State.emitStatus State.hold
  split
  · exact h.regs rfl
  · exact h.commitOne hs r

/-- What follows the store of a new safety state: its record, its events, what it latches, its pins, its capture. -/
def afterRegs : List Nat := [Reg.SAFE_EVENTS, Reg.SAFE_COUNTS, Reg.SAFE_MON_STATUS] ++ commitRegs

theorem RegFrame.safeEvents {as : List Nat} {s t : State} (h : RegFrame as s t) (hs : ∀ a ∈ afterRegs, a ∈ as)
    (cause next : Nat) : RegFrame as s (t.safeEvents cause next) := by
  have ev : ∀ {u : State} (k : Nat), sourceOf Reg.SAFE_EVENTS k < 128 → RegFrame as s u →
      RegFrame as s (u.raise Reg.SAFE_EVENTS k) := fun k hk hu => hu.raise _ k (hs _ (by decide)) hk
  have ite : ∀ {u v : State} {c : Prop} [Decidable c], RegFrame as s u → RegFrame as s v →
      RegFrame as s (if c then u else v) := fun hu hv => by split <;> assumption
  unfold State.safeEvents; dsimp only
  have h1 := ite (c := next = TRIPPED) ((ev 0 (by decide) h).incSat SAFE_COUNTS.TRIPS (.inl (hs _ (by decide)))) h
  have h2 := ite (c := cause = C_HEARTBEAT) (ev 2 (by decide) h1) h1
  have h3 := ite (c := cause = C_READBACK_A ∨ cause = C_READBACK_B) (ev 3 (by decide) h2) h2
  exact ite (ev 4 (by decide) h3) h3

theorem RegFrame.latchFault {as : List Nat} {s t : State} (h : RegFrame as s t) (hs : ∀ a ∈ afterRegs, a ∈ as)
    (cause next : Nat) : RegFrame as s (t.latchFault cause next) := by
  unfold State.latchFault; dsimp only
  split
  · exact (h.setF _ _ (.inl (hs _ (by decide)))).setF _ _ (.inl (hs _ (by decide)))
  · exact h

theorem RegFrame.tripPins {as : List Nat} {s t : State} (h : RegFrame as s t) (next : Nat) :
    RegFrame as s (t.tripPins next) := by
  unfold State.tripPins State.holdPins
  split
  · exact h.regs rfl
  · split
    · exact h.regs rfl
    · exact h

theorem RegFrame.tripCapture {as : List Nat} {s t : State} (h : RegFrame as s t) (hs : ∀ a ∈ commitRegs, a ∈ as)
    (next tick : Nat) : RegFrame as s (t.tripCapture next tick) := by
  unfold State.tripCapture
  split
  · exact h.captureTrigger hs _ _ _ _
  · exact h

/-- The state with outputs off, the new state in both copies, and the path recorded. -/
def State.entered (s : State) (next cause reason origin tick : Nat) : State :=
  (s.outputsOff.setSafe next).recordTrip cause reason origin tick

/-- Entering a safety state stores it, the outputs and the record, and beyond that changes only what follows. -/
theorem State.safeEnter_frame (s : State) (next cause reason origin tick : Nat) (tied : Bool) :
    RegFrame afterRegs (s.entered next cause reason origin tick) (s.safeEnter next cause reason origin tick tied) := by
  have hc : ∀ a ∈ commitRegs, a ∈ afterRegs := fun a ha => List.mem_append_right _ ha
  unfold State.safeEnter; dsimp only
  exact ((((((RegFrame.refl _ _).emitStatus hc _ _).safeEvents (fun _ h => h) _ _).latchFault (fun _ h => h) _ _).tripPins
    _).tripCapture hc _ _)

theorem State.entered_frame (s : State) (next cause reason origin tick : Nat) :
    RegFrame safeRegs s (s.entered next cause reason origin tick) := by
  unfold State.entered State.recordTrip State.setSafe State.outputsOff; dsimp only
  refine RegFrame.setReg (RegFrame.setReg (RegFrame.setReg (RegFrame.setF (RegFrame.setF ?_ _ _ ?_) _ _ ?_) _ _ ?_)
    _ _ ?_) _ _ ?_
  all_goals first
    | exact .inl (by decide)
    | skip
  refine RegFrame.regs (RegFrame.setF (RegFrame.setF (RegFrame.refl _ _) SAFE_STATE.A_ON 0 (.inl (by decide)))
    SAFE_STATE.B_ON 0 (.inl (by decide))) rfl

theorem RegFrame.safeEnter {as : List Nat} {s t : State} (h : RegFrame as s t) (hs : ∀ a ∈ safeRegs, a ∈ as)
    (next cause reason origin tick : Nat) (tied : Bool) :
    RegFrame as s (t.safeEnter next cause reason origin tick tied) :=
  (h.trans ((t.entered_frame _ _ _ _ _).mono hs)).trans ((t.safeEnter_frame next cause reason origin tick tied).mono
    fun a ha => hs a (by revert ha; revert a; decide))

/-- The outputs are off, both copies of the state are the new one, and SAFE_TRIP holds the path (R207, R213, R218). -/
theorem State.safeEnter_result (s : State) (next cause reason origin tick : Nat) (tied : Bool) (hn : next < 8) :
    let t := s.safeEnter next cause reason origin tick tied
    t.SafeOff ∧ t.safeState = next ∧ t.fld SAFE_STATE.MON_STATE = next ∧
      t.reg Reg.SAFE_TRIP = w32 (cause + 2 ^ 8 * reason + 2 ^ 16 * origin) ∧
      t.reg Reg.SAFE_TRIP_TICK_LO = w32 tick ∧ t.reg Reg.SAFE_TRIP_TICK_HI = w32 (tick / 2 ^ 32) := by
  have hf := s.safeEnter_frame next cause reason origin tick tied
  have hst : ∀ f : Fld, f.reg = Reg.SAFE_STATE →
      (s.safeEnter next cause reason origin tick tied).fld f = (s.entered next cause reason origin tick).fld f := by
    intro f e
    simp only [State.fld, e]
    rw [hf _ (by decide) (by decide)]
  have off : ∀ f : Fld, f.reg = Reg.SAFE_STATE → ∀ v, (s.entered next cause reason origin tick).fld f = v →
      (s.safeEnter next cause reason origin tick tied).fld f = v := fun f e v hv => (hst f e).trans hv
  have hm : next % 2 ^ 3 = next := Nat.mod_eq_of_lt hn
  have hf' : ∀ (u : State) (v : SafetyPart) (f : Fld), ({ u with safety := v } : State).fld f = u.fld f := fun _ _ _ => rfl
  refine ⟨⟨off _ rfl _ ?_, off _ rfl _ ?_⟩, off _ rfl _ ?_, off _ rfl _ ?_, ?_, ?_, ?_⟩
  · simp (disch := decide) only [State.entered, State.recordTrip, State.setSafe, State.outputsOff,
      State.fld_setReg_other, State.fld_setF_other, State.fld_setF_same, hf']
    rfl
  · simp (disch := decide) only [State.entered, State.recordTrip, State.setSafe, State.outputsOff,
      State.fld_setReg_other, State.fld_setF_other, State.fld_setF_same, hf']
    rfl
  · simp (disch := decide) only [State.entered, State.recordTrip, State.setSafe,
      State.fld_setReg_other, State.fld_setF_other, State.fld_setF_same]
    exact hm
  · simp (disch := decide) only [State.entered, State.recordTrip, State.setSafe,
      State.fld_setReg_other, State.fld_setF_other, State.fld_setF_same]
    exact hm
  · rw [hf _ (by decide) (by decide)]
    simp (disch := decide) only [State.entered, State.recordTrip, State.reg_setReg_other, State.reg_setReg_same]
  · rw [hf _ (by decide) (by decide)]
    simp (disch := decide) only [State.entered, State.recordTrip, State.reg_setReg_other, State.reg_setReg_same]
  · rw [hf _ (by decide) (by decide)]
    simp (disch := decide) only [State.entered, State.recordTrip, State.reg_setReg_other, State.reg_setReg_same]

end Sys2Proof.Machine
end

