-- ==== Sys2Proof/Tests/Slice0.lean ====
section
/-!
SUPPORT. Tests on small states: each check of WellFormed refuses an ill-formed term, and single commands from reset. Every
expected value comes from the rule named beside it.
-/
namespace Sys2Proof.Tests
open Sys2Proof.Machine

/-! ### WellFormed refuses -/

/-- A vote carries 216 channels (R48). -/
theorem test_wf_vote_short : (Instr.committedVote 0 [(0, false)]).wellFormed = false := by decide
theorem test_wf_fast_short : (Instr.fastSampleArrival 0 []).wellFormed = false := by decide
/-- Registers are words (R417). -/
theorem test_wf_register_odd : (Instr.registerWrite false 0x0402 0).wellFormed = false := by decide
theorem test_wf_register_page : (Instr.registerWrite false 0x1200 0).wellFormed = false := by decide

end Sys2Proof.Tests
end

/-! ### Every well-formed command completes -/

namespace Sys2Proof.Machine

/-! The two samples are the only commands whose meaning checks the shape of its operand: 216 channels (R48). -/

theorem exec_committedVote_of_length {xs : List (Word × Bool)} (h : xs.length = 216) (t : BitVec 64) (s : State) :
    exec (.committedVote t xs) s =
      act (fun s => s.when (s.canSample t.toNat) (State.vote t.toNat (xs.map fun x => (x.1.toInt, x.2)))) s :=
  (exec_committedVote t xs s).trans (if_neg (not_not_intro h))

theorem exec_committedVote_of_length_ne {xs : List (Word × Bool)} (h : xs.length ≠ 216) (t : BitVec 64) (s : State) :
    exec (.committedVote t xs) s = .fault .operandLength :=
  (exec_committedVote t xs s).trans (if_pos h)

theorem exec_fastSampleArrival_of_length {xs : List (Word × Bool)} (h : xs.length = 216) (t : BitVec 64) (s : State) :
    exec (.fastSampleArrival t xs) s =
      act (fun s => s.when (s.sampling t.toNat && s.freshFast t.toNat)
        (State.fastArrive t.toNat (xs.map fun x => (x.1.toInt, x.2)))) s :=
  (exec_fastSampleArrival t xs s).trans (if_neg (not_not_intro h))

theorem exec_fastSampleArrival_of_length_ne {xs : List (Word × Bool)} (h : xs.length ≠ 216) (t : BitVec 64)
    (s : State) : exec (.fastSampleArrival t xs) s = .fault .operandLength :=
  (exec_fastSampleArrival t xs s).trans (if_pos h)

theorem wellFormed_committedVote_iff (t : BitVec 64) (xs : List (Word × Bool)) :
    (Instr.committedVote t xs).wellFormed = true ↔ xs.length = 216 := beq_iff_eq

theorem wellFormed_fastSampleArrival_iff (t : BitVec 64) (xs : List (Word × Bool)) :
    (Instr.fastSampleArrival t xs).wellFormed = true ↔ xs.length = 216 := beq_iff_eq

/-- The samples complete by their length. Every other command's meaning is by definition a next state: an effect under
`act`, for PIO_PMEM_DATA one for each kind of access, and for POWER_UP the state after power-up. -/
theorem completes_of_wellFormed (c : Instr) (s : State) (h : c.wellFormed = true) : Completes c s := by
  cases c with
  | committedVote t xs => exact ⟨_, exec_committedVote_of_length ((wellFormed_committedVote_iff t xs).mp h) t s⟩
  | fastSampleArrival t xs =>
    exact ⟨_, exec_fastSampleArrival_of_length ((wellFormed_fastSampleArrival_iff t xs).mp h) t s⟩
  | pioPmemData bus w =>
    cases w with
    | none => exact ⟨_, rfl⟩
    | some w => exact ⟨_, rfl⟩
  | _ => exact ⟨_, rfl⟩

/-- Settles O6, by the commands: a sample's length is the only thing a meaning checks before its effect. -/
theorem everyCommandCompletes : Obligations.EveryCommandCompletes :=
  ⟨completes_of_wellFormed, fun t _ s h =>
    ⟨exec_committedVote_of_length_ne h t s, exec_fastSampleArrival_of_length_ne h t s⟩⟩

end Sys2Proof.Machine

namespace Sys2Proof.Machine

/-! ### Fields and events through register frames -/

theorem RegFrame.fld {as : List Nat} {s t : State} (h : RegFrame as s t) (f : Fld) (ha : f.reg ∉ as)
    (hp : f.reg ∉ pendRegs) : t.fld f = s.fld f := by
  simp only [State.fld, h _ ha hp]

theorem RegFrame.on {as : List Nat} {s t : State} (h : RegFrame as s t) (f : Fld) (ha : f.reg ∉ as)
    (hp : f.reg ∉ pendRegs) : t.on f = s.on f := by
  simp only [State.on, h.fld f ha hp]

theorem State.on_eq_true_iff (s : State) (f : Fld) : s.on f = true ↔ s.fld f ≠ 0 := bne_iff_ne

theorem State.on_eq_false_iff (s : State) (f : Fld) : s.on f = false ↔ s.fld f = 0 := by simp [State.on]

/-- The registers that decide whether a posted source becomes pending (R399, R401): the mode and the enables. -/
def postRegs : List Nat :=
  Reg.PWR_STATE :: (List.range 8).map Reg.INT_HOST_EN ++ (List.range 8).map Reg.INT_CP_EN

theorem Target.en_reg_mem_postRegs (g : Target) (n : Nat) (hn : n < 128) : (g.en n).reg ∈ postRegs := by
  have hlt : n / 16 ∈ List.range 8 := List.mem_range.mpr (by omega)
  cases g with
  | host => exact List.mem_append_left _ (List.mem_cons_of_mem _ (List.mem_map_of_mem hlt))
  | cp => exact List.mem_append_right _ (List.mem_map_of_mem hlt)

theorem postRegs_not_pendRegs : ∀ a ∈ postRegs, a ∉ pendRegs := by decide

/-- A change of other registers than those a post depends on comes before the post as well as after it. -/
theorem Pended.of_frame {as : List Nat} {s u t : State} {n : Nat} (h : Pended n u t) (hf : RegFrame as s u)
    (hold : u.entry.hold = s.entry.hold) (has : ∀ a ∈ as, a ∉ postRegs) (hn : n < 128) : Pended n s t := by
  have kept (f : Fld) (hm : f.reg ∈ postRegs) : u.fld f = s.fld f :=
    hf.fld f (fun ha => has _ ha hm) (postRegs_not_pendRegs _ hm)
  intro hnoon g hen
  refine h ?_ g ?_
  · rw [← hnoon, State.noon, State.noon, hold, kept PWR_STATE.STATE (by decide)]
  · rwa [kept _ (g.en_reg_mem_postRegs n hn)]

/-- An event raised after other registers have changed is raised from the first state on. -/
theorem RegFrame.raise_raised {as : List Nat} {s t : State} (h : RegFrame as s t)
    (hold : t.entry.hold = s.entry.hold) (has : ∀ a ∈ as, a ∉ postRegs) (a k : Nat) (hk : k < 32)
    (hn : sourceOf a k < 128) (ha : a ∉ pendRegs ++ postRegs) : Raised a k s (t.raise a k) := by
  obtain ⟨hpend, hpost⟩ : a ∉ pendRegs ∧ a ∉ postRegs := by simpa [not_or] using ha
  obtain ⟨hon, hp⟩ := t.raise_raised a k hk hn hpend (fun e => hpost (e ▸ List.mem_cons_self ..))
    fun g e => hpost (e ▸ g.en_reg_mem_postRegs _ hn)
  exact ⟨hon, hp.of_frame h hold has hn⟩

/-- A raised event stands while neither its register nor what is pending is stored again. -/
theorem Raised.setF {a k : Nat} {s t : State} (h : Raised a k s t) (f : Fld) (v : Nat) (hn : sourceOf a k < 128)
    (hf : f.reg ∉ a :: pendRegs) : Raised a k s (t.setF f v) := by
  obtain ⟨hon, hp⟩ := h
  obtain ⟨hne, hpend⟩ : f.reg ≠ a ∧ f.reg ∉ pendRegs := by simpa [not_or] using hf
  have kept (g : Fld) (hg : g.reg ≠ f.reg) : (t.setF f v).on g = t.on g := by
    simp only [State.on, t.fld_setF_other f g v (.inl hg)]
  refine ⟨(kept _ hne.symm).trans hon, fun hnoon g hen => (kept _ fun e => hpend ?_).trans (hp hnoon g hen)⟩
  exact e ▸ g.pend_reg_mem _ hn

/-! ### The input stage -/

/-- The three reports of the input stage (R362): one field of CONV_STATUS stored, source 77 posted, nothing else. -/
theorem convReport_result (s : State) (f : Fld) (v : Nat) (hf : f.reg = Reg.CONV_STATUS) :
    let t := (s.setF f v).raise Reg.CONV_EVENTS 3
    t.reg Reg.CONV_STATUS = putF f v (s.reg Reg.CONV_STATUS) ∧ Raised Reg.CONV_EVENTS 3 s t ∧
      RegFrame [Reg.CONV_STATUS, Reg.CONV_EVENTS] s t ∧ RegsOnly s t := by
  have stored (as : List Nat) (h : Reg.CONV_STATUS ∈ as) : RegFrame as s (s.setF f v) :=
    (RegFrame.refl as s).setF f v (.inl (hf ▸ h))
  refine ⟨?_, (stored [Reg.CONV_STATUS] (by decide)).raise_raised rfl (by decide) _ _ (by decide) (by decide) (by decide),
    (stored _ (by decide)).raise _ _ (by decide) (by decide), (RegsOnly.setF s f v).trans (.raise _ _ _)⟩
  rw [State.reg_raise _ _ _ _ (by decide) (by decide) (by decide), ← hf]
  exact s.reg_setF_same f v

/-- Settles O13: each report is one field of CONV_STATUS and one event; a reversal is blocked. -/
theorem inputStageReports : Obligations.InputStageReports := fun s haon =>
  ⟨⟨s, (exec_vbatReversal s).trans (act_next haon), rfl⟩,
    ⟨_, (exec_inputDisconnect s).trans (act_next haon), convReport_result s _ 1 rfl⟩,
    ⟨_, (exec_inputReconnect s).trans (act_next haon), convReport_result s _ 0 rfl⟩,
    ⟨_, (exec_vbatLowReport s).trans (act_next haon), convReport_result s _ 1 rfl⟩⟩

end Sys2Proof.Machine
namespace Sys2Proof.Machine

/-! ### The two-wire target's transaction (R293 to R297) -/

/-- A row that acts in Noon alone, with the AON supply up. -/
theorem act_when_noon {f : State → State} {s : State} (haon : s.aon = true) (hnoon : s.noon = true) :
    act (fun s => s.when s.noon f) s = .next (f s) := by
  rw [act_next haon, State.when, if_pos hnoon]

/-- Nothing is changed but registers and what the two-wire target keeps of its transaction. -/
def TwOnly (s t : State) : Prop := t = { s with regs := t.regs, tw := t.tw }

theorem TwOnly.trans {s t u : State} (h : TwOnly s t) (k : TwOnly t u) : TwOnly s u := by
  unfold TwOnly at *
  rw [k, h]

theorem RegsOnly.twOnly {s t : State} (h : RegsOnly s t) : TwOnly s t := by
  unfold RegsOnly TwOnly at *
  rw [h]

theorem State.twStart_twOnly (s : State) : TwOnly s s.twStart := by
  unfold State.twStart
  split <;> rfl

/-- A START stores BUSY alone (R294). -/
theorem State.twStart_regFrame (s : State) : RegFrame [Reg.TW_STATUS] s s.twStart := by
  unfold State.twStart
  split
  · exact .refl _ s
  · exact ((RegFrame.refl _ s).regs rfl).setF _ _ (.inl (by decide))

theorem State.twStart_hold (s : State) : s.twStart.entry.hold = s.entry.hold := by rw [s.twStart_twOnly]

theorem State.twStart_ownAddress (s : State) : s.twStart.ownAddress = s.ownAddress := by
  unfold State.twStart
  split <;> rfl

/-- A byte stored in the pointer or in the page, which share a register, reads back and leaves all else but BUSY. -/
theorem State.twStart_setF_result (s : State) (f : Fld) (hf : f.reg = Reg.TW_PAGE) (hw : f.lo + f.width ≤ 32)
    (h8 : f.width = 8) (p : Byte) :
    let t := s.twStart.setF f p.toNat
    t.fld f = p.toNat ∧ RegFrame busRegs s t ∧ t = { s with regs := t.regs, tw := s.twStart.tw } := by
  refine ⟨?_, (s.twStart_regFrame.mono (by decide)).setF _ _ (.inl (by rw [hf]; decide)), ?_⟩
  · rw [State.fld_setF_same _ _ _ hw, h8]
    exact Nat.mod_eq_of_lt p.isLt
  · exact s.twStart_twOnly.trans (RegsOnly.setF s.twStart f p.toNat).twOnly

/-- The transaction ends: the target keeps `tw`, and BUSY falls. -/
def State.twEnd (tw : TwPart) (s : State) : State := ({ s with tw := tw }).setF TW_STATUS.BUSY 0

theorem State.twIdle_eq_twEnd (s : State) :
    s.twIdle = s.twEnd { s.tw with addr2 := s.reg Reg.TW_ADDR2, pec := false } := rfl

theorem State.twEnd_not_busy (s : State) (tw : TwPart) : (s.twEnd tw).on TW_STATUS.BUSY = false :=
  (State.on_eq_false_iff _ _).mpr (State.fld_setF_same _ _ _ (by decide))

theorem State.twEnd_regFrame (s : State) (tw : TwPart) : RegFrame [Reg.TW_STATUS] s (s.twEnd tw) :=
  ((RegFrame.refl _ s).regs (u := { s with tw := tw }) rfl).setF _ _ (.inl (by decide))

theorem RegFrame.twEnd {as : List Nat} {s t : State} (h : RegFrame as s t) (tw : TwPart) (ha : Reg.TW_STATUS ∈ as) :
    RegFrame as s (t.twEnd tw) :=
  h.trans ((t.twEnd_regFrame tw).mono fun _ hb => List.mem_singleton.mp hb ▸ ha)

theorem State.twEnd_twOnly (s : State) (tw : TwPart) : TwOnly s (s.twEnd tw) := rfl

/-! ### Faults on the two-wire bus (R295, R297, R302, R303) -/

/-- The registers that a fault on the bus may change: BUSY, its count and its event. -/
def twFaultRegs : List Nat := [Reg.TW_COUNTS, Reg.TW_EVENTS, Reg.TW_STATUS]

/-- A fault on the bus: counted in its field of TW_COUNTS, with its bit of TW_EVENTS. -/
def State.twFault (f : Fld) (k : Nat) (s : State) : State := (s.incSat f).raise Reg.TW_EVENTS k

theorem State.partialWord_eq_twFault (s : State) : s.partialWord = s.twFault TW_COUNTS.PARTIAL 1 := rfl

/-- A fault has been counted and reported since `s`, and no register outside `twFaultRegs` has changed. -/
structure TwFaulted (f : Fld) (k : Nat) (s t : State) : Prop where
  count : t.fld f = min (s.fld f + 1) (2 ^ f.width - 1)
  raised : Raised Reg.TW_EVENTS k s t
  frame : RegFrame twFaultRegs s t

theorem sourceOf_TW_EVENTS_lt {k : Nat} (hk : k < 3) : sourceOf Reg.TW_EVENTS k < 128 := by
  have e : sourceOf Reg.TW_EVENTS k = 109 + k := rfl
  omega

theorem State.twFault_regsOnly (s : State) (f : Fld) (k : Nat) : RegsOnly s (s.twFault f k) :=
  (RegsOnly.incSat s f).trans (.raise _ _ _)

/-- A fault after a change of TW_STATUS alone, as a START makes it, is a fault since before that change. -/
theorem RegFrame.twFault {s u : State} (h : RegFrame [Reg.TW_STATUS] s u) (hold : u.entry.hold = s.entry.hold)
    {f : Fld} (hf : f.reg = Reg.TW_COUNTS) (hw : f.lo + f.width ≤ 32) {k : Nat} (hk : k < 3) :
    TwFaulted f k s (u.twFault f k) := by
  have hsrc := sourceOf_TW_EVENTS_lt hk
  have hcount : RegFrame [Reg.TW_STATUS, Reg.TW_COUNTS] s (u.incSat f) :=
    (h.mono (by decide)).incSat f (.inl (by rw [hf]; decide))
  refine ⟨?_, hcount.raise_raised hold (by decide) _ _ (by omega) hsrc (by decide),
    (hcount.mono (by decide)).raise _ _ (by decide) hsrc⟩
  rw [State.twFault, State.fld_raise _ _ _ _ hsrc (by rw [hf]; decide) (by rw [hf]; decide),
    State.fld_incSat _ _ hw, h.fld f (by rw [hf]; decide) (by rw [hf]; decide)]

/-- The end of the transaction leaves what a fault has counted and reported. -/
theorem TwFaulted.twEnd {f : Fld} {k : Nat} {s t : State} (h : TwFaulted f k s t) (hf : f.reg = Reg.TW_COUNTS)
    (hk : k < 3) (tw : TwPart) : TwFaulted f k s (t.twEnd tw) := by
  obtain ⟨hcount, hraised, hframe⟩ := h
  have kept : (t.twEnd tw).fld f = t.fld f :=
    (t.twEnd_regFrame tw).fld f (by rw [hf]; decide) (by rw [hf]; decide)
  exact ⟨kept.trans hcount, Raised.setF (t := { t with tw := tw }) hraised _ _ (sourceOf_TW_EVENTS_lt hk) (by decide),
    hframe.twEnd tw (by decide)⟩

/-- A further change that leaves the registers alone. -/
theorem TwFaulted.regs {f : Fld} {k : Nat} {s t u : State} (h : TwFaulted f k s t) (e : u.regs = t.regs) :
    TwFaulted f k s u := by
  obtain ⟨hcount, ⟨hon, hpend⟩, hframe⟩ := h
  have kept (g : Fld) : u.on g = t.on g := by simp only [State.on, State.fld_of_regs e]
  exact ⟨(State.fld_of_regs e f).trans hcount, ⟨(kept _).trans hon, fun hn g hg => (kept _).trans (hpend hn g hg)⟩,
    hframe.regs e⟩

/-- An incomplete word of the transaction is discarded (R295). -/
theorem State.twStart_partialWord_faulted (s : State) : TwFaulted TW_COUNTS.PARTIAL 1 s s.twStart.partialWord := by
  rw [State.partialWord_eq_twFault]
  exact s.twStart_regFrame.twFault s.twStart_hold rfl (by decide) (by decide)

/-! ### The pointer and the page (R294, R297) -/

theorem exec_twPointerSet_noon {s : State} (haon : s.aon = true) (hnoon : s.noon = true) (p : Byte) :
    exec (.twPointerSet p) s =
      .next (if s.twStart.tw.pec then s.twStart else s.twStart.setF TW_PAGE.POINTER p.toNat) :=
  (exec_twPointerSet p s).trans (act_when_noon haon hnoon)

theorem exec_twPageSelect_noon {s : State} (haon : s.aon = true) (hnoon : s.noon = true) (p : Byte) :
    exec (.twPageSelect p) s = .next (if s.twStart.tw.pec then s.twStart else s.twStart.selectPage p.toNat) :=
  (exec_twPageSelect p s).trans (act_when_noon haon hnoon)

theorem State.fld_TW_PAGE_twStart (s : State) {f : Fld} (hf : f.reg = Reg.TW_PAGE) : s.twStart.fld f = s.fld f :=
  s.twStart_regFrame.fld f (by rw [hf]; decide) (by rw [hf]; decide)

theorem twPointerSet_without_pec {s : State} (haon : s.aon = true) (hnoon : s.noon = true)
    (hpec : s.twStart.tw.pec = false) (p : Byte) :
    Does (.twPointerSet p) s fun t =>
      t.fld TW_PAGE.POINTER = p.toNat ∧ t.fld TW_PAGE.PAGE = s.fld TW_PAGE.PAGE ∧ RegFrame busRegs s t ∧
      t = { s with regs := t.regs, tw := s.twStart.tw } := by
  refine ⟨s.twStart.setF TW_PAGE.POINTER p.toNat, by rw [exec_twPointerSet_noon haon hnoon, hpec]; rfl, ?_⟩
  obtain ⟨hset, hframe, honly⟩ := s.twStart_setF_result TW_PAGE.POINTER rfl (by decide) rfl p
  refine ⟨hset, ?_, hframe, honly⟩
  rw [State.fld_setF_other _ _ _ _ (by decide), s.fld_TW_PAGE_twStart rfl]

theorem twPageSelect_without_pec {s : State} (haon : s.aon = true) (hnoon : s.noon = true)
    (hpec : s.twStart.tw.pec = false) {p : Byte} (hp : p.toNat ≤ 0x11) :
    Does (.twPageSelect p) s fun t =>
      t.fld TW_PAGE.PAGE = p.toNat ∧ t.fld TW_PAGE.POINTER = s.fld TW_PAGE.POINTER ∧ RegFrame busRegs s t ∧
      t = { s with regs := t.regs, tw := s.twStart.tw } := by
  have hsel : s.twStart.selectPage p.toNat = s.twStart.setF TW_PAGE.PAGE p.toNat := if_neg (by omega)
  refine ⟨s.twStart.setF TW_PAGE.PAGE p.toNat, by rw [exec_twPageSelect_noon haon hnoon, hpec, hsel]; rfl, ?_⟩
  obtain ⟨hset, hframe, honly⟩ := s.twStart_setF_result TW_PAGE.PAGE rfl (by decide) rfl p
  refine ⟨hset, ?_, hframe, honly⟩
  rw [State.fld_setF_other _ _ _ _ (by decide), s.fld_TW_PAGE_twStart rfl]

theorem twPageSelect_refused {s : State} (haon : s.aon = true) (hnoon : s.noon = true)
    (hpec : s.twStart.tw.pec = false) {p : Byte} (hp : 0x11 < p.toNat) :
    Does (.twPageSelect p) s fun t =>
      t.fld TW_PAGE.PAGE = s.fld TW_PAGE.PAGE ∧ Raised Reg.TW_EVENTS 1 s t ∧
      RegFrame (Reg.TW_EVENTS :: busRegs) s t := by
  have hsel : s.twStart.selectPage p.toNat = s.twStart.raise Reg.TW_EVENTS 1 := if_pos hp
  refine ⟨s.twStart.raise Reg.TW_EVENTS 1, by rw [exec_twPageSelect_noon haon hnoon, hpec, hsel]; rfl, ?_⟩
  refine ⟨?_, s.twStart_regFrame.raise_raised s.twStart_hold (by decide) _ _ (by decide) (by decide) (by decide),
    (s.twStart_regFrame.mono (by decide)).raise _ _ (by decide) (by decide)⟩
  rw [State.fld_raise _ _ _ _ (by decide) (by decide) (by decide), s.fld_TW_PAGE_twStart rfl]

/-! ### Repeated START and STOP without PEC (R293, R295) -/

theorem exec_repeatedStart_noon {s : State} (haon : s.aon = true) (hnoon : s.noon = true)
    (hpec : s.twStart.tw.pec = false) (rest : List Byte) :
    exec (.repeatedStart rest) s = .next (if rest.isEmpty then s.twStart else s.twStart.partialWord) := by
  rw [exec_repeatedStart, execRepeatedStart, act_when_noon haon hnoon]
  simp only [hpec, Bool.false_eq_true, if_false]

theorem exec_twStop_noon {s : State} (haon : s.aon = true) (hnoon : s.noon = true) (before rest : List Byte) :
    exec (.twStop before rest) s =
      .next (if s.twStart.tw.pec then s.twStart.stopPec before rest
        else if rest.isEmpty then s.twStart else s.twStart.partialWord).twIdle :=
  (exec_twStop before rest s).trans (act_when_noon haon hnoon)

theorem repeatedStart_without_pec {s : State} (haon : s.aon = true) (hnoon : s.noon = true)
    (hpec : s.twStart.tw.pec = false) {rest : List Byte} (hrest : rest ≠ []) :
    Does (.repeatedStart rest) s fun t =>
      t.fld TW_COUNTS.PARTIAL = min (s.fld TW_COUNTS.PARTIAL + 1) (2 ^ TW_COUNTS.PARTIAL.width - 1) ∧
      Raised Reg.TW_EVENTS 1 s t ∧ t.reg Reg.TW_PAGE = s.reg Reg.TW_PAGE ∧
      RegFrame [Reg.TW_COUNTS, Reg.TW_EVENTS, Reg.TW_STATUS] s t := by
  obtain ⟨hcount, hraised, hframe⟩ := s.twStart_partialWord_faulted
  refine ⟨s.twStart.partialWord, ?_, hcount, hraised, hframe _ (by decide) (by decide), hframe⟩
  rw [exec_repeatedStart_noon haon hnoon hpec, if_neg (by simpa using hrest)]

/-- The end of a transaction, from a state in which it has changed no register but those of a fault. -/
theorem RegFrame.twIdle_result {s u : State} (h : RegFrame twFaultRegs s u) :
    u.twIdle.tw.addr2 = s.reg Reg.TW_ADDR2 ∧ u.twIdle.on TW_STATUS.BUSY = false ∧ u.twIdle.tw.pec = false ∧
      u.twIdle.reg Reg.TW_PAGE = s.reg Reg.TW_PAGE := by
  rw [u.twIdle_eq_twEnd]
  exact ⟨h _ (by decide) (by decide), u.twEnd_not_busy _, rfl, h.twEnd _ (by decide) _ (by decide) (by decide)⟩

theorem twStop_without_pec {s : State} (haon : s.aon = true) (hnoon : s.noon = true)
    (hpec : s.twStart.tw.pec = false) (before rest : List Byte) :
    Does (.twStop before rest) s fun t =>
      t.tw.addr2 = s.reg Reg.TW_ADDR2 ∧ t.on TW_STATUS.BUSY = false ∧ t.tw.pec = false ∧
      t.reg Reg.TW_PAGE = s.reg Reg.TW_PAGE ∧
      (rest = [] → RegFrame [Reg.TW_STATUS] s t) ∧
      (rest ≠ [] → Raised Reg.TW_EVENTS 1 s t ∧
        t.fld TW_COUNTS.PARTIAL = min (s.fld TW_COUNTS.PARTIAL + 1) (2 ^ TW_COUNTS.PARTIAL.width - 1) ∧
        RegFrame [Reg.TW_COUNTS, Reg.TW_EVENTS, Reg.TW_STATUS] s t) := by
  refine ⟨_, exec_twStop_noon haon hnoon before rest, ?_⟩
  rw [hpec, if_neg Bool.false_ne_true]
  cases rest with
  | nil =>
    obtain ⟨haddr, hbusy, hp, hpage⟩ := (s.twStart_regFrame.mono (by decide)).twIdle_result
    rw [List.isEmpty_nil, if_pos rfl]
    exact ⟨haddr, hbusy, hp, hpage, fun _ => s.twStart_regFrame.twEnd _ (by decide), fun h => absurd rfl h⟩
  | cons b bs =>
    obtain ⟨haddr, hbusy, hp, hpage⟩ := s.twStart_partialWord_faulted.frame.twIdle_result
    obtain ⟨hcount, hraised, hframe⟩ := s.twStart_partialWord_faulted.twEnd rfl (by decide) _
    exact ⟨haddr, hbusy, hp, hpage, fun h => absurd h (List.cons_ne_nil b bs), fun _ => ⟨hraised, hcount, hframe⟩⟩

/-! ### STOP under PEC (R297) -/

theorem byteAt_last (bs : List Byte) (h : bs ≠ []) : byteAt bs (bs.length - 1) = (bs.getLast h).toNat := by
  rw [byteAt, List.drop_length_sub_one h]
  rfl

/-- A write whose last byte is not the PEC applies nothing: it is a fault. -/
theorem State.stopPec_of_crc_ne (s : State) {before rest : List Byte} (hlen : 2 ≤ rest.length)
    (heven : byteAt rest 0 % 2 = 0) (hcrc : crc8 (before ++ rest.dropLast) ≠ byteAt rest (rest.length - 1)) :
    s.stopPec before rest = s.twFault TW_COUNTS.PEC_ERRORS 1 := by
  obtain ⟨a, bs, rfl⟩ : ∃ a bs, rest = a :: bs := List.exists_cons_of_length_pos (by omega)
  have hodd : ¬ ((a :: bs).length < 2 ∨ a.toNat % 2 = 1) := by
    have e : byteAt (a :: bs) 0 = a.toNat := rfl
    omega
  rw [byteAt_last _ (List.cons_ne_nil a bs)] at hcrc
  rw [State.stopPec, List.head?_cons, List.getLast?_eq_getLast_of_ne_nil (List.cons_ne_nil a bs)]
  exact (if_neg hodd).trans (if_neg hcrc)

/-- A write of the pointer byte alone, with the right PEC, sets the pointer. -/
theorem State.stopPec_pointer (s : State) {before : List Byte} {a p pec : Byte} (ha : a.toNat % 4 = 0)
    (hcrc : crc8 (before ++ [a, p]) = pec.toNat) :
    s.stopPec before [a, p, pec] = s.setF TW_PAGE.POINTER p.toNat := by
  have hodd : ¬ (3 < 2 ∨ a.toNat % 2 = 1) := by omega
  have hread : ¬ a.toNat % 2 = 1 := by omega
  have hpage : ¬ a.toNat / 2 % 2 = 1 := by omega
  calc s.stopPec before [a, p, pec] = s.applySegment [a, p] := (if_neg hodd).trans (if_pos hcrc)
    _ = (s.setF TW_PAGE.POINTER p.toNat).dataBytes [] true [] := (if_neg hread).trans (if_neg hpage)
    _ = s.setF TW_PAGE.POINTER p.toNat := rfl

theorem twStop_with_bad_pec {s : State} (haon : s.aon = true) (hnoon : s.noon = true)
    (hpec : s.twStart.tw.pec = true) {before rest : List Byte} (hlen : 2 ≤ rest.length)
    (heven : byteAt rest 0 % 2 = 0) (hcrc : crc8 (before ++ rest.dropLast) ≠ byteAt rest (rest.length - 1)) :
    Does (.twStop before rest) s fun t =>
      t.fld TW_COUNTS.PEC_ERRORS = min (s.fld TW_COUNTS.PEC_ERRORS + 1) (2 ^ TW_COUNTS.PEC_ERRORS.width - 1) ∧
      Raised Reg.TW_EVENTS 1 s t ∧ t.on TW_STATUS.BUSY = false ∧
      RegFrame [Reg.TW_COUNTS, Reg.TW_EVENTS, Reg.TW_STATUS] s t ∧ t = { s with regs := t.regs, tw := t.tw } := by
  refine ⟨_, exec_twStop_noon haon hnoon before rest, ?_⟩
  rw [if_pos hpec, State.stopPec_of_crc_ne _ hlen heven hcrc, State.twIdle_eq_twEnd]
  have hfault : TwFaulted TW_COUNTS.PEC_ERRORS 1 s (s.twStart.twFault TW_COUNTS.PEC_ERRORS 1) :=
    s.twStart_regFrame.twFault s.twStart_hold rfl (by decide) (by decide)
  obtain ⟨hcount, hraised, hframe⟩ := hfault.twEnd rfl (by decide) _
  exact ⟨hcount, hraised, State.twEnd_not_busy _ _, hframe,
    (s.twStart_twOnly.trans (State.twFault_regsOnly _ _ _).twOnly).trans (State.twEnd_twOnly _ _)⟩

theorem twStop_with_pec_sets_pointer {s : State} (haon : s.aon = true) (hnoon : s.noon = true)
    (hpec : s.twStart.tw.pec = true) {a p pec : Byte} {before : List Byte} (ha : a.toNat % 4 = 0)
    (hcrc : crc8 (before ++ [a, p]) = pec.toNat) :
    Does (.twStop before [a, p, pec]) s fun t => t.fld TW_PAGE.POINTER = p.toNat ∧ RegFrame busRegs s t := by
  refine ⟨_, exec_twStop_noon haon hnoon before _, ?_⟩
  rw [if_pos hpec, State.stopPec_pointer _ ha hcrc, State.twIdle_eq_twEnd]
  obtain ⟨hset, hframe, -⟩ := s.twStart_setF_result TW_PAGE.POINTER rfl (by decide) rfl p
  exact ⟨((State.twEnd_regFrame _ _).fld TW_PAGE.POINTER (by decide) (by decide)).trans hset,
    hframe.twEnd _ (by decide)⟩

/-! ### Timeouts and stuck lines (R302, R303) -/

theorem State.when_xingReset (s : State) (b : Bool) (k : Nat) :
    (s.when b (State.xingReset k)).regs = s.regs ∧ (s.when b (State.xingReset k)).tw = s.tw := by
  cases b <;> exact ⟨rfl, rfl⟩

/-- XING_7 and XING_8 as a bus timeout cuts them (R414). -/
def State.cutCrossings (cut : BitVec 2) (s : State) : State :=
  s.each (fun k s => s.when (cut.toNat.testBit k) (State.xingReset (7 + k))) [0, 1]

theorem State.cutCrossings_regs (s : State) (cut : BitVec 2) :
    (s.cutCrossings cut).regs = s.regs ∧ (s.cutCrossings cut).tw = s.tw := by
  obtain ⟨hregs, htw⟩ := s.when_xingReset (cut.toNat.testBit 0) 7
  obtain ⟨hregs', htw'⟩ := (s.when (cut.toNat.testBit 0) (State.xingReset 7)).when_xingReset (cut.toNat.testBit 1) 8
  exact ⟨hregs'.trans hregs, htw'.trans htw⟩

theorem twBusTimeout_result {s : State} (haon : s.aon = true) (hnoon : s.noon = true) (cut : BitVec 2) :
    Does (.twBusTimeout false cut) s fun t =>
      t.fld TW_COUNTS.TIMEOUTS = min (s.fld TW_COUNTS.TIMEOUTS + 1) (2 ^ TW_COUNTS.TIMEOUTS.width - 1) ∧
      Raised Reg.TW_EVENTS 0 s t ∧ t.on TW_STATUS.BUSY = false ∧ t.tw.pec = false ∧ t.tw.addr2 = s.tw.addr2 ∧
      RegFrame [Reg.TW_COUNTS, Reg.TW_EVENTS, Reg.TW_STATUS] s t := by
  let u := (s.twFault TW_COUNTS.TIMEOUTS 0).cutCrossings cut
  refine ⟨u.twEnd { u.tw with pec := false }, (exec_twBusTimeout false cut s).trans (act_when_noon haon hnoon), ?_⟩
  obtain ⟨hregs, htw⟩ := (s.twFault TW_COUNTS.TIMEOUTS 0).cutCrossings_regs cut
  have hfault : TwFaulted TW_COUNTS.TIMEOUTS 0 s (s.twFault TW_COUNTS.TIMEOUTS 0) :=
    (RegFrame.refl _ s).twFault rfl rfl (by decide) (by decide)
  obtain ⟨hcount, hraised, hframe⟩ := (hfault.regs hregs).twEnd rfl (by decide) { u.tw with pec := false }
  refine ⟨hcount, hraised, State.twEnd_not_busy _ _, rfl, ?_, hframe⟩
  calc u.tw.addr2 = (s.twFault TW_COUNTS.TIMEOUTS 0).tw.addr2 := by rw [htw]
    _ = s.tw.addr2 := by rw [State.twFault_regsOnly s TW_COUNTS.TIMEOUTS 0]

theorem stuckFlag_reg (sda : Bool) : (stuckFlag sda).reg = Reg.TW_STATUS := by cases sda <;> rfl

theorem State.setF_stuckFlag_on (s : State) (sda : Bool) : (s.setF (stuckFlag sda) 1).on (stuckFlag sda) = true := by
  rw [State.on_eq_true_iff, State.fld_setF_same _ _ _ (by cases sda <;> decide)]
  cases sda <;> decide

theorem twStuckLine_result {s : State} (haon : s.aon = true) (hnoon : s.noon = true) (sda : Bool) :
    Does (.twStuckLine sda) s fun t =>
      t.on (stuckFlag sda) = true ∧ Raised Reg.TW_EVENTS 2 s t ∧
      t.fld TW_COUNTS.STUCK = min (s.fld TW_COUNTS.STUCK + 1) (2 ^ TW_COUNTS.STUCK.width - 1) ∧
      RegFrame [Reg.TW_COUNTS, Reg.TW_EVENTS, Reg.TW_STATUS] s t ∧ RegsOnly s t := by
  refine ⟨(s.setF (stuckFlag sda) 1).twFault TW_COUNTS.STUCK 2,
    (exec_twStuckLine sda s).trans (act_when_noon haon hnoon), ?_⟩
  have hflag : RegFrame [Reg.TW_STATUS] s (s.setF (stuckFlag sda) 1) :=
    (RegFrame.refl _ s).setF _ _ (.inl (by rw [stuckFlag_reg]; decide))
  obtain ⟨hcount, hraised, hframe⟩ := hflag.twFault (f := TW_COUNTS.STUCK) (k := 2) rfl rfl (by decide) (by decide)
  refine ⟨?_, hraised, hcount, hframe, (RegsOnly.setF s _ _).trans (State.twFault_regsOnly _ _ _)⟩
  have kept : RegFrame [Reg.TW_COUNTS, Reg.TW_EVENTS] (s.setF (stuckFlag sda) 1)
      ((s.setF (stuckFlag sda) 1).twFault TW_COUNTS.STUCK 2) :=
    ((RegFrame.refl _ _).incSat _ (.inl (by decide))).raise _ _ (by decide) (by decide)
  rw [kept.on _ (by rw [stuckFlag_reg]; decide) (by rw [stuckFlag_reg]; decide), State.setF_stuckFlag_on]

theorem twStuckLineClear_result {s : State} (haon : s.aon = true) (sda : Bool) :
    Does (.twStuckLineClear sda) s fun t =>
      t.reg Reg.TW_STATUS = putF (stuckFlag sda) 0 (s.reg Reg.TW_STATUS) ∧ RegFrame [Reg.TW_STATUS] s t ∧
      t = { s with regs := t.regs } := by
  refine ⟨s.setF (stuckFlag sda) 0, (exec_twStuckLineClear sda s).trans (act_next haon), ?_,
    (RegFrame.refl _ s).setF _ _ (.inl (by rw [stuckFlag_reg]; decide)), rfl⟩
  have h := State.reg_setF_same s (stuckFlag sda) 0
  rwa [stuckFlag_reg] at h

/-! ### The alert response (R298) -/

theorem exec_alertResponse_of_alertOff {s : State} (haon : s.aon = true) (halert : s.alertOn = false) (won : Bool) :
    exec (.alertResponse won) s = .next s :=
  (exec_alertResponse won s).trans ((act_next haon).trans (by rw [halert]; simp))

/-- A won response has released ALERT_N. -/
def State.alertReleased (s : State) : State := { s with tw := { s.tw with quiet := true } }

theorem State.alertOn_of_quiet {s : State} (h : s.tw.quiet = true) : s.alertOn = false := by simp [State.alertOn, h]

/-- The byte of a won response is the word of A shifted left by one bit. -/
theorem State.alertByte_setWidth (s : State) :
    (BitVec.ofNat 8 (2 * s.ownAddress)).setWidth 32 = w32 (2 * s.ownAddress) := by
  unfold State.ownAddress
  split <;> rfl

theorem exec_alertResponse_won {s : State} (haon : s.aon = true) (hnoon : s.noon = true) (halert : s.alertOn = true) :
    exec (.alertResponse true) s =
      .next ((s.twStart.alertReleased.incSat TW_ALERT.RESPONSES).outByte (BitVec.ofNat 8 (2 * s.ownAddress))) := by
  rw [exec_alertResponse, execAlertResponse, act_next haon, if_neg (by simp [hnoon, halert]), ← s.twStart_ownAddress]
  rfl

theorem exec_alertResponse_lost {s : State} (haon : s.aon = true) (hnoon : s.noon = true) (halert : s.alertOn = true) :
    exec (.alertResponse false) s = .next s.twStart := by
  rw [exec_alertResponse, execAlertResponse, act_next haon, if_neg (by simp [hnoon, halert])]
  rfl

theorem alertResponse_won {s : State} (haon : s.aon = true) (hnoon : s.noon = true) (halert : s.alertOn = true) :
    Does (.alertResponse true) s fun t =>
      t.busOut = w32 (2 * s.ownAddress) ∧ t.tw.quiet = true ∧ t.alertOn = false ∧
      t.fld TW_ALERT.RESPONSES = min (s.fld TW_ALERT.RESPONSES + 1) (2 ^ TW_ALERT.RESPONSES.width - 1) ∧
      RegFrame [Reg.TW_ALERT, Reg.TW_STATUS] s t := by
  have hstart : RegFrame [Reg.TW_STATUS] s s.twStart.alertReleased := s.twStart_regFrame.regs rfl
  refine ⟨_, exec_alertResponse_won haon hnoon halert, s.alertByte_setWidth, rfl, State.alertOn_of_quiet rfl, ?_,
    ((hstart.mono (by decide)).incSat TW_ALERT.RESPONSES (.inl (by decide))).regs rfl⟩
  rw [← hstart.fld TW_ALERT.RESPONSES (by decide) (by decide)]
  exact State.fld_incSat _ TW_ALERT.RESPONSES (by decide)

theorem alertRepeat_result {s : State} (haon : s.aon = true) (hnoon : s.noon = true)
    (hms : s.fld TW_ALERT.REPEAT_MS ≠ 0) (hpend : s.hostPending = true) :
    Does .alertRepeat s fun t => t = { s with tw := { s.tw with quiet := false } } :=
  ⟨_, (exec_alertRepeat s).trans ((act_next haon).trans (by rw [if_pos ⟨hnoon, hms, hpend⟩])), rfl⟩

/-- Settles O44, row by row: a transaction changes BUSY, its pointer or page, and by a fault one count and one event. -/
theorem twoWireTarget : Obligations.TwoWireTarget := by
  intro s haon hnoon
  refine ⟨fun hpec => ⟨twPointerSet_without_pec haon hnoon hpec, fun _ => twPageSelect_without_pec haon hnoon hpec,
      fun _ => twPageSelect_refused haon hnoon hpec, fun _ => repeatedStart_without_pec haon hnoon hpec,
      ⟨_, exec_repeatedStart_noon haon hnoon hpec [], rfl⟩, twStop_without_pec haon hnoon hpec⟩,
    fun hpec => ⟨fun p => ⟨_, exec_twPointerSet_noon haon hnoon p, if_pos hpec⟩,
      fun p => ⟨_, exec_twPageSelect_noon haon hnoon p, if_pos hpec⟩,
      fun _ _ => twStop_with_bad_pec haon hnoon hpec, fun _ _ _ _ => twStop_with_pec_sets_pointer haon hnoon hpec⟩,
    fun cut => ?_, twStuckLine_result haon hnoon, twStuckLineClear_result haon, alertResponse_won haon hnoon,
    fun halert => ⟨_, exec_alertResponse_lost haon hnoon halert, rfl⟩,
    fun halert won => ⟨_, exec_alertResponse_of_alertOff haon halert won, rfl⟩, alertRepeat_result haon hnoon⟩
  obtain ⟨t, hexec, hcount, hraised, hbusy, hp, haddr, hframe⟩ := twBusTimeout_result haon hnoon cut
  exact ⟨t, hexec, hcount, hraised, hbusy, hp, haddr, fun _ => hframe⟩

end Sys2Proof.Machine
namespace Sys2Proof.Machine

/-! ### What a commit leaves alone (R230 to R238) -/

theorem StoresOnly.refl (s : State) : StoresOnly s s := rfl

theorem StoresOnly.trans {s t u : State} (h : StoresOnly s t) (k : StoresOnly t u) : StoresOnly s u := by
  unfold StoresOnly at *
  rw [k, h]

theorem RegsOnly.storesOnly {s t : State} (h : RegsOnly s t) : StoresOnly s t := by
  unfold RegsOnly StoresOnly at *
  rw [h]

theorem StoresOnly.queue (s : State) (q : QueuePart) : StoresOnly s { s with queue := q } := rfl
theorem StoresOnly.ring (s : State) (g : RingPart) : StoresOnly s { s with ring := g } := rfl

theorem StoresOnly.each {α : Type} {f : α → State → State} (hf : ∀ x s, StoresOnly s (f x s)) :
    ∀ (xs : List α) (s : State), StoresOnly s (s.each f xs)
  | [], s => .refl s
  | x :: xs, s => (hf x s).trans (StoresOnly.each hf xs _)

theorem State.watermark_storesOnly (s : State) : StoresOnly s s.watermark := by
  unfold State.watermark
  extract_lets level
  split
  · exact (RegsOnly.raise s _ _).storesOnly
  · exact .refl s

theorem State.trimCapture_storesOnly (s : State) : StoresOnly s s.trimCapture := by
  unfold State.trimCapture
  split <;> rfl

theorem State.ringStore_storesOnly (s : State) (r : Rec) (seq : Nat) : StoresOnly s (s.ringStore r seq) := by
  unfold State.ringStore
  extract_lets st ws fits kept gone g
  split
  · split
    · exact ((RegsOnly.setF s _ _).trans (.raise _ _ _)).storesOnly
    · exact (StoresOnly.ring s g).trans (State.trimCapture_storesOnly _)
  · exact .refl s

theorem State.commitRec_storesOnly (s : State) (r : Rec) : StoresOnly s (s.commitRec r) :=
  (StoresOnly.queue s _).trans (State.ringStore_storesOnly _ r _)

theorem State.commitDropped_storesOnly (s : State) (r : Rec) : StoresOnly s (s.commitDropped r) :=
  (StoresOnly.queue s _).trans (State.ringStore_storesOnly _ r _)

theorem State.dropRecs_storesOnly (s : State) (cause : Nat) (rs : List Rec) : StoresOnly s (s.dropRecs cause rs) := by
  unfold State.dropRecs
  dsimp only
  exact (StoresOnly.queue s _).trans ((RegsOnly.addSat _ _ _).trans (.raise _ _ _)).storesOnly

theorem State.ringConfigPoint_storesOnly (s : State) : StoresOnly s s.ringConfigPoint := by
  unfold State.ringConfigPoint
  split <;> rfl

/-- Records committed together change the two stores, registers and nothing else. -/
theorem State.commitAll_storesOnly (s : State) (rs : List Rec) : StoresOnly s (s.commitAll rs) := by
  have point := s.ringConfigPoint_storesOnly
  have stored (u : State) : StoresOnly u (u.each State.commitRec rs).watermark :=
    (StoresOnly.each (fun r u => u.commitRec_storesOnly r) rs u).trans (State.watermark_storesOnly _)
  have dropped (u : State) : StoresOnly u ((u.each State.commitDropped rs).dropRecs 2 rs) :=
    (StoresOnly.each (fun r u => u.commitDropped_storesOnly r) rs u).trans (State.dropRecs_storesOnly _ _ _)
  unfold State.commitAll
  split
  · exact .refl s
  split
  · exact point
  extract_lets u need free
  split
  · split
    · exact point.trans (stored u)
    · exact point.trans (dropped u)
  · split
    · exact point.trans (((StoresOnly.queue u _).trans (State.commitRec_storesOnly _ _)).trans (stored _))
    · exact point.trans (dropped u)

theorem State.commitOne_storesOnly (s : State) (r : Rec) : StoresOnly s (s.commitOne r) := s.commitAll_storesOnly _

/-! ### Paths to SAFE off (R213, R221) -/

theorem RegFrame.recordTrip {as : List Nat} {s t : State} (h : RegFrame as s t) (hs : ∀ a ∈ safeRegs, a ∈ as)
    (cause reason origin tick : Nat) : RegFrame as s (t.recordTrip cause reason origin tick) :=
  ((h.setReg _ _ (.inl (hs _ (by decide)))).setReg _ _ (.inl (hs _ (by decide)))).setReg _ _ (.inl (hs _ (by decide)))

/-- A path changes no register but those of the safety function and of the records, whether it acts or comes late. -/
theorem RegFrame.safePath {as : List Nat} {s t : State} (h : RegFrame as s t) (hs : ∀ a ∈ safeRegs, a ∈ as)
    (cause reason origin tick : Nat) (tied : Bool) : RegFrame as s (t.safePath cause reason origin tick tied) := by
  have late : RegFrame as s (t.when t.noon (State.incSat SAFE_COUNTS.LATE_REQ)) := by
    unfold State.when
    split
    · exact h.incSat _ (.inl (hs _ (by decide)))
    · exact h
  unfold State.safePath
  extract_lets st u old new v
  split
  · exact h.safeEnter hs _ _ _ _ _ _
  split
  · exact h.safeEnter hs _ _ _ _ _ _
  split
  · exact h.safeEnter hs _ _ _ _ _ _
  split
  · exact (late.recordTrip hs _ _ _ _).regs rfl
  · exact late

theorem State.armed_iff (s : State) : s.armed = true ↔ s.safeState = ARMING ∨ s.safeState = ARMED := by
  simp [State.armed]

theorem State.safePath_of_armed {s : State} (h : s.armed = true) (cause reason origin tick : Nat) (tied : Bool) :
    s.safePath cause reason origin tick tied =
      s.safeEnter (nextOf cause s.safeState) cause reason origin tick tied :=
  if_pos (s.armed_iff.mp h)

theorem bits_w32_of_lt {n width : Nat} (hw : width ≤ 32) (m : Nat) (hn : n < 2 ^ width) :
    bits (w32 (n + 2 ^ width * m)) 0 width = n := by
  have hdvd : 2 ^ width ∣ 2 ^ 32 := Nat.pow_dvd_pow 2 hw
  rw [bits, w32, BitVec.toNat_ofNat, Nat.shiftRight_zero, Nat.mod_mod_of_dvd _ hdvd, Nat.add_mul_mod_self_left,
    Nat.mod_eq_of_lt hn]

/-- A path that acts, for a cause of Table 9.3 whose next state is `next`. -/
theorem State.safePath_acts {s : State} (h : s.armed = true) {cause next : Nat} (hc : cause < 2 ^ 8) (hn : next < 8)
    (hnext : nextOf cause s.safeState = next) (tick : Nat) (tied : Bool) :
    let t := s.safePath cause 0 0xFF tick tied
    t.SafeOff ∧ t.safeState = next ∧ t.fld SAFE_TRIP.CAUSE = cause := by
  obtain ⟨hoff, hstate, -, htrip, -⟩ := s.safeEnter_result next cause 0 0xFF tick tied hn
  rw [State.safePath_of_armed h, hnext]
  refine ⟨hoff, hstate, ?_⟩
  have e : cause + 2 ^ 8 * 0 + 2 ^ 16 * 0xFF = cause + 2 ^ 8 * (2 ^ 8 * 0xFF) := by omega
  rw [e] at htrip
  exact (congrArg (bits · 0 8) htrip).trans (bits_w32_of_lt (by decide) _ hc)

/-! ### Switching VAUX and its limits (R365, R373) -/

theorem RegFrame.syncLimit {as : List Nat} {s t : State} (h : RegFrame as s t) (ha : Reg.CONV_STATUS ∈ as) :
    RegFrame as s t.syncLimit := (h.setF _ _ (.inl ha)).setF _ _ (.inl ha)

theorem RegFrame.limitOff {as : List Nat} {s t : State} (h : RegFrame as s t) (ha : Reg.CONV_STATUS ∈ as) (k : Nat) :
    RegFrame as s (t.limitOff k) := RegFrame.syncLimit (h.regs rfl) ha

theorem State.limitOff_limits (s : State) (k : Nat) : (s.limitOff k).entry.limits = s.entry.limits &&& (7 - 2 ^ k) := rfl

theorem RegFrame.vauxOff {as : List Nat} {s t : State} (h : RegFrame as s t) (hc : Reg.CONV_STATUS ∈ as)
    (hp : Reg.PHASE_STATUS ∈ as) (why : Nat) : RegFrame as s (t.vauxOff why) := by
  unfold State.vauxOff
  extract_lets u
  split
  · exact ((RegFrame.limitOff (h.regs rfl) hc 0).setF _ _ (.inl hc)).setF _ _ (.inl hp)
  · exact h

theorem State.vauxOff_on (s : State) (why : Nat) : (s.vauxOff why).on CONV_STATUS.VAUX_ON = false := by
  unfold State.vauxOff
  extract_lets u
  split
  · rw [State.on_eq_false_iff, State.fld_setF_other _ _ _ _ (by decide), State.fld_setF_same _ _ _ (by decide)]
    rfl
  · next hoff => exact Bool.eq_false_iff.mpr hoff

theorem State.vauxOff_off {s : State} (h : s.on CONV_STATUS.VAUX_ON = true) (why : Nat) :
    (s.vauxOff why).entry.off = why := by
  unfold State.vauxOff
  rw [if_pos h]
  rfl

theorem RegFrame.startPhase {as : List Nat} {s t : State} (h : RegFrame as s t) (hp : Reg.PHASE_STATUS ∈ as) :
    RegFrame as s t.startPhase := by
  unfold State.startPhase
  extract_lets hs
  split
  · exact ((h.setF _ _ (.inl hp)).setF _ _ (.inl hp)).regs rfl
  · exact h

theorem State.startPhase_entry (s : State) : s.startPhase.entry = s.entry := by
  unfold State.startPhase
  extract_lets hs
  split <;> rfl

theorem RegFrame.vauxOn {as : List Nat} {s t : State} (h : RegFrame as s t) (hc : Reg.CONV_STATUS ∈ as)
    (hp : Reg.PHASE_STATUS ∈ as) : RegFrame as s t.vauxOn := by
  unfold State.vauxOn
  split
  · exact h
  · exact RegFrame.startPhase (RegFrame.setF (h.regs rfl) _ _ (.inl hc)) hp

theorem State.vauxOn_limits (s : State) : s.vauxOn.entry.limits = s.entry.limits := by
  unfold State.vauxOn
  split
  · rfl
  · rw [State.startPhase_entry]; rfl

/-- With a healthy phase VAUX starts. -/
theorem State.vauxOn_starts {s : State} (h : s.healthyPhases ≠ []) :
    s.vauxOn.on CONV_STATUS.VAUX_ON = true ∧ s.vauxOn.entry.off = 0 := by
  unfold State.vauxOn
  rw [if_neg (by simpa using h)]
  refine ⟨?_, by rw [State.startPhase_entry]; rfl⟩
  rw [((RegFrame.refl [Reg.PHASE_STATUS] _).startPhase (by decide)).on CONV_STATUS.VAUX_ON (by decide) (by decide),
    State.on_eq_true_iff, State.fld_setF_same _ _ _ (by decide)]
  decide

theorem State.healthyPhases_eq {as : List Nat} {s t : State} (h : RegFrame as s t) (ha : Reg.PHASE_STATUS ∉ as) :
    t.healthyPhases = s.healthyPhases := by
  simp only [State.healthyPhases, h.fld PHASE_STATUS.RETIRED ha (by decide)]

/-! ### VAUX levels (R31, R213) -/

theorem State.armed_of_frame {as : List Nat} {s t : State} (h : RegFrame as s t) (ha : Reg.SAFE_STATE ∉ as) :
    t.armed = s.armed := by
  simp only [State.armed, State.safeState, h.fld SAFE_STATE.STATE ha (by decide)]

theorem nextOf_vauxLow (st : Nat) : nextOf C_VAUX_LOW st = TRIPPED := by simp [nextOf]

theorem nextOf_thermal (st : Nat) : nextOf C_THERMAL st = LOCKED := by simp [nextOf]

theorem vauxLow_result {s : State} (haon : s.aon = true) :
    Does .vauxLow s fun t => t.on CONV_STATUS.VAUX_OK = false ∧
      (s.armed = true → t.SafeOff ∧ t.safeState = TRIPPED ∧ t.fld SAFE_TRIP.CAUSE = C_VAUX_LOW) := by
  refine ⟨_, (exec_vauxLow s).trans (act_next haon), ?_, fun harmed => ?_⟩
  · rw [((RegFrame.refl safeRegs _).safePath (fun _ h => h) _ _ _ _ _).on CONV_STATUS.VAUX_OK (by decide) (by decide),
      State.on_eq_false_iff, State.fld_setF_same _ _ _ (by decide)]
    rfl
  · have hframe : RegFrame [Reg.CONV_STATUS] s (s.setF CONV_STATUS.VAUX_OK 0) :=
      (RegFrame.refl _ s).setF _ _ (.inl (by decide))
    exact State.safePath_acts ((State.armed_of_frame hframe (by decide)).trans harmed) (by decide) (by decide)
      (nextOf_vauxLow _) _ _

theorem State.setF_VAUX_OK_on (s : State) : (s.setF CONV_STATUS.VAUX_OK 1).on CONV_STATUS.VAUX_OK = true := by
  rw [State.on_eq_true_iff, State.fld_setF_same _ _ _ (by decide)]
  decide

theorem vauxOkReached_without_thermal {s : State} (haon : s.aon = true) (hthermal : s.safety.thermal = false) :
    Does .vauxOkReached s fun t =>
      t.reg Reg.CONV_STATUS = putF CONV_STATUS.VAUX_OK 1 (s.reg Reg.CONV_STATUS) ∧ RegFrame [Reg.CONV_STATUS] s t ∧
      t = { s with regs := t.regs } := by
  refine ⟨s.setF CONV_STATUS.VAUX_OK 1, (exec_vauxOkReached s).trans ((act_next haon).trans ?_),
    State.reg_setF_same s CONV_STATUS.VAUX_OK 1, (RegFrame.refl _ s).setF _ _ (.inl (by decide)), rfl⟩
  exact congrArg _ (if_neg fun ⟨h, _⟩ => Bool.false_ne_true (hthermal.symm.trans h))

theorem State.safeState_setSafe (s : State) {st : Nat} (h : st < 8) : (s.setSafe st).safeState = st := by
  unfold State.setSafe State.safeState
  rw [State.fld_setF_other _ _ _ _ (by decide), State.fld_setF_same _ _ _ (by decide)]
  exact Nat.mod_eq_of_lt h

/-- Entering DISARMED by no path stores the state and commits one record (R224). -/
theorem State.disarmedQuiet_result (s : State) :
    s.disarmedQuiet.safeState = DISARMED ∧ s.disarmedQuiet.safety = s.safety ∧
      RegFrame (Reg.SAFE_STATE :: commitRegs) s s.disarmedQuiet := by
  let u := s.setSafe DISARMED
  have hcommit : RegFrame commitRegs u s.disarmedQuiet := (RegFrame.refl _ u).commitOne (fun _ h => h) _
  have hset : RegFrame [Reg.SAFE_STATE] s u :=
    ((RegFrame.refl _ s).setF _ _ (.inl (by decide))).setF _ _ (.inl (by decide))
  refine ⟨?_, ?_, (hset.mono (by decide)).trans (hcommit.mono (by decide))⟩
  · rw [State.safeState, hcommit.fld SAFE_STATE.STATE (by decide) (by decide)]
    exact s.safeState_setSafe (by decide)
  · rw [State.disarmedQuiet, State.commitOne_storesOnly]
    rfl

theorem vauxOkReached_after_thermal {s : State} (haon : s.aon = true) (hthermal : s.safety.thermal = true)
    (hlocked : s.safeState = LOCKED) (himago : s.stage = IMAGO) :
    Does .vauxOkReached s fun t =>
      t.on CONV_STATUS.VAUX_OK = true ∧ t.safeState = DISARMED ∧ t.safety.thermal = false := by
  let u := s.setF CONV_STATUS.VAUX_OK 1
  have hu : RegFrame [Reg.CONV_STATUS] s u := (RegFrame.refl _ s).setF _ _ (.inl (by decide))
  have hcond : u.safety.thermal = true ∧ u.safeState = LOCKED ∧ u.imago = true :=
    ⟨hthermal, (hu.fld SAFE_STATE.STATE (by decide) (by decide)).trans hlocked,
      beq_iff_eq.mpr ((hu.fld BOOT_STAGE.STAGE (by decide) (by decide)).trans himago)⟩
  let v : State := { u with safety := { u.safety with thermal := false } }
  obtain ⟨hstate, hsafety, hframe⟩ := v.disarmedQuiet_result
  refine ⟨v.disarmedQuiet, (exec_vauxOkReached s).trans ((act_next haon).trans (congrArg _ (if_pos hcond))), ?_, hstate,
    by rw [hsafety]⟩
  exact (hframe.on CONV_STATUS.VAUX_OK (by decide) (by decide)).trans s.setF_VAUX_OK_on

/-! ### Thermal limit, shutdown and release (R31, R204, R373) -/

theorem State.syncLimit_on {s : State} (h : s.entry.limits.testBit 2 = true) :
    s.syncLimit.on CONV_STATUS.LIMIT = true := by
  unfold State.syncLimit
  extract_lets m cause
  have hcause : (cause != 0) = true := by
    simp only [cause, m, h, if_true]
    split
    · rfl
    · split <;> rfl
  rw [State.on_eq_true_iff, State.fld_setF_other _ _ _ _ (by decide), State.fld_setF_same _ _ _ (by decide), hcause]
  decide

theorem thermalLimit_result {s : State} (haon : s.aon = true) (hlimit : s.entry.limits.testBit 2 = false) :
    Does .thermalLimit s fun t =>
      t.on CONV_STATUS.LIMIT = true ∧ t.entry.limits.testBit 2 = true ∧
      t.fld CONV_COUNTS.LIMITS = min (s.fld CONV_COUNTS.LIMITS + 1) (2 ^ CONV_COUNTS.LIMITS.width - 1) ∧
      Raised Reg.CONV_EVENTS 2 s t ∧ RegFrame [Reg.CONV_STATUS, Reg.CONV_COUNTS, Reg.CONV_EVENTS] s t := by
  let u := s.putEntry { s.entry with limits := s.entry.limits ||| 2 ^ 2 }
  let v := u.syncLimit.incSat CONV_COUNTS.LIMITS
  have hbit : (s.entry.limits ||| 2 ^ 2).testBit 2 = true := by
    rw [Nat.testBit_or, Nat.testBit_two_pow_self, Bool.or_true]
  have hsync : RegFrame [Reg.CONV_STATUS] s u.syncLimit := RegFrame.syncLimit ((RegFrame.refl _ s).regs rfl) (by decide)
  have hcount : RegFrame [Reg.CONV_STATUS, Reg.CONV_COUNTS] s v :=
    (hsync.mono (by decide)).incSat _ (.inl (by decide))
  have hafter : RegFrame [Reg.CONV_COUNTS, Reg.CONV_EVENTS] u.syncLimit (v.raise Reg.CONV_EVENTS 2) :=
    ((RegFrame.refl _ _).incSat _ (.inl (by decide))).raise _ _ (by decide) (by decide)
  refine ⟨v.raise Reg.CONV_EVENTS 2, (exec_thermalLimit s).trans ((act_next haon).trans ?_), ?_, ?_, ?_,
    hcount.raise_raised rfl (by decide) _ _ (by decide) (by decide) (by decide),
    (hcount.mono (by decide)).raise _ _ (by decide) (by decide)⟩
  · rw [State.limitOn, hlimit]
    rfl
  · rw [hafter.on CONV_STATUS.LIMIT (by decide) (by decide)]
    exact State.syncLimit_on hbit
  · rw [RegsOnly.raise v Reg.CONV_EVENTS 2]
    exact hbit
  · rw [State.fld_raise _ _ _ _ (by decide) (by decide) (by decide), State.fld_incSat _ _ (by decide),
      hsync.fld CONV_COUNTS.LIMITS (by decide) (by decide)]

/-- The mark of Table 9.1: LOCKED has been entered by THERMAL with the module in Imago. -/
def State.markThermal (s : State) : State :=
  { s with safety := { s.safety with thermal := s.safety.thermal || (s.safeState == LOCKED && s.imago) } }

theorem State.markThermal_regs (s : State) : s.markThermal.regs = s.regs := rfl

theorem exec_thermalShutdown_aon {s : State} (haon : s.aon = true) :
    exec .thermalShutdown s = .next ((s.safePath C_THERMAL 0 0xFF s.tick false).markThermal.vauxOff 3) :=
  (exec_thermalShutdown s).trans (act_next haon)

theorem thermalShutdown_result {s : State} (haon : s.aon = true) :
    Does .thermalShutdown s fun t => t.on CONV_STATUS.VAUX_ON = false ∧
      (s.armed = true → t.SafeOff ∧ t.safeState = LOCKED ∧ t.fld SAFE_TRIP.CAUSE = C_THERMAL) ∧
      (s.on CONV_STATUS.VAUX_ON = true → t.entry.off = 3) := by
  refine ⟨_, exec_thermalShutdown_aon haon, State.vauxOff_on _ 3, fun harmed => ?_, fun hon =>
    State.vauxOff_off ?_ 3⟩
  · have hoff (u : State) : RegFrame [Reg.CONV_STATUS, Reg.PHASE_STATUS] u (u.markThermal.vauxOff 3) :=
      RegFrame.vauxOff (RegFrame.of_regs u.markThermal_regs) (by decide) (by decide) 3
    obtain ⟨⟨ha, hb⟩, hstate, hcause⟩ :=
      State.safePath_acts harmed (by decide) (by decide) (nextOf_thermal _) s.tick false
    exact ⟨⟨((hoff _).fld SAFE_STATE.A_ON (by decide) (by decide)).trans ha,
      ((hoff _).fld SAFE_STATE.B_ON (by decide) (by decide)).trans hb⟩,
      ((hoff _).fld SAFE_STATE.STATE (by decide) (by decide)).trans hstate,
      ((hoff _).fld SAFE_TRIP.CAUSE (by decide) (by decide)).trans hcause⟩
  · have hpath : RegFrame safeRegs s (s.safePath C_THERMAL 0 0xFF s.tick false).markThermal :=
      ((RegFrame.refl _ s).safePath (fun _ h => h) _ _ _ _ _).regs (State.markThermal_regs _)
    exact (hpath.on CONV_STATUS.VAUX_ON (by decide) (by decide)).trans hon

theorem State.limitOff_two_testBit (s : State) : (s.limitOff 2).entry.limits.testBit 2 = false := by
  rw [State.limitOff_limits, Nat.testBit_and]
  exact Bool.and_false _

theorem exec_thermalRelease_aon {s : State} (haon : s.aon = true) :
    exec .thermalRelease s = .next ((s.limitOff 2).when (s.entry.off == 3) State.vauxOn) :=
  (exec_thermalRelease s).trans (act_next haon)

theorem thermalRelease_result {s : State} (haon : s.aon = true) :
    Does .thermalRelease s fun t => t.entry.limits.testBit 2 = false ∧
      (s.entry.off = 3 → s.healthyPhases ≠ [] → t.on CONV_STATUS.VAUX_ON = true ∧ t.entry.off = 0) ∧
      RegFrame [Reg.CONV_STATUS, Reg.PHASE_STATUS] s t := by
  have hlimit : RegFrame [Reg.CONV_STATUS] s (s.limitOff 2) := (RegFrame.refl _ s).limitOff (by decide) 2
  by_cases hoff : s.entry.off = 3
  · have e : (s.limitOff 2).when (s.entry.off == 3) State.vauxOn = (s.limitOff 2).vauxOn :=
      if_pos (beq_iff_eq.mpr hoff)
    refine ⟨_, (exec_thermalRelease_aon haon).trans (congrArg _ e), ?_, fun _ hphases => State.vauxOn_starts ?_,
      RegFrame.vauxOn (hlimit.mono (by decide)) (by decide) (by decide)⟩
    · rw [State.vauxOn_limits, s.limitOff_two_testBit]
    · rwa [State.healthyPhases_eq hlimit (by decide)]
  · have e : (s.limitOff 2).when (s.entry.off == 3) State.vauxOn = s.limitOff 2 := if_neg fun h => hoff (beq_iff_eq.mp h)
    exact ⟨_, (exec_thermalRelease_aon haon).trans (congrArg _ e), s.limitOff_two_testBit, fun h => absurd h hoff,
      hlimit.mono (by decide)⟩

/-- Settles O17: the path to SAFE off acts first and leaves VAUX, whose switching leaves the safety function. -/
theorem vauxLevelsAndThermal : Obligations.VauxLevelsAndThermal := fun _ haon =>
  ⟨vauxLow_result haon, vauxOkReached_without_thermal haon, vauxOkReached_after_thermal haon, thermalLimit_result haon,
    thermalShutdown_result haon, thermalRelease_result haon⟩

end Sys2Proof.Machine
namespace Sys2Proof.Machine

/-! ### A record that waits for a later tick does not always stay as it is (R221, R166)

Of two paths to SAFE off in one tick the lower cause code stands recorded, so the later path rewrites the STATUS record
that the earlier one left waiting. TICK_COMMIT first brings every machine's run to its end, also a run of a later tick,
and a machine that faults there may take such a path. -/

/-- The STATUS record of the QUORUM path at tick 40, as it waits for that tick's commit point. -/
def quorumTripHeld : HeldRec :=
  let r := State.reset.safeRec 0x30 C_QUORUM 0 0xFF 40
  { rank := 5, key := 0, typ := r.typ, tick := r.tick, payload := r.payload }

/-- A machine under FAULT_SAFE that has its committed run of tick 40 still to make; no word of its program is loaded. -/
def machineAtUnloadedWord : Mach :=
  { defaultMach with
    state := M_RUNNING
    flags := 2
    run := some {
      tick := 40, kind := .committed, pc := 0, entry := MState.start 0, live := MState.start 0, count := 0
      opened := false, trace := [], outs := [] } }

/-- The module in Imago after the QUORUM path at tick 40, with machine 0 at the word that is not there. -/
def trippedByQuorum : State :=
  { ((State.reset.setF BOOT_STAGE.STAGE IMAGO).setSafe TRIPPED).recordTrip C_QUORUM 0 0xFF 40 with
    held := [quorumTripHeld]
    eng := { resetEngine with machs := resetEngine.machs.set 0 machineAtUnloadedWord } }

/-- The records that wait once a command has completed. -/
def heldAfter : Host.Outcome State Fault Refusal → List HeldRec
  | .next t => t.held
  | _ => []

/-- At the commit point of tick 20 machine 0 faults: the record of tick 40 now names MACHINE_FAULT, the lower cause,
and the fault's own record follows it. -/
theorem heldAfter_tickCommit_trippedByQuorum :
    heldAfter (exec (.tickCommit 20) trippedByQuorum) =
      [{ quorumTripHeld with payload := (State.reset.safeRec 0x30 C_MACHINE_FAULT 0xFF 0 40).payload },
        { rank := 5, key := 0, typ := T_STATUS, tick := 40, payload := (statusRec 0x10 (2 ^ 8 * 3) 40 [0]).payload }] := by
  decide +kernel

theorem quorumTripHeld_not_kept : quorumTripHeld ∉ heldAfter (exec (.tickCommit 20) trippedByQuorum) := by
  rw [heldAfter_tickCommit_trippedByQuorum]
  decide

/-- Refutes O55: at the commit point of tick 20 a record that waits for tick 40 does not stay; a machine's fault, on the
way there, replaces the cause it names (R221). -/
theorem not_engineArrivals : ¬ Obligations.EngineArrivals := by
  unfold Obligations.EngineArrivals
  rintro ⟨-, -, -, hcommit, -, -⟩
  obtain ⟨⟨t, hexec, -, -, hkept⟩, -⟩ := hcommit trippedByQuorum 20 rfl
  have hmem : quorumTripHeld ∈ t.held := hkept _ (List.mem_singleton.mpr rfl) (by decide)
  exact quorumTripHeld_not_kept (by rw [hexec]; exact hmem)

end Sys2Proof.Machine

namespace Sys2Proof.Machine

/-! ### Axis masks (Table 4.7) -/

theorem testBit_maskOf : ∀ (bs : List Bool) (i : Nat), (maskOf bs).testBit i = bs.getD i false
  | [], i => Nat.zero_testBit i
  | b :: bs, 0 => by cases b <;> simp [maskOf, b01, Nat.testBit_zero]
  | b :: bs, i + 1 => by
    have hdiv : (b01 b + 2 * maskOf bs) / 2 = maskOf bs := by unfold b01; split <;> omega
    rw [maskOf, Nat.testBit_succ, hdiv, testBit_maskOf bs i, List.getD_cons_succ]

theorem getD_map_range {α : Type} (f : Nat → α) (d : α) {n i : Nat} (hi : i < n) :
    ((List.range n).map f).getD i d = f i := by
  simp [List.getD, hi]

theorem testBit_axisMask (f : Nat → Bool) {a : Nat} (ha : a < 6) : (axisMask f).testBit a = f a := by
  rw [axisMask, testBit_maskOf, getD_map_range f false ha]

/-- An axis of a mask is named by one bit of the mask's register. -/
theorem State.on_bitF_eq_testBit (s : State) (f : Fld) {a : Nat} (ha : a < f.width) :
    s.on (bitF f.reg (f.lo + a)) = (s.fld f).testBit a := by
  have hbit : (bits (s.reg f.reg) (f.lo + a) 1).testBit 0 = (s.reg f.reg).getLsbD (f.lo + a) := by
    rw [testBit_bits]; rfl
  have hlt : bits (s.reg f.reg) (f.lo + a) 1 < 2 := bits_lt _ _ 1
  rw [State.fld, testBit_bits, ← hbit, decide_eq_true ha, Bool.true_and, State.on, State.fld, bitF]
  obtain h | h : bits (s.reg f.reg) (f.lo + a) 1 = 0 ∨ bits (s.reg f.reg) (f.lo + a) 1 = 1 := by omega
  all_goals rw [h]; rfl

/-! ### The return of axes (R94) -/

/-- The axis is INVALID and has met quorum for 2 ms. -/
def State.axisReturns (s : State) (a : Nat) : Bool :=
  (s.axis a).validity == 2 &&
    (match (s.axis a).okSince with
      | some q => decide (q + 80 ≤ s.voteTick)
      | none => false)

theorem State.axisReturns_iff (s : State) (a : Nat) :
    s.axisReturns a = true ↔ (s.axis a).validity = 2 ∧ ∃ q, (s.axis a).okSince = some q ∧ q + 80 ≤ s.voteTick := by
  unfold State.axisReturns
  cases h : (s.axis a).okSince <;> simp

/-- An axis after QUORUM_RESTORED. -/
def State.returnedAxis (s : State) (a : Nat) : Axis :=
  if s.axisReturns a then { s.axis a with validity := 1, reason := 0 } else s.axis a

/-- The axes as they return, before VOTE_STATUS follows. -/
def State.axesStored (s : State) : State := s.putArray { s.array with axes := (List.range 6).map s.returnedAxis }

/-- The HEALTH record of axes that return. -/
def State.returnRec (s : State) : Rec := healthRec 0x08 0x7F 0xFF 0 (axisMask s.axisReturns) s.voteTick 0 0

/-- VOTE_STATUS and the record of axes that return. -/
def State.axesReported (s : State) : State := s.axesStored.syncVoteStatus.hold 3 1 s.returnRec

theorem exec_quorumRestored_aon {s : State} (haon : s.aon = true) :
    exec .quorumRestored s =
      .next (if axisMask s.axisReturns = 0 then s else s.axesReported.raise Reg.VOTE_EVENTS 3) :=
  (exec_quorumRestored s).trans (act_next haon)

theorem RegFrame.hold {as : List Nat} {s t : State} (h : RegFrame as s t) (rank key : Nat) (r : Rec) :
    RegFrame as s (t.hold rank key r) := h.regs rfl

theorem RegFrame.putArray {as : List Nat} {s t : State} (h : RegFrame as s t) (x : ArrayPart) :
    RegFrame as s (t.putArray x) := h.regs rfl

theorem RegFrame.putEng {as : List Nat} {s t : State} (h : RegFrame as s t) (x : EnginePart) :
    RegFrame as s (t.putEng x) := h.regs rfl

theorem RegFrame.syncVoteStatus {as : List Nat} {s t : State} (h : RegFrame as s t) (ha : Reg.VOTE_STATUS ∈ as) :
    RegFrame as s t.syncVoteStatus := ((h.setF _ _ (.inl ha)).setF _ _ (.inl ha)).setF _ _ (.inl ha)

/-- VALID names the axes that are VALID. -/
theorem State.syncVoteStatus_valid (s : State) {a : Nat} (ha : a < 6) :
    (s.syncVoteStatus.fld VOTE_STATUS.VALID).testBit a = ((s.axis a).validity == 1) := by
  unfold State.syncVoteStatus
  rw [State.fld_setF_other _ _ _ _ (by decide), State.fld_setF_other _ _ _ _ (by decide),
    State.fld_setF_same _ _ _ (by decide), Nat.testBit_mod_two_pow]
  exact (congrArg (· && _) (decide_eq_true ha)).trans (testBit_axisMask (fun a => (s.axis a).validity == 1) ha)

theorem State.axesReported_regFrame (s : State) : RegFrame [Reg.VOTE_STATUS] s s.axesReported :=
  (((RegFrame.refl _ s).putArray _).syncVoteStatus (by decide)).hold 3 1 _

theorem State.axesStored_axis (s : State) {a : Nat} (ha : a < 6) :
    s.axesStored.axis a = s.returnedAxis a := getD_map_range s.returnedAxis defaultAxis ha

/-- What the event leaves of the report. -/
theorem State.axesReported_raise (s : State) :
    let t := s.axesReported.raise Reg.VOTE_EVENTS 3
    t.array = s.axesStored.array ∧ t.held = s.axesReported.held ∧ ArrayAndHeld s t := by
  have h := RegsOnly.raise s.axesReported Reg.VOTE_EVENTS 3
  refine ⟨?_, ?_, ?_⟩
  · rw [h]; rfl
  · rw [h]
  · unfold ArrayAndHeld; rw [h]; rfl

theorem State.axesReported_valid (s : State) {a : Nat} (ha : a < 6) (h : s.axisReturns a = true) :
    ((s.axesReported.raise Reg.VOTE_EVENTS 3).fld VOTE_STATUS.VALID).testBit a = true := by
  rw [State.fld_raise _ _ _ _ (by decide) (by decide) (by decide)]
  calc (s.axesReported.fld VOTE_STATUS.VALID).testBit a = ((s.axesStored.axis a).validity == 1) :=
        s.axesStored.syncVoteStatus_valid ha
    _ = true := by rw [s.axesStored_axis ha, State.returnedAxis, if_pos h]; rfl

theorem quorumRestored_without_axis {s : State} (haon : s.aon = true)
    (h : ∀ a < 6, (s.axis a).validity = 2 → ∀ q, (s.axis a).okSince = some q → s.voteTick < q + 80) :
    Does .quorumRestored s fun t => t = s := by
  have hnone (a : Nat) (ha : a < 6) : s.axisReturns a = false := by
    refine Bool.eq_false_iff.mpr fun hret => ?_
    obtain ⟨hinvalid, q, hq, hle⟩ := (s.axisReturns_iff a).mp hret
    exact absurd hle (Nat.not_le.mpr (h a ha hinvalid q hq))
  have hmask : axisMask s.axisReturns = 0 := by
    unfold axisMask
    rw [List.map_congr_left fun a ha => hnone a (List.mem_range.mp ha)]
    rfl
  exact ⟨s, (exec_quorumRestored_aon haon).trans (by rw [if_pos hmask]), rfl⟩

theorem quorumRestored_of_axis {s : State} (haon : s.aon = true) {a : Nat} (ha : a < 6)
    (hinvalid : (s.axis a).validity = 2) {q : Nat} (hq : (s.axis a).okSince = some q) (hle : q + 80 ≤ s.voteTick) :
    Does .quorumRestored s fun t =>
      t.axis a = { s.axis a with validity := 1, reason := 0 } ∧
      (∀ b < 6, (s.axis b).validity ≠ 2 ∨ (s.axis b).okSince = none → t.axis b = s.axis b) ∧
      (t.fld VOTE_STATUS.VALID).testBit a = true ∧ Raised Reg.VOTE_EVENTS 3 s t ∧ Holds T_HEALTH s.voteTick s t ∧
      RegFrame [Reg.VOTE_STATUS, Reg.VOTE_EVENTS] s t ∧ ArrayAndHeld s t := by
  have hret : s.axisReturns a = true := (s.axisReturns_iff a).mpr ⟨hinvalid, q, hq, hle⟩
  have hmask : axisMask s.axisReturns ≠ 0 := fun h0 => by
    have hbit := testBit_axisMask s.axisReturns ha
    rw [h0, Nat.zero_testBit, hret] at hbit
    exact Bool.false_ne_true hbit
  obtain ⟨harray, hheld, honly⟩ := s.axesReported_raise
  have haxis {b : Nat} (hb : b < 6) : (s.axesReported.raise Reg.VOTE_EVENTS 3).axis b = s.returnedAxis b := by
    rw [← s.axesStored_axis hb, State.axis, harray]
    rfl
  refine ⟨_, (exec_quorumRestored_aon haon).trans (by rw [if_neg hmask]), ?_, fun b hb hstays => ?_,
    s.axesReported_valid ha hret, s.axesReported_regFrame.raise_raised rfl (by decide) _ _ (by decide) (by decide)
      (by decide), ⟨_, hheld, rfl, rfl⟩,
    (s.axesReported_regFrame.mono (by decide)).raise _ _ (by decide) (by decide), honly⟩
  · rw [haxis ha, State.returnedAxis, if_pos hret]
  · rw [haxis hb, State.returnedAxis, if_neg]
    intro hret
    obtain ⟨hvalidity, q, hq, -⟩ := (s.axisReturns_iff b).mp hret
    exact hstays.elim (fun h => h hvalidity) fun h => nomatch hq.symm.trans h

/-! ### Temperatures (R63) -/

theorem tempModelUpdate_result {s : State} (haon : s.aon = true) :
    Does .tempModelUpdate s fun t =>
      (∀ c < 216, t.chan c = { s.chan c with
        bias := (modelOf c (s.dieTemp (dieOfChan c)) (tempOf s TEMP_ASIC.T_LOW)).1
        scale := (modelOf c (s.dieTemp (dieOfChan c)) (tempOf s TEMP_ASIC.T_LOW)).2 }) ∧
      t = { s with array := { s.array with chans := t.array.chans } } :=
  ⟨_, (exec_tempModelUpdate s).trans (act_next haon), fun _ hc => getD_map_range _ _ hc, rfl⟩

/-! ### The sentinel (R74, R196) -/

/-- The sample's three values stand in their registers, and COUNT has advanced. -/
def State.sentinelStored (x y z : BitVec 16) (s : State) : State :=
  let u := (s.setF SENTINEL_XY.X x.toNat).setF SENTINEL_XY.Y y.toNat
  (u.setF SENTINEL_Z.Z z.toNat).setF SENTINEL_Z.COUNT (u.fld SENTINEL_Z.COUNT + 1)

/-- The tick at which THEFT takes a sample: in Night that of the AON timebase. -/
def State.sentinelTick (s : State) (cycles : Nat) : Nat :=
  if s.fld PWR_STATE.STATE == 2 then s.nightTick cycles else s.tick

/-- The sample has reached the sentinel streams and THEFT's memory. -/
def State.sentinelTaken (x y z : BitVec 16) (cycles : Nat) (s : State) : State :=
  let v : List Rat := [(x.toInt : Rat), (y.toInt : Rat), (z.toInt : Rat)]
  let u := (s.sentinelStored x y z).sentinelFilter v
  u.putEng { u.eng with
    sent := [x.signExtend 32, y.signExtend 32, z.signExtend 32]
    theft := u.eng.theft.step (u.recCfg (u.sentinelTick cycles)) u.sentinelPeriod v u.array.sentHp }

theorem State.sentinelStored_regFrame (s : State) (x y z : BitVec 16) :
    RegFrame [Reg.SENTINEL_XY, Reg.SENTINEL_Z] s (s.sentinelStored x y z) :=
  ((((RegFrame.refl _ s).setF _ _ (.inl (by decide))).setF _ _ (.inl (by decide))).setF _ _ (.inl (by decide))).setF _ _
    (.inl (by decide))

theorem State.sentinelStored_fields (s : State) (x y z : BitVec 16) :
    let t := s.sentinelStored x y z
    t.fld SENTINEL_XY.X = x.toNat ∧ t.fld SENTINEL_XY.Y = y.toNat ∧ t.fld SENTINEL_Z.Z = z.toNat ∧
      t.fld SENTINEL_Z.COUNT = (s.fld SENTINEL_Z.COUNT + 1) % 2 ^ SENTINEL_Z.COUNT.width := by
  have fits (v : BitVec 16) : v.toNat % 2 ^ 16 = v.toNat := Nat.mod_eq_of_lt v.isLt
  unfold State.sentinelStored
  refine ⟨?_, ?_, ?_, ?_⟩
  all_goals simp (disch := decide) only [State.fld_setF_other, State.fld_setF_same]
  exacts [fits x, fits y, fits z]

/-- A wake changes neither the engine nor the array, and no register but those of power and its entry. -/
theorem State.wake_result (s : State) (code pins : Nat) :
    (s.wake code pins).eng = s.eng ∧ (s.wake code pins).array = s.array ∧
      RegFrame [Reg.PWR_STATE, Reg.CONV_STATUS, Reg.PHASE_STATUS] s (s.wake code pins) := by
  have vauxOn (u : State) : u.vauxOn.eng = u.eng ∧ u.vauxOn.array = u.array := by
    unfold State.vauxOn State.startPhase
    split
    · exact ⟨rfl, rfl⟩
    · extract_lets hs
      split <;> exact ⟨rfl, rfl⟩
  unfold State.wake
  split
  · exact ⟨rfl, rfl, .of_regs rfl⟩
  · unfold State.startDawn State.when
    extract_lets u v power w
    have hu : RegFrame [Reg.PWR_STATE, Reg.CONV_STATUS, Reg.PHASE_STATUS] s u :=
      ((RegFrame.refl _ s).setF PWR_STATE.STATE 3 (.inl (by decide))).setF PWR_STATE.LAST_WAKE _ (.inl (by decide))
    have hw : RegFrame [Reg.PWR_STATE, Reg.CONV_STATUS, Reg.PHASE_STATUS] s w :=
      (hu.setF PWR_STATE.WAKE_PINS pins (.inl (by decide))).regs rfl
    have heng : w.eng = s.eng := rfl
    have harray : w.array = s.array := rfl
    split
    · exact ⟨(vauxOn w).1.trans heng, (vauxOn w).2.trans harray, hw.vauxOn (by decide) (by decide)⟩
    · exact ⟨heng, harray, hw⟩
  · exact ⟨rfl, rfl, .refl _ s⟩

/-- THEFT's evaluation in Night leaves the streams, its own clock, the array and the sentinel's registers. -/
theorem State.theftNight_result (s : State) (t : Nat) :
    (s.theftNight t).eng.sent = s.eng.sent ∧ (s.theftNight t).eng.theft.clock = s.eng.theft.clock ∧
      (s.theftNight t).array = s.array ∧
      RegFrame [Reg.PWR_STATE, Reg.CONV_STATUS, Reg.PHASE_STATUS] s (s.theftNight t) := by
  unfold State.theftNight
  extract_lets cfg m d x u
  split
  · exact ⟨rfl, rfl, rfl, .refl _ s⟩
  split
  · exact ⟨rfl, rfl, rfl, .of_regs rfl⟩
  extract_lets v
  unfold State.when
  split
  · obtain ⟨heng, harray, hframe⟩ := v.wake_result 5 0
    exact ⟨by rw [heng]; rfl, by rw [heng]; rfl, harray, (RegFrame.of_regs rfl).trans hframe⟩
  · exact ⟨rfl, rfl, rfl, .of_regs rfl⟩

theorem exec_sentinelSample_aon {s : State} (haon : s.aon = true) (x y z : BitVec 16) (cycles : BitVec 64) :
    exec (.sentinelSample x y z cycles) s =
      let u := s.sentinelTaken x y z cycles.toNat
      .next (u.when (u.fld PWR_STATE.STATE == 2) (State.theftNight (u.sentinelTick cycles.toNat))) :=
  (exec_sentinelSample x y z cycles s).trans (act_next haon)

theorem State.when_theftNight_result (s : State) (b : Bool) (t : Nat) :
    (s.when b (State.theftNight t)).eng.sent = s.eng.sent ∧
      (s.when b (State.theftNight t)).eng.theft.clock = s.eng.theft.clock ∧
      (s.when b (State.theftNight t)).array = s.array ∧
      RegFrame [Reg.PWR_STATE, Reg.CONV_STATUS, Reg.PHASE_STATUS] s (s.when b (State.theftNight t)) := by
  unfold State.when
  split
  · exact s.theftNight_result t
  · exact ⟨rfl, rfl, rfl, .refl _ s⟩

theorem State.sentinelTaken_regFrame (s : State) (x y z : BitVec 16) (cycles : Nat) :
    RegFrame [Reg.SENTINEL_XY, Reg.SENTINEL_Z] s (s.sentinelTaken x y z cycles) :=
  (s.sentinelStored_regFrame x y z).regs rfl

/-- THEFT's clock counts the AON cycles of one sentinel period for each sample (Table 3.10). -/
theorem State.sentinelTaken_clock (s : State) (x y z : BitVec 16) (cycles : Nat) :
    (s.sentinelTaken x y z cycles).eng.theft.clock = s.eng.theft.clock + s.sentinelPeriod := by
  have hrate : (s.sentinelStored x y z).fld SENTINEL_CTRL.RATE = s.fld SENTINEL_CTRL.RATE :=
    (s.sentinelStored_regFrame x y z).fld _ (by decide) (by decide)
  have hperiod : (s.sentinelStored x y z).sentinelPeriod = s.sentinelPeriod := by
    simp only [State.sentinelPeriod, hrate]
  rw [← hperiod]
  rfl

theorem sentinelSample_result {s : State} (haon : s.aon = true) (x y z : BitVec 16) (cycles : BitVec 64) :
    Does (.sentinelSample x y z cycles) s fun t =>
      t.fld SENTINEL_XY.X = x.toNat ∧ t.fld SENTINEL_XY.Y = y.toNat ∧ t.fld SENTINEL_Z.Z = z.toNat ∧
      t.fld SENTINEL_Z.COUNT = (s.fld SENTINEL_Z.COUNT + 1) % 2 ^ SENTINEL_Z.COUNT.width ∧
      t.eng.sent = [x.signExtend 32, y.signExtend 32, z.signExtend 32] ∧ t.array.triads = s.array.triads ∧
      t.eng.theft.clock = s.eng.theft.clock + s.sentinelPeriod ∧
      (s.fld PWR_STATE.STATE ≠ 2 → RegFrame [Reg.SENTINEL_XY, Reg.SENTINEL_Z] s t ∧
        t = { s with regs := t.regs, array := t.array, eng := { s.eng with sent := t.eng.sent, theft := t.eng.theft } }) := by
  have htaken := s.sentinelTaken_regFrame x y z cycles.toNat
  obtain ⟨hx, hy, hz, hcount⟩ := s.sentinelStored_fields x y z
  obtain ⟨hsent, hclock, harray, hframe⟩ := (s.sentinelTaken x y z cycles.toNat).when_theftNight_result
    ((s.sentinelTaken x y z cycles.toNat).fld PWR_STATE.STATE == 2)
    ((s.sentinelTaken x y z cycles.toNat).sentinelTick cycles.toNat)
  refine ⟨_, exec_sentinelSample_aon haon x y z cycles, ?_, ?_, ?_, ?_, hsent, by rw [harray]; rfl,
    hclock.trans (s.sentinelTaken_clock x y z _), fun hnoon => ?_⟩
  · exact (hframe.fld SENTINEL_XY.X (by decide) (by decide)).trans hx
  · exact (hframe.fld SENTINEL_XY.Y (by decide) (by decide)).trans hy
  · exact (hframe.fld SENTINEL_Z.Z (by decide) (by decide)).trans hz
  · exact (hframe.fld SENTINEL_Z.COUNT (by decide) (by decide)).trans hcount
  · have hday : ((s.sentinelTaken x y z cycles.toNat).fld PWR_STATE.STATE == 2) = false := by
      rw [htaken.fld PWR_STATE.STATE (by decide) (by decide)]
      exact beq_false_of_ne hnoon
    rw [hday]
    exact ⟨htaken, rfl⟩

end Sys2Proof.Machine

namespace Sys2Proof.Machine

/-! ### What follows a fused sample leaves (R81 to R95, R231) -/

/-- No register but those named has changed since `s`; the array and the filters stay, the last committed sample is one
of the same tick, and each record that waited still waits, at its place and tick. -/
structure SampleKept (as : List Nat) (s t : State) : Prop where
  array : t.array = s.array
  filt : t.filt = s.filt
  sampled : t.committed.map (·.tick) = s.committed.map (·.tick)
  held : ∀ h ∈ s.held, ∃ k ∈ t.held, k.rank = h.rank ∧ k.typ = h.typ ∧ k.tick = h.tick
  frame : RegFrame as s t

theorem SampleKept.refl (as : List Nat) (s : State) : SampleKept as s s :=
  ⟨rfl, rfl, rfl, fun h hm => ⟨h, hm, rfl, rfl, rfl⟩, .refl as s⟩

theorem SampleKept.trans {as : List Nat} {s t u : State} (h : SampleKept as s t) (k : SampleKept as t u) :
    SampleKept as s u := by
  refine ⟨k.array.trans h.array, k.filt.trans h.filt, k.sampled.trans h.sampled, fun a ha => ?_, h.frame.trans k.frame⟩
  obtain ⟨b, hb, hbr, hbt, hbk⟩ := h.held a ha
  obtain ⟨c, hc, hcr, hct, hck⟩ := k.held b hb
  exact ⟨c, hc, hcr.trans hbr, hct.trans hbt, hck.trans hbk⟩

theorem SampleKept.mono {as bs : List Nat} {s t : State} (h : SampleKept as s t) (hs : ∀ a ∈ as, a ∈ bs) :
    SampleKept bs s t := ⟨h.array, h.filt, h.sampled, h.held, h.frame.mono hs⟩

/-- A change of other parts of the state. -/
theorem SampleKept.of_frame {as : List Nat} {s t : State} (hf : RegFrame as s t) (harray : t.array = s.array)
    (hfilt : t.filt = s.filt) (hcomm : t.committed = s.committed) (hheld : t.held = s.held) : SampleKept as s t :=
  ⟨harray, hfilt, by rw [hcomm], fun h hm => ⟨h, hheld ▸ hm, rfl, rfl, rfl⟩, hf⟩

theorem SampleKept.of_storesOnly {as : List Nat} {s t : State} (h : StoresOnly s t) (hf : RegFrame as s t) :
    SampleKept as s t := by
  unfold StoresOnly at h
  exact .of_frame hf (by rw [h]) (by rw [h]) (by rw [h]) (by rw [h])

section
variable {as : List Nat} {s t : State} (h : SampleKept as s t)
include h

theorem SampleKept.regsOnly {u : State} (hu : RegsOnly t u) (hf : RegFrame as t u) : SampleKept as s u :=
  h.trans (.of_storesOnly hu.storesOnly hf)

theorem SampleKept.setReg (a : Nat) (w : Word) (ha : a ∈ as) : SampleKept as s (t.setReg a w) :=
  h.regsOnly (.setReg t a w) ((RegFrame.refl as t).setReg a w (.inl ha))

theorem SampleKept.setF (f : Fld) (v : Nat) (ha : f.reg ∈ as) : SampleKept as s (t.setF f v) := h.setReg _ _ ha

theorem SampleKept.addSat (f : Fld) (n : Nat) (ha : f.reg ∈ as) : SampleKept as s (t.addSat f n) := h.setF _ _ ha

theorem SampleKept.raise (a k : Nat) (ha : a ∈ as) (hn : sourceOf a k < 128) : SampleKept as s (t.raise a k) :=
  h.regsOnly (.raise t a k) ((RegFrame.refl as t).raise a k ha hn)

theorem SampleKept.hold (rank key : Nat) (r : Rec) : SampleKept as s (t.hold rank key r) :=
  h.trans ⟨rfl, rfl, rfl, fun k hk => ⟨k, List.mem_append_left _ hk, rfl, rfl, rfl⟩, .of_regs rfl⟩

theorem SampleKept.putPair (x : PairPart) : SampleKept as s (t.putPair x) :=
  h.trans (.of_frame (.of_regs rfl) rfl rfl rfl rfl)

theorem SampleKept.putEng (x : EnginePart) : SampleKept as s (t.putEng x) :=
  h.trans (.of_frame (.of_regs rfl) rfl rfl rfl rfl)

theorem SampleKept.forUpTo {f : Nat → State → State} :
    ∀ {n : Nat}, (∀ k < n, ∀ u : State, SampleKept as u (f k u)) → SampleKept as s (t.forUpTo f n)
  | 0, _ => h
  | n + 1, hf => (SampleKept.forUpTo fun k hk => hf k (Nat.lt_succ_of_lt hk)).trans (hf n (Nat.lt_succ_self n) _)

theorem SampleKept.commitAll (hs : ∀ a ∈ commitRegs, a ∈ as) (rs : List Rec) : SampleKept as s (t.commitAll rs) :=
  h.trans (.of_storesOnly (t.commitAll_storesOnly rs) ((RegFrame.refl as t).commitAll hs rs))

end

/-! ### Events of a vote -/

theorem sourceOf_ARRAY_EVENTS (k : Nat) : sourceOf Reg.ARRAY_EVENTS k = 55 := rfl

/-- The onsets of SAT and CLIP are fields and events of ARRAY_STATUS. -/
theorem SampleKept.flagEvents {as : List Nat} {s t : State} (h : SampleKept as s t) (hstatus : Reg.ARRAY_STATUS ∈ as)
    (hevents : Reg.ARRAY_EVENTS ∈ as) (sat clip : Nat) : SampleKept as s (t.flagEvents sat clip) := by
  have onset (old mask k : Nat) : ∀ a < 6, ∀ u : State, SampleKept as u
      (u.when (mask.testBit a && !old.testBit a) (State.raise Reg.ARRAY_EVENTS (k + a))) := fun a _ u => by
    unfold State.when
    split
    · exact (SampleKept.refl as u).raise _ _ hevents (by rw [sourceOf_ARRAY_EVENTS]; decide)
    · exact .refl as u
  have onset0 (old mask : Nat) : ∀ a < 6, ∀ u : State, SampleKept as u
      (u.when (mask.testBit a && !old.testBit a) (State.raise Reg.ARRAY_EVENTS a)) := fun a ha u => by
    have h0 := onset old mask 0 a ha u
    rwa [Nat.zero_add] at h0
  exact (((h.setF _ _ hstatus).setF _ _ hstatus).forUpTo (onset0 _ _)).forUpTo (onset _ _ 8)

theorem SampleKept.splitOnset {as : List Nat} {s t : State} (h : SampleKept as s t) (hevents : Reg.VOTE_EVENTS ∈ as)
    (hcounts : Reg.VOTE_COUNTS ∈ as) (tick began : Nat) : SampleKept as s (t.splitOnset tick began) := by
  unfold State.splitOnset
  split
  · exact h
  · exact ((h.hold _ _ _).raise _ _ hevents (by decide)).addSat _ _ hcounts

/-! ### A committed sample in the pair (R336 to R338) -/

/-- The registers that a committed sample changes in the pair. -/
def pairSampleRegs : List Nat := [Reg.PAIR_DELTA, Reg.PAIR_STATE, Reg.PAIR_NOISE, Reg.PAIR_COUNTS, Reg.PAIR_EVENTS]

theorem SampleKept.openNext {as : List Nat} (n : Nat) (s : State) : SampleKept as s (s.openNext n) := by
  unfold State.openNext
  split
  · exact .refl as s
  · exact (SampleKept.refl as s).putEng _

/-- ALPHA goes into the sample of its tick: its tick stays. -/
theorem SampleKept.alphaReady {as : List Nat} {s t : State} (h : SampleKept as s t) (tick : Nat) (alpha : List Word) :
    SampleKept as s (t.alphaReady tick alpha) := by
  unfold State.alphaReady
  extract_lets put u v
  have hu : SampleKept as t u := by
    refine ⟨rfl, rfl, ?_, fun k hk => ⟨k, hk, rfl, rfl, rfl⟩, .of_regs rfl⟩
    have hput (f : Fused) : (put f).tick = f.tick := by
      simp only [put]
      split <;> rfl
    show (t.committed.map put).map (·.tick) = t.committed.map (·.tick)
    rw [Option.map_map]
    exact congrArg (Option.map · t.committed) (funext hput)
  exact (((h.trans hu).putEng _).forUpTo fun n _ w => .openNext n w)

theorem SampleKept.formPair {as : List Nat} {s t : State} (h : SampleKept as s t) (hs : ∀ a ∈ pairSampleRegs, a ∈ as)
    (w : PairWait) (c : Contrib) : SampleKept as s (t.formPair w c) := by
  unfold State.formPair
  extract_lets f g formed x axes alpha clip tick u v v' v''
  have hu : SampleKept as s u := h.hold _ _ _
  have hv : SampleKept as s v := (hu.setReg _ _ (hs _ (by decide))).setF _ _ (hs _ (by decide))
  have hv' : SampleKept as s v' := hv.setReg _ _ (hs _ (by decide))
  exact (hv'.putPair _).alphaReady _ _

theorem SampleKept.dropOldContribs {as : List Nat} {s t : State} (h : SampleKept as s t)
    (hs : ∀ a ∈ pairSampleRegs, a ∈ as) (stamp : Int) : SampleKept as s (t.dropOldContribs stamp) := by
  unfold State.dropOldContribs
  exact (h.putPair _).forUpTo fun _ _ u =>
    ((SampleKept.refl as u).addSat _ _ (hs _ (by decide))).raise _ _ (hs _ (by decide)) (by decide)

theorem SampleKept.pairSample {as : List Nat} {s t : State} (h : SampleKept as s t) (hs : ∀ a ∈ pairSampleRegs, a ∈ as)
    (values omega : List Rat) (before : Option (List Rat)) (own : Fused) :
    SampleKept as s (t.pairSample values omega before own) := by
  unfold State.pairSample
  extract_lets tick stamp body part u part' v wait part'' w w' part₃
  have hu : SampleKept as s u := by
    simp only [u]
    split
    · exact h.putPair _
    · exact h
  have hv : SampleKept as s v := hu.putPair _
  split
  · have hw : SampleKept as s w' := (hv.putPair _).dropOldContribs hs _
    split
    · exact (hw.putPair _).formPair hs _ _
    · exact hw
  · exact hv

end Sys2Proof.Machine

namespace Sys2Proof.Machine

/-! ### A path to SAFE off leaves the sample (R213, R221, R238) -/

theorem State.captureTrigger_storesOnly (s : State) (desc tick source machine : Nat) :
    StoresOnly s (s.captureTrigger desc tick source machine) := by
  unfold State.captureTrigger
  split
  · extract_lets from_ short start ring u v w x
    have hu : StoresOnly s u := rfl
    have hx : StoresOnly u x := (((((RegsOnly.setF u _ _).trans (.setF _ _ _)).trans (.setF _ _ _)).trans
      (.setF _ _ _)).trans (.raise _ _ _)).storesOnly
    exact (hu.trans hx).trans (State.commitOne_storesOnly _ _)
  · exact (RegsOnly.incSat s _).storesOnly

section
variable {as : List Nat} {s t : State} (h : SampleKept as s t) (hs : ∀ a ∈ safeRegs, a ∈ as)
include h

theorem SampleKept.ite {u : State} {c : Prop} [Decidable c] (hu : SampleKept as s u) :
    SampleKept as s (if c then t else u) := by
  split
  · exact h
  · exact hu

include hs

theorem SampleKept.emitStatus (tied : Bool) (r : Rec) : SampleKept as s (t.emitStatus tied r) :=
  (h.hold _ _ r).ite (h.commitAll (fun a ha => hs a (List.mem_append_right _ ha)) [r])

theorem SampleKept.safeEvents (cause next : Nat) : SampleKept as s (t.safeEvents cause next) := by
  have hevents : Reg.SAFE_EVENTS ∈ as := hs _ (by decide)
  have h₁ := ((h.raise Reg.SAFE_EVENTS 0 hevents (by decide)).addSat SAFE_COUNTS.TRIPS 1 (hs _ (by decide))).ite
    (c := next = TRIPPED) h
  have h₂ := (h₁.raise Reg.SAFE_EVENTS 2 hevents (by decide)).ite (c := cause = C_HEARTBEAT) h₁
  have h₃ := (h₂.raise Reg.SAFE_EVENTS 3 hevents (by decide)).ite
    (c := cause = C_READBACK_A ∨ cause = C_READBACK_B) h₂
  exact (h₃.raise Reg.SAFE_EVENTS 4 hevents (by decide)).ite (c := cause = C_CONTROL_RESET ∨ cause = C_MONITOR) h₃

theorem SampleKept.latchFault (cause next : Nat) : SampleKept as s (t.latchFault cause next) :=
  ((h.setF SAFE_MON_STATUS.FAULT_LATCHED _ (hs _ (by decide))).setF SAFE_MON_STATUS.FAULT_PIN _
    (hs _ (by decide))).ite h

omit hs in
theorem SampleKept.tripPins (next : Nat) : SampleKept as s (t.tripPins next) := by
  have pins (mask : Nat) : SampleKept as s (t.holdPins mask) := h.trans (.of_frame (.of_regs rfl) rfl rfl rfl rfl)
  exact (pins _).ite ((pins 63).ite h)

theorem SampleKept.tripCapture (next tick : Nat) : SampleKept as s (t.tripCapture next tick) :=
  (h.trans (.of_storesOnly (t.captureTrigger_storesOnly _ _ _ _) ((RegFrame.refl as t).captureTrigger
    (fun a ha => hs a (List.mem_append_right _ ha)) _ _ _ _))).ite h

theorem SampleKept.safeEnter (next cause reason origin tick : Nat) (tied : Bool) :
    SampleKept as s (t.safeEnter next cause reason origin tick tied) := by
  have hentered : SampleKept as s (t.entered next cause reason origin tick) :=
    h.trans (.of_frame ((t.entered_frame next cause reason origin tick).mono hs) rfl rfl rfl rfl)
  exact ((((hentered.emitStatus hs tied _).safeEvents hs cause next).latchFault hs cause next).tripPins
    next).tripCapture hs next tick

/-- A path that comes late may change what a waiting STATUS record says, but not its place or tick (R221). -/
theorem SampleKept.safePath (cause reason origin tick : Nat) (tied : Bool) :
    SampleKept as s (t.safePath cause reason origin tick tied) := by
  have late : SampleKept as s (t.when t.noon (State.incSat SAFE_COUNTS.LATE_REQ)) :=
    (h.addSat SAFE_COUNTS.LATE_REQ 1 (hs _ (by decide))).ite h
  unfold State.safePath
  extract_lets st u old new v
  split
  · exact h.safeEnter hs _ _ _ _ _ _
  split
  · exact h.safeEnter hs _ _ _ _ _ _
  split
  · exact h.safeEnter hs _ _ _ _ _ _
  split
  · have hv : SampleKept as s v :=
      late.trans (.of_frame (RegFrame.recordTrip (.refl _ _) hs _ _ _ _) rfl rfl rfl rfl)
    refine hv.trans ⟨rfl, rfl, rfl, fun k hk => ⟨_, List.mem_map_of_mem hk, ?_⟩, .of_regs rfl⟩
    split <;> exact ⟨rfl, rfl, rfl⟩
  · exact late

end

/-! ### Quorum loss (R93, R94) -/

/-- The registers that the loss of quorum may change. -/
def lossRegs : List Nat := Reg.VOTE_EVENTS :: safeRegs

theorem SampleKept.quorumLost {as : List Nat} {s t : State} (h : SampleKept as s t) (hs : ∀ a ∈ lossRegs, a ∈ as)
    (tick lost : Nat) : SampleKept as s (t.quorumLost tick lost) := by
  unfold State.quorumLost
  extract_lets u v
  split
  · exact h
  · have hv : SampleKept as s v := (h.hold _ _ _).raise _ _ (hs _ (by decide)) (by decide)
    exact (hv.safePath (fun a ha => hs a (List.mem_cons_of_mem _ ha)) _ _ _ _ _).ite hv

theorem nextOf_quorum (st : Nat) : nextOf C_QUORUM st = TRIPPED := by simp [nextOf]

/-- The loss of an axis named in SAFE_CFG takes both outputs off (R213). -/
theorem State.quorumLost_safeOff {s : State} (harmed : s.armed = true) {lost a : Nat} (hlost : lost.testBit a = true)
    (hnamed : (s.fld SAFE_CFG.QUORUM).testBit a = true) (tick : Nat) :
    (s.quorumLost tick lost).SafeOff ∧ (s.quorumLost tick lost).safeState ≠ ARMED := by
  let u := (s.hold 3 1 (healthRec 0x07 0x7F 0xFF 0 lost tick 0 0)).raise Reg.VOTE_EVENTS 3
  have hframe : RegFrame [Reg.VOTE_EVENTS] s u :=
    ((RegFrame.refl _ s).hold 3 1 _).raise Reg.VOTE_EVENTS 3 (by decide) (by decide)
  have hboth : lost &&& u.fld SAFE_CFG.QUORUM ≠ 0 := fun h0 => by
    have hbit := Nat.testBit_and lost (u.fld SAFE_CFG.QUORUM) a
    rw [h0, Nat.zero_testBit, hframe.fld SAFE_CFG.QUORUM (by decide) (by decide), hlost, hnamed] at hbit
    exact Bool.false_ne_true hbit
  have hne : lost ≠ 0 := fun h0 => by
    rw [h0, Nat.zero_testBit] at hlost
    exact Bool.false_ne_true hlost
  have hpath : s.quorumLost tick lost = u.safePath C_QUORUM 0 0xFF tick true := (if_neg hne).trans (if_pos hboth)
  obtain ⟨hoff, hstate, -⟩ := State.safePath_acts ((State.armed_of_frame hframe (by decide)).trans harmed) (by decide)
    (by decide) (nextOf_quorum _) tick true
  rw [hpath]
  exact ⟨hoff, by rw [hstate]; decide⟩

end Sys2Proof.Machine

namespace Sys2Proof.Machine

/-! ### The stages of a vote (R81 to R98)

`State.vote` in five stages: it opens (deltas and ranges in force, settling ended), its channels are scored, its triads
and axes judged, the registers of Table 4.7 follow, the fused sample is formed. Onsets of SPLIT and losses of quorum
come last. -/

/-- Deltas and ranges are in force, and the settling interval has ended. -/
def State.voteOpened (s : State) : State := s.boundary.endSettling

/-- The axis values of the consensus. -/
def State.voteValues (s : State) (t : Nat) (xs : List Sample) : List Rat := (s.voteOpened.formAxes t xs).1

/-- The interval since the last vote. -/
def State.voteInterval (s : State) (t : Nat) : Nat :=
  match s.voteOpened.array.lastVote with
  | some t0 => t - t0
  | none => 0

/-- Every channel has its residual and noise. -/
def State.voteScored (t : Nat) (xs : List Sample) (s : State) : State :=
  let f := s.voteOpened.formAxes t xs
  s.voteOpened.forUpTo (fun a v => v.voteAxisChans (s.voteInterval t) (f.1.getD a 0) (f.2.getD a [])) 6

/-- The axes that are SPLIT at the sample. -/
def State.splitNow (s : State) (t : Nat) (xs : List Sample) : Nat := axisMask fun a => s.axisSplit t xs a

/-- A triad after a vote; `s` has the channels' scores. -/
def State.judgedTriad (s : State) (t dt : Nat) (xs : List Sample) (k : Nat) : Triad :=
  let tr := s.triad k
  if tr.state = HEALTHY ∨ tr.state = SUSPECT_ then
    let mask := s.devMask xs k
    let satAll := (List.range 3).all fun a => !tr.devCh.testBit a || (sampleAt xs (3 * k + a)).2
    let paused := (List.range 6).any fun a => (s.splitNow t xs).testBit a && triadOnAxis k a (mask ||| tr.devCh)
    stepTriad t dt s.devWindow mask (s.devCause k) satAll paused (s.peakOf k) tr
  else tr

/-- An axis after a vote. -/
def State.judgedAxis (s : State) (t : Nat) (xs : List Sample) (values : List Rat) (a : Nat) : Axis :=
  stepAxis t (values.getD a 0) (quorumOf (s.contributes t) (decide (3 ≤ a))) ((s.splitNow t xs).testBit a) (s.axis a)

/-- Triads and axes after a vote. -/
def State.voteJudged (t dt : Nat) (xs : List Sample) (values : List Rat) (s : State) : State :=
  s.putArray { s.array with
    triads := (List.range 72).map (s.judgedTriad t dt xs)
    axes := (List.range 6).map (s.judgedAxis t xs values)
    lastVote := some t }

/-- The committed sample from the consensus: mounted, with its flags (R15, R60, R61, R64). -/
def State.voteFused (s : State) (t : Nat) (xs : List Sample) (values : List Rat) : Fused :=
  let m := s.mount t values s.commMem
  let sat := axisMask fun a => !(s.axisSat t xs a).isEmpty
  let clip := axisMask fun a => clips s.array.accRange s.array.gyrRange a (m.1.getD a 0)
  let uncomp := (List.range 72).any fun k => s.contributes t k && s.array.uncomp.testBit (dieOf k)
  { tick := t, axes := m.1, status := s.statusWord sat clip uncomp }

/-- The fused sample stands as the last committed one, and the path remembers it. -/
def State.voteCommitted (t : Nat) (xs : List Sample) (values : List Rat) (s : State) : State :=
  { s with
    committed := some (s.voteFused t xs values)
    commMem := some { (s.mount t values s.commMem).2 with axes := values } }

/-- The sample's onsets of SAT and CLIP have been reported (Table 3.12). -/
def State.voteFlagged (t : Nat) (xs : List Sample) (values : List Rat) (s : State) : State :=
  let sat := axisMask fun a => !(s.axisSat t xs a).isEmpty
  let clip := axisMask fun a => clips s.array.accRange s.array.gyrRange a ((s.mount t values s.commMem).1.getD a 0)
  (s.voteCommitted t xs values).flagEvents sat clip

/-- The SAMPLE record waits, unless a PAIRSAMPLE takes its place. -/
def State.voteSampled (t : Nat) (f : Fused) (s : State) : State :=
  if s.forewingPaired t then s else s.hold 1 0 (s.sampleRec f)

/-- The CELL record of the selected triad waits (R98). -/
def State.voteCell (t : Nat) (xs : List Sample) (s : State) : State :=
  let k : Nat := s.fld VOTE_CTRL.CELL_TRIAD
  if s.on VOTE_CTRL.CELL_EN ∧ k < 72 then
    s.hold 2 0 (s.cellRec t k xs fun c => s.withDelta c (sampleAt xs c).1)
  else s

/-- The fused sample is formed, and its records wait; `s` has the judged array. -/
def State.voteFormed (t : Nat) (xs : List Sample) (values : List Rat) (s : State) : State :=
  let f := s.voteFused t xs values
  (((s.voteFlagged t xs values).voteSampled t f).pairSample values (s.mount t values s.commMem).2.omega
    (s.commMem.map (·.omega)) f).voteCell t xs

/-- Axes that were not INVALID before a vote and are after it. -/
def State.axesLost (s u : State) : Nat := axisMask fun a => (s.axis a).validity != 2 && (u.axis a).validity == 2

/-- The judged array of a vote. -/
def State.voteResult (t : Nat) (xs : List Sample) (s : State) : State :=
  (s.voteScored t xs).voteJudged t (s.voteInterval t) xs (s.voteValues t xs)

/-- VOTE_STATUS, VOTE_QUORUM and VOTE_NOISE follow the judged array. -/
def State.voteReported (t : Nat) (xs : List Sample) (s : State) : State :=
  (s.voteResult t xs).syncVoteStatus.syncQuorum t

/-- The axes that begin to be SPLIT. -/
def State.splitBegan (s : State) (t : Nat) (xs : List Sample) : Nat :=
  axisMask fun a => !(s.axis a).split && (s.splitNow t xs).testBit a

/-- A vote up to the loss of quorum. -/
def State.voteRecorded (t : Nat) (xs : List Sample) (s : State) : State :=
  ((s.voteReported t xs).voteFormed t xs (s.voteValues t xs)).splitOnset t ((s.voteScored t xs).splitBegan t xs)

theorem State.vote_eq (t : Nat) (xs : List Sample) (s : State) :
    s.vote t xs = (s.voteRecorded t xs).quorumLost t ((s.voteScored t xs).axesLost (s.voteResult t xs)) := rfl

/-! ### Channels (R65, R84, R85) -/

/-- Nothing is changed but the channels of the array. -/
def ChansOnly (s t : State) : Prop := t = { s with array := { s.array with chans := t.array.chans } }

theorem ChansOnly.refl (s : State) : ChansOnly s s := rfl

theorem ChansOnly.trans {s t u : State} (h : ChansOnly s t) (k : ChansOnly t u) : ChansOnly s u := by
  unfold ChansOnly at *
  rw [k, h]

theorem ChansOnly.setChan (s : State) (c : Nat) (f : Chan → Chan) : ChansOnly s (s.setChan c f) := rfl

theorem State.chan_setChan (s : State) (c j : Nat) (f : Chan → Chan) :
    (s.setChan c f).chan j = if j = c ∧ c < s.array.chans.length then f (s.chan c) else s.chan j := by
  unfold State.chan State.setChan State.putArray
  rw [List.getD_eq_getElem?_getD, List.getElem?_set]
  by_cases hj : c = j
  · subst hj
    by_cases hc : c < s.array.chans.length
    · simp [hc, State.chan]
    · simp [hc]
  · rw [if_neg hj, if_neg fun h => hj h.1.symm, List.getD_eq_getElem?_getD]

/-- Only the scores of channels are changed: their deltas stay. -/
structure ScoresOnly (s t : State) : Prop where
  chans : ChansOnly s t
  deltas : ∀ c, (t.chan c).dBias = (s.chan c).dBias ∧ (t.chan c).dScale = (s.chan c).dScale

theorem ScoresOnly.refl (s : State) : ScoresOnly s s := ⟨.refl s, fun _ => ⟨rfl, rfl⟩⟩

theorem ScoresOnly.trans {s t u : State} (h : ScoresOnly s t) (k : ScoresOnly t u) : ScoresOnly s u :=
  ⟨h.chans.trans k.chans, fun c => ⟨(k.deltas c).1.trans (h.deltas c).1, (k.deltas c).2.trans (h.deltas c).2⟩⟩

theorem ScoresOnly.setChan (s : State) (c : Nat) {f : Chan → Chan}
    (hf : ∀ ch, (f ch).dBias = ch.dBias ∧ (f ch).dScale = ch.dScale) : ScoresOnly s (s.setChan c f) := by
  refine ⟨.setChan s c f, fun j => ?_⟩
  rw [State.chan_setChan]
  split
  · next h =>
    rw [h.1]
    exact hf _
  · exact ⟨rfl, rfl⟩

theorem ScoresOnly.each {α : Type} {f : α → State → State} (hf : ∀ x u, ScoresOnly u (f x u)) :
    ∀ (xs : List α) (u : State), ScoresOnly u (u.each f xs)
  | [], u => .refl u
  | x :: xs, u => (hf x u).trans (ScoresOnly.each hf xs _)

theorem ScoresOnly.forUpTo {f : Nat → State → State} (hf : ∀ k u, ScoresOnly u (f k u)) :
    ∀ (n : Nat) (u : State), ScoresOnly u (u.forUpTo f n)
  | 0, u => .refl u
  | n + 1, u => (ScoresOnly.forUpTo hf n u).trans (hf n _)

theorem voteChan_deltas (ticks : Nat) (c m : Rat) (v : Voter) (ch : Chan) :
    (voteChan ticks c m v ch).dBias = ch.dBias ∧ (voteChan ticks c m v ch).dScale = ch.dScale := ⟨rfl, rfl⟩

theorem State.voteAxisChans_scoresOnly (ticks : Nat) (c : Rat) (vs : List Voter) (s : State) :
    ScoresOnly s (s.voteAxisChans ticks c vs) := by
  unfold State.voteAxisChans
  exact ScoresOnly.each (fun v u => .setChan u v.ch (voteChan_deltas ticks c (medianOf vs) v)) vs s

theorem State.voteScored_scoresOnly (t : Nat) (xs : List Sample) (s : State) :
    ScoresOnly s.voteOpened (s.voteScored t xs) := by
  unfold State.voteScored
  exact ScoresOnly.forUpTo (fun _ u => u.voteAxisChans_scoresOnly _ _ _) 6 _

/-! ### The boundary of a sample (R61, R65, R114) -/

/-- The deltas that wait are in force. -/
def State.deltasTaken (s : State) : State :=
  s.each (fun d s => s.setChan d.1 fun ch => { ch with dBias := d.2.1, dScale := d.2.2 }) s.array.newDeltas

theorem State.deltasTaken_chansOnly (s : State) : ChansOnly s s.deltasTaken := by
  have each : ∀ (ds : List (Nat × Int × Int)) (u : State),
      ChansOnly u (u.each (fun d s => s.setChan d.1 fun ch => { ch with dBias := d.2.1, dScale := d.2.2 }) ds) := by
    intro ds
    induction ds with
    | nil => exact .refl
    | cons d ds ih => exact fun u => (ChansOnly.setChan u d.1 _).trans (ih _)
  exact each _ s

/-- What stands once a vote is open: the ranges of the register in force, no delta waiting, no settling interval. -/
theorem State.voteOpened_array (s : State) :
    s.voteOpened.array = { s.array with
      chans := s.deltasTaken.array.chans, newDeltas := []
      accRange := s.fld ARRAY_RANGE.ACC_RANGE, gyrRange := s.fld ARRAY_RANGE.GYR_RANGE } := by
  have h : s.voteOpened.array = { s.deltasTaken.array with
      newDeltas := []
      accRange := s.deltasTaken.fld ARRAY_RANGE.ACC_RANGE, gyrRange := s.deltasTaken.fld ARRAY_RANGE.GYR_RANGE } := rfl
  rw [h, s.deltasTaken_chansOnly]
  rfl

theorem State.voteOpened_regFrame (s : State) : RegFrame [Reg.FILT_STATUS] s s.voteOpened := by
  have hregs : s.boundary.regs = s.regs := by
    have h : s.boundary.regs = s.deltasTaken.regs := rfl
    rw [h, s.deltasTaken_chansOnly]
  have hended : RegFrame [Reg.FILT_STATUS] s { s.boundary with filt := { s.boundary.filt with settling := none } } :=
    .of_regs hregs
  exact hended.setF FILT_STATUS.SETTLING 0 (.inl (by decide))

theorem State.voteOpened_chan {s : State} {d : Nat × Int × Int} (h : s.array.newDeltas = [d])
    (hd : d.1 < s.array.chans.length) :
    (s.voteOpened.chan d.1).dBias = d.2.1 ∧ (s.voteOpened.chan d.1).dScale = d.2.2 := by
  have hchan : s.voteOpened.chan d.1 = s.deltasTaken.chan d.1 := rfl
  rw [hchan, State.deltasTaken, h, State.each, State.each, State.chan_setChan, if_pos ⟨rfl, hd⟩]
  exact ⟨rfl, rfl⟩

/-! ### Triads that contribute (R83) -/

theorem State.contributes_congr {s u : State} {k : Nat} (hstate : (u.triad k).state = (s.triad k).state)
    (hfault : (u.triad k).driveFault = (s.triad k).driveFault) (hvalid : (u.triad k).validFrom = (s.triad k).validFrom)
    (hlock : u.fld DRIVE_STATUS.LOCKED = s.fld DRIVE_STATUS.LOCKED) (t : Nat) :
    u.contributes t k = s.contributes t k := by
  simp only [State.contributes, State.driven, hstate, hfault, hvalid, hlock]

/-- Deviance and timers leave what makes a triad contribute. -/
theorem stepTriad_kept (t dt window mask cause : Nat) (allSat paused : Bool) (peak : Rat × Nat) (tr : Triad) :
    let x := stepTriad t dt window mask cause allSat paused peak tr
    x.state = tr.state ∧ x.driveFault = tr.driveFault ∧ x.validFrom = tr.validFrom := by
  unfold stepTriad
  dsimp only
  split_ifs <;> exact ⟨rfl, rfl, rfl⟩

theorem State.judgedTriad_kept (s : State) (t dt : Nat) (xs : List Sample) (k : Nat) :
    (s.judgedTriad t dt xs k).state = (s.triad k).state ∧
      (s.judgedTriad t dt xs k).driveFault = (s.triad k).driveFault ∧
      (s.judgedTriad t dt xs k).validFrom = (s.triad k).validFrom := by
  unfold State.judgedTriad
  extract_lets tr mask satAll paused
  split
  · exact stepTriad_kept _ _ _ _ _ _ _ _ _
  · exact ⟨rfl, rfl, rfl⟩

end Sys2Proof.Machine

namespace Sys2Proof.Machine

/-! ### What a vote judges (R83, R92 to R94) -/

section
variable (s : State) (t : Nat) (xs : List Sample)

theorem State.voteScored_regFrame : RegFrame [Reg.FILT_STATUS] s (s.voteScored t xs) :=
  s.voteOpened_regFrame.regs (by rw [(s.voteScored_scoresOnly t xs).chans])

theorem State.voteScored_triad (k : Nat) : (s.voteScored t xs).triad k = s.triad k := by
  unfold State.triad
  rw [(s.voteScored_scoresOnly t xs).chans]
  show s.voteOpened.array.triads.getD k defaultTriad = _
  rw [s.voteOpened_array]

theorem State.voteScored_axis (a : Nat) : (s.voteScored t xs).axis a = s.axis a := by
  unfold State.axis
  rw [(s.voteScored_scoresOnly t xs).chans]
  show s.voteOpened.array.axes.getD a defaultAxis = _
  rw [s.voteOpened_array]

theorem State.voteScored_contributes (tick k : Nat) :
    (s.voteScored t xs).contributes tick k = s.contributes tick k := by
  have htriad := s.voteScored_triad t xs k
  exact State.contributes_congr (by rw [htriad]) (by rw [htriad]) (by rw [htriad])
    ((s.voteScored_regFrame t xs).fld _ (by decide) (by decide)) tick

theorem State.voteResult_axis {a : Nat} (ha : a < 6) :
    (s.voteResult t xs).axis a = (s.voteScored t xs).judgedAxis t xs (s.voteValues t xs) a :=
  getD_map_range ((s.voteScored t xs).judgedAxis t xs (s.voteValues t xs)) defaultAxis ha

/-- An axis after a vote: INVALID at once without quorum, and INVALID as long as it was; its value is the consensus. -/
theorem State.voteResult_axis_result {a : Nat} (ha : a < 6) :
    (quorumOf (s.contributes t) (decide (3 ≤ a)) = false → ((s.voteResult t xs).axis a).validity = 2) ∧
      ((s.axis a).validity = 2 → ((s.voteResult t xs).axis a).validity = 2) ∧
      ((s.voteResult t xs).axis a).value = (s.voteValues t xs).getD a 0 := by
  have hcontrib : (s.voteScored t xs).contributes t = s.contributes t := funext (s.voteScored_contributes t xs t)
  rw [s.voteResult_axis t xs ha, State.judgedAxis, hcontrib, s.voteScored_axis t xs]
  refine ⟨fun hquorum => ?_, fun hinvalid => ?_, rfl⟩
  · rw [hquorum]
    rfl
  · simp only [stepAxis, hinvalid, if_true, ite_self]

theorem State.voteResult_triad {k : Nat} (hk : k < 72) :
    ((s.voteResult t xs).triad k).state = (s.triad k).state ∧
      ((s.voteResult t xs).triad k).driveFault = (s.triad k).driveFault ∧
      ((s.voteResult t xs).triad k).validFrom = (s.triad k).validFrom := by
  have hjudged : (s.voteResult t xs).triad k = (s.voteScored t xs).judgedTriad t (s.voteInterval t) xs k :=
    getD_map_range ((s.voteScored t xs).judgedTriad t (s.voteInterval t) xs) defaultTriad hk
  rw [hjudged, ← s.voteScored_triad t xs k]
  exact State.judgedTriad_kept _ _ _ _ _

theorem State.voteResult_regFrame : RegFrame [Reg.FILT_STATUS] s (s.voteResult t xs) :=
  (s.voteScored_regFrame t xs).putArray _

theorem State.voteResult_contributes {k : Nat} (hk : k < 72) :
    (s.voteResult t xs).contributes t k = s.contributes t k := by
  obtain ⟨hstate, hfault, hvalid⟩ := s.voteResult_triad t xs hk
  exact State.contributes_congr hstate hfault hvalid ((s.voteResult_regFrame t xs).fld _ (by decide) (by decide)) t

theorem State.voteResult_filt : (s.voteResult t xs).filt.settling = none := by
  have hfilt : (s.voteResult t xs).filt = (s.voteScored t xs).filt := rfl
  rw [hfilt, (s.voteScored_scoresOnly t xs).chans]
  rfl

theorem State.voteResult_ranges :
    (s.voteResult t xs).array.newDeltas = [] ∧ (s.voteResult t xs).array.accRange = s.fld ARRAY_RANGE.ACC_RANGE ∧
      (s.voteResult t xs).array.gyrRange = s.fld ARRAY_RANGE.GYR_RANGE := by
  have hdeltas : (s.voteResult t xs).array.newDeltas = (s.voteScored t xs).array.newDeltas := rfl
  have hacc : (s.voteResult t xs).array.accRange = (s.voteScored t xs).array.accRange := rfl
  have hgyr : (s.voteResult t xs).array.gyrRange = (s.voteScored t xs).array.gyrRange := rfl
  rw [hdeltas, hacc, hgyr, (s.voteScored_scoresOnly t xs).chans]
  show s.voteOpened.array.newDeltas = _ ∧ s.voteOpened.array.accRange = _ ∧ s.voteOpened.array.gyrRange = _
  rw [s.voteOpened_array]
  exact ⟨rfl, rfl, rfl⟩

theorem State.voteResult_chan {d : Nat × Int × Int} (h : s.array.newDeltas = [d]) (hd : d.1 < s.array.chans.length) :
    ((s.voteResult t xs).chan d.1).dBias = d.2.1 ∧ ((s.voteResult t xs).chan d.1).dScale = d.2.2 := by
  have hchan : (s.voteResult t xs).chan d.1 = (s.voteScored t xs).chan d.1 := rfl
  obtain ⟨hbias, hscale⟩ := (s.voteScored_scoresOnly t xs).deltas d.1
  obtain ⟨hb, hs⟩ := State.voteOpened_chan h hd
  rw [hchan]
  exact ⟨hbias.trans hb, hscale.trans hs⟩

/-! ### VOTE_QUORUM (Table 4.7) -/

/-- VOTE_QUORUM counts the triads that contribute. -/
theorem State.syncQuorum_counts (u : State) :
    (u.syncQuorum t).fld VOTE_QUORUM.ACC_COUNT = ((List.range 48).filter (u.contributes t)).length ∧
      (u.syncQuorum t).fld VOTE_QUORUM.GYR_COUNT =
        ((List.range 24).filter fun j => u.contributes t (48 + j)).length := by
  have hacc : ((List.range 48).filter (u.contributes t)).length ≤ 48 :=
    (List.length_filter_le _ _).trans_eq List.length_range
  have hgyr : ((List.range 24).filter fun j => u.contributes t (48 + j)).length ≤ 24 :=
    (List.length_filter_le _ _).trans_eq List.length_range
  unfold State.syncQuorum
  extract_lets acc gyr pairs dies v w
  constructor
  · simp (disch := decide) only [v, w, State.fld_setF_other, State.fld_setF_same]
    exact Nat.mod_eq_of_lt (Nat.lt_of_le_of_lt hacc (by decide))
  · simp (disch := decide) only [v, w, State.fld_setF_other, State.fld_setF_same]
    exact Nat.mod_eq_of_lt (Nat.lt_of_le_of_lt hgyr (by decide))

/-- The registers of Table 4.7. -/
def reportRegs : List Nat := [Reg.VOTE_STATUS, Reg.VOTE_QUORUM, Reg.VOTE_NOISE]

theorem RegFrame.syncQuorum {as : List Nat} {s u : State} (h : RegFrame as s u) (hq : Reg.VOTE_QUORUM ∈ as)
    (hn : Reg.VOTE_NOISE ∈ as) (t : Nat) : RegFrame as s (u.syncQuorum t) :=
  (((((h.setF _ _ (.inl hq)).setF _ _ (.inl hq)).setF _ _ (.inl hq)).setF _ _ (.inl hq)).setF _ _ (.inl hn)).setF _ _
    (.inl hn)

theorem State.voteReported_regFrame : RegFrame (Reg.FILT_STATUS :: reportRegs) s (s.voteReported t xs) :=
  RegFrame.syncQuorum (RegFrame.syncVoteStatus ((s.voteResult_regFrame t xs).mono (by decide)) (by decide)) (by decide)
    (by decide) t

theorem State.voteReported_counts :
    (s.voteReported t xs).fld VOTE_QUORUM.ACC_COUNT = ((List.range 48).filter (s.contributes t)).length ∧
      (s.voteReported t xs).fld VOTE_QUORUM.GYR_COUNT =
        ((List.range 24).filter fun j => s.contributes t (48 + j)).length := by
  have hsame {k : Nat} (hk : k < 72) : (s.voteResult t xs).syncVoteStatus.contributes t k = s.contributes t k := by
    rw [← s.voteResult_contributes t xs hk]
    exact State.contributes_congr (s := s.voteResult t xs) (u := (s.voteResult t xs).syncVoteStatus) rfl rfl rfl
      (((RegFrame.refl [Reg.VOTE_STATUS] _).syncVoteStatus (by decide)).fld _ (by decide) (by decide)) t
  obtain ⟨hacc, hgyr⟩ := (s.voteResult t xs).syncVoteStatus.syncQuorum_counts t
  refine ⟨hacc.trans (congrArg _ (List.filter_congr fun k hk => hsame ?_)),
    hgyr.trans (congrArg _ (List.filter_congr fun j hj => hsame ?_))⟩
  · have := List.mem_range.mp hk
    omega
  · have := List.mem_range.mp hj
    omega

/-! ### The fused sample and its records (R231, R338) -/

/-- The registers of SAT and CLIP. -/
def flagRegs : List Nat := [Reg.ARRAY_STATUS, Reg.ARRAY_EVENTS]

/-- The registers that the records and events of a fused sample may change. -/
def formRegs : List Nat := flagRegs ++ [Reg.VOTE_EVENTS, Reg.VOTE_COUNTS] ++ pairSampleRegs

theorem SampleKept.voteCell {as : List Nat} {s u : State} (h : SampleKept as s u) (t : Nat) (xs : List Sample) :
    SampleKept as s (u.voteCell t xs) := (h.hold _ _ _).ite h

theorem SampleKept.voteSampled {as : List Nat} {s u : State} (h : SampleKept as s u) (t : Nat) (f : Fused) :
    SampleKept as s (u.voteSampled t f) := h.ite (h.hold _ _ _)

theorem State.voteFlagged_kept (values : List Rat) :
    SampleKept flagRegs (s.voteCommitted t xs values) (s.voteFlagged t xs values) :=
  (SampleKept.refl _ _).flagEvents (by decide) (by decide) _ _

/-- The state in which the SAMPLE record of a vote has just begun to wait. -/
def State.voteHeld : State :=
  ((s.voteReported t xs).voteFlagged t xs (s.voteValues t xs)).voteSampled t
    ((s.voteReported t xs).voteFused t xs (s.voteValues t xs))

theorem State.voteRecorded_kept : SampleKept formRegs (s.voteHeld t xs) (s.voteRecorded t xs) :=
  (((SampleKept.refl _ _).pairSample (fun _ ha => List.mem_append_right _ ha) _ _ _ _).voteCell t xs).splitOnset
    (by decide) (by decide) t _

theorem State.voteHeld_kept :
    SampleKept formRegs ((s.voteReported t xs).voteCommitted t xs (s.voteValues t xs)) (s.voteHeld t xs) :=
  (((s.voteReported t xs).voteFlagged_kept t xs _).mono (by decide)).voteSampled t _

theorem State.vote_kept : SampleKept (formRegs ++ lossRegs) (s.voteHeld t xs) (s.vote t xs) := by
  rw [s.vote_eq]
  exact ((s.voteRecorded_kept t xs).mono fun _ ha => List.mem_append_left _ ha).quorumLost
    (fun _ ha => List.mem_append_right _ ha) t _

/-- The tick of the boundary is one value of two registers. -/
theorem State.boundaryTick_of_frame {as : List Nat} {s u : State} (h : RegFrame as s u)
    (hlo : Reg.PAIR_BOUNDARY_LO ∉ as) (hhi : Reg.PAIR_BOUNDARY_HI ∉ as) : u.boundaryTick = s.boundaryTick := by
  simp only [State.boundaryTick, h _ hlo (by decide), h _ hhi (by decide)]

theorem State.forewingPaired_of_frame {as : List Nat} {s u : State} (h : RegFrame as s u) (hstate : Reg.PAIR_STATE ∉ as)
    (hlo : Reg.PAIR_BOUNDARY_LO ∉ as) (hhi : Reg.PAIR_BOUNDARY_HI ∉ as) (t : Nat) :
    u.forewingPaired t = s.forewingPaired t := by
  rw [State.forewingPaired, State.forewingPaired, State.boundaryTick_of_frame h hlo hhi, State.pairState,
    State.pairRole, h.fld PAIR_STATE.STATE hstate (by decide), h.fld PAIR_STATE.ROLE hstate (by decide)]
  rfl

end

end Sys2Proof.Machine

namespace Sys2Proof.Machine

/-! ### A vote from end to end (R81 to R98) -/

section
variable (s : State) (t : Nat) (xs : List Sample)

theorem State.voteCommitted_regFrame (as : List Nat) (values : List Rat) :
    RegFrame as s (s.voteCommitted t xs values) := .of_regs rfl

theorem State.voteCommitted_result (values : List Rat) :
    (s.voteCommitted t xs values).array = s.array ∧ (s.voteCommitted t xs values).filt = s.filt ∧
      (s.voteCommitted t xs values).committed.map (·.tick) = some t := ⟨rfl, rfl, rfl⟩

theorem RegsOnly.syncVoteStatus (s : State) : RegsOnly s s.syncVoteStatus := rfl

theorem RegsOnly.syncQuorum (s : State) (t : Nat) : RegsOnly s (s.syncQuorum t) := rfl

theorem State.voteReported_regsOnly : RegsOnly (s.voteResult t xs) (s.voteReported t xs) :=
  (RegsOnly.syncVoteStatus _).trans (.syncQuorum _ t)

theorem State.voteResult_lastVote : (s.voteResult t xs).array.lastVote = some t := rfl

/-- What flags and records the committed sample changes only registers and records. -/
theorem State.vote_kept_of_committed :
    SampleKept (formRegs ++ lossRegs) ((s.voteReported t xs).voteCommitted t xs (s.voteValues t xs)) (s.vote t xs) :=
  ((s.voteHeld_kept t xs).mono fun _ ha => List.mem_append_left _ ha).trans (s.vote_kept t xs)

/-- The array, the filters and the tick of the sample are as the vote has put them. -/
theorem State.vote_result :
    (s.vote t xs).array = (s.voteResult t xs).array ∧ (s.vote t xs).filt = (s.voteResult t xs).filt ∧
      (s.vote t xs).committed.map (·.tick) = some t := by
  have hreported := s.voteReported_regsOnly t xs
  have h := s.vote_kept_of_committed t xs
  obtain ⟨harray, hfilt, htick⟩ := (s.voteReported t xs).voteCommitted_result t xs (s.voteValues t xs)
  refine ⟨h.array.trans (harray.trans ?_), h.filt.trans (hfilt.trans ?_), h.sampled.trans htick⟩
  · rw [hreported]
  · rw [hreported]

theorem State.vote_triad (k : Nat) : (s.vote t xs).triad k = (s.voteResult t xs).triad k := by
  rw [State.triad, State.triad, (s.vote_result t xs).1]

theorem State.vote_axis (a : Nat) : (s.vote t xs).axis a = (s.voteResult t xs).axis a := by
  rw [State.axis, State.axis, (s.vote_result t xs).1]

theorem State.vote_chan (c : Nat) : (s.vote t xs).chan c = (s.voteResult t xs).chan c := by
  rw [State.chan, State.chan, (s.vote_result t xs).1]

/-- No later stage changes VOTE_QUORUM. -/
theorem State.vote_counts :
    (s.vote t xs).fld VOTE_QUORUM.ACC_COUNT = ((List.range 48).filter (s.contributes t)).length ∧
      (s.vote t xs).fld VOTE_QUORUM.GYR_COUNT = ((List.range 24).filter fun j => s.contributes t (48 + j)).length := by
  have hframe : RegFrame (formRegs ++ lossRegs) (s.voteReported t xs) (s.vote t xs) :=
    (State.voteCommitted_regFrame _ t xs _ _).trans (s.vote_kept_of_committed t xs).frame
  obtain ⟨hacc, hgyr⟩ := s.voteReported_counts t xs
  exact ⟨(hframe.fld VOTE_QUORUM.ACC_COUNT (by decide) (by decide)).trans hacc,
    (hframe.fld VOTE_QUORUM.GYR_COUNT (by decide) (by decide)).trans hgyr⟩

/-! ### The SAMPLE record (R231, R337) -/

theorem State.voteFlagged_regFrame (values : List Rat) :
    RegFrame (Reg.FILT_STATUS :: reportRegs ++ flagRegs) s ((s.voteReported t xs).voteFlagged t xs values) :=
  ((s.voteReported_regFrame t xs).mono (by decide)).trans
    ((State.voteCommitted_regFrame _ t xs _ _).trans
      (((s.voteReported t xs).voteFlagged_kept t xs values).frame.mono (by decide)))

/-- Without a pair the SAMPLE record of the tick waits, and stays. -/
theorem State.vote_held (h : s.forewingPaired t = false) :
    ∃ k ∈ (s.vote t xs).held, k.rank = 1 ∧ k.typ = T_SAMPLE ∧ k.tick = t := by
  have hpaired := (State.forewingPaired_of_frame (s.voteFlagged_regFrame t xs (s.voteValues t xs)) (by decide)
    (by decide) (by decide) t).trans h
  have hheld : s.voteHeld t xs = ((s.voteReported t xs).voteFlagged t xs (s.voteValues t xs)).hold 1 0
      (((s.voteReported t xs).voteFlagged t xs (s.voteValues t xs)).sampleRec
        ((s.voteReported t xs).voteFused t xs (s.voteValues t xs))) := by
    rw [State.voteHeld, State.voteSampled, hpaired]
    rfl
  have hlast := (s.vote_kept t xs).held
  rw [hheld] at hlast
  exact hlast _ (List.mem_append_right _ (List.mem_singleton.mpr rfl))

/-! ### Loss of quorum (R93, R213) -/

theorem State.voteRecorded_regFrame :
    RegFrame (Reg.FILT_STATUS :: reportRegs ++ formRegs) s (s.voteRecorded t xs) :=
  ((s.voteReported_regFrame t xs).mono (by decide)).trans
    ((State.voteCommitted_regFrame _ t xs _ _).trans
      (((s.voteHeld_kept t xs).trans (s.voteRecorded_kept t xs)).frame.mono (by decide)))

/-- An axis that the vote makes INVALID takes both outputs off, if SAFE_CFG names it. -/
theorem State.vote_safeOff (harmed : s.armed = true) {a : Nat} (ha : a < 6)
    (hnamed : s.on (bitF Reg.SAFE_CFG (8 + a)) = true) (hbefore : (s.axis a).validity ≠ 2)
    (hafter : ((s.voteResult t xs).axis a).validity = 2) :
    (s.vote t xs).SafeOff ∧ (s.vote t xs).safeState ≠ ARMED := by
  have hframe := s.voteRecorded_regFrame t xs
  have hlost : ((s.voteScored t xs).axesLost (s.voteResult t xs)).testBit a = true := by
    rw [State.axesLost, testBit_axisMask _ ha, s.voteScored_axis t xs, hafter, bne_iff_ne.mpr hbefore]
    rfl
  have hquorum : ((s.voteRecorded t xs).fld SAFE_CFG.QUORUM).testBit a = true := by
    rw [hframe.fld SAFE_CFG.QUORUM (by decide) (by decide), ← s.on_bitF_eq_testBit SAFE_CFG.QUORUM ha]
    exact hnamed
  rw [s.vote_eq]
  exact State.quorumLost_safeOff ((State.armed_of_frame hframe (by decide)).trans harmed) hlost hquorum t

end

/-! ### COMMITTED_VOTE -/

theorem State.when_true (f : State → State) (s : State) : s.when true f = f s := if_pos rfl

theorem State.when_false (f : State → State) (s : State) : s.when false f = s := if_neg Bool.false_ne_true

theorem exec_committedVote_aon {s : State} (haon : s.aon = true) {xs : List (Word × Bool)} (hlen : xs.length = 216)
    (u : BitVec 64) :
    exec (.committedVote u xs) s =
      .next (s.when (s.canSample u.toNat) (State.vote u.toNat (xs.map fun x => (x.1.toInt, x.2)))) :=
  (exec_committedVote_of_length hlen u s).trans (act_next haon)

theorem committedVote_without_sample {s : State} (haon : s.aon = true) {xs : List (Word × Bool)}
    (hlen : xs.length = 216) {u : BitVec 64} (hcan : s.canSample u.toNat = false) :
    Does (.committedVote u xs) s fun t => t = s :=
  ⟨s, by rw [exec_committedVote_aon haon hlen, hcan, State.when_false], rfl⟩

theorem exec_committedVote_of_canSample {s : State} (haon : s.aon = true) {xs : List (Word × Bool)}
    (hlen : xs.length = 216) {u : BitVec 64} (hcan : s.canSample u.toNat = true) :
    exec (.committedVote u xs) s = .next (s.vote u.toNat (xs.map fun x => (x.1.toInt, x.2))) := by
  rw [exec_committedVote_aon haon hlen, hcan, State.when_true]

/-- Settles O48: a vote is its stages in order; each clause is a fact of one stage, which the later stages keep. -/
theorem votesAndTemperatures : Obligations.VotesAndTemperatures := by
  intro s haon
  refine ⟨fun u xs hlen => exec_committedVote_of_length_ne hlen u s,
    fun u xs hlen hcan => committedVote_without_sample haon hlen hcan, fun u xs hlen hcan => ?_,
    quorumRestored_without_axis haon, fun a ha hinvalid q hq hle => quorumRestored_of_axis haon ha hinvalid hq hle,
    tempModelUpdate_result haon, sentinelSample_result haon⟩
  have hexec := exec_committedVote_of_canSample haon hlen hcan
  generalize (xs.map fun x => (x.1.toInt, x.2) : List Sample) = ys at hexec ⊢
  obtain ⟨harray, hfilt, htick⟩ := s.vote_result u.toNat ys
  obtain ⟨hdeltas, hacc, hgyr⟩ := s.voteResult_ranges u.toNat ys
  obtain ⟨hcountA, hcountG⟩ := s.vote_counts u.toNat ys
  refine ⟨s.vote u.toNat ys, hexec, (congrArg _ harray).trans (s.voteResult_lastVote u.toNat ys), htick,
    (congrArg _ hfilt).trans (s.voteResult_filt u.toNat ys), (congrArg _ harray).trans hdeltas,
    (congrArg _ harray).trans hacc, (congrArg _ harray).trans hgyr,
    fun a ha => ?_, hcountA, hcountG, fun k hk => ?_, fun hpaired => ?_, fun hshaped d hd hlt => ?_⟩
  · rw [s.vote_axis u.toNat ys]
    obtain ⟨hquorum, hstays, hvalue⟩ := s.voteResult_axis_result u.toNat ys ha
    exact ⟨hquorum, hstays, fun hnamed harmed => s.vote_safeOff u.toNat ys harmed ha hnamed, hvalue⟩
  · rw [s.vote_triad u.toNat ys, (s.voteResult_triad u.toNat ys hk).1]
  · obtain ⟨k, hk, hrank, htyp, hat⟩ := s.vote_held u.toNat ys hpaired
    exact List.any_eq_true.mpr ⟨k, hk, by rw [hrank, htyp, hat]; simp⟩
  · obtain ⟨-, hchans, -⟩ := hshaped
    rw [s.vote_chan u.toNat ys]
    exact s.voteResult_chan u.toNat ys hd (hchans ▸ hlt)

end Sys2Proof.Machine

namespace Sys2Proof.Machine

/-! ### Stores of writable bits (R419) -/

theorem State.reg_putWritable_same (s : State) (a : Nat) (w : Word) :
    (s.putWritable a w).reg a = (s.reg a &&& ~~~ rwMask a) ||| (w &&& rwMask a) := s.reg_setReg_same a _

theorem State.reg_putWritable_other (s : State) (w : Word) {a b : Nat} (h : b ≠ a) :
    (s.putWritable a w).reg b = s.reg b := s.reg_setReg_other a b _ h

/-- A register without writable bits keeps its word. -/
theorem State.putWritable_regFrame_of_mask {s : State} {a : Nat} (h : rwMask a = 0) (w : Word) :
    RegFrame [] s (s.putWritable a w) := fun b _ _ => by
  by_cases hb : b = a
  · subst hb
    rw [State.reg_putWritable_same, h, show ~~~(0 : Word) = BitVec.allOnes 32 from rfl, BitVec.and_allOnes]
    simp
  · exact s.reg_putWritable_other w hb

/-- The writable bits of a stored word are those written. -/
theorem and_or_and_not_mask (x w m : Word) : ((x &&& ~~~ m) ||| (w &&& m)) &&& m = w &&& m := by
  refine BitVec.eq_of_getLsbD_eq fun i hi => ?_
  simp only [BitVec.getLsbD_and, BitVec.getLsbD_or, BitVec.getLsbD_not]
  cases m.getLsbD i <;> simp

/-! ### Where a write goes (R419, R420, Table 20.1) -/

theorem State.writeReg_closed {s : State} {a : Nat} (himago : s.imago = false) (h : writableOutside a = false)
    (bus : Bool) (w : Word) : s.writeReg bus a w = s := by
  rw [State.writeReg, if_pos]
  simp [himago, h]

/-- A write takes effect: the module is in Imago, or the register is one of those that every stage writes. -/
def State.TakesWrite (s : State) (a : Nat) : Prop := s.imago = true ∨ writableOutside a = true

theorem State.TakesWrite.not_closed {s : State} {a : Nat} (h : s.TakesWrite a) :
    ¬ (¬ s.imago = true ∧ ¬ writableOutside a = true) := fun hc => h.elim hc.1 hc.2

theorem State.writeReg_w1c {s : State} {a : Nat} (h : s.TakesWrite a) (hmask : w1cMask a ≠ 0)
    (hevents : a ≠ Reg.QUEUE_EVENTS) (bus : Bool) (w : Word) :
    s.writeReg bus a w = s.setReg a (s.reg a &&& ~~~ (w &&& w1cMask a)) := by
  rw [State.writeReg, if_neg h.not_closed, if_pos hmask]
  exact if_neg hevents

theorem State.writeReg_plain {s : State} {a : Nat} (h : s.TakesWrite a) (ha : a ∈ plainRegs) (bus : Bool) (w : Word) :
    s.writeReg bus a w = s.putWritable a w := by
  have hmask : ∀ b ∈ plainRegs, w1cMask b = 0 := by decide
  rw [State.writeReg, if_neg h.not_closed, if_neg (not_not_intro (hmask a ha))]
  simp only [plainRegs, List.mem_cons, List.not_mem_nil, or_false] at ha
  rcases ha with rfl | rfl | rfl | rfl | rfl | rfl | rfl | rfl | rfl | rfl | rfl | rfl | rfl | rfl | rfl | rfl <;> rfl

theorem State.writeReg_twAddr2 (s : State) (bus : Bool) (w : Word) :
    s.writeReg bus Reg.TW_ADDR2 w = s.writeAddr2 bus w := by
  have h : s.TakesWrite Reg.TW_ADDR2 := .inr (by decide)
  rw [State.writeReg, if_neg h.not_closed, if_neg (by decide)]
  rfl

/-- The registers from `lo` to `hi` have writable bits. -/
theorem not_between_of_mask {lo n a : Nat} (hlo : 4 ∣ lo) (ha : 4 ∣ a) (hmask : rwMask a = 0)
    (h : ∀ k ≤ n, rwMask (lo + 4 * k) ≠ 0) : ¬ (lo ≤ a ∧ a ≤ lo + 4 * n) := fun hb => by
  have e : a = lo + 4 * ((a - lo) / 4) := by omega
  rw [e] at hmask
  exact h _ (by omega) hmask

/-- The machine ports of the PIO engines (Table 18.13). -/
theorem mport_mem_actsOnWrite {a : Nat}
    (h : Reg.PIO_STATE 0 ≤ a ∧ a < Reg.PIO_PMEM_ADDR ∧ (a - Reg.PIO_STATE 0) % 32 = 20) : a ∈ actsOnWrite := by
  have e : a = Reg.PIO_MPORT ((a - Reg.PIO_STATE 0) / 32) := by
    simp only [Reg.PIO_STATE, Reg.PIO_PMEM_ADDR, Reg.PIO_MPORT] at h ⊢
    omega
  have hk : (a - Reg.PIO_STATE 0) / 32 < 4 := by
    simp only [Reg.PIO_STATE, Reg.PIO_PMEM_ADDR] at h ⊢
    omega
  have hports : ∀ k < 4, Reg.PIO_MPORT k ∈ actsOnWrite := by decide
  exact e ▸ hports _ hk

/-- A write to a register without writable bits that is not one of `actsOnWrite` stores at most those bits. -/
theorem State.writeReg_readOnly (s : State) {a : Nat} (ha : 4 ∣ a) (hrw : rwMask a = 0) (hw1c : w1cMask a = 0)
    (hacts : a ∉ actsOnWrite) (bus : Bool) (w : Word) :
    s.writeReg bus a w = s ∨ s.writeReg bus a w = s.putWritable a w := by
  have stores {b : Nat} (hb : rwMask b ≠ 0) : a ≠ b := fun e => hb (e ▸ hrw)
  have acts {b : Nat} (hb : b ∈ actsOnWrite) : a ≠ b := fun e => hacts (e ▸ hb)
  unfold State.writeReg
  split
  · exact .inl rfl
  rw [if_neg (not_not_intro hw1c)]
  split
  case h_1 => exact .inl (if_neg (acts (by decide)))
  case h_2 =>
    unfold State.writeInt
    have hen : ¬ (Reg.INT_HOST_EN 0 ≤ a ∧ a ≤ Reg.INT_HOST_EN 7) := not_between_of_mask (by decide) ha hrw (by decide)
    rw [if_neg (acts (by decide)), if_neg (acts (by decide)), if_neg (acts (by decide)), if_neg hen]
    exact .inl rfl
  case h_3 => exact .inl (if_neg (stores (by decide)))
  case h_4 =>
    unfold State.writeQueue
    rw [if_neg (stores (by decide)), if_neg (acts (by decide)), if_neg (stores (by decide)), if_neg (acts (by decide))]
    exact .inr rfl
  case h_5 =>
    unfold State.writeTime
    rw [if_neg (stores (by decide)), if_neg (stores (by decide)), if_neg (stores (by decide))]
    exact .inl rfl
  case h_6 =>
    unfold State.writeT1s
    rw [if_neg (stores (by decide)), if_neg (stores (by decide)),
      if_neg (not_or_intro (stores (by decide)) (stores (by decide)))]
    exact .inl rfl
  case h_7 => exact .inr (if_neg (stores (by decide)))
  case h_8 => exact .inl rfl
  case h_9 =>
    have hport : ¬ (Reg.PIO_STATE 0 ≤ a ∧ a < Reg.PIO_PMEM_ADDR ∧ (a - Reg.PIO_STATE 0) % 32 = 20) := fun h =>
      hacts (mport_mem_actsOnWrite h)
    unfold State.writePio
    rw [if_neg (not_or_intro (stores (by decide)) (not_or_intro (stores (by decide)) (stores (by decide)))),
      if_neg (acts (by decide)), if_neg (stores (by decide)), if_neg hport]
    exact .inl rfl
  case h_10 =>
    unfold State.writeSafe
    dsimp only
    rw [if_neg (acts (by decide)), if_neg (acts (by decide)), if_neg (stores (by decide)),
      if_neg (not_or_intro (stores (by decide)) (not_or_intro (stores (by decide)) (stores (by decide))))]
    exact .inl rfl
  case h_11 => exact .inl (if_neg (stores (by decide)))
  case h_12 =>
    unfold State.writeArray
    rw [if_neg (stores (by decide)), if_neg (stores (by decide)), if_neg (stores (by decide)),
      if_neg (stores (by decide)), if_neg (stores (by decide))]
    exact .inr rfl
  case h_13 =>
    unfold State.writeFilt
    rw [if_neg (stores (by decide)), if_neg (stores (by decide)), if_neg (stores (by decide)),
      if_neg (stores (by decide))]
    exact .inl rfl
  case h_14 =>
    unfold State.writeEm
    have hparam : ¬ (Reg.EM_PARAM 0 ≤ a ∧ a ≤ Reg.EM_PARAM 7) := not_between_of_mask (by decide) ha hrw (by decide)
    rw [if_neg (acts (by decide)), if_neg (acts (by decide)), if_neg (stores (by decide)), if_neg (stores (by decide)),
      if_neg hparam, if_neg (acts (by decide))]
    exact .inr rfl
  case h_15 => exact .inl rfl
  case h_16 =>
    exact .inl (if_neg (not_or_intro (stores (by decide)) (not_or_intro (stores (by decide)) (stores (by decide)))))
  case h_17 => exact .inr rfl
  case h_18 => exact .inl rfl

/-! ### The register write row -/

theorem exec_registerWrite_noon {s : State} (haon : s.aon = true) (hnoon : s.noon = true) (addr : BitVec 16) (w : Word) :
    exec (.registerWrite false addr w) s = .next (s.writeReg false (addr.toNat / 4 * 4) w) :=
  (exec_registerWrite false addr w s).trans (act_when_noon haon hnoon)

theorem registerWrite_plain {s : State} (haon : s.aon = true) (hnoon : s.noon = true) {addr : BitVec 16} {a : Nat}
    (ha : addr.toNat / 4 * 4 = a) (w : Word) (hplain : plainRegs.contains a = true) (h : s.TakesWrite a) :
    Does (.registerWrite false addr w) s fun t =>
      t.reg a = (s.reg a &&& ~~~ rwMask a) ||| (w &&& rwMask a) ∧ (∀ b, b ≠ a → t.reg b = s.reg b) ∧
      t = { s with regs := t.regs } := by
  have hexec := exec_registerWrite_noon haon hnoon addr w
  rw [ha, State.writeReg_plain h (List.contains_iff_mem.mp hplain)] at hexec
  exact ⟨_, hexec, s.reg_putWritable_same a w, fun _ hb => s.reg_putWritable_other w hb, rfl⟩

theorem registerWrite_w1c {s : State} (haon : s.aon = true) (hnoon : s.noon = true) {addr : BitVec 16} {a : Nat}
    (ha : addr.toNat / 4 * 4 = a) (w : Word) (hmask : w1cMask a ≠ 0) (hevents : a ≠ Reg.QUEUE_EVENTS)
    (h : s.TakesWrite a) :
    Does (.registerWrite false addr w) s fun t =>
      t.reg a = s.reg a &&& ~~~ (w &&& w1cMask a) ∧ (∀ b, b ≠ a → t.reg b = s.reg b) ∧
      t = { s with regs := t.regs } := by
  have hexec := exec_registerWrite_noon haon hnoon addr w
  rw [ha, State.writeReg_w1c h hmask hevents] at hexec
  exact ⟨_, hexec, s.reg_setReg_same a _, fun b hb => s.reg_setReg_other a b _ hb, rfl⟩

theorem registerWrite_readOnly {s : State} (haon : s.aon = true) (hnoon : s.noon = true) (addr : BitVec 16) (w : Word)
    (hrw : rwMask (addr.toNat / 4 * 4) = 0) (hw1c : w1cMask (addr.toNat / 4 * 4) = 0)
    (hacts : actsOnWrite.contains (addr.toNat / 4 * 4) = false) :
    Does (.registerWrite false addr w) s fun t => RegFrame [] s t ∧ t = { s with regs := t.regs } := by
  refine ⟨_, exec_registerWrite_noon haon hnoon addr w, ?_⟩
  have hmem : addr.toNat / 4 * 4 ∉ actsOnWrite := fun h => Bool.false_ne_true (hacts.symm.trans (List.contains_iff_mem.mpr h))
  obtain h | h := s.writeReg_readOnly (Nat.dvd_mul_left 4 _) hrw hw1c hmem false w
  · rw [h]; exact ⟨.refl [] s, rfl⟩
  · rw [h]; exact ⟨State.putWritable_regFrame_of_mask hrw w, rfl⟩

/-! ### TW_ADDR2 (R293) -/

theorem exec_twAddr2Write_noon {s : State} (haon : s.aon = true) (hnoon : s.noon = true) (bus : Bool) (w : Word) :
    exec (.twAddr2Write bus w) s = .next (s.byBus bus Reg.TW_ADDR2 (State.writeAddr2 bus w)) := by
  have hwrite : State.writeReg bus Reg.TW_ADDR2 w = State.writeAddr2 bus w := funext fun u => u.writeReg_twAddr2 bus w
  rw [← hwrite]
  exact (exec_twAddr2Write bus w s).trans (act_when_noon haon hnoon)

theorem State.twStart_addr2 (s : State) : s.twStart.tw.addr2 = s.tw.addr2 := by
  unfold State.twStart
  split <;> rfl

theorem State.addr2Bad_congr {s u : State} (h : u.ownAddress = s.ownAddress) (w : Word) :
    u.addr2Bad w = s.addr2Bad w := by
  unfold State.addr2Bad
  rw [h]

/-- Where a write by command or, without PEC, over the bus starts from: the transaction may have been opened, and the
pointer moved. -/
theorem State.byBus_start (s : State) (bus : Bool) (hpec : bus = true → s.twStart.tw.pec = false) (a : Nat) :
    ∃ u, (∀ f, s.byBus bus a f = f u) ∧ RegFrame busRegs s u ∧ u.tw.addr2 = s.tw.addr2 ∧ u.ownAddress = s.ownAddress := by
  cases bus with
  | false => exact ⟨s, fun _ => rfl, .refl _ s, rfl, rfl⟩
  | true =>
    refine ⟨s.twStart.busAccess a 4, fun f => ?_, ?_, ?_, ?_⟩
    · unfold State.byBus
      rw [if_pos rfl, hpec rfl]
      rfl
    · have hopen : RegFrame busRegs s s.twStart.twStart :=
        (s.twStart_regFrame.trans s.twStart.twStart_regFrame).mono (by decide)
      exact hopen.setF _ _ (.inl (by decide))
    · exact s.twStart.twStart_addr2.trans s.twStart_addr2
    · exact s.twStart.twStart_ownAddress.trans s.twStart_ownAddress

theorem twAddr2Write_refused {s : State} (haon : s.aon = true) (hnoon : s.noon = true) {w : Word}
    (hbad : s.addr2Bad w = true) (bus : Bool) (hpec : s.twStart.tw.pec = false) :
    Does (.twAddr2Write bus w) s fun t =>
      t.fld TW_STATUS.REFUSED = BAD_PARAM ∧ t.reg Reg.TW_ADDR2 = s.reg Reg.TW_ADDR2 ∧ t.tw.addr2 = s.tw.addr2 := by
  obtain ⟨u, hu, hframe, haddr2, hown⟩ := s.byBus_start bus (fun _ => hpec) Reg.TW_ADDR2
  have hwrite : u.writeAddr2 bus w = u.setF TW_STATUS.REFUSED BAD_PARAM :=
    if_pos ((State.addr2Bad_congr hown w).trans hbad)
  refine ⟨u.setF TW_STATUS.REFUSED BAD_PARAM, ?_, ?_, ?_, haddr2⟩
  · rw [exec_twAddr2Write_noon haon hnoon, hu, hwrite]
  · exact u.fld_setF_same _ _ (by decide)
  · exact (hframe.setF _ _ (.inl (by decide))) _ (by decide) (by decide)

/-- An accepted value is stored; by command it is in force at once (R293). -/
theorem State.writeAddr2_result {u : State} {w : Word} (hbad : u.addr2Bad w = false) (bus : Bool) :
    (u.writeAddr2 bus w).reg Reg.TW_ADDR2 &&& rwMask Reg.TW_ADDR2 = w &&& rwMask Reg.TW_ADDR2 ∧
      (u.writeAddr2 bus w).tw.addr2 = if bus then u.tw.addr2 else (u.writeAddr2 bus w).reg Reg.TW_ADDR2 := by
  have hstored : (u.putWritable Reg.TW_ADDR2 w).reg Reg.TW_ADDR2 &&& rwMask Reg.TW_ADDR2 =
      w &&& rwMask Reg.TW_ADDR2 := by
    rw [State.reg_putWritable_same, and_or_and_not_mask]
  unfold State.writeAddr2
  rw [if_neg (Bool.eq_false_iff.mp hbad)]
  cases bus <;> exact ⟨hstored, rfl⟩

theorem twAddr2Write_command {s : State} (haon : s.aon = true) (hnoon : s.noon = true) {w : Word}
    (hbad : s.addr2Bad w = false) :
    Does (.twAddr2Write false w) s fun t =>
      t.reg Reg.TW_ADDR2 &&& rwMask Reg.TW_ADDR2 = w &&& rwMask Reg.TW_ADDR2 ∧ t.tw.addr2 = t.reg Reg.TW_ADDR2 ∧
      RegFrame [Reg.TW_ADDR2] s t ∧ t = { s with regs := t.regs, tw := t.tw } := by
  obtain ⟨hstored, hforce⟩ := State.writeAddr2_result hbad false
  refine ⟨_, exec_twAddr2Write_noon haon hnoon false w, hstored, hforce, ?_⟩
  have hwrite : s.byBus false Reg.TW_ADDR2 (State.writeAddr2 false w) = _ := if_neg (Bool.eq_false_iff.mp hbad)
  rw [hwrite]
  exact ⟨((RegFrame.refl _ s).setReg _ _ (.inl (by decide))).regs rfl, rfl⟩

theorem twAddr2Write_bus {s : State} (haon : s.aon = true) (hnoon : s.noon = true) {w : Word}
    (hbad : s.addr2Bad w = false) (hpec : s.twStart.tw.pec = false) :
    Does (.twAddr2Write true w) s fun t =>
      t.reg Reg.TW_ADDR2 &&& rwMask Reg.TW_ADDR2 = w &&& rwMask Reg.TW_ADDR2 ∧ t.tw.addr2 = s.tw.addr2 := by
  obtain ⟨u, hu, -, haddr2, hown⟩ := s.byBus_start true (fun _ => hpec) Reg.TW_ADDR2
  obtain ⟨hstored, hkept⟩ := State.writeAddr2_result ((State.addr2Bad_congr hown w).trans hbad) true
  exact ⟨u.writeAddr2 true w, by rw [exec_twAddr2Write_noon haon hnoon, hu], hstored, hkept.trans haddr2⟩

/-- Settles O33, by where a write goes: the access type of its register decides, but for TW_ADDR2, which is judged. -/
theorem registerWritesByAccessType : Obligations.RegisterWritesByAccessType := by
  intro s w haon hnoon
  refine ⟨fun _ hplain h => registerWrite_plain haon hnoon rfl w hplain h,
    fun _ hmask hevents h => registerWrite_w1c haon hnoon rfl w hmask hevents h, fun addr himago hclosed => ?_,
    fun addr hrw hw1c hacts => registerWrite_readOnly haon hnoon addr w hrw hw1c hacts,
    fun hbad bus hpec => twAddr2Write_refused haon hnoon hbad bus hpec,
    fun hbad => twAddr2Write_command haon hnoon hbad, fun hbad hpec => twAddr2Write_bus haon hnoon hbad hpec⟩
  exact ⟨s, by rw [exec_registerWrite_noon haon hnoon, State.writeReg_closed himago hclosed], rfl⟩

end Sys2Proof.Machine

namespace Sys2Proof.Machine

/-! ### A faulted drive does not always read unlocked (R58, R114, R146)

At the drive lock or fault that fixes the resume tick of a FIRST_START interval, the ticks before it become VOID, and
machines carry out what they hold for them. `State.post` takes any number for a source: a held BELL of source 21984, which
no program memory word that a load accepts can give, posts into the word at 0x0CFC, which is DRIVE_STATUS. -/

/-- The source whose pending bit would be bit 0 of DRIVE_STATUS. -/
def sourceAtDriveStatus : Nat := 32 * ((Reg.DRIVE_STATUS - Reg.INT_HOST_PEND 0) / 4)

theorem pend_sourceAtDriveStatus : Target.host.pend sourceAtDriveStatus = bitF Reg.DRIVE_STATUS 0 := rfl

/-- Tick 40, without a sample and still UNRESOLVED. -/
def tickWithoutSample : EngTick :=
  { tick := 40, preset := 3
    latched := { sent := [], ports := [], stopped := 0, blade := 0, tachLost := false, hk := [], hkOn := 0 }
    fast := none, comm := none, void := false, resolved := false, meas := [], after := [], done := [], prov := []
    recF := [], recC := [], recMask := 0 }

/-- A machine that holds that BELL for tick 40. -/
def machineHoldingBell : Mach :=
  { defaultMach with
    state := M_RUNNING
    runs := [{ tick := 40, entry := MState.start 0, after := MState.start 0, count := 1, opened := true, trace := []
               outs := [⟨0, .bell sourceAtDriveStatus⟩] }] }

/-- FIRST_START settling with one active gyroscope triad, 48, and the source enabled. -/
def startingWithBell : State :=
  { State.reset.setReg (Target.host.en sourceAtDriveStatus).reg 1 with
    array := { resetArray with triads := resetArray.triads.set 48 { resetTriad with state := STARTING } }
    filt := { resetFilt with settling := some { cause := 1, first := 0, bound := none, resume := none } }
    eng := { resetEngine with machs := resetEngine.machs.set 0 machineHoldingBell, ticks := [tickWithoutSample] } }

/-- Whether a triad's drive is in lock once a command has completed. -/
def drivenAfter (k : Nat) : Host.Outcome State Fault Refusal → Bool
  | .next t => t.driven k
  | _ => false

theorem drivenAfter_driveFault_startingWithBell :
    drivenAfter 48 (exec (.driveFault 0) startingWithBell) = true := by
  decide +kernel

/-- Refutes O47: DRIVE_FAULT of triad 48 ends with its lock bit set, by the BELL held for a tick that becomes VOID. -/
theorem not_triadTransitions : ¬ Obligations.TriadTransitions := by
  unfold Obligations.TriadTransitions
  intro h
  obtain ⟨hdrive, -⟩ := h startingWithBell rfl
  obtain ⟨-, -, hany⟩ := hdrive 0 _ rfl
  obtain ⟨-, t, hexec, hunlocked, -⟩ := hany (by decide +kernel) (by decide +kernel)
  have hlocked := drivenAfter_driveFault_startingWithBell
  rw [hexec] at hlocked
  exact Bool.false_ne_true (hunlocked.symm.trans hlocked)

end Sys2Proof.Machine

namespace Sys2Proof.Machine

/-! ### Events stand while others are raised (R400, R401) -/

/-- What pends in one target is not taken back by a message for any source at either target. -/
theorem State.pend_postTo {s : State} {g : Target} {n : Nat} (hn : n < 128) (hon : s.on (g.pend n) = true) (h : Target)
    {m : Nat} (hm : m < 128) : (s.postTo h m).on (g.pend n) = true := by
  unfold State.postTo
  split
  · exact hon
  split
  · rwa [State.on, State.incSat, State.addSat, State.fld_setF_other _ _ _ _ (.inl (g.pend_not_merged h n hn))]
  rw [State.on, State.fld_of_regs (State.alertAgain_regs h _)]
  by_cases e : g.pend n = h.pend m
  · rw [e, State.fld_setF_same _ _ _ (h.width_le m).1]
    cases h <;> rfl
  · have apart : (g.pend n).reg ≠ (h.pend m).reg ∨ (h.pend m).lo + (h.pend m).width ≤ (g.pend n).lo ∨
        (g.pend n).lo + (g.pend n).width ≤ (h.pend m).lo := by
      cases g <;> cases h
      case host.cp => exact .inl (Target.pend_targets n m hn hm)
      case cp.host => exact .inl (Target.pend_targets m n hm hn).symm
      all_goals exact mapF_other _ m n fun he => e (by rw [he])
    rwa [State.fld_setF_other _ _ _ _ apart]

theorem Pended.post {s t : State} {n : Nat} (h : Pended n s t) (hn : n < 128) {m : Nat} (hm : m < 128) :
    Pended n s (t.post m) := fun hnoon g hg => by
  unfold State.post State.when
  split
  · exact State.pend_postTo hn (State.pend_postTo hn (h hnoon g hg) .host hm) .cp hm
  · exact h hnoon g hg

/-- An event that has been raised stands while another events register's is. -/
theorem Raised.raise {a k : Nat} {s t : State} (h : Raised a k s t) (b j : Nat) (hn : sourceOf a k < 128)
    (hm : sourceOf b j < 128) (ha : a ∉ pendRegs) (hb : b ∉ a :: pendRegs) : Raised a k s (t.raise b j) := by
  obtain ⟨hon, hpend⟩ := h.setF (bitF b j) 1 hn hb
  refine ⟨?_, hpend.post hn hm⟩
  rwa [State.raise, State.on, State.fld_post _ _ _ hm ha]

/-- An event raised since a state in which only registers apart from the mode and the enables have changed. -/
theorem Raised.of_frame {as : List Nat} {s u t : State} {a k : Nat} (h : Raised a k u t) (hf : RegFrame as s u)
    (hold : u.entry.hold = s.entry.hold) (has : ∀ b ∈ as, b ∉ postRegs) (hn : sourceOf a k < 128) : Raised a k s t :=
  ⟨h.1, h.2.of_frame hf hold has hn⟩

/-- A further change that leaves the registers alone. -/
theorem Raised.regs {a k : Nat} {s t u : State} (h : Raised a k s t) (e : u.regs = t.regs) : Raised a k s u := by
  have kept (f : Fld) : u.on f = t.on f := by simp only [State.on, State.fld_of_regs e]
  exact ⟨(kept _).trans h.1, fun hnoon g hg => (kept _).trans (h.2 hnoon g hg)⟩

/-! ### The reply of a command (R248, R250, R252, R255) -/

theorem ReplyOnly.trans {s t u : State} (h : ReplyOnly s t) (k : ReplyOnly t u) : ReplyOnly s u := by
  unfold ReplyOnly at *
  rw [k, h]

theorem RegsOnly.replyOnly {s t : State} (h : RegsOnly s t) : ReplyOnly s t := by
  unfold RegsOnly ReplyOnly at *
  rw [h]

/-- A reply's bytes go to the mailbox or into a frame; one that is to be discarded is only counted (Table 11.9). -/
theorem State.deliver_result (s : State) (o : Origin) (drop : Bool) (bs : List Byte) :
    ((o = .twoWire → drop = false) → Delivered o bs s (s.deliver o drop bs)) ∧
      RegFrame replyRegs s (s.deliver o drop bs) ∧ ReplyOnly s (s.deliver o drop bs) := by
  cases o with
  | t1s mac => exact ⟨fun _ => rfl, .of_regs rfl, rfl⟩
  | twoWire =>
    cases drop with
    | true =>
      exact ⟨fun h => absurd (h rfl) (by decide), (RegFrame.refl _ s).incSat _ (.inl (by decide)), rfl⟩
    | false =>
      let u : State := { s with link := { s.link with replies := s.link.replies ++ [bs] } }
      have hraise := RegsOnly.raise u Reg.MBX_EVENTS 0
      have hframe : RegFrame [] s u := .of_regs rfl
      have hreplies : (u.raise Reg.MBX_EVENTS 0).link.replies = s.link.replies ++ [bs] := by rw [hraise]
      exact ⟨fun _ => ⟨hreplies, hframe.raise_raised rfl (by decide) _ _ (by decide) (by decide) (by decide)⟩,
        (hframe.mono (by decide)).raise _ _ (by decide) (by decide), ReplyOnly.trans (t := u) rfl hraise.replyOnly⟩

theorem Raised.deliver {a k : Nat} {s t : State} (h : Raised a k s t) (hn : sourceOf a k < 128)
    (ha : a ∉ pendRegs ++ replyRegs) (o : Origin) (drop : Bool) (bs : List Byte) :
    Raised a k s (t.deliver o drop bs) := by
  obtain ⟨hpend, hreply⟩ : a ∉ pendRegs ∧ a ∉ replyRegs := by simpa [not_or] using ha
  have disjoint : ∀ b ∈ replyRegs, b ∉ pendRegs := by decide
  have apart {b : Nat} (hb : b ∈ replyRegs) : b ∉ a :: pendRegs := fun hm =>
    (List.mem_cons.mp hm).elim (fun e => hreply (e ▸ hb)) (disjoint b hb)
  cases o with
  | t1s mac => exact h.regs rfl
  | twoWire =>
    cases drop with
    | true => exact h.setF MBX_COUNTS.DROPPED _ hn (apart (by decide))
    | false =>
      exact Raised.raise (t := { t with link := { t.link with replies := t.link.replies ++ [bs] } }) (h.regs rfl)
        Reg.MBX_EVENTS 0 hn (by decide) hpend (apart (by decide))

/-- The command layer has changed, but neither what the mailbox holds nor the frames to send. -/
def QueueOnly (s t : State) : Prop :=
  t = { s with link := t.link } ∧ t.link.replies = s.link.replies ∧ t.link.txFrames = s.link.txFrames

theorem State.finish_queueOnly (s : State) (op : Nat) (r : Req) : QueueOnly s (s.finish op r).1 := by
  unfold State.finish
  split
  · split <;> exact ⟨rfl, rfl, rfl⟩
  · exact ⟨rfl, rfl, rfl⟩

/-- The command has left the executing place, and its reply waits in the duplicate cache, if its class is cached. -/
def State.finished (op : Nat) (r : Req) (v : Verdict) (s : State) : State :=
  let u := (s.finish op r).1
  if immediateOps.contains op then u
  else u.cacheReply r.origin r.tag (requestCrc op r) (packet v.1 r.tag.toNat v.2)

theorem State.finished_queueOnly (s : State) (op : Nat) (r : Req) (v : Verdict) : QueueOnly s (s.finished op r v) := by
  obtain ⟨honly, hreplies, hframes⟩ := s.finish_queueOnly op r
  unfold State.finished State.cacheReply
  split
  · exact ⟨honly, hreplies, hframes⟩
  · exact ⟨by rw [honly], hreplies, hframes⟩

/-- The command has been answered. -/
def State.replied (op : Nat) (r : Req) (v : Verdict) (s : State) : State :=
  (s.finish op r).1.answer op r (s.finish op r).2 v

theorem State.replied_eq_deliver (s : State) (op : Nat) (r : Req) (v : Verdict) :
    s.replied op r v = (s.finished op r v).deliver r.origin (s.finish op r).2 (packet v.1 r.tag.toNat v.2) := rfl

theorem State.replied_result (s : State) (op : Nat) (r : Req) (v : Verdict) :
    Replied op r v.1 v.2 s (s.replied op r v) ∧ RegFrame replyRegs s (s.replied op r v) ∧
      ReplyOnly s (s.replied op r v) := by
  obtain ⟨honly, hreplies, hframes⟩ := s.finished_queueOnly op r v
  obtain ⟨hsent, hframe, hreply⟩ := (s.finished op r v).deliver_result r.origin (s.finish op r).2
    (packet v.1 r.tag.toNat v.2)
  have hregs : (s.finished op r v).regs = s.regs := by rw [honly]
  have hfin : ReplyOnly s (s.finished op r v) := by unfold ReplyOnly; rw [honly]
  rw [s.replied_eq_deliver]
  refine ⟨fun hdrop => ?_, (RegFrame.of_regs hregs).trans hframe, hfin.trans hreply⟩
  have hd := hsent hdrop
  generalize r.origin = o at hd ⊢
  cases o with
  | t1s mac => exact hd.trans (by rw [hframes])
  | twoWire =>
    obtain ⟨hq, hraised⟩ := hd
    exact ⟨hq.trans (by rw [hreplies]),
      hraised.of_frame (as := []) (.of_regs hregs) (by rw [honly]) (by decide) (by decide)⟩

/-- Whether a reply is discarded, and where it goes, is the command layer's. -/
theorem Replied.of_link {op : Nat} {r : Req} {status : Nat} {data : List Byte} {as : List Nat} {s u t : State}
    (h : Replied op r status data u t) (hlink : u.link = s.link) (hold : u.entry.hold = s.entry.hold)
    (hf : RegFrame as s u) (has : ∀ b ∈ as, b ∉ postRegs) : Replied op r status data s t := fun hdrop => by
  have hfinish : (u.finish op r).2 = (s.finish op r).2 := by
    unfold State.finish
    rw [hlink]
    cases s.link.executing with
    | none => rfl
    | some q => dsimp only; split <;> rfl
  have hd := h fun ho => hfinish.trans (hdrop ho)
  generalize r.origin = o at hd ⊢
  cases o with
  | t1s mac => exact hd.trans (by rw [hlink])
  | twoWire => exact ⟨hd.1.trans (by rw [hlink]), hd.2.of_frame hf hold has (by decide)⟩

/-! ### Accepted commands (R255) -/

theorem Cmd.accepts_iff (c : Cmd) (r : Req) (s : State) :
    c.accepts r s = true ↔ s.noon = true ∧ c.stages.contains s.stage = true ∧ c.len r.params = true ∧ c.check r s = none := by
  simp only [Cmd.accepts, Bool.and_eq_true, Option.isNone_iff_eq_none, and_assoc]

theorem refusals_eq_none_iff : ∀ ps : List (Bool × Verdict), refusals ps = none ↔ ∀ p ∈ ps, p.1 = false
  | [] => by simp [refusals]
  | (b, v) :: ps => by
    rw [refusals, List.forall_mem_cons, ← refusals_eq_none_iff ps]
    cases b <;> simp

theorem Cmd.run_of_accepts {c : Cmd} {r : Req} {s : State} (h : c.accepts r s = true) (hfit : Fits c r s) :
    c.run r s = (c.effect r s).1.replied c.op r (OK, (c.effect r s).2) := by
  obtain ⟨hnoon, hstage, hlen, hcheck⟩ := (c.accepts_iff r s).mp h
  unfold Cmd.run
  extract_lets reply
  rw [if_neg (not_not_intro ⟨hnoon, hstage⟩), if_neg (not_not_intro hlen), hcheck]
  exact if_neg fun hlong => Nat.not_lt.mpr (hfit hlong.1) hlong.2

/-- `t` stands after the reply to an accepted command whose effect ended in `u`. -/
structure Answered (c : Cmd) (r : Req) (s u t : State) : Prop where
  replied : Replied c.op r OK (c.effect r s).2 s t
  frame : RegFrame replyRegs u t
  only : ReplyOnly u t
  raised : ∀ {a k : Nat}, sourceOf a k < 128 → a ∉ pendRegs ++ replyRegs → Raised a k s u → Raised a k s t

theorem Cmd.answered_of_accepts {c : Cmd} {r : Req} {s : State} {as : List Nat} (haon : s.aon = true)
    (hacc : c.accepts r s = true) (hfit : Fits c r s) (hlink : (c.effect r s).1.link = s.link)
    (hold : (c.effect r s).1.entry.hold = s.entry.hold) (hf : RegFrame as s (c.effect r s).1)
    (has : ∀ b ∈ as, b ∉ postRegs) :
    ∃ t, act (c.run r) s = .next t ∧ Answered c r s (c.effect r s).1 t := by
  obtain ⟨hreplied, hframe, honly⟩ := (c.effect r s).1.replied_result c.op r (OK, (c.effect r s).2)
  refine ⟨_, (act_next haon).trans (congrArg _ (Cmd.run_of_accepts hacc hfit)),
    hreplied.of_link hlink hold hf has, hframe, honly, fun hn ha h => ?_⟩
  have hregs : ((c.effect r s).1.finished c.op r (OK, (c.effect r s).2)).regs = (c.effect r s).1.regs := by
    rw [(State.finished_queueOnly _ c.op r _).1]
  exact (h.regs hregs).deliver hn ha _ _ _

end Sys2Proof.Machine

namespace Sys2Proof.Machine

/-! ### One triad (Table 4.1) -/

theorem State.triad_setTriad (s : State) (k j : Nat) (f : Triad → Triad) :
    (s.setTriad k f).triad j = if j = k ∧ k < s.array.triads.length then f (s.triad k) else s.triad j := by
  unfold State.triad State.setTriad State.putArray
  rw [List.getD_eq_getElem?_getD, List.getElem?_set]
  by_cases hj : k = j
  · subst hj
    by_cases hk : k < s.array.triads.length
    · simp [hk, State.triad]
    · simp [hk]
  · rw [if_neg hj, if_neg fun h => hj h.1.symm, List.getD_eq_getElem?_getD]

theorem State.setTriad_triadIs {s : State} {k : Nat} (hk : k < s.array.triads.length) (f : Triad → Triad) :
    TriadIs k (f (s.triad k)) s (s.setTriad k f) := by
  refine ⟨?_, fun j hj => ?_⟩
  · rw [State.triad_setTriad, if_pos ⟨rfl, hk⟩]
  · rw [State.triad_setTriad, if_neg fun h => hj h.1]

theorem TriadIs.of_array {k : Nat} {tr : Triad} {s u t : State} (h : TriadIs k tr s u) (e : t.array = u.array) :
    TriadIs k tr s t := by
  unfold TriadIs State.triad at *
  rwa [e]

/-! ### Replies to commands of the array -/

theorem RegsOnly.arrayOnly {s t : State} (h : RegsOnly s t) : ArrayOnly s t := by
  unfold RegsOnly ArrayOnly at *
  rw [h]

theorem ArrayOnly.trans {s t u : State} (h : ArrayOnly s t) (k : ArrayOnly t u) : ArrayOnly s u := by
  unfold ArrayOnly at *
  rw [k, h]

theorem ArrayOnly.replyOnly {s u t : State} (h : ArrayOnly s u) (k : ReplyOnly u t) :
    ReplyOnly { s with array := t.array } t := by
  unfold ArrayOnly ReplyOnly at *
  rw [k, h]

theorem ArrayOnly.arrayAndHeld {s t : State} (h : ArrayOnly s t) : ArrayAndHeld s t := by
  unfold ArrayOnly ArrayAndHeld at *
  rw [h]

theorem ArrayAndHeld.regsOnly {s t u : State} (h : ArrayAndHeld s t) (k : RegsOnly t u) : ArrayAndHeld s u := by
  unfold ArrayAndHeld RegsOnly at *
  rw [k, h]

theorem RegsOnly.array {s t : State} (h : RegsOnly s t) : t.array = s.array := by rw [h]

theorem RegsOnly.held {s t : State} (h : RegsOnly s t) : t.held = s.held := by rw [h]

theorem ReplyOnly.array {s t : State} (h : ReplyOnly s t) : t.array = s.array := by rw [h]

theorem ReplyOnly.held {s t : State} (h : ReplyOnly s t) : t.held = s.held := by rw [h]

section
variable {c : Cmd} {r : Req} {s u t : State} (h : Answered c r s u t)
include h

theorem Answered.fld (f : Fld) (hf : f.reg ∉ pendRegs ++ replyRegs) : t.fld f = u.fld f := by
  obtain ⟨hpend, hreply⟩ : f.reg ∉ pendRegs ∧ f.reg ∉ replyRegs := by simpa [not_or] using hf
  exact h.frame.fld f hreply hpend

theorem Answered.on (f : Fld) (hf : f.reg ∉ pendRegs ++ replyRegs) : t.on f = u.on f := by
  rw [State.on, State.on, h.fld f hf]

theorem Answered.regFrame {as : List Nat} (hf : RegFrame as s u) : RegFrame (as ++ replyRegs) s t :=
  (hf.mono fun _ => List.mem_append_left _).trans (h.frame.mono fun _ => List.mem_append_right _)

end

/-- An accepted command whose effect ends in `u`: it changes registers, the array and waiting records alone, and its
reply has no data. -/
theorem Cmd.answered_of_arrayAndHeld {c : Cmd} {r : Req} {s : State} {as : List Nat} (haon : s.aon = true)
    (hacc : c.accepts r s = true) {u : State} (he : c.effect r s = (u, [])) (honly : ArrayAndHeld s u)
    (hf : RegFrame as s u) (has : ∀ b ∈ as, b ∉ postRegs) :
    ∃ t, act (c.run r) s = .next t ∧ Answered c r s u t ∧ Replied c.op r OK [] s t := by
  obtain ⟨t, hrun, hans⟩ := Cmd.answered_of_accepts haon hacc (fun _ => by rw [he]; exact Nat.zero_le _)
    (by rw [he, honly]) (by rw [he, honly]) (by rwa [he]) has
  have hreplied := hans.replied
  rw [he] at hans hreplied
  exact ⟨t, hrun, hans, hreplied⟩

theorem Cmd.check_of_accepts {c : Cmd} {r : Req} {s : State} (h : c.accepts r s = true) : c.check r s = none :=
  ((c.accepts_iff r s).mp h).2.2.2

/-! ### SET_PROFILE (R68) -/

theorem State.requestProfile_result (s : State) {p : Nat} (hp : p < 4) :
    let u := s.requestProfile p
    u.fld ARRAY_PROFILE.PROFILE = p ∧ u.on ARRAY_PROFILE.CHANGE_PENDING = true ∧
      u.array = (if s.on ARRAY_PROFILE.CHANGE_PENDING then { s.array with profileNext := some p }
        else { s.array with profileReq := some p }) ∧
      u.profile = s.profile ∧ RegFrame [Reg.ARRAY_PROFILE] s u ∧ ArrayOnly s u := by
  have hfit : p % 2 ^ 2 = p := Nat.mod_eq_of_lt hp
  have hmem : Reg.ARRAY_PROFILE ∈ [Reg.ARRAY_PROFILE] := List.mem_singleton.mpr rfl
  unfold State.requestProfile State.profile
  split
  · next hpending =>
    refine ⟨?_, ?_, rfl, ?_, ((RegFrame.refl _ s).putArray _).setF _ _ (.inl hmem), rfl⟩
    · exact (State.fld_setF_same _ _ _ (by decide)).trans hfit
    · rw [State.on, State.fld_setF_other _ _ _ _ (by decide)]
      exact hpending
    · exact State.fld_setF_other _ _ _ _ (by decide)
  · refine ⟨?_, ?_, rfl, ?_, (((RegFrame.refl _ s).putArray _).setF _ _ (.inl hmem)).setF _ _ (.inl hmem), rfl⟩
    · rw [State.fld_setF_other _ _ _ _ (by decide)]
      exact (State.fld_setF_same _ _ _ (by decide)).trans hfit
    · rw [State.on, State.fld_setF_same _ _ _ (by decide)]
      rfl
    · rw [State.fld_setF_other _ _ _ _ (by decide)]
      exact State.fld_setF_other _ _ _ _ (by decide)

theorem setProfile_accepted {r : Req} {s : State} (haon : s.aon = true) (hacc : cmdSetProfile.accepts r s = true) :
    Does (.setProfile r) s fun t =>
      Replied 0x20 r OK [] s t ∧ t.fld ARRAY_PROFILE.PROFILE = byteAt r.params 0 ∧
      t.on ARRAY_PROFILE.CHANGE_PENDING = true ∧
      t.array = (if s.on ARRAY_PROFILE.CHANGE_PENDING then { s.array with profileNext := some (byteAt r.params 0) }
        else { s.array with profileReq := some (byteAt r.params 0) }) ∧
      t.profile = s.profile ∧ RegFrame (Reg.ARRAY_PROFILE :: replyRegs) s t := by
  have hp : byteAt r.params 0 ≤ 2 := by
    have hcheck := (refusals_eq_none_iff _).mp (Cmd.check_of_accepts hacc)
    simpa using hcheck
  obtain ⟨hprofile, hpending, harray, hactive, hframe, honly⟩ := s.requestProfile_result (Nat.lt_succ_of_le (Nat.le_succ_of_le hp))
  obtain ⟨t, hrun, hans, hreplied⟩ := Cmd.answered_of_arrayAndHeld haon hacc rfl honly.arrayAndHeld hframe (by decide)
  exact ⟨t, (exec_setProfile r s).trans hrun, hreplied, (hans.fld _ (by decide)).trans hprofile,
    (hans.on _ (by decide)).trans hpending, hans.only.array.trans harray, (hans.fld _ (by decide)).trans hactive,
    hans.regFrame hframe⟩

/-! ### SET_RANGES (R61) -/

theorem putRange_result (s : State) (f : Fld) (hf : f.lo + f.width ≤ 32) {code : Nat}
    (hcode : code = 0xFF ∨ code < 2 ^ f.width) :
    (putRange f code s).fld f = (if code = 0xFF then s.fld f else code) ∧ RegFrame [f.reg] s (putRange f code s) ∧
      RegsOnly s (putRange f code s) := by
  unfold putRange
  split
  · exact ⟨rfl, .refl _ s, .refl s⟩
  · next hset =>
    exact ⟨(s.fld_setF_same f code hf).trans (Nat.mod_eq_of_lt (hcode.resolve_left hset)),
      (RegFrame.refl _ s).setF _ _ (.inl (List.mem_singleton.mpr rfl)), .setF s f code⟩

theorem fld_putRange_other (s : State) {f g : Fld} (code : Nat)
    (h : g.reg ≠ f.reg ∨ f.lo + f.width ≤ g.lo ∨ g.lo + g.width ≤ f.lo) : (putRange f code s).fld g = s.fld g := by
  unfold putRange
  split
  · rfl
  · exact s.fld_setF_other f g code h

theorem setRanges_accepted {r : Req} {s : State} (haon : s.aon = true) (hacc : cmdSetRanges.accepts r s = true) :
    Does (.setRanges r) s fun t =>
      Replied 0x21 r OK [] s t ∧
      t.fld ARRAY_RANGE.ACC_RANGE = (if byteAt r.params 0 = 0xFF then s.fld ARRAY_RANGE.ACC_RANGE else byteAt r.params 0) ∧
      t.fld ARRAY_RANGE.GYR_RANGE = (if byteAt r.params 1 = 0xFF then s.fld ARRAY_RANGE.GYR_RANGE else byteAt r.params 1) ∧
      RegFrame (Reg.ARRAY_RANGE :: replyRegs) s t ∧ ReplyOnly s t := by
  obtain ⟨hacode, hgcode⟩ : (byteAt r.params 0 = 0xFF ∨ byteAt r.params 0 < 2 ^ 3) ∧
      (byteAt r.params 1 = 0xFF ∨ byteAt r.params 1 < 2 ^ 3) := by
    have hcheck := (refusals_eq_none_iff _).mp (Cmd.check_of_accepts hacc)
    simp only [List.forall_mem_singleton, Bool.or_eq_false_iff, Bool.and_eq_false_iff, decide_eq_false_iff_not,
      bne_eq_false_iff_eq] at hcheck
    omega
  obtain ⟨ha, hframeA, honlyA⟩ := putRange_result s ARRAY_RANGE.ACC_RANGE (by decide) hacode
  obtain ⟨hg, hframeG, honlyG⟩ := putRange_result (putRange ARRAY_RANGE.ACC_RANGE (byteAt r.params 0) s)
    ARRAY_RANGE.GYR_RANGE (by decide) hgcode
  have honly := honlyA.trans honlyG
  have hframe := hframeA.trans hframeG
  obtain ⟨t, hrun, hans, hreplied⟩ := Cmd.answered_of_arrayAndHeld haon hacc rfl honly.arrayOnly.arrayAndHeld hframe
    (by decide)
  refine ⟨t, (exec_setRanges r s).trans hrun, hreplied, ?_, ?_, hans.regFrame hframe, honly.replyOnly.trans hans.only⟩
  · rw [hans.fld _ (by decide), fld_putRange_other _ _ (by decide), ha]
  · rw [hans.fld _ (by decide), hg, fld_putRange_other _ _ (by decide)]

/-! ### SET_CAL_DELTA and SENTINEL_CONFIG (R65, R75) -/

theorem setCalDelta_accepted {r : Req} {s : State} (haon : s.aon = true) (hacc : cmdSetCalDelta.accepts r s = true) :
    Does (.setCalDelta r) s fun t =>
      Replied 0x23 r OK [] s t ∧ RegFrame replyRegs s t ∧
      t.array = { s.array with newDeltas := s.array.newDeltas ++ deltasOf r.params } ∧
      ReplyOnly { s with array := t.array } t := by
  have honly : ArrayOnly s (calDeltaApply r.params s) := rfl
  have hframe : RegFrame [] s (calDeltaApply r.params s) := .of_regs rfl
  obtain ⟨t, hrun, hans, hreplied⟩ := Cmd.answered_of_arrayAndHeld haon hacc rfl honly.arrayAndHeld hframe (by decide)
  exact ⟨t, (exec_setCalDelta r s).trans hrun, hreplied, hans.regFrame hframe, hans.only.array, honly.replyOnly hans.only⟩

/-- A word without reserved bits is stored whole. -/
theorem and_rwMask_of_not_reserved {a : Nat} {w : Word} (h : reservedSet a w = false) : w &&& rwMask a = w := by
  have hzero : w &&& ~~~ rwMask a = 0 := by simpa [reservedSet] using h
  calc w &&& rwMask a = (w &&& ~~~ rwMask a) ||| (w &&& rwMask a) := by rw [hzero]; simp
    _ = w := by rw [BitVec.or_comm, ← BitVec.and_or_distrib_left, BitVec.or_not_self, BitVec.and_allOnes]

theorem sentinelConfig_accepted {r : Req} {s : State} (haon : s.aon = true)
    (hacc : cmdSentinelConfig.accepts r s = true) :
    Does (.sentinelConfig r) s fun t =>
      Replied 0x24 r OK [] s t ∧
      t.reg Reg.SENTINEL_CTRL = (s.reg Reg.SENTINEL_CTRL &&& ~~~ rwMask Reg.SENTINEL_CTRL) ||| wordAt r.params 0 ∧
      RegFrame (Reg.SENTINEL_CTRL :: replyRegs) s t ∧ ReplyOnly s t := by
  have hword : wordAt r.params 0 &&& rwMask Reg.SENTINEL_CTRL = wordAt r.params 0 := by
    have hcheck := (refusals_eq_none_iff _).mp (Cmd.check_of_accepts hacc)
    exact and_rwMask_of_not_reserved ((Bool.or_eq_false_iff.mp (hcheck _ (List.mem_singleton.mpr rfl))).1)
  let u := s.putWritable Reg.SENTINEL_CTRL (wordAt r.params 0)
  have honly : RegsOnly s u := .setReg s _ _
  have hframe : RegFrame [Reg.SENTINEL_CTRL] s u := (RegFrame.refl _ s).setReg _ _ (.inl (List.mem_singleton.mpr rfl))
  obtain ⟨t, hrun, hans, hreplied⟩ := Cmd.answered_of_arrayAndHeld haon hacc rfl honly.arrayOnly.arrayAndHeld hframe
    (by decide)
  refine ⟨t, (exec_sentinelConfig r s).trans hrun, hreplied, ?_, hans.regFrame hframe, honly.replyOnly.trans hans.only⟩
  rw [hans.frame _ (by decide) (by decide), State.reg_putWritable_same, hword]

/-! ### Tests of one triad (R76 to R78, R99, R100) -/

/-- A scope with nothing done yet. -/
def newTestRun (reinstate : Bool) (die : Option Nat) (queues : List (List Nat)) : TestRun :=
  { reinstate := reinstate, die := die, queues := queues, current := [], worst := 0, last := 0, fails := 0, skips := 0
    passed := 0, refused := 0 }

/-- A scope has begun: its run stands, and its BUSY bit. -/
def State.testBegun (reinstate : Bool) (die : Option Nat) (queues : List (List Nat)) (s : State) : State :=
  let u := s.putArray { s.array with test := some (newTestRun reinstate die queues) }
  if reinstate then (u.setF REINSTATE_RESULT.BUSY 1).setF REINSTATE_RESULT.REFUSED 0
  else u.setF ARRAY_STATUS.SELFTEST_BUSY 1

theorem State.testStart_single (s : State) (reinstate : Bool) (die : Option Nat) (k : Nat) :
    s.testStart reinstate die [[k]] = ((s.testBegun reinstate die [[k]]).testNext 0 [k]).testEnd := by
  cases reinstate <;> rfl

/-- The BUSY bit of a scope (Tables 3.12, 4.7). -/
def testBusy (reinstate : Bool) : Fld := if reinstate then REINSTATE_RESULT.BUSY else ARRAY_STATUS.SELFTEST_BUSY

theorem State.testBegun_result (s : State) (reinstate : Bool) (die : Option Nat) (queues : List (List Nat)) :
    let u := s.testBegun reinstate die queues
    u.array = { s.array with test := some (newTestRun reinstate die queues) } ∧
      u.on (testBusy reinstate) = true ∧ RegFrame [(testBusy reinstate).reg] s u ∧ ArrayOnly s u := by
  have h0 : RegFrame [(testBusy reinstate).reg] s
      (s.putArray { s.array with test := some (newTestRun reinstate die queues) }) := (RegFrame.refl _ s).putArray _
  cases reinstate with
  | true =>
    refine ⟨rfl, ?_, (h0.setF _ _ (.inl (by decide))).setF _ _ (.inl (by decide)), rfl⟩
    have hbusy := State.fld_setF_same (s.putArray { s.array with test := some (newTestRun true die queues) })
      REINSTATE_RESULT.BUSY 1 (by decide)
    exact (State.on_eq_true_iff _ _).mpr (((State.fld_setF_other _ _ _ _ (by decide)).trans hbusy).trans_ne (by decide))
  | false =>
    refine ⟨rfl, ?_, h0.setF _ _ (.inl (by decide)), rfl⟩
    exact (State.on_eq_true_iff _ _).mpr ((State.fld_setF_same _ _ _ (by decide)).trans_ne (by decide))

theorem State.testWouldBreak_congr {s u : State} (htriads : u.array.triads = s.array.triads)
    (hvote : u.voteTick = s.voteTick) (hlock : u.fld DRIVE_STATUS.LOCKED = s.fld DRIVE_STATUS.LOCKED) (k : Nat) :
    u.testWouldBreak k = s.testWouldBreak k := by
  have htriad (j : Nat) : u.triad j = s.triad j := by rw [State.triad, State.triad, htriads]
  have hcontributes (t j : Nat) : u.contributes t j = s.contributes t j :=
    State.contributes_congr (by rw [htriad]) (by rw [htriad]) (by rw [htriad]) hlock t
  simp only [State.testWouldBreak, hvote, hcontributes]

theorem State.testBegun_testWouldBreak (s : State) (reinstate : Bool) (die : Option Nat) (queues : List (List Nat))
    (k : Nat) : (s.testBegun reinstate die queues).testWouldBreak k = s.testWouldBreak k := by
  obtain ⟨harray, -, hframe, honly⟩ := s.testBegun_result reinstate die queues
  refine State.testWouldBreak_congr (by rw [harray]) ?_ (hframe.fld _ ?_ (by decide)) k
  · have htick : (s.testBegun reinstate die queues).tick = s.tick := by rw [honly]
    rw [State.voteTick, State.voteTick, harray, htick]
  · cases reinstate <;> decide

/-- The one triad of a scope is under test. -/
def State.testEntered (reinstate : Bool) (die : Option Nat) (k : Nat) (s : State) : State :=
  ((s.testBegun reinstate die [[k]]).putArray { s.array with
    test := some { newTestRun reinstate die [[k]] with queues := [[]], current := [(k, false, 0)] } }).setTriad k
      fun x => { x with before := x.state, state := TESTING }

theorem State.testStart_of_not_break {s : State} {k : Nat} (h : s.testWouldBreak k = false) (reinstate : Bool)
    (die : Option Nat) : s.testStart reinstate die [[k]] = s.testEntered reinstate die k := by
  have hnext : (s.testBegun reinstate die [[k]]).testNext 0 [k] = s.testEntered reinstate die k := by
    rw [State.testNext, State.testBegun_testWouldBreak, h, if_neg Bool.false_ne_true]
    cases reinstate <;> rfl
  rw [s.testStart_single, hnext]
  rfl

theorem State.testEntered_result {s : State} {k : Nat} (hk : k < s.array.triads.length) (reinstate : Bool)
    (die : Option Nat) :
    let u := s.testEntered reinstate die k
    TriadIs k { s.triad k with state := TESTING, before := (s.triad k).state } s u ∧
      u.array.test.map (fun x => (x.reinstate, x.current)) = some (reinstate, [(k, false, 0)]) ∧
      u.on (testBusy reinstate) = true ∧ RegFrame [(testBusy reinstate).reg] s u ∧ ArrayOnly s u := by
  obtain ⟨-, hbusy, hframe, honly⟩ := s.testBegun_result reinstate die [[k]]
  have htriad := State.setTriad_triadIs (s := (s.testBegun reinstate die [[k]]).putArray { s.array with
    test := some { newTestRun reinstate die [[k]] with queues := [[]], current := [(k, false, 0)] } }) hk
      fun x => { x with before := x.state, state := TESTING }
  exact ⟨htriad, rfl, hbusy, hframe.regs rfl, honly.trans rfl⟩

/-- The result of a self-test scope is set (R77). -/
def State.selftestReported (tr : TestRun) (s : State) : State :=
  let u := (s.setF SELFTEST_RESULT.RESULT tr.worst).setF SELFTEST_RESULT.LAST_TRIAD tr.last
  let u := (u.setF SELFTEST_RESULT.FAIL_COUNT tr.fails).setF SELFTEST_RESULT.SKIP_COUNT tr.skips
  (u.setF ARRAY_STATUS.SELFTEST_BUSY 0).raise Reg.ARRAY_EVENTS 17

/-- The run of a scope whose one triad was SKIPPED. -/
def skippedRun (k : Nat) : TestRun :=
  { newTestRun false none [[]] with worst := R_SKIPPED, last := k, skips := 1, refused := 1 }

/-- The HEALTH record of the SKIPPED triad waits, and no test runs. -/
def State.testSkipped (k : Nat) (s : State) : State :=
  ((s.testBegun false none [[k]]).triadHealth 0x0A k s.tick s.tick R_SKIPPED).putArray { s.array with test := none }

theorem State.testStart_of_break {s : State} {k : Nat} (h : s.testWouldBreak k = true) :
    s.testStart false none [[k]] = (s.testSkipped k).selftestReported (skippedRun k) := by
  have hnext : (s.testBegun false none [[k]]).testNext 0 [k] =
      ((s.testBegun false none [[k]]).testReport k R_SKIPPED).testNext 0 [] := if_pos ((s.testBegun_testWouldBreak false none [[k]] k).trans h)
  rw [s.testStart_single, hnext]
  rfl

theorem State.selftestReported_regsOnly (tr : TestRun) (s : State) : RegsOnly s (s.selftestReported tr) :=
  RegsOnly.trans (t := ((((s.setF _ _).setF _ _).setF _ _).setF _ _).setF _ _) rfl (.raise _ _ _)

theorem State.selftestReported_fields (tr : TestRun) (s : State) :
    let u := s.selftestReported tr
    u.fld SELFTEST_RESULT.RESULT = tr.worst % 2 ^ 3 ∧ u.fld SELFTEST_RESULT.LAST_TRIAD = tr.last % 2 ^ 7 ∧
      u.fld SELFTEST_RESULT.SKIP_COUNT = tr.skips % 2 ^ 8 ∧ u.on ARRAY_STATUS.SELFTEST_BUSY = false := by
  unfold State.selftestReported
  refine ⟨?_, ?_, ?_, (State.on_eq_false_iff _ _).mpr ?_⟩
  all_goals
    rw [State.fld_raise _ _ _ _ (by decide) (by decide) (by decide)]
    simp (disch := decide) only [State.fld_setF_other, State.fld_setF_same]
    rfl

theorem RegFrame.selftestReported {as : List Nat} {s u : State} (h : RegFrame as s u)
    (hold : u.entry.hold = s.entry.hold) (has : ∀ b ∈ as, b ∉ postRegs) (hresult : Reg.SELFTEST_RESULT ∈ as)
    (hstatus : Reg.ARRAY_STATUS ∈ as) (tr : TestRun) :
    Raised Reg.ARRAY_EVENTS 17 s (u.selftestReported tr) ∧
      RegFrame (Reg.ARRAY_EVENTS :: as) s (u.selftestReported tr) := by
  have hset := ((((h.setF SELFTEST_RESULT.RESULT tr.worst (.inl hresult)).setF SELFTEST_RESULT.LAST_TRIAD tr.last
    (.inl hresult)).setF SELFTEST_RESULT.FAIL_COUNT tr.fails (.inl hresult)).setF SELFTEST_RESULT.SKIP_COUNT tr.skips
    (.inl hresult)).setF ARRAY_STATUS.SELFTEST_BUSY 0 (.inl hstatus)
  exact ⟨hset.raise_raised hold has _ _ (by decide) (by decide) (by decide),
    (hset.mono fun _ => List.mem_cons_of_mem _).raise _ _ (List.mem_cons_self ..) (by decide)⟩

/-! ### SELFTEST and REINSTATE (R77, R78, R99, R100) -/

theorem selftest_of_accepts {r : Req} {s : State} (hacc : cmdSelftest.accepts r s = true)
    (hscope : byteAt r.params 0 = 0) : byteAt r.params 1 < 72 ∧ s.array.test = none := by
  obtain ⟨hk, hidle⟩ : ¬ 71 < byteAt r.params 1 ∧ s.array.test = none := by
    simpa [hscope, State.testing] using (refusals_eq_none_iff _).mp (Cmd.check_of_accepts hacc)
  exact ⟨Nat.lt_succ_of_le (Nat.le_of_not_lt hk), hidle⟩

/-- An accepted command that takes one triad under test. -/
theorem Cmd.answered_of_testEntered {c : Cmd} {r : Req} {s : State} {reinstate : Bool} {k : Nat} (haon : s.aon = true)
    (hacc : c.accepts r s = true) (hk : k < s.array.triads.length)
    (he : c.effect r s = (s.testEntered reinstate none k, [])) :
    ∃ t, act (c.run r) s = .next t ∧ Replied c.op r OK [] s t ∧
      TriadIs k { s.triad k with state := TESTING, before := (s.triad k).state } s t ∧
      t.array.test.map (fun x => (x.reinstate, x.current)) = some (reinstate, [(k, false, 0)]) ∧
      t.on (testBusy reinstate) = true ∧ RegFrame ((testBusy reinstate).reg :: replyRegs) s t ∧
      ReplyOnly { s with array := t.array } t := by
  obtain ⟨htriad, htest, hbusy, hframe, honly⟩ := State.testEntered_result hk reinstate none
  have hfree : ∀ b ∈ [(testBusy reinstate).reg], b ∉ postRegs ++ pendRegs ++ replyRegs := by
    cases reinstate <;> decide
  obtain ⟨t, hrun, hans, hreplied⟩ := Cmd.answered_of_arrayAndHeld haon hacc he honly.arrayAndHeld hframe
    fun b hb hm => hfree b hb (by simp [hm])
  have hkept : (testBusy reinstate).reg ∉ pendRegs ++ replyRegs := fun hm =>
    hfree _ (List.mem_singleton.mpr rfl) (by rw [List.append_assoc]; exact List.mem_append_right _ hm)
  exact ⟨t, hrun, hreplied, htriad.of_array hans.only.array, by rw [hans.only.array, htest],
    (hans.on _ hkept).trans hbusy, hans.regFrame hframe, honly.replyOnly hans.only⟩

theorem selftest_accepted {r : Req} {s : State} (haon : s.aon = true) (hacc : cmdSelftest.accepts r s = true)
    (hscope : byteAt r.params 0 = 0) (hshaped : s.Shaped) (hquorum : s.testWouldBreak (byteAt r.params 1) = false) :
    Does (.selftest r) s fun t =>
      Replied 0xD0 r OK [] s t ∧
      TriadIs (byteAt r.params 1)
        { s.triad (byteAt r.params 1) with state := TESTING, before := (s.triad (byteAt r.params 1)).state } s t ∧
      t.array.test.map (·.current) = some [(byteAt r.params 1, false, 0)] ∧ t.on ARRAY_STATUS.SELFTEST_BUSY = true ∧
      RegFrame (Reg.ARRAY_STATUS :: replyRegs) s t ∧ ReplyOnly { s with array := t.array } t := by
  obtain ⟨hk, -⟩ := selftest_of_accepts hacc hscope
  have heffect : cmdSelftest.effect r s = (s.testEntered false none (byteAt r.params 1), []) := by
    simp only [cmdSelftest, scopeQueues, if_pos hscope, State.testStart_of_not_break hquorum]
  obtain ⟨htriads, -⟩ := hshaped
  obtain ⟨t, hrun, hreplied, htriad, htest, hbusy, hframe, honly⟩ :=
    Cmd.answered_of_testEntered haon hacc (hk.trans_eq htriads.symm) heffect
  have hcurrent : t.array.test.map (·.current) = some [(byteAt r.params 1, false, 0)] := by
    simpa [Option.map_map, Function.comp_def] using congrArg (Option.map Prod.snd) htest
  exact ⟨t, (exec_selftest r s).trans hrun, hreplied, htriad, hcurrent, hbusy, hframe, honly⟩

theorem State.testSkipped_result (s : State) (k : Nat) (hidle : s.array.test = none) :
    let u := s.testSkipped k
    u.array = s.array ∧ Holds T_HEALTH s.tick s u ∧ RegFrame [Reg.ARRAY_STATUS] s u ∧ ArrayAndHeld s u := by
  obtain ⟨harray, -, hframe, honly⟩ := s.testBegun_result false none [[k]]
  have hheld : (s.testBegun false none [[k]]).held = s.held := by rw [honly]
  refine ⟨?_, ⟨_, congrArg (· ++ _) hheld, rfl, rfl⟩, hframe.regs rfl, ?_⟩
  · calc (s.testSkipped k).array = { (s.testBegun false none [[k]]).array with test := none } := rfl
      _ = { s.array with test := none } := by rw [harray]
      _ = s.array := by rw [← hidle]
  · unfold ArrayAndHeld State.testSkipped State.triadHealth State.putArray
    rw [honly]

theorem selftest_skipped {r : Req} {s : State} (haon : s.aon = true) (hacc : cmdSelftest.accepts r s = true)
    (hscope : byteAt r.params 0 = 0) (hbreak : s.testWouldBreak (byteAt r.params 1) = true) :
    Does (.selftest r) s fun t =>
      Replied 0xD0 r OK [] s t ∧ t.array = s.array ∧ t.fld SELFTEST_RESULT.RESULT = R_SKIPPED ∧
      t.fld SELFTEST_RESULT.LAST_TRIAD = byteAt r.params 1 ∧ t.fld SELFTEST_RESULT.SKIP_COUNT = 1 ∧
      t.on ARRAY_STATUS.SELFTEST_BUSY = false ∧ Raised Reg.ARRAY_EVENTS 17 s t ∧ Holds T_HEALTH s.tick s t ∧
      RegFrame ([Reg.ARRAY_STATUS, Reg.SELFTEST_RESULT, Reg.ARRAY_EVENTS] ++ replyRegs) s t := by
  obtain ⟨hk, hidle⟩ := selftest_of_accepts hacc hscope
  let k := byteAt r.params 1
  let u := (s.testSkipped k).selftestReported (skippedRun k)
  have heffect : cmdSelftest.effect r s = (u, []) := by
    simp only [cmdSelftest, scopeQueues, if_pos hscope, State.testStart_of_break hbreak, u, k]
  obtain ⟨harray, hholds, hskipped, honly⟩ := s.testSkipped_result k hidle
  have hregs := (s.testSkipped k).selftestReported_regsOnly (skippedRun k)
  have hframe : RegFrame [Reg.ARRAY_STATUS, Reg.SELFTEST_RESULT] s (s.testSkipped k) := hskipped.mono (by decide)
  obtain ⟨hraised, hframeU⟩ := hframe.selftestReported (by rw [honly]) (by decide) (by decide) (by decide) (skippedRun k)
  obtain ⟨hresult, hlast, hskips, hbusy⟩ := (s.testSkipped k).selftestReported_fields (skippedRun k)
  obtain ⟨t, hrun, hans, hreplied⟩ := Cmd.answered_of_arrayAndHeld haon hacc heffect (honly.regsOnly hregs) hframeU
    (by decide)
  have hlastK : (skippedRun k).last % 2 ^ 7 = k := Nat.mod_eq_of_lt (hk.trans (by decide))
  refine ⟨t, (exec_selftest r s).trans hrun, hreplied, ?_, (hans.fld _ (by decide)).trans hresult,
    ((hans.fld _ (by decide)).trans hlast).trans hlastK, (hans.fld _ (by decide)).trans hskips,
    (hans.on _ (by decide)).trans hbusy, hans.raised (by decide) (by decide) hraised, ?_,
    (hans.regFrame hframeU).mono (by decide)⟩
  · exact (hans.only.array.trans hregs.array).trans harray
  · obtain ⟨x, hx, htyp, htick⟩ := hholds
    exact ⟨x, (hans.only.held.trans hregs.held).trans hx, htyp, htick⟩

theorem reinstate_of_accepts {r : Req} {s : State} (hacc : cmdReinstate.accepts r s = true)
    (hscope : byteAt r.params 0 = 0) : byteAt r.params 1 < 72 ∧ (s.triad (byteAt r.params 1)).state = RETIRED_ := by
  obtain ⟨⟨hk, hretired⟩, -⟩ :
      (¬ 71 < byteAt r.params 1 ∧ (s.triad (byteAt r.params 1)).state = RETIRED_) ∧ s.testing = false := by
    simpa [hscope] using (refusals_eq_none_iff _).mp (Cmd.check_of_accepts hacc)
  exact ⟨Nat.lt_succ_of_le (Nat.le_of_not_lt hk), hretired⟩

/-- A triad that is not HEALTHY is in no quorum, so its exclusion breaks none. -/
theorem State.testWouldBreak_of_retired {s : State} {k : Nat} (h : (s.triad k).state = RETIRED_) :
    s.testWouldBreak k = false := by
  have hstate : (RETIRED_ == HEALTHY) = false := by decide
  simp only [State.testWouldBreak, State.contributes, h, hstate, Bool.false_and]

theorem reinstate_accepted {r : Req} {s : State} (haon : s.aon = true) (hshaped : s.Shaped)
    (hacc : cmdReinstate.accepts r s = true) (hscope : byteAt r.params 0 = 0) :
    Does (.reinstate r) s fun t =>
      Replied 0xD1 r OK [] s t ∧
      TriadIs (byteAt r.params 1) { s.triad (byteAt r.params 1) with state := TESTING, before := RETIRED_ } s t ∧
      t.array.test.map (fun x => (x.reinstate, x.current)) = some (true, [(byteAt r.params 1, false, 0)]) ∧
      t.on REINSTATE_RESULT.BUSY = true ∧ RegFrame (Reg.REINSTATE_RESULT :: replyRegs) s t ∧
      ReplyOnly { s with array := t.array } t := by
  obtain ⟨hk, hretired⟩ := reinstate_of_accepts hacc hscope
  have heffect : cmdReinstate.effect r s = (s.testEntered true none (byteAt r.params 1), []) := by
    simp only [cmdReinstate, State.reinstateQueue, hscope, if_pos, Nat.zero_ne_one, if_false,
      State.testStart_of_not_break (State.testWouldBreak_of_retired hretired)]
  obtain ⟨htriads, -⟩ := hshaped
  obtain ⟨t, hrun, hreplied, htriad, hrest⟩ :=
    Cmd.answered_of_testEntered haon hacc (hk.trans_eq htriads.symm) heffect
  rw [hretired] at htriad
  exact ⟨t, (exec_reinstate r s).trans hrun, hreplied, htriad, hrest⟩

/-- Settles O49: each command's effect is stated once (`requestProfile_result`, `putRange_result`,
`testEntered_result`, `testSkipped_result`); what stands after its reply follows from `Answered`. -/
theorem arrayCommands : Obligations.ArrayCommands := by
  intro r s haon
  refine ⟨setProfile_accepted haon, setRanges_accepted haon, setCalDelta_accepted haon, sentinelConfig_accepted haon,
    ?selftest, ?reinstate⟩
  case selftest =>
    rintro hacc hscope _ rfl
    exact ⟨selftest_accepted haon hacc hscope, selftest_skipped haon hacc hscope⟩
  case reinstate =>
    rintro hshaped hacc hscope _ rfl
    exact reinstate_accepted haon hshaped hacc hscope

end Sys2Proof.Machine

namespace Sys2Proof.Machine

/-! ### A preset change does not always leave its own preset in force (R109, R146, R158)

At PRESET_APPLY the ticks after the last old sample that lie off the new grid become VOID (Table 7.6), and machines carry
out what they hold for them. As for the drive lock (`sourceAtDriveStatus`), a held BELL of a source beyond 127, which no
program memory word that a load accepts can give, posts into the word of another register: here FILT_PRESET, whose ACTIVE
field has just been stored. -/

/-- The source whose pending bit would be bit 0 of FILT_PRESET.ACTIVE. -/
def sourceAtActivePreset : Nat :=
  32 * ((Reg.FILT_PRESET - Reg.INT_HOST_PEND 0) / 4) + FILT_PRESET.ACTIVE.lo

theorem pend_sourceAtActivePreset :
    Target.host.pend sourceAtActivePreset = bitF Reg.FILT_PRESET FILT_PRESET.ACTIVE.lo := rfl

/-- A machine that holds that BELL for tick 40. -/
def machineHoldingPresetBell : Mach :=
  { machineHoldingBell with
    runs := machineHoldingBell.runs.map fun r => { r with outs := [⟨0, .bell sourceAtActivePreset⟩] } }

/-- The change to preset 4 that is due at tick 160: its last old sample is of tick 0, and tick 40 is off the new grid. -/
def changeToPreset4 : PresetChange := { code := 4, ta := 160, applied := false, tL := 0, first := 0 }

/-- The module in Imago at tick 160 in preset 3, the change due and the source enabled. -/
def presetDueWithBell : State :=
  { (State.reset.setF BOOT_STAGE.STAGE IMAGO).setF (Target.host.en sourceAtActivePreset) 1 with
    tick := 160
    filt := { resetFilt with change := some changeToPreset4 }
    eng := { resetEngine with
      machs := resetEngine.machs.set 0 machineHoldingPresetBell, ticks := [tickWithoutSample] } }

/-- The preset in force once a command has completed. -/
def presetAfter : Host.Outcome State Fault Refusal → Option Nat
  | .next t => some t.preset
  | _ => none

theorem presetAfter_presetApply_presetDueWithBell :
    presetAfter (exec .presetApply presetDueWithBell) = some 5 := by
  decide +kernel

/-- Refutes O51: the change to preset 4 ends with ACTIVE 5, a code that Table 5.2 does not have, by the BELL held for a
tick that becomes VOID. -/
theorem not_filterEvents : ¬ Obligations.FilterEvents := by
  unfold Obligations.FilterEvents
  intro h
  obtain ⟨-, hchange, -⟩ := h presetDueWithBell rfl
  obtain ⟨-, happly, -⟩ := hchange changeToPreset4 rfl
  obtain ⟨t, hexec, hpreset, -⟩ := happly rfl (by decide)
  have hafter := presetAfter_presetApply_presetDueWithBell
  rw [hexec] at hafter
  have hfive : t.preset = 5 := Option.some.inj hafter
  exact absurd (hpreset.symm.trans hfive) (by decide)

end Sys2Proof.Machine

namespace Sys2Proof.Machine

/-! ### The fields of an instruction word (Table 6.5) -/

theorem bits_w32 {n : Nat} (hn : n < 2 ^ 32) (lo width : Nat) : bits (w32 n) lo width = n / 2 ^ lo % 2 ^ width := by
  rw [bits, w32, BitVec.toNat_ofNat, Nat.mod_eq_of_lt hn, Nat.shiftRight_eq_div_pow]

theorem ixWord_fields {op imm : Nat} (hop : op < 64) (d sr : Fin 8) (cond : Fin 16) (himm : imm < 2 ^ 16) :
    let w := ixWord op d sr cond imm
    ixOp w = op ∧ ixD w = d ∧ ixS w = sr ∧ ixCond w = cond ∧ ixImm w = imm := by
  have hd := d.isLt
  have hsr := sr.isLt
  have hcond := cond.isLt
  have hlt : op * 2 ^ 26 + d.val % 8 * 2 ^ 23 + sr.val % 8 * 2 ^ 20 + cond.val % 16 * 2 ^ 16 + imm % 2 ^ 16
      < 2 ^ 32 := by omega
  refine ⟨(bits_w32 hlt 26 6).trans ?_, (bits_w32 hlt 23 3).trans ?_, (bits_w32 hlt 20 3).trans ?_,
    (bits_w32 hlt 16 4).trans ?_, (bits_w32 hlt 0 16).trans ?_⟩
  all_goals omega

/-! ### What the instructions do to the state (Table 6.7) -/

section
variable {op imm : Nat} (d sr : Fin 8) (cond : Fin 16) (himm : imm < 2 ^ 16) (i : IxIn) (q : MState)
include himm

theorem ixStep_register (hop : op < 0x18) :
    ixStep (ixWord op d sr cond imm) i q = (ixRegOp op d sr imm i q, .seq) := by
  obtain ⟨hw, hd, hsr, -, hi⟩ := ixWord_fields (op := op) (by omega) d sr cond himm
  simp only [ixStep, hw, hd, hsr, hi, if_pos hop]

theorem ixStep_timer (hlow : 0x18 ≤ op) (hop : op < 0x20) :
    ixStep (ixWord op d sr cond imm) i q = (ixTimerOp op d sr imm i q, .seq) := by
  obtain ⟨hw, hd, hsr, -, hi⟩ := ixWord_fields (op := op) (by omega) d sr cond himm
  simp only [ixStep, hw, hd, hsr, hi, if_neg (Nat.not_lt.mpr hlow), if_pos hop]

theorem ixStep_jmp : ixStep (ixWord 0x20 d sr cond imm) i q = (q, .jump (imm % 8192)) := by
  obtain ⟨hw, -, -, -, hi⟩ := ixWord_fields (op := 0x20) (by decide) d sr cond himm
  simp [ixStep, hw, hi]

theorem ixStep_end : ixStep (ixWord 0x21 d sr cond imm) i q = (q, .stop none) := by
  obtain ⟨hw, -⟩ := ixWord_fields (op := 0x21) (by decide) d sr cond himm
  simp [ixStep, hw]

theorem ixStep_next : ixStep (ixWord 0x22 d sr cond imm) i q = (q, .stop (some (imm % 8192))) := by
  obtain ⟨hw, -, -, -, hi⟩ := ixWord_fields (op := 0x22) (by decide) d sr cond himm
  simp [ixStep, hw, hi]

theorem ixStep_ckpt : ixStep (ixWord 0x24 d sr cond imm) i q = (q, .seq) := by
  obtain ⟨hw, -⟩ := ixWord_fields (op := 0x24) (by decide) d sr cond himm
  simp [ixStep, hw]

end

theorem signed_toNat (x : BitVec 16) : signed 16 x.toNat = x.toInt := by
  rw [signed, BitVec.toInt_eq_toNat_cond, Nat.mod_eq_of_lt x.isLt]
  split_ifs <;> omega

theorem simm_toNat (x : BitVec 16) : simm x.toNat = x.signExtend 32 := by
  rw [simm, signed_toNat, BitVec.signExtend]

theorem toInt_signExtend_half (x : BitVec 16) : (x.signExtend 32).toInt = x.toInt :=
  BitVec.toInt_signExtend_of_le (by decide)

/-- ABS overflows for the most negative word alone. -/
theorem sat32_natAbs_ne_iff (y : Word) :
    sat32 (y.toInt.natAbs : Int) ≠ (y.toInt.natAbs : Int) ↔ y.toInt = -2147483648 := by
  have hlow := BitVec.le_toInt y
  have hhigh := BitVec.toInt_lt (x := y)
  unfold sat32 clampInt
  split_ifs <;> omega

/-- A magnitude saturates at the greatest positive word. -/
theorem sat32_natCast (v : Nat) : sat32 (v : Int) = (min v 0x7FFFFFFF : Nat) := by
  unfold sat32 clampInt
  split_ifs <;> omega

theorem ixRegOp_mag3 (d sr imm : Nat) (i : IxIn) (q : MState) :
    ixRegOp 0x13 d sr imm i q =
      let v := mag3 (q.getV sr) (q.getV (sr + 1)) (q.getV (sr + 2))
      let z := w32 (min v 0x7FFFFFFF)
      ({ q with z := z == 0, n := false, o := decide (0x7FFFFFFF < v) }).setV d z := by
  have hword (k : Nat) : wordOfInt (k : Int) = w32 k := BitVec.ofInt_natCast 32 k
  have hover (k : Nat) : ((min k 0x7FFFFFFF : Nat) : Int) ≠ k ↔ 0x7FFFFFFF < k := by omega
  simp only [ixRegOp, ixSat, sat32_natCast, hword, hover, MState.zn]

theorem ixTimerOp_tst (d sr imm : Nat) (i : IxIn) (q : MState) :
    ixTimerOp 0x1B d sr imm i q =
      { q with z := (q.getT d).any (fun u => decide (u ≤ i.tick)), cy := (q.getT d).isNone, n := false } := by
  unfold ixTimerOp
  cases q.getT d <;> simp

end Sys2Proof.Machine

namespace Sys2Proof.Machine

/-! ### One machine of the engine -/

theorem State.mach_setMach (s : State) (n j : Nat) (f : Mach → Mach) :
    (s.setMach n f).mach j = if j = n ∧ n < s.eng.machs.length then f (s.mach n) else s.mach j := by
  unfold State.mach State.setMach State.putEng
  rw [List.getD_eq_getElem?_getD, List.getElem?_set]
  by_cases hj : n = j
  · subst hj
    by_cases hn : n < s.eng.machs.length
    · simp [hn, State.mach]
    · simp [hn]
  · rw [if_neg hj, if_neg fun h => hj h.1.symm, List.getD_eq_getElem?_getD]

theorem State.setMach_length (s : State) (n : Nat) (f : Mach → Mach) :
    (s.setMach n f).eng.machs.length = s.eng.machs.length := List.length_set

theorem State.setMach_machIs {s : State} {n : Nat} (hn : n < s.eng.machs.length) (f : Mach → Mach) :
    MachIs n (f (s.mach n)) s (s.setMach n f) := by
  refine ⟨?_, fun j hj => ?_⟩
  · rw [State.mach_setMach, if_pos ⟨rfl, hn⟩]
  · rw [State.mach_setMach, if_neg fun h => hj h.1]

theorem MachIs.of_eng {n : Nat} {m : Mach} {s t u : State} (h : MachIs n m s t) (e : u.eng = t.eng) :
    MachIs n m s u := by
  unfold MachIs State.mach at *
  rwa [e]

/-- Only a machine that exists has a run in progress. -/
theorem State.mach_lt_of_run {s : State} {n : Nat} {r : OpenRun} (h : (s.mach n).run = some r) :
    n < s.eng.machs.length := by
  by_contra hn
  rw [State.mach, List.getD_eq_default _ _ (Nat.le_of_not_lt hn)] at h
  cases h

/-! ### The end of a run (R133, R172, R173) -/

theorem State.each_eng {α : Type} {f : α → State → State} (hf : ∀ x s, (f x s).eng = s.eng) :
    ∀ (xs : List α) (s : State), (s.each f xs).eng = s.eng
  | [], _ => rfl
  | x :: xs, s => (State.each_eng hf xs _).trans (hf x s)

/-- The record of an action decided against leaves the engine. -/
theorem State.falsestopHeld_eng (s : State) (key origin action detail tick addr : Nat) (value : Word) :
    (s.falsestopHeld key origin action detail tick addr value).eng = s.eng := by
  let u := s.hold 4 key (falsestopRec origin action detail 1 tick addr value)
  have hmarks : RegsOnly u u.falsestopMarks := (RegsOnly.raise u Reg.SPEC_EVENTS 0).trans (.incSat _ _)
  calc u.falsestopMarks.eng = u.eng := by rw [hmarks]
    _ = s.eng := rfl

/-- The decision of a tick's actions takes them from their machine and changes no other. -/
theorem State.decideActs_machIs {s : State} {n : Nat} (hn : n < s.eng.machs.length) (tick : Nat)
    (tr : List TraceEntry) :
    MachIs n { s.mach n with acts := (s.mach n).acts.filter (·.tick != tick) } s (s.decideActs n tick tr) := by
  refine (State.setMach_machIs hn fun m => { m with acts := m.acts.filter (·.tick != tick) }).of_eng
    (State.each_eng (fun a u => ?_) _ _)
  unfold State.when
  split
  · exact u.falsestopHeld_eng _ _ _ _ _ _ _
  · rfl

/-- A machine that has ended the run `r` in the state `after`, on speculation: the run waits for its decision. -/
def Mach.endedSpec (r : OpenRun) (after : MState) (m : Mach) : Mach :=
  { m with
    run := none, cur := after, pos := r.tick + 1
    runs := m.runs ++ [RunRec.mk r.tick r.entry after r.count r.opened r.trace r.outs] }

/-- A machine that has ended the run `r` in the state `after`, not on speculation: the run is confirmed. -/
def Mach.ended (r : OpenRun) (after : MState) (m : Mach) : Mach :=
  ({ m with run := none, cur := after, pos := r.tick + 1 }).confirm after r.count

theorem State.endRun_spec {s : State} {n : Nat} (hn : n < s.eng.machs.length) {r : OpenRun} (hk : r.kind = .spec)
    (after : MState) : MachIs n ((s.mach n).endedSpec r after) s (s.endRun n r after false) := by
  unfold State.endRun
  rw [hk]
  exact State.setMach_machIs hn (Mach.endedSpec r after)

theorem State.endRun_confirmed {s : State} {n : Nat} (hn : n < s.eng.machs.length) {r : OpenRun} (hk : r.kind ≠ .spec)
    (after : MState) :
    MachIs n { (s.mach n).ended r after with acts := (s.mach n).acts.filter (·.tick != r.tick) } s
      (s.endRun n r after false) := by
  unfold State.endRun
  split
  next h => exact absurd h hk
  next =>
    obtain ⟨hm, hother⟩ := State.setMach_machIs hn (Mach.ended r after)
    obtain ⟨hd, hkept⟩ := State.decideActs_machIs (s := s.setMach n (Mach.ended r after))
      (hn.trans_eq (s.setMach_length n _).symm) r.tick r.trace
    rw [hm] at hd
    exact ⟨hd, fun j hj => (hkept j hj).trans (hother j hj)⟩
  next => exact State.setMach_machIs hn fun m => { m.ended r after with acts := m.acts.filter (·.tick != r.tick) }

/-- Machine `n` has ended the run `r` in the state `after`; where it does not speculate, the state is confirmed. -/
def RunEnds (n : Nat) (r : OpenRun) (after : MState) (s t : State) : Prop :=
  ∀ m', m' = t.mach n → m'.run = none ∧ m'.cur = after ∧ m'.pos = r.tick + 1 ∧
    (r.kind = .spec → m'.conf = (s.mach n).conf ∧ m'.runs.length = (s.mach n).runs.length + 1) ∧
    (r.kind ≠ .spec → m'.conf = after ∧ m'.lastCount = r.count ∧ m'.runs = (s.mach n).runs) ∧
    ∀ j, j ≠ n → t.mach j = s.mach j

theorem State.endRun_ends {s : State} {n : Nat} (hn : n < s.eng.machs.length) (r : OpenRun) (after : MState) :
    RunEnds n r after s (s.endRun n r after false) := by
  rintro _ rfl
  by_cases hk : r.kind = .spec
  · obtain ⟨hm, hother⟩ := State.endRun_spec hn hk after
    rw [hm]
    exact ⟨rfl, rfl, rfl, fun _ => ⟨rfl, List.length_append⟩, fun h => absurd hk h, hother⟩
  · obtain ⟨hm, hother⟩ := State.endRun_confirmed hn hk after
    rw [hm]
    exact ⟨rfl, rfl, rfl, fun h => absurd h hk, fun _ => ⟨rfl, rfl, rfl⟩, hother⟩

end Sys2Proof.Machine

namespace Sys2Proof.Machine

/-! ### A fetched instruction of a run (R135, R141, R145) -/

/-- A run with room for a further fetch goes on at the address it is given, wrapping at the region's end. -/
theorem State.advance_of_lt {r : OpenRun} (h : r.count < 64) (s : State) (n pc : Nat) :
    s.advance n r pc = s.setMach n fun m => { m with run := some { r with pc := m.wrap pc } } :=
  if_neg (Nat.not_le.mpr h)

/-- The instruction `w` needs a checkpoint in the run `r` (R145). -/
def OpenRun.opens (r : OpenRun) (w : Word) : Bool := r.kind == .spec && ixOpens (ixOp w)

theorem OpenRun.opens_ixWord (r : OpenRun) {op imm : Nat} (hop : op < 64) (d sr : Fin 8) (cond : Fin 16)
    (himm : imm < 2 ^ 16) : r.opens (ixWord op d sr cond imm) = (r.kind == .spec && ixOpens op) := by
  rw [OpenRun.opens, (ixWord_fields hop d sr cond himm).1]

/-- HALT has the lowest code of the instructions that open a checkpoint. -/
theorem ixOpens_below_halt {op : Nat} (hop : op < 0x23) : ixOpens op = false := by
  simp only [ixOpens, Bool.or_eq_false_iff, Bool.and_eq_false_iff, beq_eq_false_iff_ne, decide_eq_false_iff_not]
  omega

/-- The run `r` after it has executed `w`: counted, traced, its live state as given. -/
def OpenRun.executed (r : OpenRun) (w : Word) (live : MState) : OpenRun :=
  { r with count := r.count + 1, trace := r.trace ++ [⟨r.pc, w, true⟩], opened := r.opened || r.opens w, live := live }

/-- What follows the execution of an instruction in the run `r`, of which `r'` is the result (Table 6.7). -/
def State.proceed (n : Nat) (r r' : OpenRun) (s : State) : IxNext → State
  | .seq => s.advance n r' (r.pc + 1)
  | .jump t => s.advance n r' t
  | .stop nx => s.endRun n r' { r'.live with next := nx.getD (s.mach n).entry } false
  | .out f => (s.output n r.pc r' r.trace f).poolPeak

/-- What an instruction reads in the run `r`. -/
def State.runInputs (s : State) (n : Fin 32) (e : EngTick) (r : OpenRun) : IxIn := s.inputs n e (r.kind == .committed)

/-- Machine `n` has the run `r` in progress, of tick `e`, with a fetch left before its last; no recognizer comes first,
and the condition `cond` holds. -/
structure RunTakes (s : State) (n : Fin 32) (cond : Fin 16) (r : OpenRun) (e : EngTick) : Prop where
  aon : s.aon = true
  due : NothingDue s
  run : (s.mach n).run = some r
  tick : s.engTick r.tick = some e
  count : r.count < 63
  holds : ixHolds cond (r.kind != .committed) (r.tick == (s.mach n).startTick) r.live = true

section
variable {s : State} {n : Fin 32} {cond : Fin 16} {r : OpenRun} {e : EngTick} (h : RunTakes s n cond r e)
include h

/-- An instruction whose condition holds is executed, unless it has to open a checkpoint and four are open. -/
theorem RunTakes.runWord_eq {w : Word} (hcond : ixCond w = cond)
    (hfree : r.opens w = true → r.opened = true ∨ (s.mach n).ckpts < 4) {q : MState} {nx : IxNext}
    (hstep : ixStep w (s.runInputs n e r) r.live = (q, nx)) :
    s.runWord n w = s.proceed n r (r.executed w q) nx := by
  have htaken : ixHolds (ixCond w) (r.kind != .committed) (r.tick == (s.mach n).startTick) r.live = true :=
    hcond ▸ h.holds
  have hckpt : (r.opens w && !r.opened && decide (4 ≤ (s.mach n).ckpts)) = false := by
    cases ho : r.opens w
    · rfl
    · rcases hfree ho with hopened | hlt
      · simp [hopened]
      · simp [hlt]
  unfold State.runInputs at hstep
  unfold OpenRun.opens at hckpt
  simp only [State.runWord, h.run, h.tick, htaken, hckpt, hstep, not_true_eq_false, if_false, Bool.false_eq_true]
  cases nx <;> rfl

section
variable {c : Instr} {op : Nat} {d sr : Fin 8} {imm : BitVec 16} (hexec : exec c s = ixRow op n cond d sr imm s)
include hexec

/-- The row of an instruction executes its word. -/
theorem RunTakes.exec_row (hop : op < 64)
    (hfree : r.opens (ixWord op d sr cond imm.toNat) = true → r.opened = true ∨ (s.mach n).ckpts < 4) {q : MState}
    {nx : IxNext} (hstep : ixStep (ixWord op d sr cond imm.toNat) (s.runInputs n e r) r.live = (q, nx)) :
    exec c s = .next (s.proceed n r (r.executed (ixWord op d sr cond imm.toNat) q) nx) := by
  obtain ⟨-, -, -, hcond, -⟩ := ixWord_fields hop d sr cond imm.isLt
  have hdue : s.finishAllDue = s := h.due
  rw [hexec, ixRow, act_next h.aon, hdue, h.runWord_eq hcond hfree hstep]

omit hexec in
theorem RunTakes.advance_executed (w : Word) (q : MState) (pc : Nat) :
    s.advance n (r.executed w q) pc = s.setMach n fun m => m.ran r w true (r.opened || r.opens w) r.outs q pc :=
  State.advance_of_lt (Nat.succ_lt_succ h.count) s n pc

/-- A row after which the run goes on, with no more checkpoints open than before. -/
theorem RunTakes.goes (hop : op < 64) {i : Nat} (hi : imm.toNat = i)
    (hsame : (r.opened || (r.kind == .spec && ixOpens op)) = r.opened) {q : MState} {nx : IxNext}
    (hstep : ixStep (ixWord op d sr cond imm.toNat) (s.runInputs n e r) r.live = (q, nx)) {pc : Nat}
    (hnext : ∀ r', s.proceed n r r' nx = s.advance n r' pc) :
    Does c s (RunGoes n r (ixWord op d sr cond i) q pc s) := by
  subst hi
  have hopens := r.opens_ixWord hop d sr cond imm.isLt
  refine ⟨_, h.exec_row hexec hop (fun ho => .inl ?_) hstep, ?_⟩
  · rw [← hsame, ← hopens, ho, Bool.or_true]
  · rw [hnext, h.advance_executed, hopens, hsame]
    rfl

/-- Rows 0x00 to 0x14 change registers and flags. -/
theorem RunTakes.register (hop : op < 0x18) {i : Nat} (hi : imm.toNat = i) {q : MState}
    (hq : ixRegOp op d sr i (s.runInputs n e r) r.live = q) :
    Does c s (RunGoes n r (ixWord op d sr cond i) q (r.pc + 1) s) := by
  subst hq hi
  refine h.goes hexec (by omega) rfl ?_ (ixStep_register d sr cond imm.isLt _ _ hop) fun _ => rfl
  rw [ixOpens_below_halt (by omega), Bool.and_false, Bool.or_false]

/-- Rows 0x18 to 0x1D change timers and counters. -/
theorem RunTakes.timer (hlow : 0x18 ≤ op) (hop : op < 0x20) {i : Nat} (hi : imm.toNat = i) {q : MState}
    (hq : ixTimerOp op d sr i (s.runInputs n e r) r.live = q) :
    Does c s (RunGoes n r (ixWord op d sr cond i) q (r.pc + 1) s) := by
  subst hq hi
  refine h.goes hexec (by omega) rfl ?_ (ixStep_timer d sr cond imm.isLt _ _ hlow hop) fun _ => rfl
  rw [ixOpens_below_halt (by omega), Bool.and_false, Bool.or_false]

/-- A row that ends the run (R133). -/
theorem RunTakes.ends (hop : op < 0x23) {nx : Option Nat}
    (hstep : ixStep (ixWord op d sr cond imm.toNat) (s.runInputs n e r) r.live = (r.live, .stop nx)) :
    Does c s (RunEnds n (r.executed (ixWord op d sr cond imm.toNat) r.live)
      { r.live with next := nx.getD (s.mach n).entry } s) := by
  have hlt : op < 64 := by omega
  have hopens : r.opens (ixWord op d sr cond imm.toNat) = false := by
    rw [r.opens_ixWord hlt d sr cond imm.isLt, ixOpens_below_halt hop, Bool.and_false]
  exact ⟨_, h.exec_row hexec hlt (fun ho => absurd (hopens.symm.trans ho) Bool.false_ne_true) hstep,
    State.endRun_ends (State.mach_lt_of_run h.run) _ _⟩

end

end

theorem toNat_setWidth_half {w : Nat} (hw : w ≤ 16) (x : BitVec w) : (x.setWidth 16).toNat = x.toNat := by
  rw [BitVec.toNat_setWidth, Nat.mod_eq_of_lt (x.isLt.trans_le (Nat.pow_le_pow_right (by decide) hw))]

/-- Settles O53: a row executes its word (`exec_row`), whose fields are the row's own (`ixWord_fields`); then the run
goes on (`goes`) or ends (`ends`), with the state that the instruction makes. -/
theorem ixustInstructions : Obligations.IxustInstructions := by
  rintro s n cond haon hdue _ rfl r hrun e htick hcount hholds _ rfl
  have h : RunTakes s n cond r e := ⟨haon, hdue, hrun, htick, hcount, hholds⟩
  refine ⟨?nop, fun d x => ⟨?ldi, ?ldh, ?addi, ?cmpi⟩, ?rd, ?registers, ?mag3, fun k => ⟨?tset, ?tsetv, ?tclr, ?tst⟩,
    fun k => ⟨?cadd, ?cclr⟩, fun a => ?targets, ?fin, ?ckpt, ?ckptOpens⟩
  case nop => exact h.register (d := 0) (sr := 0) (exec_ixNop n cond s) (by decide) rfl rfl
  case ldi =>
    exact h.register (sr := 0) (exec_ixLdi n cond d x s) (by decide) rfl (by simp only [ixRegOp, simm_toNat])
  case ldh => exact h.register (sr := 0) (exec_ixLdh n cond d x s) (by decide) rfl rfl
  case addi =>
    exact h.register (sr := 0) (exec_ixAddi n cond d x s) (by decide) rfl
      (by simp only [ixRegOp, ixAdd, simm_toNat, toInt_signExtend_half])
  case cmpi =>
    exact h.register (sr := 0) (exec_ixCmpi n cond d x s) (by decide) rfl
      (by simp only [ixRegOp, ixSub, simm_toNat, toInt_signExtend_half])
  case rd =>
    rintro d id _ rfl
    have hmod : id.toNat % 256 = id.toNat := Nat.mod_eq_of_lt id.isLt
    exact h.register (sr := 0) (exec_ixRd n cond d id s) (by decide) (toNat_setWidth_half (by decide) id)
      (by simp only [ixRegOp, hmod, State.runInputs])
  case registers =>
    rintro d b _ rfl _ rfl
    refine ⟨?_, ?_, ?_, ?_, ?_, ?_, ?_, ?_, ?_, ?_, fun k => ?_⟩
    · exact h.register (exec_ixMov n cond d b s) (by decide) rfl rfl
    · exact h.register (exec_ixAdd n cond d b s) (by decide) rfl rfl
    · exact h.register (exec_ixSub n cond d b s) (by decide) rfl rfl
    · exact h.register (exec_ixCmp n cond d b s) (by decide) rfl rfl
    · rintro _ rfl
      exact h.register (exec_ixAbs n cond d b s) (by decide) rfl (by simp only [ixRegOp, ixSat, sat32_natAbs_ne_iff])
    · rintro _ rfl
      exact h.register (exec_ixMin n cond d b s) (by decide) rfl rfl
    · rintro _ rfl
      exact h.register (exec_ixMax n cond d b s) (by decide) rfl rfl
    · exact h.register (exec_ixAnd n cond d b s) (by decide) rfl rfl
    · exact h.register (exec_ixOr n cond d b s) (by decide) rfl rfl
    · exact h.register (exec_ixXor n cond d b s) (by decide) rfl rfl
    · have hk := toNat_setWidth_half (by decide) k
      have hmod : k.toNat % 32 = k.toNat := Nat.mod_eq_of_lt k.isLt
      refine ⟨?_, ?_, ?_, ?_⟩ <;> rintro _ rfl
      · exact h.register (exec_ixMul n cond d b k s) (by decide) hk (by simp only [ixRegOp, hmod, divPow, ixSat])
      · exact h.register (exec_ixShr n cond d b k s) (by decide) hk (by simp only [ixRegOp, hmod, divPow])
      · exact h.register (exec_ixShl n cond d b k s) (by decide) hk (by simp only [ixRegOp, hmod, ixSat])
      · exact h.register (exec_ixFilt n cond d b k s) (by decide) hk (by simp only [ixRegOp, hmod, divPow])
  case mag3 =>
    rintro d b _ rfl _ rfl
    exact h.register (sr := b.castLE (by decide)) (exec_ixMag3 n cond d b s) (by decide) rfl (ixRegOp_mag3 d b 0 _ _)
  case tset => exact fun x => h.timer (sr := 0) (exec_ixTset n cond k x s) (by decide) (by decide) rfl rfl
  case tsetv => exact fun b => h.timer (exec_ixTsetv n cond k b s) (by decide) (by decide) rfl rfl
  case tclr => exact h.timer (sr := 0) (exec_ixTclr n cond k s) (by decide) (by decide) rfl rfl
  case tst =>
    exact h.timer (sr := 0) (exec_ixTst n cond k s) (by decide) (by decide) rfl (ixTimerOp_tst k 0 0 _ _)
  case cadd =>
    rintro x _ rfl _ rfl
    exact h.timer (sr := 0) (exec_ixCadd n cond k x s) (by decide) (by decide) rfl
      (by simp only [ixTimerOp, signed_toNat, Fin.val_castLE])
  case cclr => exact h.timer (sr := 0) (exec_ixCclr n cond k s) (by decide) (by decide) rfl rfl
  case targets =>
    have ha := toNat_setWidth_half (by decide) a
    have hmod : a.toNat % 8192 = a.toNat := Nat.mod_eq_of_lt a.isLt
    constructor
    · exact h.goes (d := 0) (sr := 0) (exec_ixJmp n cond a s) (by decide) ha
        (by rw [ixOpens_below_halt (by decide), Bool.and_false, Bool.or_false]) (ixStep_jmp _ _ _ (BitVec.isLt _) _ _)
        fun r' => by rw [State.proceed, ha, hmod]
    · have hends := h.ends (exec_ixNext n cond a s) (by decide) (ixStep_next _ _ _ (BitVec.isLt _) _ _)
      rwa [ha, hmod] at hends
  case fin => exact h.ends (exec_ixEnd n cond s) (by decide) (ixStep_end _ _ _ (BitVec.isLt _) _ _)
  case ckpt =>
    intro hopened
    refine h.goes (d := 0) (sr := 0) (exec_ixCkpt n cond s) (by decide) rfl ?_
      (ixStep_ckpt _ _ _ (BitVec.isLt _) _ _) fun _ => rfl
    rcases hopened with hk | ho
    · rw [beq_false_of_ne hk, Bool.false_and, Bool.or_false]
    · rw [ho, Bool.true_or]
  case ckptOpens =>
    intro hk hclosed hfree
    have hopens : (r.opened || r.opens (ixWord 0x24 (0 : Fin 8) (0 : Fin 8) cond (0 : BitVec 16).toNat)) = true := by
      rw [r.opens_ixWord (by decide) 0 0 cond (BitVec.isLt _), hk, hclosed]
      rfl
    refine ⟨_, h.exec_row (exec_ixCkpt n cond s) (by decide) (fun _ => .inr hfree)
      (ixStep_ckpt _ _ _ (BitVec.isLt _) _ _), (h.advance_executed _ _ _).trans ?_⟩
    rw [hopens]
    rfl

end Sys2Proof.Machine

namespace Sys2Proof.Machine

/-! ### The end of a join or a pair leaves the filters (R339, R340) -/

/-- The registers that the end of a join or a pair may change. -/
def leaveRegs : List Nat :=
  [Reg.PAIR_STATE, Reg.PAIR_EVENTS, Reg.PAIR_COUNTS, Reg.PAIR_NOISE, Reg.T1S_STATUS, Reg.TIME_STATUS, Reg.TIME_EVENTS]

theorem SampleKept.each {α : Type} {as : List Nat} {f : α → State → State} (hf : ∀ x s, SampleKept as s (f x s)) :
    ∀ (xs : List α) (s : State), SampleKept as s (s.each f xs)
  | [], s => .refl as s
  | x :: xs, s => (hf x s).trans (SampleKept.each hf xs _)

theorem SampleKept.putTime {as : List Nat} {s t : State} (h : SampleKept as s t) (x : TimePart) :
    SampleKept as s (t.putTime x) := h.trans (.of_frame (.of_regs rfl) rfl rfl rfl rfl)

theorem State.setServo_kept (s : State) (v : Nat) : SampleKept leaveRegs s (s.setServo v) := by
  have hset : SampleKept leaveRegs s (s.setF TIME_STATUS.SERVO v) := (SampleKept.refl _ s).setF _ _ (by decide)
  unfold State.setServo State.when
  extract_lets
  split
  · exact hset.raise _ _ (by decide) (by decide)
  · exact hset

theorem State.rearm_kept (s : State) : SampleKept leaveRegs s s.rearm :=
  (((SampleKept.refl _ s).setF TIME_STATUS.STEP_ARMED 1 (by decide)).putTime _).trans (State.setServo_kept _ _)

theorem State.pairIdle_kept (s : State) : SampleKept leaveRegs s s.pairIdle := by
  unfold State.pairIdle
  extract_lets u part v
  have hu : SampleKept leaveRegs s u :=
    (((SampleKept.refl _ s).setF _ _ (by decide)).setF _ _ (by decide)).setF _ _ (by decide)
  have hv : SampleKept leaveRegs s v := hu.putPair _
  split
  · exact (hv.putTime _).trans (State.rearm_kept _)
  · exact hv

theorem State.failJoin_kept (s : State) (reason : Nat) : SampleKept leaveRegs s (s.failJoin reason) :=
  (((SampleKept.refl _ s).setF _ _ (by decide)).raise _ _ (by decide) (by decide)).trans (State.pairIdle_kept _)

theorem State.formAlone_kept (s : State) (w : PairWait) : SampleKept leaveRegs s (s.formAlone w) :=
  (((((SampleKept.refl _ s).hold _ _ _).putPair _).alphaReady _ _).addSat _ _ (by decide)).raise _ _ (by decide)
    (by decide)

theorem State.sendPair_kept (s : State) (msg reason time : Nat) : SampleKept leaveRegs s (s.sendPair msg reason time) :=
  .of_frame (.of_regs rfl) rfl rfl rfl rfl

theorem State.pairLeave_kept (s : State) (cause : Nat) (tell : Bool) :
    SampleKept leaveRegs s (s.pairLeave cause tell) := by
  unfold State.pairLeave
  split
  · extract_lets first cause' u noise v rec w x y
    have hu : SampleKept leaveRegs s u := SampleKept.each (fun w s => s.formAlone_kept w) _ _
    have hv : SampleKept leaveRegs s v := (hu.setF _ _ (by decide)).addSat _ _ (by decide)
    have hw : SampleKept leaveRegs s w :=
      hv.trans ⟨rfl, rfl, rfl, fun k hk => ⟨k, List.mem_append_left _ hk, rfl, rfl, rfl⟩, .of_regs rfl⟩
    have hx : SampleKept leaveRegs s x := (hw.raise _ _ (by decide) (by decide)).setReg _ _ (by decide)
    have hy : SampleKept leaveRegs s y := by
      simp only [y, State.when]
      split
      · exact hx.trans (State.sendPair_kept _ _ _ _)
      · exact hx
    exact hy.trans (State.pairIdle_kept _)
  · exact .refl _ s

theorem State.pairConfigLeave_kept (s : State) : SampleKept leaveRegs s s.pairConfigLeave := by
  unfold State.pairConfigLeave
  split
  · exact s.failJoin_kept 2
  · exact s.pairLeave_kept 3 true

theorem State.pairConfigLeave_of_not_busy {s : State} (h : s.pairBusy = false) : s.pairConfigLeave = s := by
  have hlt : s.pairState < 2 := by simpa [State.pairBusy] using h
  unfold State.pairConfigLeave State.pairLeave
  rw [if_neg (show s.pairState ≠ 2 by omega), if_neg (show s.pairState ≠ 3 by omega)]

end Sys2Proof.Machine

namespace Sys2Proof.Machine

/-! ### Replies to commands of the filters -/

/-- Nothing is changed but registers, the filters, and ALERT_N's mark. -/
def FiltOnly (s t : State) : Prop :=
  t = { s with regs := t.regs, filt := t.filt, tw := { s.tw with quiet := t.tw.quiet } }

theorem RegsOnly.filtOnly {s t : State} (h : RegsOnly s t) : FiltOnly s t := by
  unfold RegsOnly FiltOnly at *
  rw [h]

theorem FiltOnly.trans {s t u : State} (h : FiltOnly s t) (k : FiltOnly t u) : FiltOnly s u := by
  unfold FiltOnly at *
  rw [k, h]

theorem FiltOnly.putFilt (s : State) (f : FilterPart) : FiltOnly s (s.putFilt f) := rfl

theorem FiltOnly.replyOnly {s u t : State} (h : FiltOnly s u) (k : ReplyOnly u t) :
    ReplyOnly { s with filt := t.filt } t := by
  unfold FiltOnly ReplyOnly at *
  rw [k, h]

theorem RegsOnly.filt {s t : State} (h : RegsOnly s t) : t.filt = s.filt := by rw [h]

theorem ReplyOnly.filt {s t : State} (h : ReplyOnly s t) : t.filt = s.filt := by rw [h]

theorem RegFrame.putFilt {as : List Nat} {s t : State} (h : RegFrame as s t) (f : FilterPart) :
    RegFrame as s (t.putFilt f) := h.regs rfl

theorem State.coefSet_of_filt {s t : State} (h : t.filt = s.filt) (i : Nat) : t.coefSet i = s.coefSet i := by
  rw [State.coefSet, h, State.coefSet]

/-- An accepted command whose effect ends in `u`: it changes registers and the filters alone, and its reply has no
data. -/
theorem Cmd.answered_of_filtOnly {c : Cmd} {r : Req} {s : State} {as : List Nat} (haon : s.aon = true)
    (hacc : c.accepts r s = true) {u : State} (he : c.effect r s = (u, [])) (honly : FiltOnly s u)
    (hf : RegFrame as s u) (has : ∀ b ∈ as, b ∉ postRegs) :
    ∃ t, act (c.run r) s = .next t ∧ Answered c r s u t ∧ Replied c.op r OK [] s t := by
  obtain ⟨t, hrun, hans⟩ := Cmd.answered_of_accepts haon hacc (fun _ => by rw [he]; exact Nat.zero_le _)
    (by rw [he, honly]) (by rw [he, honly]) (by rwa [he]) has
  have hreplied := hans.replied
  rw [he] at hans hreplied
  exact ⟨t, hrun, hans, hreplied⟩

/-! ### SET_PRESET (R109) -/

/-- The preset that will be in force: that of the change in progress, or the active one. -/
def State.presetGoal (s : State) : Nat := (s.filt.change.map (·.code)).getD s.preset

theorem State.presetGoal_of_idle {s : State} (h : s.filt.change = none) : s.presetGoal = s.preset := by
  rw [State.presetGoal, h]; rfl

theorem State.presetGoal_of_change {s : State} {x : PresetChange} (h : s.filt.change = some x) :
    s.presetGoal = x.code := by
  rw [State.presetGoal, h]; rfl

theorem State.requestPreset_goal {s : State} {c : Nat} (h : c = s.presetGoal) :
    s.requestPreset c = (s.setF FILT_PRESET.PRESET c).putFilt { s.filt with queued := none } := if_pos h

theorem State.requestPreset_behind {s : State} {c : Nat} (h : c ≠ s.presetGoal)
    (hchange : s.filt.change.isSome = true) :
    s.requestPreset c = (s.setF FILT_PRESET.PRESET c).putFilt { s.filt with queued := some c } :=
  (if_neg h).trans (if_pos hchange)

theorem State.requestPreset_start {s : State} {c : Nat} (h : c ≠ s.presetGoal) (hidle : s.filt.change = none) :
    s.requestPreset c = ((s.setF FILT_PRESET.PRESET c).putFilt { s.filt with
      change := some { code := c, ta := s.nextTa, applied := false, tL := 0, first := 0 } }).setF
        FILT_PRESET.CHANGE_PENDING 1 :=
  (if_neg h).trans (if_neg (by rw [State.setF_filt, hidle]; decide))

/-- A request stores its preset and leaves the one in force, whatever becomes of it. -/
theorem State.requestPreset_fields (s : State) {c : Nat} (hc : c ≤ 4) :
    let u := s.requestPreset c
    u.fld FILT_PRESET.PRESET = c ∧ u.preset = s.preset ∧ RegFrame [Reg.FILT_PRESET] s u ∧ FiltOnly s u := by
  let v := s.setF FILT_PRESET.PRESET c
  have hfit : v.fld FILT_PRESET.PRESET = c :=
    (s.fld_setF_same _ c (by decide)).trans (Nat.mod_eq_of_lt (Nat.lt_of_le_of_lt hc (by decide)))
  have hpreset : v.preset = s.preset := s.fld_setF_other _ _ _ (by decide)
  have hframe : RegFrame [Reg.FILT_PRESET] s v := (RegFrame.refl _ s).setF _ _ (.inl (by decide))
  by_cases hgoal : c = s.presetGoal
  · rw [State.requestPreset_goal hgoal]
    exact ⟨hfit, hpreset, hframe.putFilt _, rfl⟩
  cases hchange : s.filt.change with
  | some x =>
    rw [State.requestPreset_behind hgoal (by rw [hchange]; rfl)]
    exact ⟨hfit, hpreset, hframe.putFilt _, rfl⟩
  | none =>
    rw [State.requestPreset_start hgoal hchange]
    exact ⟨(State.fld_setF_other _ _ _ _ (by decide)).trans hfit,
      (State.fld_setF_other _ _ _ _ (by decide)).trans hpreset, (hframe.putFilt _).setF _ _ (.inl (by decide)), rfl⟩

theorem State.requestPreset_starts {s : State} {c : Nat} (hidle : s.filt.change = none) (hc : c ≠ s.preset) :
    let u := s.requestPreset c
    u.on FILT_PRESET.CHANGE_PENDING = true ∧ u.filt = { s.filt with
      change := some { code := c, ta := (s.tick / 40 + 1) * 40, applied := false, tL := 0, first := 0 } } := by
  have hgoal : c ≠ s.presetGoal := fun h => hc (h.trans (State.presetGoal_of_idle hidle))
  rw [State.requestPreset_start hgoal hidle]
  exact ⟨(State.on_eq_true_iff _ _).mpr (by rw [State.fld_setF_same _ _ _ (by decide)]; decide), rfl⟩

theorem State.requestPreset_of_active {s : State} (hidle : s.filt.change = none) :
    (s.requestPreset s.preset).filt = { s.filt with queued := none } := by
  rw [State.requestPreset_goal (State.presetGoal_of_idle hidle).symm]
  rfl

theorem State.requestPreset_queues {s : State} {x : PresetChange} (hx : s.filt.change = some x) (c : Nat) :
    (s.requestPreset c).filt = { s.filt with queued := if c = x.code then none else some c } := by
  have hgoal := State.presetGoal_of_change hx
  by_cases hc : c = x.code
  · rw [State.requestPreset_goal (hc.trans hgoal.symm), if_pos hc]
    rfl
  · rw [State.requestPreset_behind (fun h => hc (h.trans hgoal)) (by rw [hx]; rfl), if_neg hc]
    rfl

theorem setPreset_accepted {r : Req} {s : State} (haon : s.aon = true) (hacc : cmdSetPreset.accepts r s = true) :
    Does (.setPreset r) s fun t =>
      Replied 0x30 r OK [] s t ∧ t.fld FILT_PRESET.PRESET = byteAt r.params 0 ∧ t.preset = s.preset ∧
      (s.filt.change = none → byteAt r.params 0 ≠ s.preset → t.on FILT_PRESET.CHANGE_PENDING = true ∧
        t.filt = { s.filt with
          change := some {
            code := byteAt r.params 0, ta := (s.tick / 40 + 1) * 40, applied := false, tL := 0, first := 0 } }) ∧
      (s.filt.change = none → byteAt r.params 0 = s.preset → t.filt = { s.filt with queued := none }) ∧
      (∀ x, s.filt.change = some x →
        t.filt = { s.filt with queued := if byteAt r.params 0 = x.code then none else some (byteAt r.params 0) }) ∧
      RegFrame (Reg.FILT_PRESET :: replyRegs) s t ∧ ReplyOnly { s with filt := t.filt } t := by
  have hc : byteAt r.params 0 ≤ 4 := by
    obtain ⟨hcode, -⟩ : byteAt r.params 0 ≤ 4 ∧ s.filt.swap = none := by
      simpa using (refusals_eq_none_iff _).mp (Cmd.check_of_accepts hacc)
    exact hcode
  obtain ⟨hpreset, hactive, hframe, honly⟩ := s.requestPreset_fields hc
  obtain ⟨t, hrun, hans, hreplied⟩ := Cmd.answered_of_filtOnly haon hacc rfl honly hframe (by decide)
  have hfilt : t.filt = (s.requestPreset (byteAt r.params 0)).filt := hans.only.filt
  refine ⟨t, (exec_setPreset r s).trans hrun, hreplied, (hans.fld _ (by decide)).trans hpreset,
    (hans.fld _ (by decide)).trans hactive, fun hidle hne => ?_, fun hidle he => ?_, fun x hx => ?_,
    hans.regFrame hframe, honly.replyOnly hans.only⟩
  · obtain ⟨hpending, hstarts⟩ := State.requestPreset_starts hidle hne
    exact ⟨(hans.on _ (by decide)).trans hpending, hfilt.trans hstarts⟩
  · rw [hfilt, he, State.requestPreset_of_active hidle]
  · exact hfilt.trans (State.requestPreset_queues hx _)

end Sys2Proof.Machine

namespace Sys2Proof.Machine

/-! ### Coefficients and sets (R119, R120) -/

theorem targetIx_lt {t i : Nat} (h : targetIx t = some i) : i < 20 := by
  unfold targetIx at h
  split_ifs at h <;> simp only [Option.some.injEq] at h <;> omega

theorem lookup_putCoef (j k : Nat) (v : Int) (cs : List (Nat × Int)) :
    (putCoef k v cs).lookup j = if j = k then some v else cs.lookup j := by
  have hfilter (h : j ≠ k) : (cs.filter (·.1 != k)).lookup j = cs.lookup j := by
    induction cs with
    | nil => rfl
    | cons c cs ih =>
      obtain ⟨a, x⟩ := c
      by_cases ha : a = k
      · have hja : (j == a) = false := beq_false_of_ne (ha ▸ h)
        simp [ha, ih, List.lookup_cons, ha ▸ hja]
      · simp [ha, ih, List.lookup_cons]
  unfold putCoef
  rw [List.lookup_cons]
  by_cases h : j = k
  · rw [if_pos h, beq_iff_eq.mpr h]
  · rw [if_neg h, beq_false_of_ne h, hfilter h]

/-- Coefficients written from `first` on are those of the list afterwards. -/
theorem lookup_writtenCoefs (first : Nat) (g : Nat → Int) (kept : List (Nat × Int)) :
    ∀ n, ∀ k < n, ((List.range n).foldl (fun cs k => putCoef (first + k) (g k) cs) kept).lookup (first + k) = some (g k)
  | 0, k, hk => absurd hk (Nat.not_lt_zero k)
  | n + 1, k, hk => by
    rw [List.range_succ, List.foldl_append]
    refine (lookup_putCoef _ _ _ _).trans ?_
    by_cases h : k = n
    · rw [h, if_pos rfl]
    · rw [if_neg (by omega), lookup_writtenCoefs first g kept n k (by omega)]

theorem State.coefSet_set (s : State) {i : Nat} (hi : i < s.filt.sets.length) (c : CoefSet) (j : Nat) :
    (s.putFilt { s.filt with sets := s.filt.sets.set i c }).coefSet j = if j = i then c else s.coefSet j := by
  unfold State.coefSet State.putFilt
  rw [List.getD_eq_getElem?_getD, List.getElem?_set]
  by_cases hj : i = j
  · subst hj
    simp [hi]
  · rw [if_neg hj, if_neg fun h => hj h.symm, List.getD_eq_getElem?_getD]

theorem validF_eq (i : Nat) : validF i = bitF Reg.FILT_VALID (if i < 4 then i else 16 + (i - 4)) := by
  unfold validF
  split <;> rfl

theorem validF_fits {i : Nat} (hi : i < 20) : (validF i).lo + (validF i).width ≤ 32 := by
  rw [validF_eq]
  simp only [bitF]
  split <;> omega

theorem validF_reg (i : Nat) : (validF i).reg = Reg.FILT_VALID := by rw [validF_eq]; rfl

theorem validF_apart {i j : Nat} (h : j ≠ i) :
    (validF i).lo + (validF i).width ≤ (validF j).lo ∨ (validF j).lo + (validF j).width ≤ (validF i).lo := by
  rw [validF_eq, validF_eq]
  simp only [bitF]
  split_ifs <;> omega

/-! ### Candidates of the notch (R123, R124) -/

theorem State.hasCandidate_congr {s u : State} (hsets : u.filt.sets = s.filt.sets)
    (hvalid : u.reg Reg.FILT_VALID = s.reg Reg.FILT_VALID) (hpreset : u.preset = s.preset) :
    u.hasCandidate = s.hasCandidate := by
  have hon (i : Nat) : u.on (validF i) = s.on (validF i) := by
    rw [State.on, State.fld, validF_reg, hvalid, State.on, State.fld, validF_reg]
  have hset (i : Nat) : u.coefSet i = s.coefSet i := by
    rw [State.coefSet, hsets, State.coefSet]
  have hcandidate : u.candidate = s.candidate := by
    funext k
    rw [State.candidate, hon, hset, hpreset, State.candidate]
  rw [State.hasCandidate, hcandidate, State.hasCandidate]

theorem State.on_setF_b01 (s : State) (f : Fld) (hf : f.lo + f.width ≤ 32) (hw : f.width = 1) (b : Bool) :
    (s.setF f (b01 b)).on f = b := by
  rw [State.on, State.fld_setF_same _ _ _ hf, hw]
  cases b <;> rfl

theorem State.notchSlot_of_frame {as : List Nat} {s u : State} (h : RegFrame as s u) (ha : Reg.FILT_STATUS ∉ as) :
    u.notchSlot = s.notchSlot := by
  have hp : Reg.FILT_STATUS ∉ pendRegs := by decide
  rw [State.notchSlot, h.on FILT_STATUS.NOTCH_ACTIVE ha hp, h.fld FILT_STATUS.NOTCH_SET ha hp, State.notchSlot]

/-- NOTCH_SUSPENDED follows EN and the candidates, with its event, and nothing else changes. -/
theorem State.syncSuspended_result (s : State) :
    s.syncSuspended.on FILT_STATUS.NOTCH_SUSPENDED = (s.on NOTCH_CTRL.EN && !s.hasCandidate) ∧
      RegFrame [Reg.FILT_STATUS, Reg.FILT_EVENTS] s s.syncSuspended ∧ RegsOnly s s.syncSuspended ∧
      s.syncSuspended.notchSlot = s.notchSlot := by
  let v := s.setF FILT_STATUS.NOTCH_SUSPENDED (b01 (s.on NOTCH_CTRL.EN && !s.hasCandidate))
  have hslot : v.notchSlot = s.notchSlot := by
    rw [State.notchSlot, State.on, s.fld_setF_other _ _ _ (by decide), s.fld_setF_other _ _ _ (by decide)]
    rfl
  have hframe : RegFrame [Reg.FILT_STATUS, Reg.FILT_EVENTS] s v := (RegFrame.refl _ s).setF _ _ (.inl (by decide))
  have hraise : RegFrame [Reg.FILT_EVENTS] v s.syncSuspended ∧ RegsOnly v s.syncSuspended := by
    unfold State.syncSuspended State.when
    extract_lets
    split
    · exact ⟨(RegFrame.refl _ v).raise _ _ (by decide) (by decide), .raise v _ _⟩
    · exact ⟨.refl _ v, .refl v⟩
  obtain ⟨hevent, honly⟩ := hraise
  exact ⟨(hevent.on _ (by decide) (by decide)).trans (s.on_setF_b01 _ (by decide) rfl _),
    hframe.trans (hevent.mono (by decide)), (RegsOnly.setF s _ _).trans honly,
    (State.notchSlot_of_frame hevent (by decide)).trans hslot⟩

/-! ### COEFF_WRITE and COEFF_COMMIT (R119, R120) -/

/-- A set is stored with its FILT_VALID bit, and the notch's suspension follows. -/
def State.storeSet (i : Nat) (c : CoefSet) (valid : Bool) (s : State) : State :=
  ((s.putFilt { s.filt with sets := s.filt.sets.set i c }).setF (validF i) (b01 valid)).syncSuspended

/-- The registers that the store of a set may change. -/
def setRegs : List Nat := [Reg.FILT_VALID, Reg.FILT_STATUS, Reg.FILT_EVENTS]

/-- `t` differs from `s` by set `i`, which is now `c`, valid or not; the other sets stay. -/
structure SetStored (i : Nat) (c : CoefSet) (valid : Bool) (s t : State) : Prop where
  valid : t.on (validF i) = valid
  set : t.coefSet i = c
  others : ∀ j, j ≠ i → t.coefSet j = s.coefSet j
  othersValid : ∀ j < 20, j ≠ i → t.fld (validF j) = s.fld (validF j)
  filt : t.filt = { s.filt with sets := t.filt.sets }

theorem State.storeSet_result {s : State} {i : Nat} (hi : i < 20) (hlen : s.filt.sets.length = 20) (c : CoefSet)
    (valid : Bool) :
    let u := s.storeSet i c valid
    SetStored i c valid s u ∧ RegFrame setRegs s u ∧ FiltOnly s u := by
  let v := s.putFilt { s.filt with sets := s.filt.sets.set i c }
  let w := v.setF (validF i) (b01 valid)
  obtain ⟨-, hframe, honly, -⟩ := w.syncSuspended_result
  have hfilt : w.syncSuspended.filt = v.filt := honly.filt
  have hset (j : Nat) : w.syncSuspended.coefSet j = if j = i then c else s.coefSet j :=
    (State.coefSet_of_filt hfilt j).trans (s.coefSet_set (hlen ▸ hi) c j)
  have hkept (j : Nat) : w.syncSuspended.fld (validF j) = w.fld (validF j) :=
    hframe.fld _ (by rw [validF_reg]; decide) (by rw [validF_reg]; decide)
  refine ⟨⟨?_, ?_, fun j hj => ?_, fun j _ hj => ?_, ?_⟩, ?_, ?_⟩
  · exact (congrArg (· != 0) (hkept i)).trans (v.on_setF_b01 _ (validF_fits hi) (by rw [validF_eq]; rfl) valid)
  · exact (hset i).trans (if_pos rfl)
  · exact (hset j).trans (if_neg hj)
  · exact (hkept j).trans (v.fld_setF_other _ _ _ (.inr (validF_apart hj)))
  · show w.syncSuspended.filt = { s.filt with sets := w.syncSuspended.filt.sets }
    rw [hfilt]
    rfl
  · exact (((RegFrame.refl _ s).putFilt _).setF _ _ (.inl (by rw [validF_reg]; decide))).trans (hframe.mono (by decide))
  · exact (FiltOnly.putFilt s _).trans ((RegsOnly.setF v _ _).trans honly).filtOnly

/-- The reply to a command leaves the set that it has stored. -/
theorem SetStored.answered {c : Cmd} {r : Req} {i : Nat} {x : CoefSet} {valid : Bool} {s u t : State}
    (h : SetStored i x valid s u) (hans : Answered c r s u t) : SetStored i x valid s t := by
  have hfilt := hans.only.filt
  have hfld (j : Nat) : t.fld (validF j) = u.fld (validF j) := hans.fld _ (by rw [validF_reg]; decide)
  refine ⟨?_, ?_, fun j hj => ?_, fun j hlt hj => (hfld j).trans (h.othersValid j hlt hj), ?_⟩
  · rw [← h.valid, State.on, hfld, State.on]
  · exact (State.coefSet_of_filt hfilt i).trans h.set
  · exact (State.coefSet_of_filt hfilt j).trans (h.others j hj)
  · rw [hfilt]
    exact h.filt

/-- An accepted command that stores a set. -/
theorem Cmd.answered_of_storeSet {c : Cmd} {r : Req} {s : State} {i : Nat} {x : CoefSet} {valid : Bool}
    (haon : s.aon = true) (hshaped : s.Shaped) (hacc : c.accepts r s = true) (hi : i < 20)
    (he : c.effect r s = (s.storeSet i x valid, [])) :
    ∃ t, act (c.run r) s = .next t ∧ Replied c.op r OK [] s t ∧ SetStored i x valid s t ∧
      RegFrame (setRegs ++ replyRegs) s t ∧ ReplyOnly { s with filt := { s.filt with sets := t.filt.sets } } t := by
  obtain ⟨-, -, -, hlen, -⟩ := hshaped
  obtain ⟨hset, hframe, honly⟩ := State.storeSet_result hi hlen x valid
  obtain ⟨t, hrun, hans, hreplied⟩ := Cmd.answered_of_filtOnly haon hacc he honly hframe (by decide)
  have hstored := hset.answered hans
  have hreply := honly.replyOnly hans.only
  rw [hstored.filt] at hreply
  exact ⟨t, hrun, hreplied, hstored, hans.regFrame hframe, hreply⟩

/-- The set `i` after a write: the coefficients written stand with those written before, if it was not valid. -/
def State.writtenSet (s : State) (p : List Byte) (i : Nat) : CoefSet :=
  { s.coefSet i with
    coefs := (List.range (half p 4)).foldl (fun cs k => putCoef (half p 2 + k) (coef24 p (6 + 3 * k)) cs)
      (if s.on (validF i) then [] else (s.coefSet i).coefs) }

theorem coeffWrite_effect {r : Req} {i : Nat} (h : targetIx (byteAt r.params 0) = some i) (s : State) :
    cmdCoeffWrite.effect r s = (s.storeSet i (s.writtenSet r.params i) false, []) := by
  simp only [cmdCoeffWrite, coeffWriteApply, h]
  rfl

theorem coeffWrite_accepted {r : Req} {s : State} (haon : s.aon = true) (hshaped : s.Shaped)
    (hacc : cmdCoeffWrite.accepts r s = true) {i : Nat} (hi : targetIx (byteAt r.params 0) = some i) :
    Does (.coeffWrite r) s fun t =>
      Replied 0x31 r OK [] s t ∧ t.on (validF i) = false ∧
      (∀ k < half r.params 4, (t.coefSet i).coefs.lookup (half r.params 2 + k) = some (coef24 r.params (6 + 3 * k))) ∧
      (∀ j, j ≠ i → t.coefSet j = s.coefSet j) ∧ (∀ j < 20, j ≠ i → t.fld (validF j) = s.fld (validF j)) ∧
      RegFrame (setRegs ++ replyRegs) s t ∧ ReplyOnly { s with filt := { s.filt with sets := t.filt.sets } } t := by
  obtain ⟨t, hrun, hreplied, hset, hframe, honly⟩ :=
    Cmd.answered_of_storeSet haon hshaped hacc (targetIx_lt hi) (coeffWrite_effect hi s)
  refine ⟨t, (exec_coeffWrite r s).trans hrun, hreplied, hset.valid, fun k hk => ?_, hset.others, hset.othersValid,
    hframe, honly⟩
  rw [hset.set]
  exact lookup_writtenCoefs _ _ _ _ k hk

/-- The set `i` with the properties that a commit declares. -/
def State.committedSet (s : State) (p : List Byte) (i : Nat) : CoefSet :=
  { coefs := (s.coefSet i).coefs, tag := byteAt p 1, taps := half p 2, delay := half p 4, frac := half p 6
    fLo := half p 8, fHi := half p 10 }

theorem coeffCommit_effect {r : Req} {i : Nat} (h : targetIx (byteAt r.params 0) = some i) (s : State) :
    cmdCoeffCommit.effect r s = (s.storeSet i (s.committedSet r.params i) true, []) := by
  simp only [cmdCoeffCommit, coeffCommitApply, h]
  rfl

theorem coeffCommit_accepted {r : Req} {s : State} (haon : s.aon = true) (hshaped : s.Shaped)
    (hacc : cmdCoeffCommit.accepts r s = true) {i : Nat} (hi : targetIx (byteAt r.params 0) = some i) :
    Does (.coeffCommit r) s fun t =>
      Replied 0x32 r OK [] s t ∧ t.on (validF i) = true ∧ t.coefSet i = s.committedSet r.params i ∧
      (∀ j, j ≠ i → t.coefSet j = s.coefSet j) ∧ (∀ j < 20, j ≠ i → t.fld (validF j) = s.fld (validF j)) ∧
      RegFrame (setRegs ++ replyRegs) s t := by
  obtain ⟨t, hrun, hreplied, hset, hframe, -⟩ :=
    Cmd.answered_of_storeSet haon hshaped hacc (targetIx_lt hi) (coeffCommit_effect hi s)
  exact ⟨t, (exec_coeffCommit r s).trans hrun, hreplied, hset.valid, hset.set, hset.others, hset.othersValid, hframe⟩

end Sys2Proof.Machine

namespace Sys2Proof.Machine

/-! ### BANK_SELECT and DECIM_SYNC (R117, R121) -/

/-- The selection that a byte of BANK_SELECT names: 0xFF keeps the one selected. -/
def State.selected (s : State) (f : Fld) (code : Nat) : Nat := if code = 0xFF then s.fld f else code

theorem State.selected_lt {s : State} {f : Fld} {code : Nat} (h : code = 0xFF ∨ code < 2 ^ f.width) :
    s.selected f code < 2 ^ f.width := by
  unfold State.selected
  split
  · exact s.fld_lt f
  · next hne => exact h.resolve_left hne

theorem bankApply_result (s : State) {a g : Nat} (ha : a = 0xFF ∨ a < 2 ^ 2) (hg : g = 0xFF ∨ g < 2 ^ 2) :
    let a' := s.selected FILT_BANK.ACC_SEL a
    let g' := s.selected FILT_BANK.GYR_SEL g
    let u := bankApply a g s
    u.fld FILT_BANK.ACC_SEL = a' ∧ u.fld FILT_BANK.GYR_SEL = g' ∧ u.on FILT_BANK.SWAP_PENDING = true ∧
      u.fld FILT_BANK.ACC_ACTIVE = s.fld FILT_BANK.ACC_ACTIVE ∧
      u.fld FILT_BANK.GYR_ACTIVE = s.fld FILT_BANK.GYR_ACTIVE ∧ u.filt = { s.filt with swap := some (a', g') } ∧
      RegFrame [Reg.FILT_BANK] s u ∧ FiltOnly s u := by
  intro a' g' u
  let v := (s.setF FILT_BANK.ACC_SEL a').setF FILT_BANK.GYR_SEL g'
  let w := v.putFilt { s.filt with swap := some (a', g') }
  have hkept (f : Fld) (hf : f.reg ≠ Reg.FILT_BANK ∨ 21 ≤ f.lo ∨ f.lo + f.width ≤ 20) : u.fld f = v.fld f :=
    w.fld_setF_other FILT_BANK.SWAP_PENDING f 1 hf
  have hmem : Reg.FILT_BANK ∈ [Reg.FILT_BANK] := List.mem_singleton.mpr rfl
  refine ⟨?_, ?_, ?_, ?_, ?_, rfl, ?_, rfl⟩
  · rw [hkept _ (by decide), State.fld_setF_other _ _ _ _ (by decide), State.fld_setF_same _ _ _ (by decide)]
    exact Nat.mod_eq_of_lt (State.selected_lt ha)
  · rw [hkept _ (by decide), State.fld_setF_same _ _ _ (by decide)]
    exact Nat.mod_eq_of_lt (State.selected_lt hg)
  · exact w.on_setF_b01 _ (by decide) rfl true
  · rw [hkept _ (by decide), State.fld_setF_other _ _ _ _ (by decide), State.fld_setF_other _ _ _ _ (by decide)]
  · rw [hkept _ (by decide), State.fld_setF_other _ _ _ _ (by decide), State.fld_setF_other _ _ _ _ (by decide)]
  · exact ((((RegFrame.refl _ s).setF _ _ (.inl hmem)).setF _ _ (.inl hmem)).putFilt _).setF _ _ (.inl hmem)

theorem bankSelect_accepted {r : Req} {s : State} (haon : s.aon = true) (hacc : cmdBankSelect.accepts r s = true) :
    let a := s.selected FILT_BANK.ACC_SEL (byteAt r.params 0)
    let g := s.selected FILT_BANK.GYR_SEL (byteAt r.params 1)
    Does (.bankSelect r) s fun t =>
      Replied 0x33 r OK [] s t ∧ t.fld FILT_BANK.ACC_SEL = a ∧ t.fld FILT_BANK.GYR_SEL = g ∧
      t.on FILT_BANK.SWAP_PENDING = true ∧ t.fld FILT_BANK.ACC_ACTIVE = s.fld FILT_BANK.ACC_ACTIVE ∧
      t.fld FILT_BANK.GYR_ACTIVE = s.fld FILT_BANK.GYR_ACTIVE ∧ t.filt = { s.filt with swap := some (a, g) } ∧
      RegFrame (Reg.FILT_BANK :: replyRegs) s t := by
  obtain ⟨ha, hg⟩ : (byteAt r.params 0 = 0xFF ∨ byteAt r.params 0 < 2 ^ 2) ∧
      (byteAt r.params 1 = 0xFF ∨ byteAt r.params 1 < 2 ^ 2) := by
    have hcheck := (refusals_eq_none_iff _).mp (Cmd.check_of_accepts hacc)
    have hcodes := hcheck _ (List.mem_cons_self ..)
    simp only [Bool.or_eq_false_iff, Bool.not_eq_false', Bool.or_eq_true, decide_eq_true_eq, beq_iff_eq] at hcodes
    omega
  obtain ⟨hselA, hselG, hpending, hactiveA, hactiveG, hfilt, hframe, honly⟩ := bankApply_result s ha hg
  obtain ⟨t, hrun, hans, hreplied⟩ := Cmd.answered_of_filtOnly haon hacc rfl honly hframe (by decide)
  exact ⟨t, (exec_bankSelect r s).trans hrun, hreplied, (hans.fld _ (by decide)).trans hselA,
    (hans.fld _ (by decide)).trans hselG, (hans.on _ (by decide)).trans hpending,
    (hans.fld _ (by decide)).trans hactiveA, (hans.fld _ (by decide)).trans hactiveG, hans.only.filt.trans hfilt,
    hans.regFrame hframe⟩

theorem decimSync_accepted {r : Req} {s : State} (haon : s.aon = true) (hacc : cmdDecimSync.accepts r s = true) :
    Does (.decimSync r) s fun t =>
      Replied 0x34 r OK [] s t ∧ RegFrame replyRegs s t ∧
      t.filt = { s.filt with reset := some (if numAt r.params 0 8 = 0 then s.tick + 1 else numAt r.params 0 8) } ∧
      ReplyOnly { s with filt := t.filt } t := by
  let tick := if numAt r.params 0 8 = 0 then s.tick + 1 else numAt r.params 0 8
  have honly : FiltOnly s (s.requestReset tick) := rfl
  have hframe : RegFrame [] s (s.requestReset tick) := .of_regs rfl
  obtain ⟨t, hrun, hans, hreplied⟩ := Cmd.answered_of_filtOnly haon hacc rfl honly hframe (by decide)
  exact ⟨t, (exec_decimSync r s).trans hrun, hreplied, hans.regFrame hframe, hans.only.filt, honly.replyOnly hans.only⟩

/-! ### The notch's configuration (R123, R124) -/

/-- NOTCH_CTRL is stored from a word. -/
def State.notchStored (w : Word) (s : State) : State := s.putWritable Reg.NOTCH_CTRL w

theorem State.on_bitF (s : State) (a k : Nat) : s.on (bitF a k) = (s.reg a).getLsbD k := by
  rw [State.on, State.fld, bits, ← BitVec.testBit_toNat, Nat.testBit_eq_decide_div_mod_eq, Nat.shiftRight_eq_div_pow]
  show ((s.reg a).toNat / 2 ^ k % 2 != 0) = _
  rcases Nat.mod_two_eq_zero_or_one ((s.reg a).toNat / 2 ^ k) with h | h <;> rw [h] <;> rfl

theorem State.notchStored_on (s : State) (w : Word) : (s.notchStored w).on NOTCH_CTRL.EN = bit w 0 := by
  have hmask : (rwMask Reg.NOTCH_CTRL).getLsbD 0 = true := by decide
  refine ((s.notchStored w).on_bitF Reg.NOTCH_CTRL 0).trans ?_
  rw [State.notchStored, State.reg_putWritable_same, BitVec.getLsbD_or, BitVec.getLsbD_and, BitVec.getLsbD_and,
    BitVec.getLsbD_not, hmask]
  simp [bit]

theorem State.notchStored_regFrame (s : State) (w : Word) : RegFrame [Reg.NOTCH_CTRL] s (s.notchStored w) :=
  (RegFrame.refl _ s).setReg _ _ (.inl (by decide))

/-- The registers that taking a slot out of use may change, where no join or pair hears of it. -/
def slotRegs : List Nat := [Reg.FILT_STATUS, Reg.FILT_EVENTS, Reg.NOTCH_FREQ]

/-- The slot goes out of use: reported, and a join or a pair ends by it (R123, Table 15.7). -/
theorem State.useSlot_none_result (s : State) :
    (s.useSlot none).notchSlot = none ∧ SampleKept (slotRegs ++ leaveRegs) s (s.useSlot none) ∧
      (s.pairBusy = false → RegFrame slotRegs s (s.useSlot none)) := by
  by_cases hslot : s.notchSlot = none
  · have hsame : s.useSlot none = s := if_pos hslot.symm
    rw [hsame]
    exact ⟨hslot, .refl _ s, fun _ => .refl _ s⟩
  unfold State.useSlot
  extract_lets old v w upper x
  rw [if_neg fun h => hslot h.symm]
  have hx : SampleKept slotRegs s x :=
    (((((SampleKept.refl _ s).setF _ _ (by decide)).setF _ _ (by decide)).setF _ _ (by decide)).raise _ _ (by decide)
      (by decide)).hold _ _ _
  have hinactive : x.on FILT_STATUS.NOTCH_ACTIVE = false := by
    have hv : w.on FILT_STATUS.NOTCH_ACTIVE = false := by
      rw [State.on, State.fld_setF_other _ _ _ _ (by decide), State.fld_setF_other _ _ _ _ (by decide)]
      exact s.on_setF_b01 _ (by decide) rfl false
    have hframe : RegFrame [Reg.FILT_EVENTS] w x := ((RegFrame.refl _ w).raise _ _ (by decide) (by decide)).hold _ _ _
    exact (hframe.on _ (by decide) (by decide)).trans hv
  refine ⟨?_, (hx.mono (by decide)).trans (x.pairConfigLeave_kept.mono (by decide)), fun hbusy => ?_⟩
  · rw [State.notchSlot_of_frame x.pairConfigLeave_kept.frame (by decide), State.notchSlot, hinactive]
    rfl
  · have hidle : x.pairBusy = false := by
      rw [State.pairBusy, State.pairState, hx.frame.fld PAIR_STATE.STATE (by decide) (by decide)]
      exact hbusy
    rw [State.pairConfigLeave_of_not_busy hidle]
    exact hx.frame

/-- A disable abandons the confirmation and takes the slot out of use. -/
def State.notchOff (s : State) : State := (s.putFilt { s.filt with outside := 0, target := none }).useSlot none

theorem notchApply_of_enable (s : State) {w : Word} (h : bit w 0 = true) :
    notchApply w s = (s.notchStored w).syncSuspended :=
  congrArg State.syncSuspended (if_pos ((s.notchStored_on w).trans h))

theorem notchApply_of_disable (s : State) {w : Word} (h : bit w 0 = false) :
    notchApply w s = (s.notchStored w).notchOff.syncSuspended :=
  congrArg State.syncSuspended (if_neg (Bool.eq_false_iff.mp ((s.notchStored_on w).trans h)))

theorem notchApply_enables (s : State) {w : Word} (h : bit w 0 = true) :
    (notchApply w s).on FILT_STATUS.NOTCH_SUSPENDED = !s.hasCandidate ∧ (notchApply w s).notchSlot = s.notchSlot ∧
      RegFrame [Reg.NOTCH_CTRL, Reg.FILT_STATUS, Reg.FILT_EVENTS] s (notchApply w s) ∧ RegsOnly s (notchApply w s) ∧
      (notchApply w s).reg Reg.NOTCH_CTRL = (s.notchStored w).reg Reg.NOTCH_CTRL := by
  have hstored := s.notchStored_regFrame w
  obtain ⟨hsuspended, hframe, honly, hslot⟩ := (s.notchStored w).syncSuspended_result
  rw [notchApply_of_enable s h]
  refine ⟨?_, hslot.trans (State.notchSlot_of_frame hstored (by decide)),
    (hstored.mono (by decide)).trans (hframe.mono (by decide)), (RegsOnly.setReg s _ _).trans honly,
    hframe _ (by decide) (by decide)⟩
  rw [hsuspended, s.notchStored_on, h, Bool.true_and, State.hasCandidate_congr (s := s) (u := s.notchStored w) rfl
    (hstored _ (by decide) (by decide)) (hstored.fld _ (by decide) (by decide))]

theorem notchApply_disables (s : State) {w : Word} (h : bit w 0 = false) :
    (notchApply w s).on FILT_STATUS.NOTCH_SUSPENDED = false ∧ (notchApply w s).notchSlot = none ∧
      (notchApply w s).filt.target = none ∧
      (s.pairBusy = false → RegFrame (Reg.NOTCH_CTRL :: slotRegs) s (notchApply w s)) ∧
      (notchApply w s).reg Reg.NOTCH_CTRL = (s.notchStored w).reg Reg.NOTCH_CTRL := by
  let v := s.notchStored w
  let v' := v.putFilt { v.filt with outside := 0, target := none }
  have hv : RegFrame [Reg.NOTCH_CTRL] s v' := (s.notchStored_regFrame w).putFilt _
  obtain ⟨hslotOff, hoff, hoffFrame⟩ := v'.useSlot_none_result
  obtain ⟨hsuspended, hframe, honly, hslot⟩ := v.notchOff.syncSuspended_result
  rw [notchApply_of_disable s h]
  refine ⟨?_, hslot.trans hslotOff, ?_, fun hbusy => ?_, ?_⟩
  · rw [hsuspended, show v.notchOff.on NOTCH_CTRL.EN = v.on NOTCH_CTRL.EN from
      hoff.frame.on _ (by decide) (by decide), s.notchStored_on, h, Bool.false_and]
  · rw [honly.filt]
    exact congrArg FilterPart.target hoff.filt
  · have hidle : v'.pairBusy = false := by
      rw [State.pairBusy, State.pairState, hv.fld PAIR_STATE.STATE (by decide) (by decide)]
      exact hbusy
    exact ((hv.mono (by decide)).trans ((hoffFrame hidle).mono (by decide))).trans (hframe.mono (by decide))
  · exact (hframe _ (by decide) (by decide)).trans (hoff.frame _ (by decide) (by decide))

/-- An accepted command without reply data stands, after its reply, as its effect has left it. -/
theorem Cmd.replied_of_accepts {c : Cmd} {r : Req} {s : State} (haon : s.aon = true) (hacc : c.accepts r s = true)
    {u : State} (he : c.effect r s = (u, [])) :
    ∃ t, act (c.run r) s = .next t ∧ RegFrame replyRegs u t ∧ ReplyOnly u t := by
  have hrun := Cmd.run_of_accepts hacc fun _ => by rw [he]; exact Nat.zero_le _
  rw [he] at hrun
  obtain ⟨-, hframe, honly⟩ := u.replied_result c.op r (OK, [])
  exact ⟨_, (act_next haon).trans (congrArg _ hrun), hframe, honly⟩

/-- What NOTCH_CONFIG leaves of the state that it was accepted in (R123, R124). -/
def NotchConfigured (r : Req) (s t : State) : Prop :=
  let w := wordAt r.params 0
  t.reg Reg.NOTCH_CTRL = (s.reg Reg.NOTCH_CTRL &&& ~~~ rwMask Reg.NOTCH_CTRL) ||| (w &&& rwMask Reg.NOTCH_CTRL) ∧
    (t.on FILT_STATUS.NOTCH_SUSPENDED = true ↔ bit w 0 = true ∧ s.hasCandidate = false) ∧
    (bit w 0 = true → t.filt = s.filt ∧ t.notchSlot = s.notchSlot ∧ Replied 0x35 r OK [] s t ∧
      RegFrame ([Reg.NOTCH_CTRL, Reg.FILT_STATUS, Reg.FILT_EVENTS] ++ replyRegs) s t) ∧
    (bit w 0 = false → t.notchSlot = none ∧ t.filt.target = none ∧
      (s.pairBusy = false → RegFrame (Reg.NOTCH_CTRL :: slotRegs ++ replyRegs) s t))

theorem notchConfig_enables {r : Req} {s : State} (haon : s.aon = true) (hacc : cmdNotchConfig.accepts r s = true)
    (hen : bit (wordAt r.params 0) 0 = true) : Does (.notchConfig r) s (NotchConfigured r s) := by
  obtain ⟨hsuspended, hslot, hframe, honly, hctrl⟩ := notchApply_enables s hen
  obtain ⟨t, hrun, hans, hreplied⟩ := Cmd.answered_of_filtOnly haon hacc rfl honly.filtOnly hframe (by decide)
  refine ⟨t, (exec_notchConfig r s).trans hrun, (hans.frame _ (by decide) (by decide)).trans
    (hctrl.trans (s.reg_putWritable_same _ _)), ?_, fun _ => ⟨hans.only.filt.trans honly.filt,
      (State.notchSlot_of_frame hans.frame (by decide)).trans hslot, hreplied, hans.regFrame hframe⟩,
    fun hdis => absurd (hen.symm.trans hdis) (by decide)⟩
  rw [hans.on _ (by decide), hsuspended]
  simp [hen]

theorem notchConfig_disables {r : Req} {s : State} (haon : s.aon = true) (hacc : cmdNotchConfig.accepts r s = true)
    (hdis : bit (wordAt r.params 0) 0 = false) : Does (.notchConfig r) s (NotchConfigured r s) := by
  obtain ⟨hsuspended, hslot, htarget, hframe, hctrl⟩ := notchApply_disables s hdis
  obtain ⟨t, hrun, hreply, honly⟩ := Cmd.replied_of_accepts haon hacc rfl
  refine ⟨t, (exec_notchConfig r s).trans hrun, (hreply _ (by decide) (by decide)).trans
    (hctrl.trans (s.reg_putWritable_same _ _)), ?_, fun hen => absurd (hen.symm.trans hdis) (by decide),
    fun _ => ⟨(State.notchSlot_of_frame hreply (by decide)).trans hslot,
      (congrArg FilterPart.target honly.filt).trans htarget,
      fun hbusy => ((hframe hbusy).mono (by decide)).trans (hreply.mono (by decide))⟩⟩
  rw [hreply.on _ (by decide) (by decide), hsuspended]
  simp [hdis]

theorem notchConfig_accepted {r : Req} {s : State} (haon : s.aon = true) (hacc : cmdNotchConfig.accepts r s = true) :
    Does (.notchConfig r) s (NotchConfigured r s) :=
  (Bool.eq_false_or_eq_true (bit (wordAt r.params 0) 0)).elim (notchConfig_enables haon hacc)
    (notchConfig_disables haon hacc)

/-- Settles O50: each command's effect is stated once (`requestPreset_fields`, `storeSet_result`, `bankApply_result`,
`notchApply_enables`, `notchApply_disables`); the end of a join or a pair, which a disable of the notch may bring,
leaves the filters (`pairConfigLeave_kept`). -/
theorem filterCommands : Obligations.FilterCommands := by
  intro r s haon
  refine ⟨?preset, fun hshaped hacc i hi => coeffWrite_accepted haon hshaped hacc hi,
    fun hshaped hacc i hi => coeffCommit_accepted haon hshaped hacc hi, ?bank, decimSync_accepted haon,
    notchConfig_accepted haon⟩
  case preset =>
    rintro hacc _ rfl
    exact setPreset_accepted haon hacc
  case bank =>
    rintro hacc _ rfl _ rfl
    exact bankSelect_accepted haon hacc

end Sys2Proof.Machine

namespace Sys2Proof.Machine

/-! ### An effect for each element of a list -/

section
variable {α : Type} {f : α → State → State} {R : State → State → Prop} (refl : ∀ s, R s s)
  (trans : ∀ s u t, R s u → R u t → R s t)
include refl trans

/-- What every step keeps is kept by all of them. -/
theorem State.each_induction (xs : List α) (s : State) (h : ∀ x ∈ xs, ∀ u, R u (f x u)) : R s (s.each f xs) := by
  induction xs generalizing s with
  | nil => exact refl s
  | cons x xs ih =>
    exact trans _ _ _ (h x (List.mem_cons_self ..) s) (ih _ fun y hy => h y (List.mem_cons_of_mem _ hy))

/-- In a list without repeats the step of one element starts from a state, and is followed by steps, that keep what
the other elements' steps keep. -/
theorem State.each_at {y : α} (hother : ∀ x, x ≠ y → ∀ u, R u (f x u)) {xs : List α} (hmem : y ∈ xs)
    (hnodup : xs.Nodup) (s : State) : ∃ u, R s u ∧ R (f y u) (s.each f xs) := by
  induction xs generalizing s with
  | nil => exact absurd hmem List.not_mem_nil
  | cons x xs ih =>
    obtain ⟨hx, hxs⟩ := List.nodup_cons.mp hnodup
    by_cases hxy : x = y
    · subst hxy
      exact ⟨s, refl s, State.each_induction refl trans xs _ fun z hz => hother z fun e => hx (e ▸ hz)⟩
    · obtain ⟨u, hu, hlast⟩ := ih ((List.mem_cons.mp hmem).resolve_left (Ne.symm hxy)) hxs (f x s)
      exact ⟨u, trans _ _ _ (hother x hxy s) hu, hlast⟩

end

theorem State.each_map {α β : Type} (f : β → State → State) (g : α → β) :
    ∀ (xs : List α) (s : State), s.each f (xs.map g) = s.each (fun x => f (g x)) xs
  | [], _ => rfl
  | x :: xs, s => State.each_map f g xs (f (g x) s)

theorem mem_maskList_iff {k mask n : Nat} : n ∈ maskList k mask ↔ n < k ∧ mask.testBit n = true := by
  simp [maskList]

theorem maskList_nodup (k mask : Nat) : (maskList k mask).Nodup := List.nodup_range.filter _

/-! ### Replies to commands of the engine -/

/-- Nothing is changed but registers and the engine. -/
def EngOnly (s t : State) : Prop := t = { s with regs := t.regs, eng := t.eng }

/-- Nothing is changed but registers and the machines. -/
def MachsOnly (s t : State) : Prop := t = { s with regs := t.regs, eng := { s.eng with machs := t.eng.machs } }

theorem MachsOnly.refl (s : State) : MachsOnly s s := rfl

theorem MachsOnly.trans {s u t : State} (h : MachsOnly s u) (k : MachsOnly u t) : MachsOnly s t := by
  unfold MachsOnly at *
  rw [k, h]

theorem MachsOnly.setMach (s : State) (n : Nat) (f : Mach → Mach) : MachsOnly s (s.setMach n f) := rfl

theorem MachsOnly.emBit (s : State) (a n : Nat) (b : Bool) : MachsOnly s (s.emBit a n b) := rfl

theorem MachsOnly.setMachState (s : State) (n st : Nat) : MachsOnly s (s.setMachState n st) :=
  (MachsOnly.setMach s n _).trans (.emBit _ _ _ _)

theorem MachsOnly.engOnly {s t : State} (h : MachsOnly s t) : EngOnly s t := by
  unfold MachsOnly EngOnly at *
  rw [h]

theorem ReplyOnly.eng {s t : State} (h : ReplyOnly s t) : t.eng = s.eng := by rw [h]

theorem MachsOnly.replyOnly {s u t : State} (h : MachsOnly s u) (k : ReplyOnly u t) :
    ReplyOnly { s with eng := { s.eng with machs := t.eng.machs } } t := by
  unfold MachsOnly ReplyOnly at *
  rw [k, h]

theorem State.mach_of_eng {s t : State} (h : t.eng = s.eng) (n : Nat) : t.mach n = s.mach n := by
  rw [State.mach, h, State.mach]

theorem State.pmemAt_of_pmem {s t : State} (h : t.eng.pmem = s.eng.pmem) (a : Nat) : t.pmemAt a = s.pmemAt a := by
  rw [State.pmemAt, h, State.pmemAt]

/-- An accepted command whose effect ends in `u`: it changes registers and the engine alone, and its reply data fit
every frame. -/
theorem Cmd.answered_of_engOnly {c : Cmd} {r : Req} {s : State} {as : List Nat} (haon : s.aon = true)
    (hacc : c.accepts r s = true) {u : State} {data : List Byte} (he : c.effect r s = (u, data))
    (hfit : data.length ≤ 274) (honly : EngOnly s u) (hf : RegFrame as s u) (has : ∀ b ∈ as, b ∉ postRegs) :
    ∃ t, act (c.run r) s = .next t ∧ Answered c r s u t ∧ Replied c.op r OK data s t := by
  obtain ⟨t, hrun, hans⟩ := Cmd.answered_of_accepts haon hacc (fun _ => by rw [he]; exact hfit)
    (by rw [he, honly]) (by rw [he, honly]) (by rwa [he]) has
  have hreplied := hans.replied
  rw [he] at hans hreplied
  exact ⟨t, hrun, hans, hreplied⟩

theorem Cmd.len_of_accepts {c : Cmd} {r : Req} {s : State} (h : c.accepts r s = true) : c.len r.params = true :=
  ((c.accepts_iff r s).mp h).2.2.1

theorem length_leBytes : ∀ n v, (leBytes n v).length = n
  | 0, _ => rfl
  | n + 1, v => congrArg (· + 1) (length_leBytes n (v / 256))

end Sys2Proof.Machine

namespace Sys2Proof.Machine

/-! ### Program memory (R150) -/

theorem lookup_cons_eq_ite {α : Type} (a b : Nat) (x : α) (xs : List (Nat × α)) :
    ((a, x) :: xs).lookup b = if b = a then some x else xs.lookup b := by
  rw [List.lookup_cons]
  by_cases h : b = a
  · rw [if_pos h, beq_iff_eq.mpr h]
  · rw [if_neg h, beq_false_of_ne h]

theorem lookup_insertWord (a b : Nat) (w : Word) (ws : List (Nat × Word)) :
    (insertWord a w ws).lookup b = if b = a then some w else ws.lookup b := by
  induction ws with
  | nil => exact lookup_cons_eq_ite a b w []
  | cons c ws ih =>
    obtain ⟨c, x⟩ := c
    unfold insertWord
    split
    · exact lookup_cons_eq_ite a b w _
    split
    · next _ hac =>
      simp only [lookup_cons_eq_ite, hac]
      split <;> rfl
    · next _ hac =>
      simp only [lookup_cons_eq_ite, ih]
      by_cases h : b = c
      · rw [if_pos h, if_pos h, if_neg (h ▸ Ne.symm hac)]
      · rw [if_neg h, if_neg h]

theorem State.pmemAt_putPmem (s : State) (a b : Nat) (w : Word) :
    (s.putPmem a w).pmemAt b = if b = a then some w else s.pmemAt b := lookup_insertWord a b w s.eng.pmem

/-- Nothing is changed but program memory. -/
def PmemOnly (s t : State) : Prop := t = { s with eng := { s.eng with pmem := t.eng.pmem } }

theorem PmemOnly.trans {s u t : State} (h : PmemOnly s u) (k : PmemOnly u t) : PmemOnly s t := by
  unfold PmemOnly at *
  rw [k, h]

theorem PmemOnly.regs {s t : State} (h : PmemOnly s t) : t.regs = s.regs := by rw [h]

theorem PmemOnly.engOnly {s t : State} (h : PmemOnly s t) : EngOnly s t := by
  unfold PmemOnly EngOnly at *
  rw [h]

theorem PmemOnly.replyOnly {s u t : State} (h : PmemOnly s u) (k : ReplyOnly u t) :
    ReplyOnly { s with eng := { s.eng with pmem := t.eng.pmem } } t := by
  unfold PmemOnly ReplyOnly at *
  rw [k, h]

/-- The words of a byte string of `n` words. -/
theorem wordsOfBytes_eq : ∀ (n : Nat) (bs : List Byte), bs.length = 4 * n →
    wordsOfBytes bs = (List.range n).map fun k => wordAt bs (4 * k)
  | 0, [], _ => rfl
  | n + 1, a :: b :: c :: d :: bs, h => by
    have hlen : bs.length = 4 * n := by simp only [List.length_cons] at h; omega
    rw [wordsOfBytes, wordsOfBytes_eq n bs hlen, List.range_succ_eq_map, List.map_cons, List.map_map]
    rfl

theorem wordAt_drop (p : List Byte) (k i : Nat) : wordAt (p.drop k) i = wordAt p (k + i) := by
  rw [wordAt, List.drop_drop, wordAt]

/-- The word of one address of program memory is kept. -/
def PmemKept (a : Nat) (s t : State) : Prop := t.pmemAt a = s.pmemAt a

theorem PmemKept.refl (a : Nat) (s : State) : PmemKept a s s := rfl

theorem PmemKept.trans {a : Nat} {s u t : State} (h : PmemKept a s u) (k : PmemKept a u t) : PmemKept a s t :=
  Eq.trans k h

/-- Word `k` of an EM_LOAD is stored. -/
def loadWord (p : List Byte) (k : Nat) (s : State) : State := s.putPmem (half p 0 + k) (wordAt p (4 + 4 * k))

/-- EM_LOAD stores the words of its parameters one after the other. -/
theorem emLoadApply_eq {p : List Byte} {n : Nat} (h : p.length = 4 + 4 * n) (s : State) :
    emLoadApply p s = s.each (loadWord p) (List.range n) := by
  have hwords : wordsOfBytes (p.drop 4) = (List.range n).map fun k => wordAt p (4 + 4 * k) := by
    rw [wordsOfBytes_eq n _ (by rw [List.length_drop]; omega)]
    simp only [wordAt_drop]
  have hzip : (List.range n).zip ((List.range n).map fun k => wordAt p (4 + 4 * k)) =
      (List.range n).map fun k => (k, wordAt p (4 + 4 * k)) := by
    simpa using List.zip_map' (l := List.range n) (f := id) (g := fun k => wordAt p (4 + 4 * k))
  unfold emLoadApply
  rw [hwords]
  dsimp only
  rw [List.length_map, List.length_range, hzip, State.each_map]
  rfl

theorem emLoadApply_only {p : List Byte} {n : Nat} (h : p.length = 4 + 4 * n) (s : State) :
    PmemOnly s (emLoadApply p s) := by
  rw [emLoadApply_eq h]
  exact State.each_induction (R := PmemOnly) (fun _ => rfl) (fun _ _ _ => PmemOnly.trans) _ _ fun _ _ _ => rfl

/-- Each word stands at its address; no other address is reached. -/
theorem pmemAt_emLoadApply {p : List Byte} {n : Nat} (h : p.length = 4 + 4 * n) (s : State) (a : Nat) :
    (emLoadApply p s).pmemAt a =
      if half p 0 ≤ a ∧ a < half p 0 + n then some (wordAt p (4 + 4 * (a - half p 0))) else s.pmemAt a := by
  have hother {k : Nat} (hk : half p 0 + k ≠ a) (u : State) : PmemKept a u (loadWord p k u) := by
    rw [PmemKept, loadWord, State.pmemAt_putPmem, if_neg hk.symm]
  rw [emLoadApply_eq h]
  split
  · next hin =>
    obtain ⟨hfirst, hlast⟩ := hin
    obtain ⟨u, -, hkept⟩ := State.each_at (PmemKept.refl a) (fun _ _ _ => .trans) (y := a - half p 0)
      (fun k hk => hother (k := k) (by omega)) (List.mem_range.mpr (by omega)) (List.nodup_range (n := n)) s
    exact Eq.trans hkept ((u.pmemAt_putPmem _ _ _).trans (if_pos (by omega)))
  · next hout =>
    refine State.each_induction (PmemKept.refl a) (fun _ _ _ => .trans) _ s fun k hk => hother ?_
    have hlt := List.mem_range.mp hk
    omega

theorem emLoad_accepted {r : Req} {s : State} (haon : s.aon = true) (hacc : cmdEmLoad.accepts r s = true) :
    Does (.emLoad r) s fun t =>
      Replied 0x40 r OK [] s t ∧ RegFrame replyRegs s t ∧
      (∀ a, t.pmemAt a = if half r.params 0 ≤ a ∧ a < half r.params 0 + half r.params 2 then
        some (wordAt r.params (4 + 4 * (a - half r.params 0))) else s.pmemAt a) ∧
      ReplyOnly { s with eng := { s.eng with pmem := t.eng.pmem } } t := by
  have hlen : r.params.length = 4 + 4 * half r.params 2 := by
    have := Cmd.len_of_accepts hacc
    simp only [cmdEmLoad, emLoadLen, Bool.and_eq_true, beq_iff_eq] at this
    exact this.2
  have honly := emLoadApply_only hlen s
  have hframe : RegFrame [] s (emLoadApply r.params s) := .of_regs honly.regs
  obtain ⟨t, hrun, hans, hreplied⟩ :=
    Cmd.answered_of_engOnly haon hacc rfl (Nat.zero_le _) honly.engOnly hframe (by decide)
  refine ⟨t, (exec_emLoad r s).trans hrun, hreplied, hans.regFrame hframe, fun a => ?_, honly.replyOnly hans.only⟩
  rw [State.pmemAt_of_pmem (congrArg EnginePart.pmem hans.only.eng), pmemAt_emLoadApply hlen]

end Sys2Proof.Machine

namespace Sys2Proof.Machine

/-! ### A machine and its bits (R130) -/

theorem MachIs.trans {n : Nat} {m m' : Mach} {s u t : State} (h : MachIs n m s u) (k : MachIs n m' u t) :
    MachIs n m' s t := ⟨k.1, fun j hj => (k.2 j hj).trans (h.2 j hj)⟩

theorem State.emBit_on (s : State) (a : Nat) {n : Nat} (hn : n < 32) (b : Bool) : (s.emBit a n b).on (bitF a n) = b :=
  s.on_setF_b01 (bitF a n) hn rfl b

theorem State.emBit_on_other (s : State) {a c : Nat} (h : c ≠ a) (n k : Nat) (b : Bool) :
    (s.emBit a n b).on (bitF c k) = s.on (bitF c k) := by
  rw [State.on, State.emBit, s.fld_setF_other _ _ _ (.inl h), State.on]

theorem RegFrame.emBit {as : List Nat} {s t : State} (h : RegFrame as s t) (a n : Nat) (b : Bool) (ha : a ∈ as) :
    RegFrame as s (t.emBit a n b) := h.setF _ _ (.inl ha)

theorem RegFrame.setMach {as : List Nat} {s t : State} (h : RegFrame as s t) (n : Nat) (f : Mach → Mach) :
    RegFrame as s (t.setMach n f) := h.putEng _

theorem RegFrame.setMachState {as : List Nat} {s t : State} (h : RegFrame as s t) (n st : Nat)
    (ha : Reg.EM_RUN ∈ as) : RegFrame as s (t.setMachState n st) := (h.setMach n _).emBit _ _ _ ha

theorem State.setMachState_machIs {s : State} {n : Nat} (hn : n < s.eng.machs.length) (st : Nat) :
    MachIs n { s.mach n with state := st } s (s.setMachState n st) :=
  (State.setMach_machIs hn fun m => { m with state := st }).of_eng rfl

/-- What concerns machine `n` is kept: its state, its bits in EM_RUN and EM_VOTE, and program memory. -/
structure MachKept (n : Nat) (s t : State) : Prop where
  mach : t.mach n = s.mach n
  run : t.on (bitF Reg.EM_RUN n) = s.on (bitF Reg.EM_RUN n)
  vote : t.on (bitF Reg.EM_VOTE n) = s.on (bitF Reg.EM_VOTE n)
  pmem : t.eng.pmem = s.eng.pmem
  count : t.eng.machs.length = s.eng.machs.length

theorem MachKept.refl (n : Nat) (s : State) : MachKept n s s := ⟨rfl, rfl, rfl, rfl, rfl⟩

theorem MachKept.trans {n : Nat} {s u t : State} (h : MachKept n s u) (k : MachKept n u t) : MachKept n s t :=
  ⟨k.mach.trans h.mach, k.run.trans h.run, k.vote.trans h.vote, k.pmem.trans h.pmem, k.count.trans h.count⟩

theorem EM_RUN_not_pendRegs : Reg.EM_RUN ∉ pendRegs := by decide

theorem EM_VOTE_not_pendRegs : Reg.EM_VOTE ∉ pendRegs := by decide

theorem EM_RUN_not_replied : Reg.EM_RUN ∉ pendRegs ++ replyRegs := by decide

theorem EM_VOTE_not_replied : Reg.EM_VOTE ∉ pendRegs ++ replyRegs := by decide

theorem MachKept.of_frame {as : List Nat} {s t : State} (heng : t.eng = s.eng) (hf : RegFrame as s t)
    (hrun : Reg.EM_RUN ∉ as) (hvote : Reg.EM_VOTE ∉ as) (n : Nat) : MachKept n s t :=
  ⟨State.mach_of_eng heng n, hf.on _ hrun EM_RUN_not_pendRegs, hf.on _ hvote EM_VOTE_not_pendRegs, by rw [heng],
    by rw [heng]⟩

theorem MachKept.setMach {n j : Nat} (hj : j ≠ n) (s : State) (f : Mach → Mach) : MachKept n s (s.setMach j f) :=
  ⟨by rw [State.mach_setMach, if_neg fun h => hj h.1.symm], rfl, rfl, rfl, s.setMach_length j f⟩

/-- A bit of another machine, in whatever register. -/
theorem MachKept.emBit {n j : Nat} (hj : j ≠ n) (s : State) (a : Nat) (b : Bool) : MachKept n s (s.emBit a j b) := by
  have kept (c : Nat) : (s.emBit a j b).on (bitF c n) = s.on (bitF c n) := by
    rw [State.on, State.emBit, s.fld_setF_other _ _ _ (.inr (by simp only [bitF]; omega)), State.on]
  exact ⟨rfl, kept _, kept _, rfl, rfl⟩

theorem MachKept.setMachState {n j : Nat} (hj : j ≠ n) (s : State) (st : Nat) : MachKept n s (s.setMachState j st) :=
  (MachKept.setMach hj s _).trans (.emBit hj _ _ _)

theorem MachKept.running {n : Nat} {s t : State} (h : MachKept n s t) : t.running n = s.running n := by
  rw [State.running, h.mach, State.running]

end Sys2Proof.Machine

namespace Sys2Proof.Machine

/-! ### EM_CONFIG and the region of a machine (R130, Table 6.2) -/

/-- A machine with a new region, which moves OFF and FAULT to STOPPED. -/
def Mach.withRegion (entry len : Nat) (m : Mach) : Mach :=
  { m with entry := entry, len := len, state := if m.state = M_OFF ∨ m.state = M_FAULT then M_STOPPED else m.state }

theorem State.emRegion_result {s : State} {n : Nat} (hn : n < s.eng.machs.length) (entry len : Nat) :
    MachIs n ((s.mach n).withRegion entry len) s (s.emRegion n entry len) ∧
      RegFrame [Reg.EM_RUN] s (s.emRegion n entry len) ∧ MachsOnly s (s.emRegion n entry len) := by
  let u := s.setMach n fun m => { m with entry := entry, len := len }
  have hu : MachIs n { s.mach n with entry := entry, len := len } s u := State.setMach_machIs hn _
  have hframe : RegFrame [Reg.EM_RUN] s u := (RegFrame.refl _ s).setMach n _
  have honly : MachsOnly s u := .setMach s n _
  unfold State.emRegion Mach.withRegion
  dsimp only
  split
  · have hstate := State.setMachState_machIs (s := u) (n := n) (hn.trans_eq (s.setMach_length _ _).symm) M_STOPPED
    rw [hu.1] at hstate
    exact ⟨hu.trans hstate, hframe.setMachState n _ (by decide), honly.trans (.setMachState u n _)⟩
  · exact ⟨hu, hframe, honly⟩

theorem emConfig_accepted {r : Req} {s : State} (haon : s.aon = true) (hshaped : s.Shaped)
    (hacc : cmdEmConfig.accepts r s = true) :
    Does (.emConfig r) s fun t =>
      Replied 0x41 r OK [] s t ∧ RegFrame (Reg.EM_RUN :: replyRegs) s t ∧
      MachIs (byteAt r.params 0)
        ({ s.mach (byteAt r.params 0) with flags := byteAt r.params 1 % 8 }.withRegion (half r.params 2)
          (half r.params 4)) s t ∧
      ReplyOnly { s with eng := { s.eng with machs := t.eng.machs } } t := by
  obtain ⟨-, -, -, -, hcount, -⟩ := hshaped
  have hn : byteAt r.params 0 < s.eng.machs.length := by
    have hcheck := (refusals_eq_none_iff _).mp (Cmd.check_of_accepts hacc)
    simp only [List.mem_cons, forall_eq_or_imp, Bool.or_eq_false_iff, decide_eq_false_iff_not] at hcheck
    omega
  let u := s.setMach (byteAt r.params 0) fun m => { m with flags := byteAt r.params 1 % 8 }
  have hu : MachIs (byteAt r.params 0) _ s u := State.setMach_machIs hn _
  obtain ⟨hmach, hframe, honly⟩ := State.emRegion_result (s := u) (n := byteAt r.params 0)
    (hn.trans_eq (s.setMach_length _ _).symm) (half r.params 2) (half r.params 4)
  rw [hu.1] at hmach
  have hmachs : MachsOnly s _ := (MachsOnly.setMach s (byteAt r.params 0) _).trans honly
  have hregs : RegFrame [Reg.EM_RUN] s _ := ((RegFrame.refl _ s).setMach (byteAt r.params 0) _).trans hframe
  obtain ⟨t, hrun, hans, hreplied⟩ :=
    Cmd.answered_of_engOnly haon hacc rfl (Nat.zero_le _) hmachs.engOnly hregs (by decide)
  exact ⟨t, (exec_emConfig r s).trans hrun, hreplied, hans.regFrame hregs, (hu.trans hmach).of_eng hans.only.eng,
    hmachs.replyOnly hans.only⟩

/-! ### EM_PARAM (R139) -/

/-- The words of an EM_PARAM from position `k` of its list on, as they wait for the tick `tp`. -/
def waitingWords (p : List Byte) (tp : Nat) (ks : List Nat) : List (Nat × Nat × Word) :=
  ks.map fun k => (tp, byteAt p 1 + k, wordAt p (4 + 4 * k))

/-- Words wait for their tick in machine `n` in the order given. -/
theorem State.each_emParam {s : State} {n : Nat} (hn : n < s.eng.machs.length) (p : List Byte) (ks : List Nat) :
    let t := s.each (fun k s => s.emParam n (byteAt p 1 + k) (wordAt p (4 + 4 * k))) ks
    MachIs n { s.mach n with waiting := (s.mach n).waiting ++ waitingWords p s.nextFast ks } s t ∧
      t.regs = s.regs ∧ MachsOnly s t := by
  induction ks generalizing s with
  | nil => exact ⟨⟨by simp [waitingWords, State.each], fun _ _ => rfl⟩, rfl, .refl s⟩
  | cons k ks ih =>
    let u := s.emParam n (byteAt p 1 + k) (wordAt p (4 + 4 * k))
    have hu : MachIs n _ s u := State.setMach_machIs hn _
    obtain ⟨hmach, hregs, honly⟩ := ih (s := u) (hn.trans_eq (s.setMach_length n _).symm)
    rw [hu.1, show u.nextFast = s.nextFast from rfl] at hmach
    refine ⟨?_, hregs, (MachsOnly.setMach s n _).trans honly⟩
    simpa [waitingWords, State.each] using hu.trans hmach

theorem emParam_accepted {r : Req} {s : State} (haon : s.aon = true) (hshaped : s.Shaped)
    (hacc : cmdEmParam.accepts r s = true) :
    Does (.emParam r) s fun t =>
      Replied 0x44 r OK (leBytes 8 s.nextFast) s t ∧ RegFrame replyRegs s t ∧
      MachIs (byteAt r.params 0) { s.mach (byteAt r.params 0) with
        waiting := (s.mach (byteAt r.params 0)).waiting ++
          waitingWords r.params s.nextFast (List.range (byteAt r.params 2)) } s t := by
  obtain ⟨-, -, -, -, hcount, -⟩ := hshaped
  have hn : byteAt r.params 0 < s.eng.machs.length := by
    have hcheck := (refusals_eq_none_iff _).mp (Cmd.check_of_accepts hacc)
    simp only [List.mem_cons, forall_eq_or_imp, Bool.or_eq_false_iff, decide_eq_false_iff_not] at hcheck
    omega
  obtain ⟨hmach, hregs, honly⟩ := State.each_emParam hn r.params (List.range (byteAt r.params 2))
  have hframe : RegFrame [] s _ := .of_regs hregs
  obtain ⟨t, hrun, hans, hreplied⟩ := Cmd.answered_of_engOnly (c := cmdEmParam) haon hacc
    (u := emParamApply r.params s) rfl (by rw [length_leBytes]; decide) honly.engOnly hframe (by decide)
  exact ⟨t, (exec_emParam r s).trans hrun, hreplied, hans.regFrame hframe, hmach.of_eng hans.only.eng⟩

/-- A machine after the words whose tick has come have been taken over. -/
def Mach.paramsApplied (t : Nat) (m : Mach) : Mach :=
  { m with
    changes := m.changes ++ m.waiting.filter fun c => decide (c.1 ≤ t)
    waiting := m.waiting.filter fun c => !decide (c.1 ≤ t) }

/-- A machine that does not exist reads as one never configured, for which no word waits. -/
theorem State.mach_applyParams (s : State) (t n : Nat) : (s.applyParams t).mach n = (s.mach n).paramsApplied t := by
  have hdefault : defaultMach = defaultMach.paramsApplied t := rfl
  show (s.eng.machs.map (Mach.paramsApplied t)).getD n defaultMach = _
  rw [hdefault, List.getD_map]
  rfl

theorem emParamApply_result {s : State} (haon : s.aon = true) (u : BitVec 64) :
    Does (.emParamApply u) s fun t =>
      (∀ n, t.mach n = (s.mach n).paramsApplied u.toNat) ∧
      t = { s with eng := { s.eng with machs := t.eng.machs } } :=
  ⟨s.applyParams u.toNat, (exec_emParamApply u s).trans (act_next haon), s.mach_applyParams u.toNat, rfl⟩

end Sys2Proof.Machine

namespace Sys2Proof.Machine

/-! ### EM_START (R129, R131, R138) -/

/-- Why a machine that starts is committed-only, 0 where it is not. -/
def State.startConly (s : State) (m : Mach) : Nat := if m.forceConly then 1 else if s.commOnlyRegion m then 2 else 0

theorem State.startConly_congr {s t : State} (h : t.eng.pmem = s.eng.pmem) (m : Mach) :
    t.startConly m = s.startConly m := by
  unfold State.startConly State.commOnlyRegion
  simp only [State.pmemAt_of_pmem h]

/-- A machine that starts, with its first run on tick `t0`: its state is cleared, at the region's entry. -/
def Mach.started (t0 conly : Nat) (m : Mach) : Mach :=
  { m with
    state := M_RUNNING, fault := 0, conly := conly, conf := MState.start m.entry, cur := MState.start m.entry
    lastCount := 0, maxCount := 0, startTick := t0, starting := true, pos := t0, runs := [], run := none, acts := []
    haltTick := none }

/-- The registers that a start may change. -/
def startRegs : List Nat := [Reg.EM_RUN, Reg.EM_CONLY, Reg.EM_VOTE]

/-- The machine with its state cleared, before its bits follow. -/
def State.machCleared (t0 n : Nat) (s : State) : State :=
  s.setMach n fun m => { m.started t0 (s.startConly (s.mach n)) with
    state := m.state, conf := MState.start (s.mach n).entry, cur := MState.start (s.mach n).entry }

theorem State.startMach_eq (s : State) (t0 n : Nat) :
    s.startMach t0 n =
      (((s.machCleared t0 n).setMachState n M_RUNNING).emBit Reg.EM_CONLY n (s.startConly (s.mach n) != 0)).emBit
        Reg.EM_VOTE n false := rfl

theorem State.startMach_only (s : State) (t0 n : Nat) : MachsOnly s (s.startMach t0 n) :=
  ((MachsOnly.setMach s n _).trans (.setMachState _ n _)).trans ((MachsOnly.emBit _ _ _ _).trans (.emBit _ _ _ _))

theorem State.startMach_regFrame (s : State) (t0 n : Nat) : RegFrame startRegs s (s.startMach t0 n) :=
  ((((RegFrame.refl _ s).setMach n _).setMachState n _ (by decide)).emBit _ n _ (by decide)).emBit _ n _ (by decide)

/-- The start of a machine keeps what concerns another. -/
theorem State.startMach_kept (t0 : Nat) {n j : Nat} (hj : j ≠ n) (s : State) : MachKept n s (s.startMach t0 j) :=
  (((MachKept.setMach hj s _).trans (.setMachState hj _ _)).trans (.emBit hj _ _ _)).trans (.emBit hj _ _ _)

theorem State.startMach_mach {s : State} {n : Nat} (hn : n < s.eng.machs.length) (t0 : Nat) :
    (s.startMach t0 n).mach n = (s.mach n).started t0 (s.startConly (s.mach n)) := by
  have hstate := State.setMachState_machIs (s := s.machCleared t0 n) (hn.trans_eq (s.setMach_length n _).symm) M_RUNNING
  rw [State.machCleared, (State.setMach_machIs hn _).1] at hstate
  exact hstate.1

theorem State.startMach_bits (s : State) (t0 : Nat) {n : Nat} (hn : n < 32) :
    (s.startMach t0 n).on (bitF Reg.EM_RUN n) = true ∧ (s.startMach t0 n).on (bitF Reg.EM_VOTE n) = false := by
  refine ⟨?_, State.emBit_on _ _ hn _⟩
  rw [s.startMach_eq, State.emBit_on_other _ (by decide), State.emBit_on_other _ (by decide)]
  exact State.emBit_on _ _ hn _

/-- Each machine named starts, and no other. -/
theorem emStartApply_result {s : State} (hcount : s.eng.machs.length = 32) (mask n : Nat) :
    let t := emStartApply mask s
    (n < 32 → mask.testBit n = true →
      t.mach n = (s.mach n).started s.nextFast (s.startConly (s.mach n)) ∧ t.on (bitF Reg.EM_RUN n) = true ∧
        t.on (bitF Reg.EM_VOTE n) = false) ∧
    (mask.testBit n = false → t.mach n = s.mach n) := by
  have hother (j : Nat) (hj : j ≠ n) (u : State) : MachKept n u (u.startMach s.nextFast j) := u.startMach_kept _ hj
  refine ⟨fun hn hbit => ?_, fun hbit => ?_⟩
  · obtain ⟨u, hu, hlast⟩ := State.each_at (MachKept.refl n) (fun _ _ _ => .trans) hother
      (mem_maskList_iff.mpr ⟨hn, hbit⟩) (maskList_nodup _ _) s
    have hmach := u.startMach_mach (n := n) (by rwa [hu.count, hcount]) s.nextFast
    obtain ⟨hrun, hvote⟩ := u.startMach_bits s.nextFast hn
    rw [hu.mach, State.startConly_congr hu.pmem] at hmach
    exact ⟨hlast.mach.trans hmach, hlast.run.trans hrun, hlast.vote.trans hvote⟩
  · refine (State.each_induction (MachKept.refl n) (fun _ _ _ => .trans) _ s fun j hj => hother j fun e => ?_).mach
    exact Bool.false_ne_true (hbit.symm.trans (e ▸ (mem_maskList_iff.mp hj).2))

theorem emStart_accepted {r : Req} {s : State} (haon : s.aon = true) (hshaped : s.Shaped)
    (hacc : cmdEmStart.accepts r s = true) :
    Does (.emStart r) s fun t =>
      Replied 0x42 r OK (leBytes 8 s.nextFast) s t ∧ RegFrame (startRegs ++ replyRegs) s t ∧
      (∀ n < 32, (numAt r.params 0 4).testBit n = true →
        t.mach n = (s.mach n).started s.nextFast (s.startConly (s.mach n)) ∧ t.on (bitF Reg.EM_RUN n) = true ∧
          t.on (bitF Reg.EM_VOTE n) = false) ∧
      (∀ n, (numAt r.params 0 4).testBit n = false → t.mach n = s.mach n) ∧
      ReplyOnly { s with eng := { s.eng with machs := t.eng.machs } } t := by
  obtain ⟨-, -, -, -, hcount, -⟩ := hshaped
  let u := emStartApply (numAt r.params 0 4) s
  have honly : MachsOnly s u :=
    State.each_induction .refl (fun _ _ _ => .trans) _ s fun n _ v => v.startMach_only s.nextFast n
  have hframe : RegFrame startRegs s u :=
    State.each_induction (.refl _) (fun _ _ _ => .trans) _ s fun n _ v => v.startMach_regFrame s.nextFast n
  obtain ⟨t, hrun, hans, hreplied⟩ := Cmd.answered_of_engOnly haon hacc (c := cmdEmStart) (u := u) rfl
    (by rw [length_leBytes]; decide) honly.engOnly hframe (by decide)
  have hmach (n : Nat) : t.mach n = u.mach n := State.mach_of_eng hans.only.eng n
  refine ⟨t, (exec_emStart r s).trans hrun, hreplied, hans.regFrame hframe, fun n hn hbit => ?_, fun n hbit => ?_,
    honly.replyOnly hans.only⟩
  · obtain ⟨hstarted, hrunning, hvote⟩ := (emStartApply_result hcount _ n).1 hn hbit
    exact ⟨(hmach n).trans hstarted, (hans.on _ EM_RUN_not_replied).trans hrunning,
      (hans.on _ EM_VOTE_not_replied).trans hvote⟩
  · exact (hmach n).trans ((emStartApply_result hcount _ n).2 hbit)

end Sys2Proof.Machine

namespace Sys2Proof.Machine

/-! ### EM_STOP (R132, R174) -/

/-- Nothing is changed but registers, the two stores of records, the machines, and ALERT_N's mark. -/
def StopOnly (s t : State) : Prop :=
  t = { s with
    regs := t.regs, queue := t.queue, ring := t.ring, eng := { s.eng with machs := t.eng.machs }
    tw := { s.tw with quiet := t.tw.quiet } }

theorem StopOnly.refl (s : State) : StopOnly s s := rfl

theorem StopOnly.trans {s u t : State} (h : StopOnly s u) (k : StopOnly u t) : StopOnly s t := by
  unfold StopOnly at *
  rw [k, h]

theorem MachsOnly.stopOnly {s t : State} (h : MachsOnly s t) : StopOnly s t := by
  unfold MachsOnly StopOnly at *
  rw [h]

theorem StoresOnly.stopOnly {s t : State} (h : StoresOnly s t) : StopOnly s t := by
  unfold StoresOnly StopOnly at *
  rw [h]

/-- The registers that the report of a pending action may change. -/
def reportActRegs : List Nat := [Reg.SPEC_EVENTS, Reg.FALSESTOP_COUNT] ++ commitRegs

theorem State.falsestopNow_result (s : State) (origin action detail tick addr : Nat) (value : Word) :
    let t := s.falsestopNow origin action detail tick addr value
    StoresOnly s t ∧ RegFrame reportActRegs s t := by
  let u := s.commitOne (falsestopRec origin action detail 2 tick addr value)
  have hmarks : RegsOnly u u.falsestopMarks := (RegsOnly.raise u Reg.SPEC_EVENTS 0).trans (.incSat _ _)
  have hframe : RegFrame reportActRegs s u :=
    (RegFrame.refl _ s).commitOne (fun _ => List.mem_append_right _) _
  exact ⟨(s.commitOne_storesOnly _).trans hmarks.storesOnly,
    (hframe.raise _ _ (by decide) (by decide)).incSat _ (.inl (by decide))⟩

/-- The pending actions leave their machine; what reports them leaves the engine. -/
theorem State.reportActs_result (s : State) (n : Nat) (report : Bool) :
    let u := s.setMach n fun m => { m with acts := [] }
    StoresOnly u (s.reportActs n report) ∧ RegFrame reportActRegs u (s.reportActs n report) := by
  unfold State.reportActs
  extract_lets acts u
  split
  · exact ⟨StoresOnly.each (fun _ v => (v.falsestopNow_result _ _ _ _ _ _).1) _ _,
      RegFrame.each (fun _ _ v h => h.trans (v.falsestopNow_result _ _ _ _ _ _).2) _ (.refl _ _)⟩
  · exact ⟨.refl _, .refl _ _⟩

theorem StoresOnly.eng {s t : State} (h : StoresOnly s t) : t.eng = s.eng := by rw [h]

/-- A machine that stops (R132): frozen as after its last confirmed run. -/
def Mach.stopped (m : Mach) : Mach :=
  { m with
    state := M_STOPPED, cur := m.conf, runs := [], run := none, acts := [], starting := false, haltTick := none }

/-- The machine whose actions have been reported, without its runs. -/
def State.machFrozen (n : Nat) (report : Bool) (s : State) : State :=
  (s.reportActs n report).setMach n fun m =>
    { m with run := none, runs := [], haltTick := none, starting := false, cur := m.conf }

theorem State.stopMach_of_running {s : State} {n : Nat} (h : s.running n = true) (report : Bool) :
    s.stopMach n report = ((s.machFrozen n report).setMachState n M_STOPPED).emBit Reg.EM_VOTE n false := if_pos h

theorem State.stopMach_of_not_running {s : State} {n : Nat} (h : s.running n = false) (report : Bool) :
    s.stopMach n report = s := if_neg (Bool.eq_false_iff.mp h)

/-- Only a machine that exists runs. -/
theorem State.mach_lt_of_running {s : State} {n : Nat} (h : s.running n = true) : n < s.eng.machs.length := by
  by_contra hn
  rw [State.running, State.mach, List.getD_eq_default _ _ (Nat.le_of_not_lt hn)] at h
  exact absurd h (by decide)

/-- The registers that a stop may change. -/
def stopRegs : List Nat := [Reg.EM_RUN, Reg.EM_VOTE] ++ reportActRegs

theorem State.stopMach_frame (s : State) (n : Nat) (report : Bool) :
    RegFrame stopRegs s (s.stopMach n report) ∧ StopOnly s (s.stopMach n report) := by
  obtain ⟨hstores, hreport⟩ := s.reportActs_result n report
  have hacts : RegFrame stopRegs s (s.reportActs n report) :=
    ((RegFrame.refl _ s).setMach n _).trans (hreport.mono fun _ => List.mem_append_right _)
  have honly : StopOnly s (s.reportActs n report) :=
    (MachsOnly.setMach s n _).stopOnly.trans hstores.stopOnly
  cases h : s.running n with
  | false =>
    rw [State.stopMach_of_not_running h]
    exact ⟨.refl _ s, .refl s⟩
  | true =>
    rw [State.stopMach_of_running h]
    exact ⟨((hacts.setMach n _).setMachState n _ (by decide)).emBit _ n _ (by decide),
      honly.trans (((MachsOnly.setMach _ n _).trans (.setMachState _ n _)).trans (.emBit _ _ _ _)).stopOnly⟩

/-- The stop of a machine keeps what concerns another. -/
theorem State.stopMach_kept {n j : Nat} (hj : j ≠ n) (report : Bool) (s : State) :
    MachKept n s (s.stopMach j report) := by
  cases h : s.running j with
  | false =>
    rw [State.stopMach_of_not_running h]
    exact .refl n s
  | true =>
    obtain ⟨hstores, hreport⟩ := s.reportActs_result j report
    have hacts : MachKept n s (s.reportActs j report) :=
      (MachKept.setMach hj s _).trans (.of_frame hstores.eng hreport (by decide) (by decide) n)
    rw [State.stopMach_of_running h]
    exact ((hacts.trans (.setMach hj _ _)).trans (.setMachState hj _ _)).trans (.emBit hj _ _ _)

theorem State.stopMach_mach {s : State} {n : Nat} (h : s.running n = true) (report : Bool) :
    (s.stopMach n report).mach n = (s.mach n).stopped := by
  have hn := State.mach_lt_of_running h
  obtain ⟨hstores, -⟩ := s.reportActs_result n report
  have hreported : (s.reportActs n report).mach n = { s.mach n with acts := [] } :=
    (State.mach_of_eng hstores.eng n).trans (State.setMach_machIs hn _).1
  have hreportedCount : n < (s.reportActs n report).eng.machs.length := by
    rwa [hstores.eng, State.setMach_length]
  have hfrozen := (State.setMach_machIs hreportedCount fun m =>
    { m with run := none, runs := [], haltTick := none, starting := false, cur := m.conf }).1
  rw [hreported] at hfrozen
  have hstate := (State.setMachState_machIs (s := s.machFrozen n report) (n := n)
    (hreportedCount.trans_eq (State.setMach_length _ n _).symm) M_STOPPED).1
  rw [State.machFrozen, hfrozen] at hstate
  rw [State.stopMach_of_running h]
  exact hstate

theorem State.stopMach_bits {s : State} {n : Nat} (h : s.running n = true) (hn : n < 32) (report : Bool) :
    (s.stopMach n report).on (bitF Reg.EM_RUN n) = false ∧ (s.stopMach n report).on (bitF Reg.EM_VOTE n) = false := by
  rw [State.stopMach_of_running h]
  refine ⟨?_, State.emBit_on _ _ hn _⟩
  rw [State.emBit_on_other _ (by decide)]
  exact State.emBit_on _ _ hn _

/-- Each RUNNING machine named stops, and no other. -/
theorem emStopApply_result (s : State) (mask n : Nat) :
    let t := emStopApply mask s
    (n < 32 → mask.testBit n = true → s.running n = true →
      t.mach n = (s.mach n).stopped ∧ t.on (bitF Reg.EM_RUN n) = false ∧ t.on (bitF Reg.EM_VOTE n) = false) ∧
    (mask.testBit n = false ∨ s.running n = false → t.mach n = s.mach n) := by
  have hother (j : Nat) (hj : j ≠ n) (u : State) : MachKept n u (u.stopMach j true) := u.stopMach_kept hj _
  have hat (hn : n < 32) (hbit : mask.testBit n = true) :
      ∃ u, MachKept n s u ∧ MachKept n (u.stopMach n true) (emStopApply mask s) :=
    State.each_at (MachKept.refl n) (fun _ _ _ => .trans) hother (mem_maskList_iff.mpr ⟨hn, hbit⟩)
      (maskList_nodup _ _) s
  refine ⟨fun hn hbit hrunning => ?_, fun hout => ?_⟩
  · obtain ⟨u, hu, hlast⟩ := hat hn hbit
    have hu' : u.running n = true := hu.running.trans hrunning
    obtain ⟨hrun, hvote⟩ := State.stopMach_bits hu' hn true
    exact ⟨hlast.mach.trans ((State.stopMach_mach hu' true).trans (by rw [hu.mach])), hlast.run.trans hrun,
      hlast.vote.trans hvote⟩
  · by_cases hmem : n ∈ maskList 32 mask
    · obtain ⟨hn, hbit⟩ := mem_maskList_iff.mp hmem
      obtain ⟨u, hu, hlast⟩ := hat hn hbit
      have hrunning : s.running n = false := hout.resolve_left (by rw [hbit]; decide)
      rw [State.stopMach_of_not_running (hu.running.trans hrunning)] at hlast
      exact hlast.mach.trans hu.mach
    · exact (State.each_induction (MachKept.refl n) (fun _ _ _ => .trans) _ s
        fun j hj => hother j fun e => hmem (e ▸ hj)).mach

theorem emStop_accepted {r : Req} {s : State} (haon : s.aon = true) (hacc : cmdEmStop.accepts r s = true) :
    Does (.emStop r) s fun t =>
      Replied 0x43 r OK [] s t ∧
      (∀ n < 32, (numAt r.params 0 4).testBit n = true → s.running n = true →
        t.mach n = (s.mach n).stopped ∧ t.on (bitF Reg.EM_RUN n) = false ∧ t.on (bitF Reg.EM_VOTE n) = false) ∧
      (∀ n, (numAt r.params 0 4).testBit n = false ∨ s.running n = false → t.mach n = s.mach n) := by
  let u := emStopApply (numAt r.params 0 4) s
  have honly : StopOnly s u :=
    State.each_induction .refl (fun _ _ _ => .trans) _ s fun n _ v => (v.stopMach_frame n true).2
  have hframe : RegFrame stopRegs s u :=
    State.each_induction (.refl _) (fun _ _ _ => .trans) _ s fun n _ v => (v.stopMach_frame n true).1
  obtain ⟨t, hrun, hans⟩ := Cmd.answered_of_accepts (c := cmdEmStop) haon hacc (fun _ => Nat.zero_le _)
    (show u.link = s.link by rw [honly]) (show u.entry.hold = s.entry.hold by rw [honly]) hframe (by decide)
  have hmach (n : Nat) : t.mach n = u.mach n := State.mach_of_eng hans.only.eng n
  refine ⟨t, (exec_emStop r s).trans hrun, hans.replied, fun n hn hbit hrunning => ?_, fun n hout => ?_⟩
  · obtain ⟨hstopped, hoff, hvote⟩ := (emStopApply_result s _ n).1 hn hbit hrunning
    exact ⟨(hmach n).trans hstopped, (hans.on _ EM_RUN_not_replied).trans hoff,
      (hans.on _ EM_VOTE_not_replied).trans hvote⟩
  · exact (hmach n).trans ((emStopApply_result s _ n).2 hout)

end Sys2Proof.Machine

namespace Sys2Proof.Machine

/-! ### Register forms (R150, R155) -/

/-- A write by command to a register of the machines that does no more than act. -/
theorem regWrite_em {s : State} (haon : s.aon = true) (hnoon : s.noon = true) (himago : s.imago = true) {a : Nat}
    (hmask : w1cMask a = 0) (hpage : a / 256 = 0x0E) (w : Word) : regWrite false a w s = .next (s.writeEm a w) := by
  have htakes : s.TakesWrite a := .inl himago
  refine (act_next haon).trans (congrArg _ ?_)
  rw [hnoon, State.when_true, State.byBus, if_neg Bool.false_ne_true, State.writeReg, if_neg htakes.not_closed,
    if_neg (not_not_intro hmask), hpage]
  rfl

theorem emRegionWrite_eq {s : State} (haon : s.aon = true) (hnoon : s.noon = true) (himago : s.imago = true)
    (w : Word) : exec (.emRegionWrite false w) s = .next (s.writeEmRegion w) :=
  (exec_emRegionWrite _ _ _).trans (regWrite_em haon hnoon himago (by decide) (by decide) w)

theorem emFlagsWrite_eq {s : State} (haon : s.aon = true) (hnoon : s.noon = true) (himago : s.imago = true) (w : Word) :
    exec (.emFlagsWrite false w) s = .next (s.writeEmFlags w) :=
  (exec_emFlagsWrite _ _ _).trans (regWrite_em haon hnoon himago (by decide) (by decide) w)

theorem emPmemData_eq {s : State} (haon : s.aon = true) (hnoon : s.noon = true) (himago : s.imago = true) (w : Word) :
    exec (.emPmemData false w) s = .next (s.writeEmPmem w) :=
  (exec_emPmemData _ _ _).trans (regWrite_em haon hnoon himago (by decide) (by decide) w)

/-- A refused register write is recorded in EM_REFUSED, and changes nothing else. -/
theorem State.emRefused_result (s : State) {status reason addr : Nat} (hstatus : status < 2 ^ 8)
    (hreason : reason < 2 ^ 8) (haddr : addr < 2 ^ 13) :
    let t := s.emRefused status reason addr
    t.fld EM_REFUSED.STATUS = status ∧ t.fld EM_REFUSED.REASON = reason ∧ t.fld EM_REFUSED.ADDR = addr ∧
      RegFrame [Reg.EM_REFUSED] s t ∧ t = { s with regs := t.regs } := by
  have hmem : Reg.EM_REFUSED ∈ [Reg.EM_REFUSED] := List.mem_singleton.mpr rfl
  unfold State.emRefused
  refine ⟨?_, ?_, ?_,
    (((RegFrame.refl _ s).setF _ _ (.inl hmem)).setF _ _ (.inl hmem)).setF _ _ (.inl hmem), rfl⟩
  · rw [State.fld_setF_other _ _ _ _ (by decide), State.fld_setF_other _ _ _ _ (by decide),
      State.fld_setF_same _ _ _ (by decide)]
    exact Nat.mod_eq_of_lt hstatus
  · rw [State.fld_setF_other _ _ _ _ (by decide), State.fld_setF_same _ _ _ (by decide)]
    exact Nat.mod_eq_of_lt hreason
  · rw [State.fld_setF_same _ _ _ (by decide)]
    exact Nat.mod_eq_of_lt haddr

theorem badWord_single {a : Nat} {w : Word} {x : Nat × Nat} (h : badWord a [w] = some x) : x.1 ≤ 2 ∧ x.2 = a := by
  have hreason {r : Nat} (hr : ixReason w = some r) : r ≤ 2 := by
    unfold ixReason at hr
    split_ifs at hr <;> simp only [Option.some.injEq] at hr <;> omega
  unfold badWord at h
  split at h
  · next r hr =>
    cases h
    exact ⟨hreason hr, rfl⟩
  · cases h

/-- The refusal of one word names its reason and its address. -/
theorem State.loadReason_single {s : State} {a : Nat} {w : Word} {x : Nat × Nat}
    (h : s.loadReason a [w] = some x) : x.1 ≤ 4 ∧ x.2 = a := by
  unfold State.loadReason at h
  split_ifs at h
  · cases h
    exact ⟨by omega, rfl⟩
  · cases h
    exact ⟨by omega, rfl⟩
  · obtain ⟨hreason, haddr⟩ := badWord_single h
    exact ⟨by omega, haddr⟩

section
variable {s : State} (haon : s.aon = true) (hnoon : s.noon = true) (himago : s.imago = true) (w : Word)
include haon hnoon himago

theorem emRegionWrite_running (hrunning : s.running (s.fld EM_SEL.MACH) = true) :
    Does (.emRegionWrite false w) s fun t => t.fld EM_REFUSED.STATUS = REJECTED ∧ t.fld EM_REFUSED.REASON = 8 ∧
      RegFrame [Reg.EM_REFUSED] s t ∧ t = { s with regs := t.regs } := by
  have hwrite : s.writeEmRegion w = s.emRefused REJECTED 8 0 := if_pos hrunning
  obtain ⟨hstatus, hreason, -, hkept⟩ := s.emRefused_result (status := REJECTED) (reason := 8) (addr := 0)
    (by decide) (by decide) (by decide)
  exact ⟨_, (emRegionWrite_eq haon hnoon himago w).trans (congrArg _ hwrite), hstatus, hreason, hkept⟩

theorem emFlagsWrite_running (hrunning : s.running (s.fld EM_SEL.MACH) = true) :
    Does (.emFlagsWrite false w) s fun t => t.fld EM_REFUSED.STATUS = REJECTED ∧ t.fld EM_REFUSED.REASON = 8 ∧
      RegFrame [Reg.EM_REFUSED] s t ∧ t = { s with regs := t.regs } := by
  have hwrite : s.writeEmFlags w = s.emRefused REJECTED 8 0 := if_pos hrunning
  obtain ⟨hstatus, hreason, -, hkept⟩ := s.emRefused_result (status := REJECTED) (reason := 8) (addr := 0)
    (by decide) (by decide) (by decide)
  exact ⟨_, (emFlagsWrite_eq haon hnoon himago w).trans (congrArg _ hwrite), hstatus, hreason, hkept⟩

theorem emRegionWrite_bad (hrunning : s.running (s.fld EM_SEL.MACH) = false)
    (hbad : bits w 16 14 = 0 ∨ 8192 < bits w 0 13 + bits w 16 14) :
    Does (.emRegionWrite false w) s fun t => t.fld EM_REFUSED.STATUS = BAD_PARAM ∧
      RegFrame [Reg.EM_REFUSED] s t ∧ t = { s with regs := t.regs } := by
  have hwrite : s.writeEmRegion w = s.emRefused BAD_PARAM 0 0 :=
    (if_neg (Bool.eq_false_iff.mp hrunning)).trans (if_pos hbad)
  obtain ⟨hstatus, -, -, hkept⟩ := s.emRefused_result (status := BAD_PARAM) (reason := 0) (addr := 0)
    (by decide) (by decide) (by decide)
  exact ⟨_, (emRegionWrite_eq haon hnoon himago w).trans (congrArg _ hwrite), hstatus, hkept⟩

/-- EM_SEL names one of the 32 machines. -/
theorem emRegionWrite_stores (hshaped : s.Shaped) (hrunning : s.running (s.fld EM_SEL.MACH) = false)
    (hlen : bits w 16 14 ≠ 0) (hfits : bits w 0 13 + bits w 16 14 ≤ 8192) :
    Does (.emRegionWrite false w) s fun t =>
      MachIs (s.fld EM_SEL.MACH) ((s.mach (s.fld EM_SEL.MACH)).withRegion (bits w 0 13) (bits w 16 14)) s t ∧
        RegFrame [Reg.EM_RUN] s t := by
  obtain ⟨-, -, -, -, hcount, -⟩ := hshaped
  have hn : s.fld EM_SEL.MACH < s.eng.machs.length := (s.fld_lt EM_SEL.MACH).trans_eq hcount.symm
  have hwrite : s.writeEmRegion w = s.emRegion (s.fld EM_SEL.MACH) (bits w 0 13) (bits w 16 14) :=
    (if_neg (Bool.eq_false_iff.mp hrunning)).trans (if_neg (not_or_intro hlen (Nat.not_lt.mpr hfits)))
  obtain ⟨hmach, hframe, -⟩ := State.emRegion_result hn (bits w 0 13) (bits w 16 14)
  exact ⟨_, (emRegionWrite_eq haon hnoon himago w).trans (congrArg _ hwrite), hmach, hframe⟩

theorem emFlagsWrite_stores (hshaped : s.Shaped) (hrunning : s.running (s.fld EM_SEL.MACH) = false) :
    Does (.emFlagsWrite false w) s fun t =>
      MachIs (s.fld EM_SEL.MACH) { s.mach (s.fld EM_SEL.MACH) with flags := w.toNat % 8 } s t ∧ RegFrame [] s t := by
  obtain ⟨-, -, -, -, hcount, -⟩ := hshaped
  have hn : s.fld EM_SEL.MACH < s.eng.machs.length := (s.fld_lt EM_SEL.MACH).trans_eq hcount.symm
  have hwrite : s.writeEmFlags w = s.setMach (s.fld EM_SEL.MACH) fun m => { m with flags := w.toNat % 8 } :=
    if_neg (Bool.eq_false_iff.mp hrunning)
  exact ⟨_, (emFlagsWrite_eq haon hnoon himago w).trans (congrArg _ hwrite), State.setMach_machIs hn _,
    (RegFrame.refl _ s).setMach _ _⟩

theorem emPmemData_stores (hpermitted : s.loadReason (s.fld EM_PMEM_ADDR.ADDR) [w] = none) :
    Does (.emPmemData false w) s fun t =>
      t.pmemAt (s.fld EM_PMEM_ADDR.ADDR) = some w ∧
      (∀ a, a ≠ s.fld EM_PMEM_ADDR.ADDR → t.pmemAt a = s.pmemAt a) ∧
      t.fld EM_PMEM_ADDR.ADDR = (s.fld EM_PMEM_ADDR.ADDR + 1) % 8192 ∧ RegFrame [Reg.EM_PMEM_ADDR] s t := by
  let u := s.putPmem (s.fld EM_PMEM_ADDR.ADDR) w
  have hwrite : s.writeEmPmem w = u.emStep := by
    rw [State.writeEmPmem, hpermitted]
  have hpmem (a : Nat) : u.emStep.pmemAt a = if a = s.fld EM_PMEM_ADDR.ADDR then some w else s.pmemAt a :=
    s.pmemAt_putPmem _ a w
  refine ⟨u.emStep, (emPmemData_eq haon hnoon himago w).trans (congrArg _ hwrite), (hpmem _).trans (if_pos rfl),
    fun a ha => (hpmem a).trans (if_neg ha), ?_, ((RegFrame.refl _ s).putEng _).setF _ _ (.inl (by decide))⟩
  exact (u.fld_setF_same _ _ (by decide)).trans (Nat.mod_mod _ _)

theorem emPmemData_refused {x : Nat × Nat} (hrefused : s.loadReason (s.fld EM_PMEM_ADDR.ADDR) [w] = some x) :
    Does (.emPmemData false w) s fun t =>
      t.fld EM_REFUSED.STATUS = REJECTED ∧ t.fld EM_REFUSED.REASON = x.1 ∧ t.fld EM_REFUSED.ADDR = x.2 ∧
      RegFrame [Reg.EM_REFUSED] s t ∧ t = { s with regs := t.regs } := by
  obtain ⟨hreason, haddr⟩ := State.loadReason_single hrefused
  have hwrite : s.writeEmPmem w = s.emRefused REJECTED x.1 x.2 := by
    rw [State.writeEmPmem, hrefused]
  exact ⟨_, (emPmemData_eq haon hnoon himago w).trans (congrArg _ hwrite),
    s.emRefused_result (by decide) (by omega) (haddr ▸ s.fld_lt EM_PMEM_ADDR.ADDR)⟩

end

/-- Settles O52: the step of one machine is stated once (`startMach_mach`, `stopMach_mach`, `emRegion_result`) and keeps
what concerns every other (`MachKept`), so each machine that a mask names starts from the state the command was given
in (`each_at`). -/
theorem machineCommands : Obligations.MachineCommands := by
  unfold Obligations.MachineCommands
  refine ⟨fun r s haon => ⟨emLoad_accepted haon, ?config, fun hshaped hacc => ?start, fun hacc => ?stop, ?param⟩,
    fun s u haon => emParamApply_result haon u, fun s w haon hnoon himago => ⟨fun hrunning =>
      ⟨emRegionWrite_running haon hnoon himago w hrunning, emFlagsWrite_running haon hnoon himago w hrunning⟩,
      emRegionWrite_bad haon hnoon himago w, ?stores, emPmemData_stores haon hnoon himago w,
      fun _ => emPmemData_refused haon hnoon himago w⟩⟩
  case config =>
    rintro hshaped hacc _ rfl
    exact emConfig_accepted haon hshaped hacc
  case start =>
    obtain ⟨t, hexec, hreplied, hframe, hnamed, hothers, honly⟩ := emStart_accepted haon hshaped hacc
    refine ⟨t, hexec, hreplied, hframe, ?_, hothers, honly⟩
    rintro n hn hbit _ rfl
    exact hnamed n hn hbit
  case stop =>
    obtain ⟨t, hexec, hreplied, hnamed, hothers⟩ := emStop_accepted haon hacc
    refine ⟨t, hexec, hreplied, ?_, hothers⟩
    rintro n hn hbit hrunning _ rfl
    exact hnamed n hn hbit hrunning
  case param =>
    rintro hshaped hacc _ rfl
    exact emParam_accepted haon hshaped hacc
  case stores =>
    rintro hshaped hrunning _ rfl
    exact ⟨emRegionWrite_stores haon hnoon himago w hshaped hrunning,
      emFlagsWrite_stores haon hnoon himago w hshaped hrunning⟩

end Sys2Proof.Machine

namespace Sys2Proof.Machine

/-! ### Recognizer settings wait for their tick (R200, R202) -/

/-- The registers of a recognizer's block: CTRL and the four parameter words. -/
def recBlock (i : Nat) : List Nat :=
  [Reg.REC_CTRL i, Reg.REC_PAR_A i, Reg.REC_PAR_B i, Reg.REC_PAR_C i, Reg.REC_PAR_D i]

/-- The registers that settings are taken from. -/
def recSettings : List Nat :=
  [Reg.REC_ENABLE, Reg.REC_WHEEL, Reg.REC_COUNTS_PER_M, Reg.REC_GEOM] ++ (List.range 9).flatMap recBlock

theorem State.snapCfg_congr {s t : State} (h : ∀ a ∈ recSettings, t.reg a = s.reg a) (tp clear : Nat) :
    t.snapCfg tp clear = s.snapCfg tp clear := by
  have hcommon {a : Nat} (ha : a ∈ [Reg.REC_ENABLE, Reg.REC_WHEEL, Reg.REC_COUNTS_PER_M, Reg.REC_GEOM]) :
      t.reg a = s.reg a := h a (List.mem_append_left _ ha)
  have hblocks : (List.range 9).map (fun i => (recBlock i).map t.reg) =
      (List.range 9).map (fun i => (recBlock i).map s.reg) :=
    List.map_congr_left fun i hi => List.map_congr_left fun a ha =>
      h a (List.mem_append_right _ (List.mem_flatMap.mpr ⟨i, hi, ha⟩))
  unfold State.snapCfg State.fld
  rw [hcommon (a := REC_ENABLE.MASK.reg) (by decide), hcommon (a := REC_COUNTS_PER_M.COUNTS.reg) (by decide),
    hcommon (a := Reg.REC_WHEEL) (by decide), hcommon (a := Reg.REC_GEOM) (by decide)]
  exact congrArg (RecCfg.mk tp _ _ _ _ · clear false) hblocks

/-- The list of settings after a change: it joins those that wait for the same tick, or comes after the others. -/
def State.pushedCfgs (s : State) (clear : Nat) : List RecCfg :=
  s.eng.cfgs.take (s.eng.cfgs.length - b01 s.waitingCfg.isSome)
    ++ [s.snapCfg s.nextFast ((s.waitingCfg.map (·.clear)).getD 0 ||| clear)]

theorem State.pushCfg_eq (s : State) (clear : Nat) :
    s.pushCfg clear = s.putEng { s.eng with cfgs := s.pushedCfgs clear } := by
  have hwaiting (c : RecCfg) (hlast : s.eng.cfgs.getLast? = some c) :
      s.waitingCfg = if ¬ c.applied ∧ c.tp = s.nextFast then some c else none := by
    simp [State.waitingCfg, hlast, Option.filter]
  unfold State.pushCfg State.pushedCfgs
  extract_lets tp
  split
  next c hlast =>
    rw [hwaiting c hlast]
    split
    · rw [List.dropLast_eq_take]
      rfl
    · rw [show s.eng.cfgs.length - b01 (none : Option RecCfg).isSome = s.eng.cfgs.length from rfl, List.take_length,
        show ((none : Option RecCfg).map (·.clear)).getD 0 ||| clear = clear from Nat.zero_or clear]
  next hlast =>
    have hnone : s.waitingCfg = none := by simp [State.waitingCfg, hlast]
    rw [hnone, List.getLast?_eq_none_iff.mp hlast,
      show ((none : Option RecCfg).map (·.clear)).getD 0 ||| clear = clear from Nat.zero_or clear]
    rfl

theorem State.pushCfg_waits (s : State) (clear : Nat) : SettingsWait clear s (s.pushCfg clear) := by
  rw [State.pushCfg_eq]
  rfl

theorem State.nextFast_of_regs {s t : State} (h : t = { s with regs := t.regs })
    (hpreset : t.reg Reg.FILT_PRESET = s.reg Reg.FILT_PRESET) :
    t.nextFast = s.nextFast := by
  have hp : t.preset = s.preset := congrArg (bits · FILT_PRESET.ACTIVE.lo FILT_PRESET.ACTIVE.width) hpreset
  unfold State.nextFast
  rw [hp, h]

/-- Settings that wait for their tick after a change of registers wait in the state before it, and after a reply. -/
theorem SettingsWait.of_frames {clear : Nat} {s u v t : State} (h : SettingsWait clear u v)
    (honly : u = { s with regs := u.regs }) (hpreset : u.reg Reg.FILT_PRESET = s.reg Reg.FILT_PRESET) 
    (heng : t.eng = v.eng) (hregs : ∀ a ∈ recSettings, t.reg a = v.reg a) : SettingsWait clear s t := by
  have hnext := State.nextFast_of_regs honly hpreset
  have hueng : u.eng = s.eng := by rw [honly]
  have hwaiting : u.waitingCfg = s.waitingCfg := by rw [State.waitingCfg, hueng, hnext, State.waitingCfg]
  unfold SettingsWait at *
  rw [heng, h, hueng, hwaiting, hnext, State.snapCfg_congr hregs]

/-! ### Commands of the recognizers (R202) -/

/-- An accepted command that stores settings in registers and lets them wait. -/
theorem Cmd.settings_accepted {c : Cmd} {r : Req} {s u : State} {clear : Nat} {as : List Nat} (haon : s.aon = true)
    (hacc : c.accepts r s = true) (he : c.effect r s = (u.pushCfg clear, leBytes 8 s.nextFast))
    (honly : u = { s with regs := u.regs }) (hf : RegFrame as s u) (has : ∀ b ∈ as, b ∉ Reg.FILT_PRESET :: postRegs) :
    ∃ t, act (c.run r) s = .next t ∧ RegFrame replyRegs u t ∧ Replied c.op r OK (leBytes 8 s.nextFast) s t ∧
      SettingsWait clear s t ∧ RegFrame (as ++ replyRegs) s t ∧ ReplyOnly { s with eng := t.eng } t := by
  have hregs : (u.pushCfg clear).regs = u.regs := by rw [State.pushCfg_eq]; rfl
  have heng : EngOnly s (u.pushCfg clear) := by
    rw [State.pushCfg_eq, honly]
    rfl
  have hframe : RegFrame as s (u.pushCfg clear) := hf.regs hregs
  obtain ⟨t, hrun, hans, hreplied⟩ := Cmd.answered_of_engOnly haon hacc he (by rw [length_leBytes]; decide) heng hframe
    fun b hb hm => has b hb (List.mem_cons_of_mem _ hm)
  refine ⟨t, hrun, (RegFrame.of_regs hregs).trans hans.frame, hreplied, (u.pushCfg_waits clear).of_frames honly
    (hf _ (fun hb => has _ hb (List.mem_cons_self ..)) (by decide)) hans.only.eng ?_, hans.regFrame hframe, ?_⟩
  · have hapart : ∀ a ∈ recSettings, a ∉ replyRegs ∧ a ∉ pendRegs := by decide
    exact fun a ha => hans.frame a (hapart a ha).1 (hapart a ha).2
  · have hreply := hans.only
    unfold EngOnly ReplyOnly at *
    rw [hreply, heng]


/-- Words stored in the writable bits of registers, first to last. -/
def State.stores (ps : List (Nat × Word)) (s : State) : State := s.each (fun p u => u.putWritable p.1 p.2) ps

theorem State.stores_only : ∀ (ps : List (Nat × Word)) (s : State), s.stores ps = { s with regs := (s.stores ps).regs }
  | [], _ => rfl
  | p :: ps, s => State.stores_only ps (s.putWritable p.1 p.2)

theorem State.stores_other : ∀ {ps : List (Nat × Word)} {a : Nat} (s : State), a ∉ ps.map (·.1) →
    (s.stores ps).reg a = s.reg a
  | [], _, _, _ => rfl
  | p :: ps, a, s, h => by
    obtain ⟨hne, hps⟩ : a ≠ p.1 ∧ a ∉ ps.map (·.1) := by simpa [not_or] using h
    exact (State.stores_other (s.putWritable p.1 p.2) hps).trans (s.reg_putWritable_other p.2 hne)

theorem State.stores_regFrame (ps : List (Nat × Word)) (s : State) : RegFrame (ps.map (·.1)) s (s.stores ps) :=
  fun _ ha _ => s.stores_other ha

/-- Each of several registers holds its word. -/
theorem State.stores_reg {ps : List (Nat × Word)} (s : State) (hnodup : (ps.map (·.1)).Nodup) :
    ∀ p ∈ ps, (s.stores ps).reg p.1 = stored s p.1 p.2 := by
  induction ps generalizing s with
  | nil => exact fun _ hp => absurd hp List.not_mem_nil
  | cons q ps ih =>
    intro p hp
    obtain ⟨hq, hps⟩ := List.nodup_cons.mp (List.map_cons ▸ hnodup)
    let u := s.putWritable q.1 q.2
    show (u.stores ps).reg p.1 = _
    rcases List.mem_cons.mp hp with rfl | hmem
    · rw [u.stores_other hq, s.reg_putWritable_same, stored]
    · have hne : p.1 ≠ q.1 := fun e => hq (e ▸ List.mem_map_of_mem hmem)
      rw [ih u hps p hmem, stored, s.reg_putWritable_other q.2 hne, stored]

/-- An accepted command that stores a word in each of its registers and lets the settings wait. -/
theorem Cmd.stores_accepted {c : Cmd} {r : Req} {s : State} {clear : Nat} {ps : List (Nat × Word)}
    (haon : s.aon = true) (hacc : c.accepts r s = true)
    (he : c.effect r s = ((s.stores ps).pushCfg clear, leBytes 8 s.nextFast)) (hnodup : (ps.map (·.1)).Nodup)
    (hapart : ∀ b ∈ ps.map (·.1), b ∉ Reg.FILT_PRESET :: postRegs ∧ b ∉ pendRegs ++ replyRegs) :
    ∃ t, act (c.run r) s = .next t ∧ Replied c.op r OK (leBytes 8 s.nextFast) s t ∧
      (∀ p ∈ ps, t.reg p.1 = stored s p.1 p.2) ∧ SettingsWait clear s t ∧
      RegFrame (ps.map (·.1) ++ replyRegs) s t ∧ ReplyOnly { s with eng := t.eng } t := by
  obtain ⟨t, hrun, hreply, hreplied, hwait, hframe, honly⟩ := Cmd.settings_accepted haon hacc he
    (s.stores_only ps) (s.stores_regFrame ps) fun b hb => (hapart b hb).1
  refine ⟨t, hrun, hreplied, fun p hp => ?_, hwait, hframe, honly⟩
  obtain ⟨hpend, hmbx⟩ : p.1 ∉ pendRegs ∧ p.1 ∉ replyRegs := by
    simpa [not_or] using (hapart _ (List.mem_map_of_mem hp)).2
  exact (hreply _ hmbx hpend).trans (s.stores_reg hnodup p hp)

theorem recEnable_accepted {r : Req} {s : State} (haon : s.aon = true) (hacc : cmdRecEnable.accepts r s = true) :
    Does (.recEnable r) s fun t =>
      Replied 0x50 r OK (leBytes 8 s.nextFast) s t ∧ t.fld REC_ENABLE.MASK = numAt r.params 0 4 ∧
      SettingsWait 0 s t ∧ RegFrame (Reg.REC_ENABLE :: replyRegs) s t ∧ ReplyOnly { s with eng := t.eng } t := by
  have hmask : numAt r.params 0 4 < 512 := by
    have hcheck : recEnableCheck r.params s = none := Cmd.check_of_accepts hacc
    unfold recEnableCheck at hcheck
    split at hcheck
    · cases hcheck
    · omega
  obtain ⟨t, hrun, hreply, hreplied, hwait, hframe, honly⟩ := Cmd.settings_accepted
    (u := s.setF REC_ENABLE.MASK (numAt r.params 0 4)) (as := [Reg.REC_ENABLE]) haon hacc rfl rfl
    ((RegFrame.refl _ s).setF _ _ (.inl (by decide))) (by decide)
  refine ⟨t, (exec_recEnable r s).trans hrun, hreplied, ?_, hwait, hframe, honly⟩
  rw [hreply.fld _ (by decide) (by decide), State.fld_setF_same _ _ _ (by decide)]
  exact Nat.mod_eq_of_lt hmask

theorem recBlock_nodup (i : Nat) : (recBlock i).Nodup := by
  simp [recBlock, Reg.REC_CTRL, Reg.REC_PAR_A, Reg.REC_PAR_B, Reg.REC_PAR_C, Reg.REC_PAR_D]

theorem recBlock_apart : ∀ i < 9, ∀ b ∈ recBlock i,
    b ∉ Reg.FILT_PRESET :: postRegs ∧ b ∉ pendRegs ++ replyRegs := by decide

/-- The words of REC_CONFIG and where they go. -/
def recWords (p : List Byte) : List (Nat × Word) :=
  let i := byteAt p 0
  [(Reg.REC_CTRL i, wordAt p 4), (Reg.REC_PAR_A i, wordAt p 8), (Reg.REC_PAR_B i, wordAt p 12),
    (Reg.REC_PAR_C i, wordAt p 16), (Reg.REC_PAR_D i, wordAt p 20)]

theorem recConfig_accepted {r : Req} {s : State} (haon : s.aon = true) (hacc : cmdRecConfig.accepts r s = true) :
    Does (.recConfig r) s fun t =>
      Replied 0x51 r OK (leBytes 8 s.nextFast) s t ∧ (∀ p ∈ recWords r.params, t.reg p.1 = stored s p.1 p.2) ∧
      SettingsWait 0 s t ∧ RegFrame (recBlock (byteAt r.params 0) ++ replyRegs) s t ∧
      ReplyOnly { s with eng := t.eng } t := by
  have hi : byteAt r.params 0 < 9 := by
    have hcheck : recConfigCheck r.params s = none := Cmd.check_of_accepts hacc
    unfold recConfigCheck at hcheck
    extract_lets i at hcheck
    split at hcheck
    · cases hcheck
    · exact Nat.lt_succ_of_le (Nat.not_lt.mp ‹_›)
  obtain ⟨t, hrun, ht⟩ := Cmd.stores_accepted (ps := recWords r.params) haon hacc rfl (recBlock_nodup _)
    (recBlock_apart _ hi)
  exact ⟨t, (exec_recConfig r s).trans hrun, ht⟩

theorem recWheel_accepted {r : Req} {s : State} (haon : s.aon = true) (hacc : cmdRecWheel.accepts r s = true) :
    let ps := [(Reg.REC_WHEEL, wordAt r.params 0), (Reg.REC_COUNTS_PER_M, wordAt r.params 4),
      (Reg.REC_GEOM, wordAt r.params 8)]
    Does (.recWheel r) s fun t =>
      Replied 0x52 r OK (leBytes 8 s.nextFast) s t ∧ (∀ p ∈ ps, t.reg p.1 = stored s p.1 p.2) ∧ SettingsWait 0 s t ∧
      RegFrame ([Reg.REC_WHEEL, Reg.REC_COUNTS_PER_M, Reg.REC_GEOM] ++ replyRegs) s t ∧
      ReplyOnly { s with eng := t.eng } t := by
  intro ps
  obtain ⟨t, hrun, ht⟩ := Cmd.stores_accepted (ps := ps) haon hacc rfl
    (show [Reg.REC_WHEEL, Reg.REC_COUNTS_PER_M, Reg.REC_GEOM].Nodup by decide)
    (show ∀ b ∈ [Reg.REC_WHEEL, Reg.REC_COUNTS_PER_M, Reg.REC_GEOM], _ by decide)
  exact ⟨t, (exec_recWheel r s).trans hrun, ht⟩

theorem recClear_accepted {r : Req} {s : State} (haon : s.aon = true) (hacc : cmdRecClear.accepts r s = true) :
    Does (.recClear r) s fun t =>
      Replied 0x53 r OK (leBytes 8 s.nextFast) s t ∧ SettingsWait (2 ^ byteAt r.params 0) s t ∧
      RegFrame replyRegs s t ∧ ReplyOnly { s with eng := t.eng } t := by
  obtain ⟨t, hrun, -, ht⟩ := Cmd.settings_accepted (u := s) (as := []) haon hacc rfl rfl (.refl _ s)
    (fun _ hb => absurd hb List.not_mem_nil)
  exact ⟨t, (exec_recClear r s).trans hrun, ht⟩

end Sys2Proof.Machine

namespace Sys2Proof.Machine

/-! ### REC_CONFIG_APPLY (R200) -/

theorem State.falsestopNow_raised (s : State) (origin action detail tick addr : Nat) (value : Word) :
    Raised Reg.SPEC_EVENTS 0 s (s.falsestopNow origin action detail tick addr value) := by
  let r := falsestopRec origin action detail 2 tick addr value
  have hframe : RegFrame commitRegs s (s.commitOne r) := (RegFrame.refl _ s).commitOne (fun _ h => h) r
  have hold : (s.commitOne r).entry.hold = s.entry.hold := by rw [s.commitOne_storesOnly r]
  exact (hframe.raise_raised hold (by decide) Reg.SPEC_EVENTS 0 (by decide) (by decide) (by decide)).setF
    FALSESTOP_COUNT.COUNT _ (by decide) (by decide)

/-- The pending actions of recognizers `off` are reported. -/
def State.reportRecs (off : List (Nat × Nat × Nat)) (s : State) : State :=
  s.each (fun a s => s.falsestopNow (0x40 + a.1) 1 a.2.2 a.2.1 0 0) off

theorem State.reportRecs_result : ∀ (off : List (Nat × Nat × Nat)) (s : State),
    StoresOnly s (s.reportRecs off) ∧ RegFrame reportActRegs s (s.reportRecs off) ∧
      (off ≠ [] → Raised Reg.SPEC_EVENTS 0 s (s.reportRecs off))
  | [], s => ⟨.refl s, .refl _ s, fun h => absurd rfl h⟩
  | a :: off, s => by
    let u := s.falsestopNow (0x40 + a.1) 1 a.2.2 a.2.1 0 0
    obtain ⟨hstores, hframe⟩ := s.falsestopNow_result (0x40 + a.1) 1 a.2.2 a.2.1 0 0
    obtain ⟨ihstores, ihframe, ihraised⟩ := u.reportRecs_result off
    refine ⟨hstores.trans ihstores, hframe.trans ihframe, fun _ => ?_⟩
    cases off with
    | nil => exact s.falsestopNow_raised _ _ _ _ _ _
    | cons b off =>
      have hold : u.entry.hold = s.entry.hold := congrArg (·.entry.hold) hstores
      exact (ihraised (List.cons_ne_nil b off)).of_frame hframe hold (by decide) (by decide)

/-- What THEFT keeps as settings come into force (R196, R200). -/
def RecCfg.theftAt (c : RecCfg) (tick : Nat) (th : TheftMem) : TheftMem :=
  if c.on 7 && (th.from_.isNone && th.ref.isNone || c.clear.testBit 7) then
    { th with ref := none, from_ := some tick, recent := [], hits := [] }
  else if ¬ c.on 7 then { th with ref := none, from_ := none, recent := [], hits := [] }
  else th

def State.putTheft (s : State) (th : TheftMem) : State := s.putEng { s.eng with theft := th }

/-- One set of settings comes into force. -/
def State.cfgApplied (c : RecCfg) (s : State) : State :=
  let u := (s.putEng { s.eng with acts := s.eng.acts.filter fun a => c.on a.1 }).reportRecs
    (s.eng.acts.filter fun a => !c.on a.1)
  u.putTheft (c.theftAt u.tick u.eng.theft)

/-- The settings whose tick has come are marked. -/
def State.cfgsMarked (t : Nat) (s : State) : State :=
  s.putEng { s.eng with cfgs := s.eng.cfgs.map fun c => if c.tp ≤ t then { c with applied := true } else c }

theorem State.applyCfg_eq (t : Nat) (s : State) :
    s.applyCfg t =
      (s.cfgsMarked t).each State.cfgApplied (s.eng.cfgs.filter fun c => !c.applied && decide (c.tp ≤ t)) := by
  refine congrArg (fun f => State.each f _ (s.cfgsMarked t)) (funext fun c => funext fun s => ?_)
  let u := (s.putEng { s.eng with acts := s.eng.acts.filter fun a => c.on a.1 }).reportRecs
    (s.eng.acts.filter fun a => !c.on a.1)
  show _ = u.putTheft (c.theftAt u.tick u.eng.theft)
  rw [RecCfg.theftAt, apply_ite u.putTheft, apply_ite u.putTheft]
  rfl

/-- What settings that come into force leave: engine and registers change in the pending actions of disabled
recognizers, what reports them, and THEFT. -/
structure CfgKept (s t : State) : Prop where
  frame : RegFrame reportActRegs s t
  hold : t.entry.hold = s.entry.hold
  acts : List.Sublist t.eng.acts s.eng.acts
  eng : t.eng = { s.eng with acts := t.eng.acts, theft := t.eng.theft }
  quiet : t.eng.acts = s.eng.acts → t = { s with eng := t.eng }
  raised : t.eng.acts ≠ s.eng.acts → Raised Reg.SPEC_EVENTS 0 s t

theorem CfgKept.refl (s : State) : CfgKept s s :=
  ⟨.refl _ s, rfl, .refl _, rfl, fun _ => rfl, fun h => absurd rfl h⟩

theorem CfgKept.trans {s t u : State} (h : CfgKept s t) (k : CfgKept t u) : CfgKept s u where
  frame := h.frame.trans k.frame
  hold := k.hold.trans h.hold
  acts := k.acts.trans h.acts
  eng := by rw [k.eng, h.eng]
  quiet e := by
    have hacts : t.eng.acts = s.eng.acts := h.acts.antisymm (e ▸ k.acts)
    rw [k.quiet (e.trans hacts.symm), h.quiet hacts]
  raised ne := by
    by_cases e : u.eng.acts = t.eng.acts
    · exact (h.raised (e ▸ ne)).regs (by rw [k.quiet e])
    · exact (k.raised e).of_frame h.frame h.hold (by decide) (by decide)

theorem State.cfgApplied_eng (c : RecCfg) (s : State) :
    (s.cfgApplied c).eng =
      { s.eng with acts := s.eng.acts.filter fun a => c.on a.1, theft := c.theftAt s.tick s.eng.theft } := by
  let v := s.putEng { s.eng with acts := s.eng.acts.filter fun a => c.on a.1 }
  let off := s.eng.acts.filter fun a => !c.on a.1
  obtain ⟨hstores, -, -⟩ := v.reportRecs_result off
  have htick : (v.reportRecs off).tick = s.tick := congrArg (·.tick) hstores
  show ({ (v.reportRecs off).eng with
    theft := c.theftAt (v.reportRecs off).tick (v.reportRecs off).eng.theft } : EnginePart) = _
  rw [htick, hstores.eng]
  rfl

theorem State.cfgApplied_kept (c : RecCfg) (s : State) : CfgKept s (s.cfgApplied c) := by
  let v := s.putEng { s.eng with acts := s.eng.acts.filter fun a => c.on a.1 }
  let off := s.eng.acts.filter fun a => !c.on a.1
  obtain ⟨hstores, hframe, hraised⟩ := v.reportRecs_result off
  have hold : (v.reportRecs off).entry.hold = s.entry.hold := congrArg (·.entry.hold) hstores
  have heng := s.cfgApplied_eng c
  have hacts := congrArg EnginePart.acts heng
  have hpart : off = [] ↔ s.eng.acts.filter (fun a => c.on a.1) = s.eng.acts := by
    rw [List.filter_eq_nil_iff, List.filter_eq_self]
    exact forall₂_congr fun a _ => by rw [Bool.not_eq_true', Bool.not_eq_false]
  have hv : RegFrame reportActRegs s v := .of_regs rfl
  have hregs : (s.cfgApplied c).regs = (v.reportRecs off).regs := rfl
  refine ⟨(hv.trans hframe).regs hregs, hold, hacts ▸ List.filter_sublist, by rw [heng], fun e => ?_, fun ne => ?_⟩
  · have hoff : v.reportRecs off = v := by rw [hpart.mpr (hacts.symm.trans e)]; rfl
    show (v.reportRecs off).putTheft _ = _
    rw [hoff, heng]
    rfl
  · exact ((hraised fun e => ne (hacts.trans (hpart.mp e))).of_frame hv rfl (by decide) (by decide)).regs hregs

theorem State.cfgsApplied_kept (cs : List RecCfg) (s : State) : CfgKept s (s.each State.cfgApplied cs) :=
  State.each_induction CfgKept.refl (fun _ _ _ => CfgKept.trans) cs s fun c _ u => u.cfgApplied_kept c

/-- The pending actions of every recognizer that some of the settings disable are gone. -/
theorem State.cfgsApplied_acts : ∀ (cs : List RecCfg) (s : State),
    (s.each State.cfgApplied cs).eng.acts = s.eng.acts.filter (fun a => cs.all (·.on a.1))
  | [], s => (List.filter_eq_self.mpr fun _ _ => rfl).symm
  | c :: cs, s => by
    refine ((s.cfgApplied c).cfgsApplied_acts cs).trans ?_
    rw [s.cfgApplied_eng c, List.filter_filter]
    exact List.filter_congr fun a _ => by rw [List.all_cons, Bool.and_comm]

theorem recConfigApply_result (s : State) (u : Nat) :
    let new := s.eng.cfgs.filter (fun c => !c.applied && decide (c.tp ≤ u))
    let t := s.applyCfg u
    t.eng.cfgs = s.eng.cfgs.map (fun c => if c.tp ≤ u then { c with applied := true } else c) ∧
      t.eng.acts = s.eng.acts.filter (fun a => new.all (·.on a.1)) ∧ t.eng.machs = s.eng.machs ∧
      t.eng.dec = s.eng.dec ∧ (t.eng.acts ≠ s.eng.acts → Raised Reg.SPEC_EVENTS 0 s t) ∧
      (t.eng.acts = s.eng.acts → t = { s with eng := t.eng }) := by
  intro new t
  have ht : t = (s.cfgsMarked u).each State.cfgApplied new := s.applyCfg_eq u
  have hkept : CfgKept (s.cfgsMarked u) t := ht ▸ (s.cfgsMarked u).cfgsApplied_kept new
  have hacts : t.eng.acts = _ := (congrArg (·.eng.acts) ht).trans ((s.cfgsMarked u).cfgsApplied_acts new)
  have hmarked : RegFrame [] s (s.cfgsMarked u) := .of_regs rfl
  refine ⟨congrArg EnginePart.cfgs hkept.eng, hacts, congrArg (·.machs) hkept.eng,
    congrArg (·.dec) hkept.eng, fun ne => (hkept.raised ne).of_frame hmarked rfl (by decide) (by decide),
    fun e => ?_⟩
  exact hkept.quiet e

theorem recConfigApply_theft_of_nil {s : State} {u : Nat}
    (h : s.eng.cfgs.filter (fun c => !c.applied && decide (c.tp ≤ u)) = []) :
    (s.applyCfg u).eng.theft = s.eng.theft := by
  rw [State.applyCfg_eq, h]
  rfl

theorem recConfigApply_theft_of_single {s : State} {u : Nat} {c : RecCfg}
    (h : s.eng.cfgs.filter (fun c => !c.applied && decide (c.tp ≤ u)) = [c]) :
    (s.applyCfg u).eng.theft = c.theftAt s.tick s.eng.theft := by
  rw [State.applyCfg_eq, h]
  exact congrArg EnginePart.theft ((s.cfgsMarked u).cfgApplied_eng c)

section
variable {c : RecCfg} {tick : Nat} {th : TheftMem}

theorem RecCfg.theftAt_fresh (hon : c.on 7 = true) (h : c.clear.testBit 7 = true ∨ (th.from_ = none ∧ th.ref = none)) :
    c.theftAt tick th = { th with ref := none, from_ := some tick, recent := [], hits := [] } := by
  refine if_pos ?_
  rw [hon, Bool.true_and, Bool.or_eq_true, Bool.and_eq_true, Option.isNone_iff_eq_none, Option.isNone_iff_eq_none]
  exact h.symm

theorem RecCfg.theftAt_kept (hon : c.on 7 = true) (hclear : c.clear.testBit 7 = false)
    (h : th.from_ ≠ none ∨ th.ref ≠ none) : c.theftAt tick th = th := by
  refine (if_neg ?_).trans (if_neg (not_not_intro hon))
  rw [hclear, Bool.or_false, Bool.and_eq_true, Bool.and_eq_true, Option.isNone_iff_eq_none, Option.isNone_iff_eq_none]
  exact fun hboth => h.elim (absurd hboth.2.1) (absurd hboth.2.2)

theorem RecCfg.theftAt_off (hoff : c.on 7 = false) :
    c.theftAt tick th = { th with ref := none, from_ := none, recent := [], hits := [] } := by
  simp [RecCfg.theftAt, hoff]

end

end Sys2Proof.Machine

namespace Sys2Proof.Machine

/-! ### A recognizer's SAFE request (R180, R213, R214) -/

/-- The engine, and the requests the safety function has stored. -/
def State.requested (s : State) : EnginePart × List SafeReq := (s.eng, s.safety.requests)

theorem StoresOnly.requested {s t : State} (h : StoresOnly s t) : t.requested = s.requested := by
  rw [State.requested, h, State.requested]

theorem RegsOnly.requested {s t : State} (h : RegsOnly s t) : t.requested = s.requested := h.storesOnly.requested

theorem State.emitStatus_requested (s : State) (tied : Bool) (r : Rec) :
    (s.emitStatus tied r).requested = s.requested := by
  cases tied with
  | true => rfl
  | false => exact (s.commitOne_storesOnly r).requested

theorem State.requested_ite {s t u : State} {c : Prop} [Decidable c] (ht : t.requested = s.requested)
    (hu : u.requested = s.requested) : (if c then t else u).requested = s.requested := by
  split
  · exact ht
  · exact hu

theorem State.safeEvents_requested (s : State) (cause next : Nat) :
    (s.safeEvents cause next).requested = s.requested := by
  have raise {u : State} (k : Nat) (h : u.requested = s.requested) :
      (u.raise Reg.SAFE_EVENTS k).requested = s.requested := (RegsOnly.raise u _ _).requested.trans h
  have h₁ := State.requested_ite (c := next = TRIPPED)
    ((RegsOnly.incSat _ SAFE_COUNTS.TRIPS).requested.trans (raise 0 rfl)) (rfl : s.requested = s.requested)
  have h₂ := State.requested_ite (c := cause = C_HEARTBEAT) (raise 2 h₁) h₁
  have h₃ := State.requested_ite (c := cause = C_READBACK_A ∨ cause = C_READBACK_B) (raise 3 h₂) h₂
  exact State.requested_ite (raise 4 h₃) h₃

theorem State.safeEnter_requested (s : State) (next cause reason origin tick : Nat) (tied : Bool) :
    (s.safeEnter next cause reason origin tick tied).requested = s.requested := by
  unfold State.safeEnter
  extract_lets u kind v w
  have hv : v.requested = s.requested := (u.emitStatus_requested tied _).trans rfl
  have hevents : (v.safeEvents cause next).requested = s.requested := (v.safeEvents_requested cause next).trans hv
  have hw : w.requested = s.requested := State.requested_ite (s := s) hevents hevents
  have hpins : (w.tripPins next).requested = s.requested := State.requested_ite hw (State.requested_ite hw hw)
  exact State.requested_ite ((State.captureTrigger_storesOnly _ _ _ _ _).requested.trans hpins) hpins

/-- Whether a path acts or comes late, it leaves the engine and the stored requests. -/
theorem State.safePath_requested (s : State) (cause reason origin tick : Nat) (tied : Bool) :
    (s.safePath cause reason origin tick tied).requested = s.requested := by
  have late : (s.when s.noon (State.incSat SAFE_COUNTS.LATE_REQ)).requested = s.requested :=
    State.requested_ite rfl rfl
  unfold State.safePath
  extract_lets st u old new v
  exact State.requested_ite (s.safeEnter_requested _ _ _ _ _ _) (State.requested_ite (s.safeEnter_requested _ _ _ _ _ _)
    (State.requested_ite (s.safeEnter_requested _ _ _ _ _ _) (State.requested_ite late late)))

/-- A recognizer's request is stored. -/
def State.withRequest (i reason tick : Nat) (s : State) : State :=
  { s with safety := { s.safety with
    requests := s.safety.requests ++ [{ origin := 0x40 + i, reason := reason, tick := tick }] } }

theorem State.recognizerSafe_eq (s : State) (cause i reason tick : Nat) :
    s.recognizerSafe cause i reason tick =
      if (s.fld SAFE_REC_MASK.MASK).testBit i then
        (s.withRequest i reason tick).safePath cause reason (0x40 + i) tick true
      else (s.withRequest i reason tick).incSat SAFE_COUNTS.MASKED := rfl

theorem State.recognizerSafe_requested (s : State) (cause i reason tick : Nat) :
    (s.recognizerSafe cause i reason tick).requested = (s.withRequest i reason tick).requested := by
  rw [State.recognizerSafe_eq]
  exact State.requested_ite (State.safePath_requested _ _ _ _ _ _) (RegsOnly.incSat _ _).requested

/-- A declaration's request trips from ARMED where its mask bit is set. -/
theorem State.recognizerSafe_trips {s : State} {i : Nat} (harmed : s.safeState = ARMED)
    (hmask : (s.fld SAFE_REC_MASK.MASK).testBit i = true) (reason tick : Nat) :
    let t := s.recognizerSafe C_RECOGNIZER i reason tick
    t.SafeOff ∧ t.safeState = TRIPPED := by
  let u := s.withRequest i reason tick
  have hstate : u.safeState = ARMED := harmed
  rw [State.recognizerSafe_eq, if_pos hmask, State.safePath_of_armed (u.armed_iff.mpr (.inr hstate)), hstate]
  obtain ⟨hoff, hnext, -⟩ := u.safeEnter_result TRIPPED C_RECOGNIZER reason (0x40 + i) tick true (by decide)
  exact ⟨hoff, hnext⟩

/-! ### A speculative evaluation is recorded (R168, R181) -/

/-- The registers that provisional packets change. -/
def packetRegs : List Nat := [Reg.SPEC_STATUS, Reg.SPEC_EVENTS]

theorem State.grantRecs_result (s : State) (n : Nat) :
    RegsOnly s (s.grantRecs n).1 ∧ RegFrame packetRegs s (s.grantRecs n).1 := by
  unfold State.grantRecs
  extract_lets free u
  split
  · exact ⟨.refl s, .refl _ s⟩
  · exact ⟨(RegsOnly.addSat s _ _).trans (.raise _ _ _),
      ((RegFrame.refl _ s).addSat _ _ (.inl (by decide))).raise _ _ (by decide) (by decide)⟩

/-- A tick with what recognizer `i` has made of it. -/
def EngTick.withSpec (cfg : RecCfg) (i : Nat) (x : Dec × RecDone) (granted : Nat) (e : EngTick) : EngTick :=
  { e with
    after := e.after.set i x.1, done := e.done.set i x.2, prov := e.prov.set i granted
    recF := e.recF.set i (x.1.word (cfg.on i)) }

/-- The evaluation stands in its tick and in the chain. -/
def State.specStored (cfg : RecCfg) (i t : Nat) (x : Dec × RecDone) (s : State) : State :=
  let g := s.grantRecs x.2.evs.length
  let u := g.1.setTick t (EngTick.withSpec cfg i x g.2)
  u.putEng { u.eng with dec := u.eng.dec.set i x.1 }

theorem State.putSpec_eq (cfg : RecCfg) (i t : Nat) (x : Dec × RecDone) (s : State) :
    s.putSpec cfg i t x = ((s.specStored cfg i t x).specRequest cfg i t x.2.req).poolPeak := rfl

theorem State.specStored_result (cfg : RecCfg) (i t : Nat) (x : Dec × RecDone) (s : State) :
    let u := s.specStored cfg i t x
    RegFrame packetRegs s u ∧ u.safety = s.safety ∧ u.eng.acts = s.eng.acts ∧ u.eng.machs = s.eng.machs ∧
      u.eng.conf = s.eng.conf ∧ u.eng.dec = s.eng.dec.set i x.1 := by
  obtain ⟨honly, hframe⟩ := s.grantRecs_result x.2.evs.length
  have heng : (s.grantRecs x.2.evs.length).1.eng = s.eng := by rw [honly]
  have hsafety : (s.grantRecs x.2.evs.length).1.safety = s.safety := by rw [honly]
  refine ⟨hframe.regs rfl, hsafety, congrArg (·.acts) heng, congrArg (·.machs) heng,
    congrArg (·.conf) heng, ?_⟩
  show (s.grantRecs x.2.evs.length).1.eng.dec.set i x.1 = _
  rw [heng]

theorem State.engTick_setTick (s : State) (t : Nat) {f : EngTick → EngTick} (hf : ∀ e, (f e).tick = e.tick) :
    (s.setTick t f).engTick t = (s.engTick t).map f := by
  unfold State.engTick State.setTick State.putEng
  dsimp only
  rw [List.find?_map]
  have hkey : ((fun e : EngTick => e.tick == t) ∘ fun e => if e.tick = t then f e else e) = fun e => e.tick == t := by
    funext e
    dsimp only [Function.comp]
    split
    · rw [hf]
    · rfl
  rw [hkey]
  refine Option.map_congr fun e he => if_pos ?_
  have htick : (e.tick == t) = true := List.find?_some (p := fun e : EngTick => e.tick == t) he
  exact beq_iff_eq.mp htick

theorem State.specStored_engTick (cfg : RecCfg) (i t : Nat) (x : Dec × RecDone) (s : State) :
    (s.specStored cfg i t x).engTick t =
      (s.engTick t).map (EngTick.withSpec cfg i x (s.grantRecs x.2.evs.length).2) := by
  obtain ⟨honly, -⟩ := s.grantRecs_result x.2.evs.length
  refine ((s.grantRecs x.2.evs.length).1.engTick_setTick t
    (f := EngTick.withSpec cfg i x (s.grantRecs x.2.evs.length).2) fun _ => rfl).trans ?_
  rw [State.engTick, honly, State.engTick]

theorem State.specRequest_inactive {cfg : RecCfg} {i : Nat} (h : cfg.specAct i = false) (t : Nat)
    (req : Option (Nat × Nat)) (s : State) : s.specRequest cfg i t req = s := by
  cases req with
  | none => rfl
  | some x => exact if_neg fun hact => absurd (h.symm.trans hact.1) (by decide)

theorem State.specRequest_acts {s : State} {cfg : RecCfg} {i t : Nat} (hspec : cfg.specAct i = true)
    (hfirst : s.eng.acts.any (fun a => a.1 == i && a.2.1 == t) = false) (cause reason : Nat) :
    s.specRequest cfg i t (some (cause, reason)) =
      (s.putEng { s.eng with acts := s.eng.acts ++ [(i, t, reason)] }).recognizerSafe cause i reason t :=
  if_pos ⟨hspec, by rw [hfirst]; decide⟩

/-- A request changes nothing of the engine but the pending actions. -/
theorem State.specRequest_eng (cfg : RecCfg) (i t : Nat) (req : Option (Nat × Nat)) (s : State) :
    (s.specRequest cfg i t req).eng = { s.eng with acts := (s.specRequest cfg i t req).eng.acts } := by
  cases req with
  | none => rfl
  | some x =>
    unfold State.specRequest
    dsimp only
    split
    · let u := s.putEng { s.eng with acts := s.eng.acts ++ [(i, t, x.2)] }
      have heng : (u.recognizerSafe x.1 i x.2 t).eng = { s.eng with acts := s.eng.acts ++ [(i, t, x.2)] } :=
        congrArg Prod.fst (u.recognizerSafe_requested x.1 i x.2 t)
      rw [heng]
    · rfl

/-- What an evaluation `x` of recognizer `i` at tick `t` leaves, before its SAFE request. -/
structure SpecPut (i t : Nat) (x : Dec × RecDone) (s u : State) : Prop where
  machs : u.eng.machs = s.eng.machs
  conf : u.eng.conf = s.eng.conf
  dec : u.eng.dec = s.eng.dec.set i x.1
  done : ∀ f, u.engTick t = some f → ∃ e, s.engTick t = some e ∧ f.done = e.done.set i x.2

theorem State.putSpec_put (cfg : RecCfg) (i t : Nat) (x : Dec × RecDone) (s : State) :
    SpecPut i t x s (s.putSpec cfg i t x) := by
  let v := s.specStored cfg i t x
  obtain ⟨-, -, -, hmachs, hconf, hdec⟩ := s.specStored_result cfg i t x
  have heng : (s.putSpec cfg i t x).eng = { v.eng with acts := (s.putSpec cfg i t x).eng.acts } :=
    v.specRequest_eng cfg i t x.2.req
  refine ⟨by rw [heng]; exact hmachs, by rw [heng]; exact hconf, by rw [heng]; exact hdec, fun f hf => ?_⟩
  rw [State.engTick, heng] at hf
  obtain ⟨e, he, rfl⟩ := Option.map_eq_some_iff.mp ((s.specStored_engTick cfg i t x).symm.trans hf)
  exact ⟨e, he, rfl⟩

theorem State.putSpec_inactive {cfg : RecCfg} {i : Nat} (h : cfg.specAct i = false) (t : Nat) (x : Dec × RecDone)
    (s : State) :
    let u := s.putSpec cfg i t x
    u.eng.acts = s.eng.acts ∧ u.safety = s.safety ∧ RegFrame packetRegs s u := by
  obtain ⟨hframe, hsafety, hacts, -⟩ := s.specStored_result cfg i t x
  rw [State.putSpec_eq, State.specRequest_inactive h]
  exact ⟨hacts, hsafety, hframe.maxF _ _ (.inl (by decide))⟩

/-- A request under SPEC_ACT acts at once and is kept until it is decided. -/
theorem State.putSpec_active {s : State} {cfg : RecCfg} {i t reason : Nat} {x : Dec × RecDone}
    (hspec : cfg.specAct i = true) (hreq : x.2.req = some (C_RECOGNIZER, reason))
    (hfirst : s.eng.acts.any (fun a => a.1 == i && a.2.1 == t) = false) :
    let u := s.putSpec cfg i t x
    u.eng.acts = s.eng.acts ++ [(i, t, reason)] ∧
      u.safety.requests = s.safety.requests ++ [{ origin := 0x40 + i, reason := reason, tick := t }] ∧
      (s.safeState = ARMED → (s.fld SAFE_REC_MASK.MASK).testBit i = true → u.SafeOff ∧ u.safeState = TRIPPED) := by
  obtain ⟨hframe, hsafety, hacts, -⟩ := s.specStored_result cfg i t x
  let v := s.specStored cfg i t x
  let w := v.putEng { v.eng with acts := v.eng.acts ++ [(i, t, reason)] }
  let z := w.recognizerSafe C_RECOGNIZER i reason t
  have hu : s.putSpec cfg i t x = z.poolPeak := by
    rw [State.putSpec_eq, hreq, State.specRequest_acts hspec (hacts ▸ hfirst)]
  have hrequested := w.recognizerSafe_requested C_RECOGNIZER i reason t
  have hw : RegFrame packetRegs s w := hframe.regs rfl
  have hpeak : RegFrame packetRegs z z.poolPeak := (RegFrame.refl _ z).maxF _ _ (.inl (by decide))
  rw [hu]
  refine ⟨?_, ?_, fun harmed hmask => ?_⟩
  · exact (congrArg (·.1.acts) hrequested).trans (congrArg (· ++ [(i, t, reason)]) hacts)
  · refine (congrArg Prod.snd hrequested).trans ?_
    rw [← hsafety]
    rfl
  · obtain ⟨⟨ha, hb⟩, hstate⟩ := State.recognizerSafe_trips (s := w) (i := i)
      ((hw.fld SAFE_STATE.STATE (by decide) (by decide)).trans harmed)
      (by rw [hw.fld SAFE_REC_MASK.MASK (by decide) (by decide)]; exact hmask) reason t
    exact ⟨⟨(hpeak.fld _ (by decide) (by decide)).trans ha, (hpeak.fld _ (by decide) (by decide)).trans hb⟩,
      (hpeak.fld _ (by decide) (by decide)).trans hstate⟩

end Sys2Proof.Machine

namespace Sys2Proof.Machine

/-! ### What is due is finished (R180) -/

theorem finishDec_of_declare {d : Dec} (h : d.due = 1) (cfg : RecCfg) (i : Nat) :
    finishDec cfg i d =
      ({ d with
          st := R_ACTIVE, decl := d.prev.getD 0, peak := d.a, racc := none,
          phase := if i = 3 then d.detail % 2 else 0, due := 0 },
        { evs := [⟨1, d.detail, d.a, d.b⟩], req := if cfg.safeEn i then some (C_RECOGNIZER, 0xE0 + i) else none }) :=
  if_pos h

theorem finishDec_of_release {d : Dec} (h : d.due = 2) (cfg : RecCfg) (i : Nat) :
    finishDec cfg i d =
      ({ d with
          st := R_IDLE, racc := none, acc := 0, phase := 0, due := 0, detail := if i = 1 then 0 else d.detail },
        { evs := if cfg.endEvent i then [⟨2, d.detail, d.peak, ((d.prev.getD 0 - d.decl : Nat) : Int)⟩] else []
          req := none }) := by
  unfold finishDec
  rw [if_neg (by omega), if_pos h]

/-- The provisional packets of recognizer `i` at tick `t` are given back. -/
def State.packetsReturned (i t : Nat) (s : State) : State := s.setTick t fun e => { e with prov := e.prov.set i 0 }

theorem State.finishDue_eq {s : State} {i t : Nat} {e : EngTick} (he : s.engTick t = some e)
    (hdue : (s.eng.dec.getD i defaultDec).due ≠ 0) :
    s.finishDue i t = (s.packetsReturned i t).putSpec (s.recCfg t) i t
      (finishOne (s.recCfg t) i (s.eng.dec.getD i defaultDec, e.done.getD i noDone)) := by
  unfold State.finishDue
  rw [he]
  exact if_neg hdue

/-- A recognizer's decision and what it did at the tick are the finished ones; other recognizers, the machines and
the confirmed chain stay. -/
theorem State.finishDue_finished {s : State} {i t : Nat} {e : EngTick} (hshaped : s.Shaped) (hi : i < 9)
    (he : s.engTick t = some e) (hdue : (s.eng.dec.getD i defaultDec).due ≠ 0) :
    let x := finishOne (s.recCfg t) i (s.eng.dec.getD i defaultDec, e.done.getD i noDone)
    let u := s.finishDue i t
    u.eng.dec.getD i defaultDec = x.1 ∧
      (∀ j, j ≠ i → u.eng.dec.getD j defaultDec = s.eng.dec.getD j defaultDec) ∧ u.eng.machs = s.eng.machs ∧
      u.eng.conf = s.eng.conf ∧ ∀ f, u.engTick t = some f → f.done.getD i noDone = x.2 := by
  obtain ⟨-, -, -, -, -, hdecs, -, -, hdones⟩ := hshaped
  intro x u
  have hu : u = (s.packetsReturned i t).putSpec (s.recCfg t) i t x := State.finishDue_eq he hdue
  obtain ⟨hmachs, hconf, hdec, hdone⟩ := (s.packetsReturned i t).putSpec_put (s.recCfg t) i t x
  rw [← hu] at hmachs hconf hdec hdone
  have hdec' : u.eng.dec = s.eng.dec.set i x.1 := hdec
  have helen : e.done.length = 9 := hdones e (List.mem_of_find?_eq_some he)
  refine ⟨?_, fun j hj => ?_, hmachs, hconf, fun f hf => ?_⟩
  · rw [hdec', List.getD_eq_getElem?_getD, List.getElem?_set_self (by omega), Option.getD_some]
  · rw [hdec', List.getD_eq_getElem?_getD, List.getElem?_set_ne hj.symm, List.getD_eq_getElem?_getD]
  · obtain ⟨g, hg, hfdone⟩ := hdone f hf
    have hreturned := s.engTick_setTick t (f := fun e => { e with prov := e.prov.set i 0 }) fun _ => rfl
    obtain ⟨e', he', rfl⟩ := Option.map_eq_some_iff.mp (hreturned.symm.trans hg)
    obtain rfl : e = e' := Option.some.inj (he.symm.trans he')
    have hset : f.done = e.done.set i x.2 := hfdone
    rw [hset, List.getD_eq_getElem?_getD, List.getElem?_set_self (by omega), Option.getD_some]

/-- What is due of recognizer `i` is finished where it is the decision of kind `k`: 1 a declaration, 2 a release. -/
def State.finishIf (i k : Nat) (s : State) : State :=
  match s.eng.lastFast with
  | some t => s.when ((s.eng.dec.getD i defaultDec).due == k) (State.finishDue i t)
  | none => s

theorem State.finishIf_of_due {s : State} {i k u : Nat} (hlast : s.eng.lastFast = some u)
    (hdue : (s.eng.dec.getD i defaultDec).due = k) : s.finishIf i k = s.finishDue i u := by
  unfold State.finishIf
  rw [hlast]
  exact if_pos (beq_iff_eq.mpr hdue)

theorem State.finishIf_of_not_due {s : State} {i k : Nat}
    (h : s.eng.lastFast = none ∨ (s.eng.dec.getD i defaultDec).due ≠ k) : s.finishIf i k = s := by
  unfold State.finishIf
  split
  next u hlast =>
    have hdue := h.resolve_left (by rw [hlast]; exact Option.some_ne_none u)
    exact if_neg fun e => hdue (beq_iff_eq.mp e)
  next => rfl

section
variable {s : State} {i : Fin 9} (haon : s.aon = true)
include haon

theorem exec_recDeclare_on : exec (.recDeclare i) s = .next (s.finishIf i.val 1) :=
  (exec_recDeclare i s).trans (act_next haon)

theorem exec_recRelease_on : exec (.recRelease i) s = .next (s.finishIf i.val 2) :=
  (exec_recRelease i s).trans (act_next haon)

theorem recDeclare_idle (h : s.eng.lastFast = none ∨ (s.eng.dec.getD i.val defaultDec).due ≠ 1) :
    Does (.recDeclare i) s fun t => t = s :=
  ⟨_, exec_recDeclare_on haon, State.finishIf_of_not_due h⟩

theorem recRelease_idle (h : s.eng.lastFast = none ∨ (s.eng.dec.getD i.val defaultDec).due ≠ 2) :
    Does (.recRelease i) s fun t => t = s :=
  ⟨_, exec_recRelease_on haon, State.finishIf_of_not_due h⟩

theorem theftReference_idle (h : s.eng.theft.from_ = none ∨ s.eng.theft.recent = []) :
    Does .theftReference s fun t => t = s := by
  refine ⟨s, ((exec_theftReference s).trans (act_next haon)).trans (congrArg _ (if_neg fun hboth => ?_)), rfl⟩
  exact h.elim (fun e => by simp [e] at hboth) hboth.2

theorem theftReference_taken (hfrom : s.eng.theft.from_ ≠ none) (hrecent : s.eng.theft.recent ≠ []) :
    Does .theftReference s fun t =>
      t = { s with eng := { s.eng with theft := { s.eng.theft with
        ref := some (meanV (s.eng.theft.recent.map (·.2))), from_ := none } } } :=
  ⟨_, ((exec_theftReference s).trans (act_next haon)).trans
    (congrArg _ (if_pos ⟨Option.isSome_iff_ne_none.mpr hfrom, hrecent⟩)), rfl⟩

end

/-- Settles O56: the commands store their words and push the settings (`Cmd.settings_accepted`), settings come into
force one after the other (`State.cfgApplied_kept`), and what is due is finished and recorded once
(`State.finishDue_finished`, `State.putSpec_active`, `State.putSpec_inactive`). -/
theorem recognizerSettings : Obligations.RecognizerSettings := by
  refine ⟨?commands, ?apply, ?decisions, fun s haon => ⟨theftReference_idle haon, theftReference_taken haon⟩⟩
  case commands =>
    rintro r s haon _ rfl
    refine ⟨recEnable_accepted haon, ?config, ?wheel, recClear_accepted haon⟩
    case config =>
      rintro hacc _ rfl
      obtain ⟨t, hrun, hreplied, hwords, ht⟩ := recConfig_accepted haon hacc
      simp only [recWords, List.forall_mem_cons] at hwords
      obtain ⟨hctrl, ha, hb, hc, hd, -⟩ := hwords
      exact ⟨t, hrun, hreplied, hctrl, ha, hb, hc, hd, ht⟩
    case wheel =>
      intro hacc
      obtain ⟨t, hrun, hreplied, hwords, ht⟩ := recWheel_accepted haon hacc
      simp only [List.forall_mem_cons] at hwords
      obtain ⟨hwheel, hcounts, hgeom, -⟩ := hwords
      exact ⟨t, hrun, hreplied, hwheel, hcounts, hgeom, ht⟩
  case apply =>
    rintro s u haon _ rfl
    have hrun : exec (.recConfigApply u) s = .next (s.applyCfg u.toNat) :=
      (exec_recConfigApply u s).trans (act_next haon)
    refine ⟨⟨_, hrun, recConfigApply_result s u.toNat⟩, fun hnil => ⟨_, hrun, recConfigApply_theft_of_nil hnil⟩,
      fun c hsingle _ => ⟨_, hrun, ?_⟩⟩
    have htheft := recConfigApply_theft_of_single hsingle
    exact ⟨fun hon h => htheft.trans (RecCfg.theftAt_fresh hon h),
      fun hon hclear h => htheft.trans (RecCfg.theftAt_kept hon hclear h),
      fun hoff => htheft.trans (RecCfg.theftAt_off hoff)⟩
  case decisions =>
    rintro s i haon hshaped _ rfl
    refine ⟨fun hdue => recDeclare_idle haon (.inr hdue), fun hdue => recRelease_idle haon (.inr hdue),
      fun hnone => ⟨recDeclare_idle haon (.inl hnone), recRelease_idle haon (.inl hnone)⟩, ?_⟩
    rintro u hlast e he _ rfl _ rfl
    refine ⟨fun hdue => ?declare, fun hdue => ?release⟩
    case declare =>
      have hne : (s.eng.dec.getD i.val defaultDec).due ≠ 0 := by omega
      obtain ⟨hdec, hother, hmachs, hconf, hdone⟩ := State.finishDue_finished hshaped i.isLt he hne
      have hput := State.finishDue_eq he hne
      have hrun : exec (.recDeclare i) s = .next (s.finishDue i.val u) :=
        (exec_recDeclare_on haon).trans (congrArg _ (State.finishIf_of_due hlast hdue))
      rw [finishOne, finishDec_of_declare hdue] at hdec hdone hput
      refine ⟨_, hrun, hdec, hother, hmachs, hconf,
        fun f hf => congrArg RecDone.evs (hdone f hf), fun hsafe hspec hfirst => ?_, fun hspec => ?_⟩
      · rw [hput]
        exact State.putSpec_active (s := s.packetsReturned i.val u) hspec (by rw [hsafe]; rfl) hfirst
      · rw [hput]
        exact State.putSpec_inactive hspec u _ (s.packetsReturned i.val u)
    case release =>
      have hne : (s.eng.dec.getD i.val defaultDec).due ≠ 0 := by omega
      obtain ⟨hdec, hother, hmachs, hconf, hdone⟩ := State.finishDue_finished hshaped i.isLt he hne
      have hrun : exec (.recRelease i) s = .next (s.finishDue i.val u) :=
        (exec_recRelease_on haon).trans (congrArg _ (State.finishIf_of_due hlast hdue))
      rw [finishOne, finishDec_of_release hdue] at hdec hdone
      exact ⟨_, hrun, hdec, hother, hmachs, hconf,
        fun f hf => congrArg RecDone.evs (hdone f hf)⟩

end Sys2Proof.Machine

namespace Sys2Proof.Machine

/-! ### Without the AON supply (R222, R274) -/

/-- Every command but POWER_UP has its effect with the AON supply and none without it. The two samples need their 216
channels for it, and PIO_PMEM_DATA has one effect for each kind of access. -/
theorem exec_eq_ite_aon (c : Instr) (s : State) (hwf : c.wellFormed = true) (hne : ∀ b, c ≠ .powerUp b) :
    ∃ t, exec c s = .next (if s.aon then t else s) := by
  cases c with
  | powerUp b => exact absurd rfl (hne b)
  | committedVote t xs =>
    exact ⟨_, exec_committedVote_of_length ((wellFormed_committedVote_iff t xs).mp hwf) t s⟩
  | fastSampleArrival t xs =>
    exact ⟨_, exec_fastSampleArrival_of_length ((wellFormed_fastSampleArrival_iff t xs).mp hwf) t s⟩
  | pioPmemData bus w =>
    cases w with
    | none => exact ⟨_, rfl⟩
    | some w => exact ⟨_, rfl⟩
  | _ => exact ⟨_, rfl⟩

/-- Settles O5, by `exec_eq_ite_aon`, and for AON_SUPPLY_LOSS by its definition. -/
theorem nothingHappensWithoutTheAonSupply : Obligations.NothingHappensWithoutTheAonSupply := by
  refine ⟨fun c s hoff hwf hne => ?_, fun s haon => (exec_aonSupplyLoss s).trans (act_next haon)⟩
  obtain ⟨t, hexec⟩ := exec_eq_ite_aon c s hwf hne
  rw [hexec, hoff]
  rfl

end Sys2Proof.Machine

namespace Sys2Proof.Machine

/-! ### The safety outputs (R204, R208) -/

theorem State.SafeOff.outputsPermitted {s : State} (h : s.SafeOff) : s.OutputsPermitted := by
  obtain ⟨ha, hb⟩ := h
  rintro (hon | hon)
  · exact absurd ha ((s.on_eq_true_iff _).mp hon)
  · exact absurd hb ((s.on_eq_true_iff _).mp hon)

/-- After reset a field holds its bits of the reset word of Table 20.2. -/
theorem State.fld_reset (f : Fld) : State.reset.fld f = bits (resetWord f.reg) f.lo f.width := rfl

theorem State.reset_safeOff : State.reset.SafeOff := ⟨State.fld_reset _, State.fld_reset _⟩

/-- Settles O9, by the reset words of SAFE_STATE, BOOT_STAGE and PWR_STATE, which are 0. -/
theorem resetHasOutputsOff : Obligations.ResetHasOutputsOff :=
  ⟨State.reset_safeOff, State.fld_reset _, State.fld_reset _, rfl, State.reset_safeOff.outputsPermitted⟩

end Sys2Proof.Machine

namespace Sys2Proof.Machine

/-! ### A held BELL may turn SAFE_A on outside ARMED (R146, R158, R208)

As for the drive lock (`sourceAtDriveStatus`), a held BELL of a source beyond 127, which no program memory word that a
load accepts can give, posts into the word of another register: here SAFE_STATE, so that SAFE_A turns on by no act of the
safety function. -/

/-- The source whose pending bit would be SAFE_STATE.A_ON. -/
def sourceAtOutputA : Nat := 32 * ((Reg.SAFE_STATE - Reg.INT_HOST_PEND 0) / 4) + SAFE_STATE.A_ON.lo

theorem pend_sourceAtOutputA : Target.host.pend sourceAtOutputA = SAFE_STATE.A_ON := rfl

/-- A machine that holds that BELL for tick 40. -/
def machineHoldingOutputBell : Mach :=
  { machineHoldingBell with
    runs := machineHoldingBell.runs.map fun r => { r with outs := [⟨0, .bell sourceAtOutputA⟩] } }

/-- LOCKED with both outputs off, in FIRST_START settling as `startingWithBell`; the source is enabled, and the last
gyroscope drive that the settling waits for has its fault next. -/
def lockedWithOutputBell : State :=
  { startingWithBell.setF (Target.host.en sourceAtOutputA) 1 with
    eng := { resetEngine with
      machs := resetEngine.machs.set 0 machineHoldingOutputBell, ticks := [tickWithoutSample] }
    pending := [.driveFault 0] }

theorem lockedWithOutputBell_safeOff : lockedWithOutputBell.SafeOff := ⟨by decide +kernel, by decide +kernel⟩

/-- SAFE_A and the safety state once a step has completed. -/
def outputAAfter : Host.Outcome State Fault Refusal → Option (Bool × Nat)
  | .next t => some (t.on SAFE_STATE.A_ON, t.safeState)
  | _ => none

theorem outputAAfter_step_lockedWithOutputBell :
    outputAAfter (step lockedWithOutputBell) = some (true, LOCKED) := by
  decide +kernel

/-- Refutes O8: DRIVE_FAULT with both outputs off in LOCKED ends with SAFE_A on in LOCKED, by the BELL held for a tick
that becomes VOID. -/
theorem not_outputsOnOnlyInArmed : ¬ Obligations.OutputsOnOnlyInArmed := by
  unfold Obligations.OutputsOnOnlyInArmed
  intro h
  obtain ⟨t, hexec⟩ := completes_of_wellFormed (.driveFault 0) { lockedWithOutputBell with pending := [] } rfl
  have hstep : step lockedWithOutputBell = .next t := hexec
  have hafter := outputAAfter_step_lockedWithOutputBell
  rw [hstep] at hafter
  obtain ⟨hon, hlocked⟩ := Prod.mk.inj (Option.some.inj hafter)
  have harmed := h lockedWithOutputBell t lockedWithOutputBell_safeOff.outputsPermitted hstep (.inl hon)
  exact absurd (hlocked.symm.trans harmed) (by decide)

end Sys2Proof.Machine

namespace Sys2Proof.Machine

/-! ### What leaves the output queue alone (R230 to R238) -/

theorem RegsOnly.queue {s t : State} (h : RegsOnly s t) : t.queue = s.queue := by rw [h]

theorem ReplyOnly.queue {s t : State} (h : ReplyOnly s t) : t.queue = s.queue := by rw [h]

theorem ReplyOnly.t1s {s t : State} (h : ReplyOnly s t) : t.t1s = s.t1s := by rw [h]

theorem TwOnly.queue {s t : State} (h : TwOnly s t) : t.queue = s.queue := by rw [h]

theorem State.ringStore_queue (s : State) (r : Rec) (seq : Nat) : (s.ringStore r seq).queue = s.queue := by
  unfold State.ringStore State.trimCapture
  extract_lets st ws fits kept gone g
  split
  · split
    · exact ((RegsOnly.setF s _ _).trans (.raise _ _ _)).queue
    · split <;> rfl
  · rfl

/-- A commit's queue is that of the append alone (R230). -/
theorem State.commitRec_queue (s : State) (r : Rec) : (s.commitRec r).queue = (s.enqueue r).queue :=
  (s.enqueue r).ringStore_queue r _

theorem State.watermark_regsOnly (s : State) : RegsOnly s s.watermark := by
  unfold State.watermark
  extract_lets level
  split
  · exact .raise s _ _
  · exact .refl s

theorem State.watermark_regFrame (s : State) : RegFrame [Reg.QUEUE_EVENTS] s s.watermark := by
  unfold State.watermark
  extract_lets level
  split
  · exact (RegFrame.refl _ s).raise _ _ (by decide) (by decide)
  · exact .refl _ s

/-- Bringing the reader in force up to date stores the reader alone (R234). -/
theorem State.syncSink_eq (s : State) : s.syncSink = { s with queue := { s.queue with sink := s.sinkNow } } := by
  unfold State.sinkNow State.syncSink
  split <;> rfl

theorem State.sinkNow_of_frame {as : List Nat} {s t : State} (hq : t.queue = s.queue) (hf : RegFrame as s t)
    (has : Reg.QUEUE_CFG ∉ as) : t.sinkNow = s.sinkNow := by
  have hsink : t.fld QUEUE_CFG.SINK = s.fld QUEUE_CFG.SINK := hf.fld _ has (by decide)
  unfold State.sinkNow State.syncSink
  rw [hq, hsink]
  split
  · rfl
  · exact congrArg QueuePart.sink hq

/-! ### QUEUE_READ (R235, R253) -/

theorem length_bytesOfWords (ws : List Word) : (bytesOfWords ws).length = 4 * ws.length := by
  simp [bytesOfWords, bytesOf, Nat.mul_comm]

/-- The whole records that fit in a number of bytes take no more than it. -/
theorem length_wholeFit_le (limit : Nat) (rs : List QRec) :
    (bytesOfWords ((rs.take (wholeFit limit (rs.map (·.words)))).flatMap (·.words))).length ≤ limit := by
  rw [length_bytesOfWords]
  unfold wholeFit
  induction rs generalizing limit with
  | nil => simp
  | cons q rs ih =>
    rw [List.map_cons, fitCount]
    split
    · have hrest := ih (limit - 4 * q.words.length)
      rw [Nat.add_comm, List.take_succ_cons, List.flatMap_cons, List.length_append]
      omega
    · simp

theorem State.replyLimit_le {s : State} {o : Origin} (h : s.frameLimited o = true) (n : Nat) :
    s.replyLimit o n ≤ 274 := by
  rw [State.replyLimit, if_pos h]
  exact Nat.min_le_right n 274

theorem State.takeVisible_eq (s : State) (n : Nat) : ∃ k,
    s.takeVisible n = { s with queue := { s.queue with visible := s.queue.visible.drop n, sink := k } } :=
  ⟨_, State.syncSink_eq _⟩

theorem queueRead_accepted {r : Req} {s : State} (haon : s.aon = true) (hacc : cmdQueueRead.accepts r s = true) :
    Does (.queueRead r) s fun t =>
      ∀ n, n = wholeFit (s.replyLimit r.origin (half r.params 0)) (s.queue.visible.map (·.words)) →
        Replied 0x70 r OK (bytesOfWords ((s.queue.visible.take n).flatMap (·.words))) s t ∧
        t.queue.visible = s.queue.visible.drop n ∧ t.queue.seq = s.queue.seq ∧ t.queue.drop = s.queue.drop ∧
        RegFrame replyRegs s t := by
  obtain ⟨k, htaken⟩ := s.takeVisible_eq
    (wholeFit (s.replyLimit r.origin (half r.params 0)) (s.queue.visible.map (·.words)))
  have hfit : Fits cmdQueueRead r s := fun h => (length_wholeFit_le _ s.queue.visible).trans (State.replyLimit_le h _)
  have heffect : (cmdQueueRead.effect r s).1 = _ := htaken
  have hframe : RegFrame [] s (cmdQueueRead.effect r s).1 := .of_regs (by rw [heffect])
  obtain ⟨t, hrun, hans⟩ := Cmd.answered_of_accepts haon hacc hfit (by rw [heffect]) (by rw [heffect]) hframe
    (by decide)
  have hqueue := hans.only.queue
  rw [heffect] at hqueue
  refine ⟨t, (exec_queueRead r s).trans hrun, ?_⟩
  rintro _ rfl
  exact ⟨hans.replied, by rw [hqueue], by rw [hqueue], by rw [hqueue], hans.regFrame hframe⟩

/-! ### QUEUE_FLUSH (R236, R243) -/

theorem State.queueFlush_without_drop {s : State} (h : s.queue.drop = none) : s.queueFlush = s.flushVisible := by
  unfold State.queueFlush State.flushVisible
  dsimp only
  rw [h]

/-- A drop episode that a flush ends leaves its GAP record as the only visible one. -/
theorem State.queueFlush_with_drop {s : State} {e : DropEpisode} (h : s.queue.drop = some e) :
    s.queueFlush.queue = { s.queue with
      visible := [{ tick := s.tick, words := (e.gap s.tick).words s.queue.seq.toNat }]
      drop := none, seq := s.queue.seq + 1 } := by
  unfold State.queueFlush State.flushVisible
  dsimp only
  rw [h]
  exact State.commitRec_queue _ _

theorem queueFlush_without_drop {r : Req} {s : State} (haon : s.aon = true)
    (hacc : cmdQueueFlush.accepts r s = true) (hdrop : s.queue.drop = none) :
    Does (.queueFlush r) s fun t =>
      Replied 0x71 r OK [] s t ∧ t.queue = { s.queue with visible := [] } ∧ t.t1s = { s.t1s with closed := 0 } ∧
      RegFrame replyRegs s t := by
  have heffect : (cmdQueueFlush.effect r s).1 = s.flushVisible := State.queueFlush_without_drop hdrop
  have hframe : RegFrame [] s (cmdQueueFlush.effect r s).1 := .of_regs (by rw [heffect]; rfl)
  obtain ⟨t, hrun, hans⟩ := Cmd.answered_of_accepts haon hacc (fun _ => Nat.zero_le _) (by rw [heffect]; rfl)
    (by rw [heffect]; rfl) hframe (by decide)
  have honly := hans.only
  rw [heffect] at honly
  exact ⟨t, (exec_queueFlush r s).trans hrun, hans.replied, honly.queue, honly.t1s, hans.regFrame hframe⟩

theorem queueFlush_with_drop {r : Req} {s : State} (haon : s.aon = true) (hacc : cmdQueueFlush.accepts r s = true)
    {e : DropEpisode} (hdrop : s.queue.drop = some e) :
    Does (.queueFlush r) s fun t =>
      t.queue.visible = [{ tick := s.tick, words := (e.gap s.tick).words s.queue.seq.toNat }] ∧
      t.queue.drop = none := by
  obtain ⟨t, hrun, -, honly⟩ := Cmd.replied_of_accepts haon hacc rfl
  have hqueue := honly.queue.trans (State.queueFlush_with_drop hdrop)
  exact ⟨t, (exec_queueFlush r s).trans hrun, by rw [hqueue], by rw [hqueue]⟩

/-! ### QUEUE_CONFIG (Table 10.11) -/

/-- Storing QUEUE_CFG restarts SAMPLE_DIV, and may raise WATERMARK alone. -/
theorem State.putQueueCfg_result (s : State) (w : Word) :
    let u := s.putQueueCfg w
    u.reg Reg.QUEUE_CFG &&& rwMask Reg.QUEUE_CFG = w &&& rwMask Reg.QUEUE_CFG ∧
      u.queue.skip = 0 ∧ u.queue.visible = s.queue.visible ∧
      RegFrame [Reg.QUEUE_CFG, Reg.QUEUE_EVENTS] s u ∧ StoresOnly s u := by
  let v : State := { s.putWritable Reg.QUEUE_CFG w with queue := { s.queue with skip := 0 } }
  have hput : s.putQueueCfg w = v.syncSink.watermark := rfl
  have hsync := v.syncSink_eq
  have hregs : v.syncSink.regs = (s.putWritable Reg.QUEUE_CFG w).regs := by rw [hsync]
  have hqueue := v.syncSink.watermark_regsOnly.queue
  have hmark := v.syncSink.watermark_regFrame
  have hstored : RegFrame [Reg.QUEUE_CFG, Reg.QUEUE_EVENTS] s v.syncSink :=
    ((RegFrame.refl _ s).setReg _ _ (.inl (by decide))).regs hregs
  have honly : StoresOnly s v.syncSink := by rw [hsync]; rfl
  have hword : v.syncSink.reg Reg.QUEUE_CFG = (s.putWritable Reg.QUEUE_CFG w).reg Reg.QUEUE_CFG :=
    congrArg (RegFile.get · Reg.QUEUE_CFG) hregs
  dsimp only
  rw [hput, hqueue]
  refine ⟨?_, by rw [hsync], by rw [hsync], hstored.trans (hmark.mono (by decide)),
    honly.trans v.syncSink.watermark_regsOnly.storesOnly⟩
  rw [hmark _ (by decide) (by decide), hword, State.reg_putWritable_same, and_or_and_not_mask]

theorem queueConfig_accepted {r : Req} {s : State} (haon : s.aon = true) (hacc : cmdQueueConfig.accepts r s = true) :
    Does (.queueConfig r) s fun t =>
      Replied 0x72 r OK [] s t ∧ t.reg Reg.QUEUE_CFG &&& rwMask Reg.QUEUE_CFG = wordAt r.params 0 ∧
      t.reg Reg.QUEUE_HK = wordAt r.params 4 ∧ t.queue.skip = 0 ∧ t.queue.visible = s.queue.visible ∧
      RegFrame ([Reg.QUEUE_CFG, Reg.QUEUE_HK, Reg.QUEUE_EVENTS] ++ replyRegs) s t := by
  have hword : wordAt r.params 0 &&& rwMask Reg.QUEUE_CFG = wordAt r.params 0 := by
    refine and_rwMask_of_not_reserved (Bool.eq_false_iff.mpr fun hset => ?_)
    have hcheck := Cmd.check_of_accepts hacc
    exact absurd ((if_pos hset).symm.trans hcheck) (by simp)
  obtain ⟨hcfg, hskip, hvisible, hframe, honly⟩ := s.putQueueCfg_result (wordAt r.params 0)
  let u := (s.putQueueCfg (wordAt r.params 0)).setReg Reg.QUEUE_HK (wordAt r.params 4)
  have hstores : StoresOnly s u := honly.trans (RegsOnly.setReg _ _ _).storesOnly
  have hstored : RegFrame [Reg.QUEUE_CFG, Reg.QUEUE_HK, Reg.QUEUE_EVENTS] s u :=
    (hframe.mono (by decide)).setReg _ _ (.inl (by decide))
  obtain ⟨t, hrun, hans⟩ := Cmd.answered_of_accepts haon hacc (fun _ => Nat.zero_le _)
    (show u.link = s.link by rw [hstores]) (show u.entry.hold = s.entry.hold by rw [hstores]) hstored (by decide)
  have hqueue : t.queue = (s.putQueueCfg (wordAt r.params 0)).queue := hans.only.queue
  refine ⟨t, (exec_queueConfig r s).trans hrun, hans.replied, ?_, ?_, by rw [hqueue, hskip], by rw [hqueue, hvisible],
    hans.regFrame hstored⟩
  · rw [hans.frame _ (by decide) (by decide)]
    exact (congrArg (· &&& _) (State.reg_setReg_other _ _ _ _ (by decide))).trans (hcfg.trans hword)
  · rw [hans.frame _ (by decide) (by decide)]
    exact State.reg_setReg_same _ _ _

/-! ### A byte of the queue window (R235) -/

/-- The queue stands as `q`, and a byte has gone to the bus. -/
def State.byteGiven (b : Byte) (q : QueuePart) (s : State) : State := { s with queue := q, busOut := b.setWidth 32 }

section
variable {s : State}

theorem State.queueByte_idle {b : Byte} {rest : List Byte} (h : s.queue.idle = b :: rest) :
    s.queueByte = s.byteGiven b { s.queue with idle := rest } := by
  unfold State.queueByte
  rw [h]
  rfl

variable (hidle : s.queue.idle = [])
include hidle

theorem State.queueByte_partly {b : Byte} {rest : List Byte} (h : s.queue.partly = b :: rest) : ∃ k,
    s.queueByte = s.byteGiven b { s.queue with partly := rest, sink := k } := by
  unfold State.queueByte
  rw [hidle, h]
  exact ⟨_, State.syncSink_eq _⟩

variable (hpartly : s.queue.partly = [])
include hpartly

theorem State.queueByte_record (hsink : s.sinkNow = 0) {q : QRec} {qs : List QRec}
    (hvisible : s.queue.visible = q :: qs) {b : Byte} {rest : List Byte}
    (hbytes : bytesOfWords q.words = b :: rest) : ∃ k,
    s.queueByte = s.byteGiven b { s.queue with visible := qs, partly := rest, sink := k } := by
  have hnow : s.syncSink.queue.sink = 0 := hsink
  unfold State.queueByte
  rw [hidle, hpartly, hnow, hvisible]
  simp only [hbytes]
  exact ⟨_, State.syncSink_eq _⟩

theorem State.queueByte_none (h : s.sinkNow ≠ 0 ∨ s.queue.visible = []) : ∃ k,
    s.queueByte = s.byteGiven 0 { s.queue with idle := [0, 0, 0xFC], sink := k } := by
  refine ⟨s.sinkNow, ?_⟩
  have hgives : s.queueByte = s.syncSink.byteGiven 0 { s.syncSink.queue with idle := [0, 0, 0xFC] } := by
    unfold State.queueByte
    rw [hidle, hpartly]
    dsimp only
    split
    · next hsink hvisible => exact absurd (h.resolve_left (not_not_intro hsink)) (by rw [hvisible]; simp)
    · rfl
  rw [hgives, s.syncSink_eq]
  rfl

end

/-- The window access has begun, and the pointer stands behind its byte (R294). -/
def State.windowPassed (s : State) : State := s.twStart.passByte 4

theorem State.windowPassed_regFrame (s : State) : RegFrame busRegs s s.windowPassed :=
  (s.twStart_regFrame.mono (by decide)).setF _ _ (.inl (by decide))

theorem State.windowPassed_twOnly (s : State) : TwOnly s s.windowPassed :=
  s.twStart_twOnly.trans (RegsOnly.setF s.twStart _ _).twOnly

section
variable {s : State} (haon : s.aon = true) (hnoon : s.noon = true)
include haon hnoon

theorem queueWindowRead_result {b : Byte} {q : QueuePart}
    (h : s.windowPassed.queueByte = s.windowPassed.byteGiven b q) :
    Does .queueWindowRead s fun t =>
      t.busOut = b.setWidth 32 ∧ t.queue = q ∧ RegFrame busRegs s t ∧
      t = { s with regs := t.regs, queue := t.queue, busOut := t.busOut, tw := t.tw } := by
  refine ⟨s.windowPassed.byteGiven b q, ?_, rfl, rfl, s.windowPassed_regFrame.regs rfl, ?_⟩
  · rw [← h]
    exact (exec_queueWindowRead s).trans (act_when_noon haon hnoon)
  · rw [s.windowPassed_twOnly]
    rfl

theorem queueWindowRead_idle {b : Byte} {rest : List Byte} (h : s.queue.idle = b :: rest) :
    Does .queueWindowRead s fun t =>
      t.busOut = b.setWidth 32 ∧ t.queue = { s.queue with idle := rest } ∧ RegFrame busRegs s t := by
  have hkept := s.windowPassed_twOnly.queue
  obtain ⟨t, hexec, hout, hqueue, hframe, -⟩ :=
    queueWindowRead_result haon hnoon (State.queueByte_idle (by rwa [hkept]))
  exact ⟨t, hexec, hout, by rw [hqueue, hkept], hframe⟩

variable (hidle : s.queue.idle = [])
include hidle

theorem queueWindowRead_partly {b : Byte} {rest : List Byte} (h : s.queue.partly = b :: rest) :
    Does .queueWindowRead s fun t =>
      t.busOut = b.setWidth 32 ∧ t.queue.partly = rest ∧ t.queue.visible = s.queue.visible ∧
      RegFrame busRegs s t := by
  have hkept := s.windowPassed_twOnly.queue
  obtain ⟨k, hbyte⟩ := State.queueByte_partly (s := s.windowPassed) (by rwa [hkept]) (by rwa [hkept])
  obtain ⟨t, hexec, hout, hqueue, hframe, -⟩ := queueWindowRead_result haon hnoon hbyte
  exact ⟨t, hexec, hout, by rw [hqueue], by rw [hqueue, hkept], hframe⟩

variable (hpartly : s.queue.partly = [])
include hpartly

theorem queueWindowRead_record (hsink : s.sinkNow = 0) {q : QRec} {qs : List QRec}
    (hvisible : s.queue.visible = q :: qs) (hwords : q.words ≠ []) :
    Does .queueWindowRead s fun t =>
      t.busOut = ((bytesOfWords q.words).getD 0 0).setWidth 32 ∧ t.queue.visible = qs ∧
      t.queue.partly = (bytesOfWords q.words).drop 1 ∧ RegFrame busRegs s t ∧
      t = { s with regs := t.regs, queue := t.queue, busOut := t.busOut, tw := t.tw } := by
  obtain ⟨w, ws, hcons⟩ := List.exists_cons_of_ne_nil hwords
  obtain ⟨b, rest, hbytes⟩ : ∃ b rest, bytesOfWords q.words = b :: rest := ⟨_, _, by rw [hcons]; rfl⟩
  have hkept := s.windowPassed_twOnly.queue
  have hnow : s.windowPassed.sinkNow = 0 :=
    (State.sinkNow_of_frame hkept s.windowPassed_regFrame (by decide)).trans hsink
  obtain ⟨k, hbyte⟩ := State.queueByte_record (s := s.windowPassed) (by rwa [hkept]) (by rwa [hkept]) hnow
    (by rwa [hkept]) hbytes
  obtain ⟨t, hexec, hout, hqueue, hframe, honly⟩ := queueWindowRead_result haon hnoon hbyte
  exact ⟨t, hexec, by rw [hout, hbytes]; rfl, by rw [hqueue], by rw [hqueue, hbytes]; rfl, hframe, honly⟩

theorem queueWindowRead_none (h : s.sinkNow ≠ 0 ∨ s.queue.visible = []) :
    Does .queueWindowRead s fun t =>
      t.busOut = 0 ∧ t.queue.idle = [0, 0, 0xFC] ∧ t.queue.visible = s.queue.visible ∧ RegFrame busRegs s t := by
  have hkept := s.windowPassed_twOnly.queue
  have hnow := State.sinkNow_of_frame hkept s.windowPassed_regFrame (by decide)
  obtain ⟨k, hbyte⟩ := State.queueByte_none (s := s.windowPassed) (by rwa [hkept]) (by rwa [hkept])
    (by rwa [hnow, hkept])
  obtain ⟨t, hexec, hout, hqueue, hframe, -⟩ := queueWindowRead_result haon hnoon hbyte
  exact ⟨t, hexec, hout, by rw [hqueue], by rw [hqueue, hkept], hframe⟩

end

/-! ### The drop state (R232) -/

theorem overflowGap_result {s : State} (haon : s.aon = true) (hnoon : s.noon = true) (himago : s.imago = true)
    (hfree : 64 ≤ s.freeWords) {e : DropEpisode} (hdrop : s.queue.drop = some e) :
    Does .overflowGap s fun t =>
      t.queue.drop = none ∧ t.queue.seq = s.queue.seq + 1 ∧
      t.queue.visible = s.queue.visible ++ [{ tick := s.tick, words := (e.gap s.tick).words s.queue.seq.toNat }] ∧
      RegFrame commitRegs s t ∧ StoresOnly s t := by
  let u : State := { s with queue := { s.queue with drop := none } }
  have hexec : exec .overflowGap s = .next (u.commitRec (e.gap s.tick)).watermark := by
    refine (exec_overflowGap s).trans ((act_next haon).trans (congrArg _ ?_))
    rw [hdrop]
    exact if_pos ⟨hnoon, himago, hfree⟩
  have hqueue := (u.commitRec (e.gap s.tick)).watermark_regsOnly.queue.trans (u.commitRec_queue _)
  have hframe : RegFrame commitRegs s u := .of_regs rfl
  exact ⟨_, hexec, by rw [hqueue]; rfl, by rw [hqueue]; rfl, by rw [hqueue]; rfl,
    (hframe.commitRec (fun _ h => h) _).watermark fun _ h => h,
    (StoresOnly.queue s _).trans ((u.commitRec_storesOnly _).trans (State.watermark_storesOnly _))⟩

/-- A record dropped for its ECC error starts or extends the drop state, and is counted and reported. -/
theorem State.dropRecs_ecc (s : State) (r : Rec) :
    let t := s.dropRecs 3 [r]
    (∃ e, t.queue = { s.queue with drop := some e }) ∧
      t.fld QUEUE_DROPS.OVERFLOW = min (s.fld QUEUE_DROPS.OVERFLOW + 1) (2 ^ QUEUE_DROPS.OVERFLOW.width - 1) ∧
      Raised Reg.QUEUE_EVENTS 7 s t ∧ RegFrame [Reg.QUEUE_DROPS, Reg.QUEUE_EVENTS] s t := by
  let e := DropEpisode.add (s.queue.drop.getD { cause := 3, first := none, last := none, others := 0 }) r
  let v : State := { s with queue := { s.queue with drop := some e } }
  let u := v.incSat QUEUE_DROPS.OVERFLOW
  have hdropped : s.dropRecs 3 [r] = u.raise Reg.QUEUE_EVENTS 7 := rfl
  have hframe : RegFrame [Reg.QUEUE_DROPS] s u :=
    (RegFrame.of_regs (t := v) rfl).incSat _ (.inl (by decide))
  dsimp only
  rw [hdropped]
  refine ⟨⟨e, (RegsOnly.raise u _ _).queue⟩, ?_, hframe.raise_raised rfl (by decide) _ _ (by decide) (by decide)
    (by decide), (hframe.mono (by decide)).raise _ _ (by decide) (by decide)⟩
  rw [State.fld_raise _ _ _ _ (by decide) (by decide) (by decide)]
  exact State.fld_incSat _ _ (by decide)

theorem queueEccError_result {s : State} (haon : s.aon = true) (hnoon : s.noon = true) (k : Fin 1024) {q : QRec}
    (hk : s.queue.visible[k.val]? = some q) :
    Does (.queueEccError k) s fun t =>
      t.queue.visible = s.queue.visible.eraseIdx k.val ∧ t.queue.drop.isSome = true ∧ t.queue.seq = s.queue.seq ∧
      t.fld QUEUE_DROPS.OVERFLOW = min (s.fld QUEUE_DROPS.OVERFLOW + 1) (2 ^ QUEUE_DROPS.OVERFLOW.width - 1) ∧
      Raised Reg.QUEUE_EVENTS 7 s t ∧ RegFrame [Reg.QUEUE_DROPS, Reg.QUEUE_EVENTS] s t := by
  let u : State := { s with queue := { s.queue with visible := s.queue.visible.eraseIdx k.val } }
  have hexec : exec (.queueEccError k) s = .next (u.dropRecs 3 [q.toRec]) := by
    refine (exec_queueEccError k s).trans ((act_next haon).trans (congrArg _ ?_))
    rw [hnoon, hk]
  obtain ⟨⟨e, hqueue⟩, hcount, hraised, hframe⟩ := u.dropRecs_ecc q.toRec
  have hregs : RegFrame [Reg.QUEUE_DROPS, Reg.QUEUE_EVENTS] s u := .of_regs rfl
  exact ⟨_, hexec, by rw [hqueue], by rw [hqueue]; rfl, by rw [hqueue], hcount,
    hraised.of_frame hregs rfl (by decide) (by decide), hregs.trans hframe⟩

/-- Settles O39: a command's effect on the queue stands after its reply (`Cmd.answered_of_accepts`); a byte of the
window is one of the four cases of `State.queueByte`; what the ring stores beside a GAP record leaves the queue
(`State.commitRec_queue`). -/
theorem outputQueue : Obligations.OutputQueue := by
  intro s haon
  refine ⟨fun r hacc => queueRead_accepted haon hacc, fun r hacc hdrop => queueFlush_without_drop haon hacc hdrop,
    fun r hacc e hdrop => queueFlush_with_drop haon hacc hdrop, fun r hacc => queueConfig_accepted haon hacc, ?window,
    fun hnoon himago hfree e hdrop => overflowGap_result haon hnoon himago hfree hdrop,
    fun hnoon k q hk => queueEccError_result haon hnoon k hk⟩
  case window =>
    exact fun hnoon => ⟨fun b rest h => queueWindowRead_idle haon hnoon h, fun hidle =>
      ⟨fun b rest h => queueWindowRead_partly haon hnoon hidle h,
        fun hpartly hsink q qs hvisible hwords =>
          queueWindowRead_record haon hnoon hidle hpartly hsink hvisible hwords,
        fun hpartly h => queueWindowRead_none haon hnoon hidle hpartly h⟩⟩

end Sys2Proof.Machine

namespace Sys2Proof.Machine

/-! ### The front command -/

/-- Settles O1, by the first case of `step`. -/
theorem stepRunsTheFrontCommand : Obligations.StepRunsTheFrontCommand := by
  intro c rest s hpending
  unfold step
  rw [hpending]

end Sys2Proof.Machine

namespace Sys2Proof.Machine

/-! ### The common judgement of host commands (R253, R255) -/

section
variable {c : Cmd} {r : Req} {s : State}

theorem Cmd.run_of_wrong_state (h : ¬ (s.noon = true ∧ c.stages.contains s.stage = true)) :
    c.run r s = s.replied c.op r (WRONG_STATE, []) :=
  if_pos h

theorem Cmd.run_of_bad_length (hnoon : s.noon = true) (hstage : c.stages.contains s.stage = true)
    (hlen : c.len r.params = false) : c.run r s = s.replied c.op r (BAD_PARAM, reason 0xF2) :=
  (if_neg (not_not_intro ⟨hnoon, hstage⟩)).trans (if_pos (Bool.eq_false_iff.mp hlen))

theorem Cmd.run_of_check (hnoon : s.noon = true) (hstage : c.stages.contains s.stage = true)
    (hlen : c.len r.params = true) {v : Verdict} (hcheck : c.check r s = some v) :
    c.run r s = s.replied c.op r v := by
  unfold Cmd.run
  extract_lets reply
  rw [if_neg (not_not_intro ⟨hnoon, hstage⟩), if_neg (not_not_intro hlen), hcheck]
  rfl

/-- An accepted command whose reply does not fit the frame limit has no effect (R253). -/
theorem Cmd.run_of_not_fits (hacc : c.accepts r s = true) (hlimited : s.frameLimited r.origin = true)
    (hlong : 274 < (c.effect r s).2.length) : c.run r s = s.replied c.op r (REJECTED, reason 0xF1) := by
  obtain ⟨hnoon, hstage, hlen, hcheck⟩ := (c.accepts_iff r s).mp hacc
  unfold Cmd.run
  extract_lets reply
  rw [if_neg (not_not_intro ⟨hnoon, hstage⟩), if_neg (not_not_intro hlen), hcheck]
  exact if_pos ⟨hlimited, hlong⟩

end

/-- A host command of the common judgement is that judgement and nothing else. -/
theorem exec_hostCommand : ∀ p ∈ hostCommands, ∀ (r : Req) (s : State), exec (p.1 r) s = act (p.2.run r) s := by
  simp only [hostCommands, List.forall_mem_append, List.forall_mem_cons, List.not_mem_nil,
    false_implies, implies_true, and_true]
  and_intros <;> exact fun _ _ => rfl

/-- A host command that is turned away has no effect but its reply. -/
theorem hostCommand_turned_away {p : (Req → Instr) × Cmd} (hp : p ∈ hostCommands) {r : Req} {s : State}
    (haon : s.aon = true) {status : Nat} {data : List Byte}
    (h : p.2.run r s = s.replied p.2.op r (status, data)) :
    Does (p.1 r) s fun t => Replied p.2.op r status data s t ∧ RegFrame replyRegs s t ∧ ReplyOnly s t :=
  ⟨_, (exec_hostCommand p hp r s).trans ((act_next haon).trans (congrArg _ h)),
    s.replied_result p.2.op r (status, data)⟩

/-- Settles O7, by the branches of `Cmd.run`: each refusal answers and does nothing else. -/
theorem hostCommandsAreJudgedAlike : Obligations.HostCommandsAreJudgedAlike := by
  intro p hp r s haon
  exact ⟨fun h => hostCommand_turned_away hp haon (Cmd.run_of_wrong_state h),
    fun hnoon hstage hlen => hostCommand_turned_away hp haon (Cmd.run_of_bad_length hnoon hstage hlen),
    fun hnoon hstage hlen _ hcheck => hostCommand_turned_away hp haon (Cmd.run_of_check hnoon hstage hlen hcheck),
    fun hacc hlimited hlong => hostCommand_turned_away hp haon (Cmd.run_of_not_fits hacc hlimited hlong)⟩

end Sys2Proof.Machine

namespace Sys2Proof.Machine

/-! ### Packets (R245, R246) -/

theorem leNat_leBytes : ∀ n v : Nat, leNat (leBytes n v) = v % 256 ^ n
  | 0, v => (Nat.mod_one v).symm
  | n + 1, v => by
    have hpow : 256 ^ (n + 1) = 256 * 256 ^ n := Nat.pow_succ'
    rw [leBytes, leNat, leNat_leBytes n, BitVec.toNat_ofNat, hpow, Nat.mod_mul]

theorem leNat_bytesOf (w : Word) : leNat (bytesOf w) = w.toNat := by
  have hw := w.isLt
  simp only [bytesOf, leNat, BitVec.extractLsb'_toNat, Nat.shiftRight_eq_div_pow]
  omega

/-- The header word of a packet of `n` parameter or reply bytes. -/
def headerWord (top tag n : Nat) : Nat := n + 2 ^ 16 * (tag % 256) + 2 ^ 24 * top

/-- What the CRC of a packet covers. -/
def packetBody (top tag : Nat) (data : List Byte) : List Byte := leBytes 4 (headerWord top tag data.length) ++ data

theorem packet_eq (top tag : Nat) (data : List Byte) :
    packet top tag data = packetBody top tag data ++ bytesOf (crc32 (packetBody top tag data)) := rfl

theorem length_packetBody (top tag : Nat) (data : List Byte) : (packetBody top tag data).length = 4 + data.length := by
  rw [packetBody, List.length_append, length_leBytes]

theorem length_packet (top tag : Nat) (data : List Byte) : (packet top tag data).length = 8 + data.length := by
  rw [packet_eq, List.length_append, length_packetBody]
  change 4 + data.length + 4 = _
  omega

theorem packet_header {top tag : Nat} {data : List Byte} (htop : top < 256) (hlen : data.length < 2 ^ 16) :
    half (packet top tag data) 0 = data.length ∧ byteAt (packet top tag data) 2 = tag % 256 ∧
      byteAt (packet top tag data) 3 = top := by
  have hhalf : half (packet top tag data) 0 = leNat (leBytes 2 (headerWord top tag data.length)) := rfl
  have htag : byteAt (packet top tag data) 2 = headerWord top tag data.length / 256 / 256 % 256 := rfl
  have hop : byteAt (packet top tag data) 3 = headerWord top tag data.length / 256 / 256 / 256 % 256 := rfl
  rw [hhalf, htag, hop, leNat_leBytes, headerWord]
  omega

theorem packet_body (top tag : Nat) (data : List Byte) :
    (packet top tag data).take (4 + data.length) = packetBody top tag data ∧
      ((packet top tag data).drop 4).take data.length = data := by
  refine ⟨List.take_left' (length_packetBody top tag data), ?_⟩
  have hdrop : (packet top tag data).drop 4 = data ++ bytesOf (crc32 (packetBody top tag data)) := rfl
  rw [hdrop, List.take_left]

theorem packet_crc (top tag : Nat) (data : List Byte) :
    wordAt (packet top tag data) (4 + data.length) = crc32 (packetBody top tag data) := by
  have htake : ((packet top tag data).drop (4 + data.length)).take 4 = bytesOf (crc32 (packetBody top tag data)) := by
    rw [packet_eq, List.drop_left' (length_packetBody top tag data)]
    rfl
  rw [wordAt, htake, leNat_bytesOf, BitVec.ofNat_toNat, BitVec.setWidth_eq]

theorem requestCrc_eq (op : Nat) (r : Req) : requestCrc op r = crc32 (packetBody op r.tag.toNat r.params) := by
  rw [requestCrc, packetBody, headerWord, Nat.mod_eq_of_lt r.tag.isLt]

end Sys2Proof.Machine

namespace Sys2Proof.Machine

/-! ### How a request is judged (R248, R251 to R255) -/

/-- A whole request of `r`, latched at `lat`, reaches a module in Noon that can take it. -/
structure Arrives (r : Req) (lat : BitVec 96) (s : State) : Prop where
  aon : s.aon = true
  noon : s.noon = true
  held : r.origin = .twoWire → s.mailboxFull = false
  length : r.params.length ≤ 1016
  fits : s.frameLimited r.origin = true → r.params.length ≤ 274
  ingress : r.ingress = if r.origin = .twoWire then 0 else ingressTime lat.toNat

/-- The judgement of a whole request: its opcode, the duplicate cache, the command queue (R255 steps 2 to 4). -/
def State.judgeWhole (op : Nat) (r : Req) (s : State) : Judged :=
  if ¬ definedOps.contains op then .done (s.deliver r.origin false (packet BAD_OPCODE r.tag.toNat []))
  else if immediateOps.contains op then .immediate op r
  else match s.cached r.origin r.tag (requestCrc op r) with
    | some e => .done ((s.incSat CMD_ERRORS.DUPLICATES).deliver r.origin false e.reply)
    | none =>
      if s.inQueue r.origin r.tag (requestCrc op r) then .done s
      else if 4 ≤ s.link.waiting.length then
        .done ((s.incSat CMD_ERRORS.BUSY).deliver r.origin false (packet BUSY r.tag.toNat []))
      else .done (s.queueCommand { opcode := op, req := r, drop := false })

theorem exec_requestReceived_noon {s : State} (haon : s.aon = true) (hnoon : s.noon = true) (o : Origin)
    (bytes : List Byte) (lat : BitVec 96) :
    exec (.requestReceived o bytes lat) s =
      .next (s.receive o bytes (if o = .twoWire then 0 else ingressTime lat.toNat)) := by
  rw [exec_requestReceived]
  cases o with
  | twoWire => exact act_when_noon haon hnoon
  | t1s mac => exact act_next haon

theorem State.receive_of_done {s t : State} {o : Origin} {bytes : List Byte} {i : Nat}
    (h : s.judge o bytes i = .done t) : s.receive o bytes i = t := by
  rw [State.receive, h]

theorem State.receive_of_immediate {s : State} {o : Origin} {bytes : List Byte} {i op : Nat} {r : Req}
    (h : s.judge o bytes i = .immediate op r) : s.receive o bytes i = runImmediate op r s := by
  rw [State.receive, h]

section
variable {r : Req} {lat : BitVec 96} {s : State} (h : Arrives r lat s) {op : Nat} (hop : op < 256)
include h hop

theorem Arrives.judge : s.judge r.origin (packet op r.tag.toNat r.params) r.ingress = s.judgeWhole op r := by
  have hlen := h.length
  obtain ⟨hlength, htag, hopcode⟩ := packet_header (tag := r.tag.toNat) (data := r.params) hop (by omega)
  obtain ⟨hbody, hparams⟩ := packet_body op r.tag.toNat r.params
  have htag : BitVec.ofNat 8 (byteAt (packet op r.tag.toNat r.params) 2) = r.tag := by
    rw [htag, Nat.mod_eq_of_lt r.tag.isLt, BitVec.ofNat_toNat, BitVec.setWidth_eq]
  have hfit : ¬ (s.frameLimited r.origin = true ∧ 282 < 8 + r.params.length) := fun ⟨hlimited, hlong⟩ => by
    have := h.fits hlimited
    omega
  unfold State.judge
  simp only [hlength, htag, hopcode, hbody, hparams, packet_crc, length_packet]
  rw [if_neg fun hc => hc.2 h.noon, if_neg fun hc => Bool.false_ne_true ((h.held hc.1).symm.trans hc.2),
    if_neg (by omega), if_neg (by omega), if_neg (not_not_intro rfl), if_neg (by omega), if_neg hfit, ← requestCrc_eq]
  rfl

theorem Arrives.exec_of_done {t : State} (hjudged : s.judgeWhole op r = .done t) :
    exec (.requestReceived r.origin (packet op r.tag.toNat r.params) lat) s = .next t := by
  rw [exec_requestReceived_noon h.aon h.noon, ← h.ingress, State.receive_of_done ((h.judge hop).trans hjudged)]

theorem Arrives.exec_of_immediate (hjudged : s.judgeWhole op r = .immediate op r) :
    exec (.requestReceived r.origin (packet op r.tag.toNat r.params) lat) s = .next (runImmediate op r s) := by
  rw [exec_requestReceived_noon h.aon h.noon, ← h.ingress, State.receive_of_immediate ((h.judge hop).trans hjudged)]

end

/-- Settles O26: a whole request of the immediate class is judged `immediate` (`Arrives.judge`), and runs as the command
itself does. -/
theorem immediateRequestsExecuteOnArrival : Obligations.ImmediateRequestsExecuteOnArrival := by
  intro s r lat haon hnoon hlen hheld hfit hingress
  have h : Arrives r lat s := ⟨haon, hnoon, hheld, hlen, hfit, hingress⟩
  have runs {op : Nat} (hop : op < 256) (c : Instr) (hc : exec c s = act (runImmediate op r) s)
      (hjudged : s.judgeWhole op r = .immediate op r) :
      exec (.requestReceived r.origin (packet op r.tag.toNat r.params) lat) s = exec c s :=
    (h.exec_of_immediate hop hjudged).trans ((act_next haon).symm.trans hc.symm)
  exact ⟨runs (by decide) (.nop r) rfl rfl, runs (by decide) (.abort r) rfl rfl, runs (by decide) (.emStop r) rfl rfl,
    runs (by decide) (.safeHeartbeat r) rfl rfl, runs (by decide) (.safeDisarm r) rfl rfl,
    runs (by decide) (.safeStatus r) rfl rfl⟩

end Sys2Proof.Machine

namespace Sys2Proof.Machine

/-! ### Requests that are turned away or queued (R248, R251, R254) -/

theorem RegsOnly.link {s t : State} (h : RegsOnly s t) : t.link = s.link := by rw [h]

/-- The command queue and the duplicate cache are not what a reply is written to. -/
theorem State.deliver_queueKept (s : State) (o : Origin) (drop : Bool) (bs : List Byte) :
    QueueKept s (s.deliver o drop bs) := by
  cases o with
  | t1s mac => exact ⟨rfl, rfl, rfl⟩
  | twoWire =>
    cases drop with
    | true => exact ⟨rfl, rfl, rfl⟩
    | false =>
      have hlink : (s.deliver .twoWire false bs).link = { s.link with replies := s.link.replies ++ [bs] } :=
        (RegsOnly.raise _ Reg.MBX_EVENTS 0).link
      rw [QueueKept, hlink]
      exact ⟨rfl, rfl, rfl⟩

/-- Where a reply goes is the command layer's. -/
theorem Delivered.of_link {o : Origin} {bs : List Byte} {as : List Nat} {s u t : State} (h : Delivered o bs u t)
    (hlink : u.link = s.link) (hold : u.entry.hold = s.entry.hold) (hf : RegFrame as s u)
    (has : ∀ b ∈ as, b ∉ postRegs) : Delivered o bs s t := by
  cases o with
  | t1s mac => exact h.trans (by rw [hlink])
  | twoWire => exact ⟨h.1.trans (by rw [hlink]), h.2.of_frame hf hold has (by decide)⟩

theorem State.deliver_whole (s : State) (o : Origin) (bs : List Byte) :
    Delivered o bs s (s.deliver o false bs) ∧ QueueKept s (s.deliver o false bs) ∧
      RegFrame replyRegs s (s.deliver o false bs) ∧ ReplyOnly s (s.deliver o false bs) := by
  obtain ⟨hsent, hframe, honly⟩ := s.deliver_result o false bs
  exact ⟨hsent fun _ => rfl, s.deliver_queueKept o false bs, hframe, honly⟩

/-- An answer that is counted in CMD_ERRORS. -/
theorem State.counted_deliver (s : State) {f : Fld} (hf : f.reg = Reg.CMD_ERRORS) (hw : f.lo + f.width ≤ 32)
    (o : Origin) (bs : List Byte) :
    let t := (s.incSat f).deliver o false bs
    Delivered o bs s t ∧ QueueKept s t ∧ t.fld f = min (s.fld f + 1) (2 ^ f.width - 1) ∧
      RegFrame (Reg.CMD_ERRORS :: replyRegs) s t ∧ ReplyOnly s t := by
  obtain ⟨hsent, hkept, hframe, honly⟩ := (s.incSat f).deliver_whole o bs
  have hcount : RegFrame [Reg.CMD_ERRORS] s (s.incSat f) := (RegFrame.refl _ s).incSat f (.inl (by simp [hf]))
  have hfld : ((s.incSat f).deliver o false bs).fld f = (s.incSat f).fld f :=
    hframe.fld f (by rw [hf]; decide) (by rw [hf]; decide)
  exact ⟨hsent.of_link rfl rfl hcount (by decide), hkept, hfld.trans (s.fld_incSat f hw),
    (hcount.mono (by decide)).trans (hframe.mono (by decide)), (RegsOnly.incSat s f).replyOnly.trans honly⟩

/-- A two-wire request for which the mailbox has no room is discarded, counted and reported. -/
theorem requestReceived_overrun {s : State} (haon : s.aon = true) (hnoon : s.noon = true) (hfull : s.mailboxFull = true)
    (bytes : List Byte) (lat : BitVec 96) :
    Does (.requestReceived .twoWire bytes lat) s fun t =>
      t.fld MBX_COUNTS.OVERRUNS = min (s.fld MBX_COUNTS.OVERRUNS + 1) (2 ^ MBX_COUNTS.OVERRUNS.width - 1) ∧
      Raised Reg.MBX_EVENTS 1 s t ∧ t.link = s.link ∧ RegFrame replyRegs s t ∧ RegsOnly s t := by
  let u := s.raise Reg.MBX_EVENTS 1
  have hjudged : s.judge .twoWire bytes 0 = .done (u.incSat MBX_COUNTS.OVERRUNS) := by
    unfold State.judge
    dsimp only
    rw [if_neg fun hc => hc.1 rfl, if_pos ⟨rfl, hfull⟩]
  have hraised : Raised Reg.MBX_EVENTS 1 s u :=
    (RegFrame.refl [] s).raise_raised rfl (by decide) _ _ (by decide) (by decide) (by decide)
  have hframe : RegFrame replyRegs s u := (RegFrame.refl _ s).raise _ _ (by decide) (by decide)
  have honly : RegsOnly s (u.incSat MBX_COUNTS.OVERRUNS) := (RegsOnly.raise s _ _).trans (.incSat u _)
  have hcount : u.fld MBX_COUNTS.OVERRUNS = s.fld MBX_COUNTS.OVERRUNS :=
    s.fld_raise _ _ _ (by decide) (by decide) (by decide)
  refine ⟨_, (exec_requestReceived_noon haon hnoon _ _ _).trans (congrArg _ (State.receive_of_done hjudged)), ?_,
    hraised.setF _ _ (by decide) (by decide), honly.link, hframe.incSat _ (.inl (by decide)), honly⟩
  rw [State.fld_incSat _ _ (by decide), hcount]

/-- A request whose CRC is wrong is answered BAD_CRC and counted. -/
theorem requestReceived_bad_crc {s : State} (haon : s.aon = true) (hnoon : s.noon = true) {o : Origin}
    (hheld : o = .twoWire → s.mailboxFull = false) {bytes : List Byte} (hheader : 4 ≤ bytes.length)
    (hwhole : 8 + half bytes 0 ≤ bytes.length)
    (hcrc : crc32 (bytes.take (4 + half bytes 0)) ≠ wordAt bytes (4 + half bytes 0)) (lat : BitVec 96) :
    Does (.requestReceived o bytes lat) s fun t =>
      Delivered o (packet BAD_CRC (byteAt bytes 2) []) s t ∧
      t.fld CMD_ERRORS.BAD_CRC = min (s.fld CMD_ERRORS.BAD_CRC + 1) (2 ^ CMD_ERRORS.BAD_CRC.width - 1) ∧
      QueueKept s t ∧ RegFrame (Reg.CMD_ERRORS :: replyRegs) s t ∧ ReplyOnly s t := by
  have htag : (BitVec.ofNat 8 (byteAt bytes 2)).toNat = byteAt bytes 2 := by
    rw [byteAt, BitVec.ofNat_toNat, BitVec.setWidth_eq]
  have hjudged (i : Nat) : s.judge o bytes i =
      .done ((s.incSat CMD_ERRORS.BAD_CRC).deliver o false (packet BAD_CRC (byteAt bytes 2) [])) := by
    unfold State.judge
    dsimp only
    rw [if_neg fun hc => hc.2 hnoon, if_neg fun hc => Bool.false_ne_true ((hheld hc.1).symm.trans hc.2),
      if_neg (by omega), if_neg (by omega), if_pos hcrc, htag]
  obtain ⟨hsent, hkept, hcount, hframe, honly⟩ := s.counted_deliver (f := CMD_ERRORS.BAD_CRC) rfl (by decide) o
    (packet BAD_CRC (byteAt bytes 2) [])
  exact ⟨_, (exec_requestReceived_noon haon hnoon o bytes lat).trans (congrArg _ (State.receive_of_done (hjudged _))),
    hsent, hcount, hkept, hframe, honly⟩

section
variable {r : Req} {lat : BitVec 96} {s : State} (h : Arrives r lat s) {op : Nat} (hop : op < 256)
include h hop

theorem Arrives.bad_opcode (hdef : definedOps.contains op = false) :
    Does (.requestReceived r.origin (packet op r.tag.toNat r.params) lat) s fun t =>
      Delivered r.origin (packet BAD_OPCODE r.tag.toNat []) s t ∧ QueueKept s t ∧ RegFrame replyRegs s t ∧
      ReplyOnly s t :=
  ⟨_, h.exec_of_done hop (if_pos (Bool.eq_false_iff.mp hdef)), s.deliver_whole _ _⟩

variable (hdef : definedOps.contains op = true) (hqueued : immediateOps.contains op = false)
include hdef hqueued

theorem Arrives.duplicate {e : CacheEntry} (he : s.cached r.origin r.tag (requestCrc op r) = some e) :
    Does (.requestReceived r.origin (packet op r.tag.toNat r.params) lat) s fun t =>
      Delivered r.origin e.reply s t ∧ QueueKept s t ∧
      t.fld CMD_ERRORS.DUPLICATES = min (s.fld CMD_ERRORS.DUPLICATES + 1) (2 ^ CMD_ERRORS.DUPLICATES.width - 1) ∧
      RegFrame (Reg.CMD_ERRORS :: replyRegs) s t ∧ ReplyOnly s t := by
  refine ⟨_, h.exec_of_done hop ?_, s.counted_deliver rfl (by decide) r.origin e.reply⟩
  rw [State.judgeWhole, if_neg (not_not_intro hdef), if_neg (Bool.eq_false_iff.mp hqueued), he]

variable (hnew : s.cached r.origin r.tag (requestCrc op r) = none)
include hnew

omit h hop in
theorem State.judgeWhole_of_new :
    s.judgeWhole op r =
      if s.inQueue r.origin r.tag (requestCrc op r) then .done s
      else if 4 ≤ s.link.waiting.length then
        .done ((s.incSat CMD_ERRORS.BUSY).deliver r.origin false (packet BUSY r.tag.toNat []))
      else .done (s.queueCommand { opcode := op, req := r, drop := false }) := by
  rw [State.judgeWhole, if_neg (not_not_intro hdef), if_neg (Bool.eq_false_iff.mp hqueued), hnew]

theorem Arrives.repeated (hin : s.inQueue r.origin r.tag (requestCrc op r) = true) :
    Does (.requestReceived r.origin (packet op r.tag.toNat r.params) lat) s fun t => t = s :=
  ⟨_, h.exec_of_done hop ((State.judgeWhole_of_new hdef hqueued hnew).trans (if_pos hin)), rfl⟩

variable (hout : s.inQueue r.origin r.tag (requestCrc op r) = false)
include hout

theorem Arrives.busy (hfour : 4 ≤ s.link.waiting.length) :
    Does (.requestReceived r.origin (packet op r.tag.toNat r.params) lat) s fun t =>
      Delivered r.origin (packet BUSY r.tag.toNat []) s t ∧ QueueKept s t ∧
      t.fld CMD_ERRORS.BUSY = min (s.fld CMD_ERRORS.BUSY + 1) (2 ^ CMD_ERRORS.BUSY.width - 1) ∧
      RegFrame (Reg.CMD_ERRORS :: replyRegs) s t ∧ ReplyOnly s t := by
  refine ⟨_, h.exec_of_done hop ?_, s.counted_deliver rfl (by decide) r.origin _⟩
  rw [State.judgeWhole_of_new hdef hqueued hnew, if_neg (Bool.eq_false_iff.mp hout), if_pos hfour]

theorem Arrives.queued (hroom : s.link.waiting.length < 4) :
    Does (.requestReceived r.origin (packet op r.tag.toNat r.params) lat) s fun t =>
      t = { s with link := t.link } ∧
      (s.link.executing = none → t.link = { s.link with executing := some { opcode := op, req := r, drop := false } }) ∧
      (s.link.executing.isSome = true → t.link =
        { s.link with waiting := s.link.waiting ++ [{ opcode := op, req := r, drop := false }] }) := by
  have hjudged : s.judgeWhole op r = .done (s.queueCommand { opcode := op, req := r, drop := false }) := by
    rw [State.judgeWhole_of_new hdef hqueued hnew, if_neg (Bool.eq_false_iff.mp hout), if_neg (Nat.not_le.mpr hroom)]
  refine ⟨_, h.exec_of_done hop hjudged, ?_⟩
  unfold State.queueCommand
  cases hexec : s.link.executing with
  | none => exact ⟨rfl, fun _ => rfl, fun hsome => by simp at hsome⟩
  | some q => exact ⟨rfl, fun hnone => by simp at hnone, fun _ => rfl⟩

end

/-- Settles O25, by the judgement of a request up to its CRC, and of a whole one (`Arrives.judge`). -/
theorem requestsAreJudgedInOrder : Obligations.RequestsAreJudgedInOrder := by
  intro s haon hnoon
  refine ⟨fun bytes lat hfull => requestReceived_overrun haon hnoon hfull bytes lat,
    fun o bytes lat hheld hheader hwhole hcrc =>
      requestReceived_bad_crc haon hnoon hheld hheader hwhole hcrc lat, ?whole⟩
  case whole =>
    intro r op lat hheld hlen hfit hingress
    have h : Arrives r lat s := ⟨haon, hnoon, hheld, hlen, hfit, hingress⟩
    exact ⟨h.bad_opcode op.isLt, fun hdef hqueued => ⟨fun e he => h.duplicate op.isLt hdef hqueued he,
      h.repeated op.isLt hdef hqueued, fun hnew hout => ⟨h.busy op.isLt hdef hqueued hnew hout,
        h.queued op.isLt hdef hqueued hnew hout⟩⟩⟩

end Sys2Proof.Machine

namespace Sys2Proof.Machine

/-! ### EM_READ_STATE is not answered OK where its words do not fit the frame limit (R154, R253)

A machine has 8 words of V (Table 6.1), but the state keeps them as a list, of any length, and the obligation is about
every state: where the words of EM_READ_STATE exceed the frame limit of a pair, the answer over T1S is REJECTED. -/

theorem length_padFrame (bs : List Byte) : (padFrame bs).length = max bs.length 46 := by
  rw [padFrame, List.length_append, List.length_replicate]
  omega

/-- Over T1S the answer REJECTED to a reply that does not fit is not the answer OK with that reply. -/
theorem Cmd.not_replied_ok_of_not_fits {c : Cmd} {r : Req} {s t : State} {mac : BitVec 48} (haon : s.aon = true)
    (horigin : r.origin = .t1s mac) (hacc : c.accepts r s = true) (hlimited : s.frameLimited r.origin = true)
    (hlong : 274 < (c.effect r s).2.length) (hrun : act (c.run r) s = .next t) :
    ¬ Replied c.op r OK (c.effect r s).2 s t := by
  intro hok
  have hexec := (act_next haon).symm.trans hrun
  rw [Cmd.run_of_not_fits hacc hlimited hlong] at hexec
  obtain rfl := Host.Outcome.next.inj hexec
  have hrejected := (s.replied_result c.op r (REJECTED, reason 0xF1)).1
  have hdrop : r.origin = .twoWire → (s.finish c.op r).2 = false := fun h => by simp [horigin] at h
  replace hok := hok hdrop
  replace hrejected := hrejected hdrop
  rw [horigin] at hok hrejected
  have hframe := List.append_cancel_left (hrejected.symm.trans hok)
  have hlength := congrArg (fun f : List Frame => (f.map fun f => f.payload.length)) hframe
  simp only [List.map_cons, List.map_nil, length_padFrame, length_packet, List.cons.injEq, and_true] at hlength
  have hreason : (reason 0xF1).length = 4 := rfl
  omega

/-- A machine that lists 70 words of V. -/
def machineOfManyWords : Mach := { resetMach with conf := { resetMState with v := List.replicate 70 0 } }

/-- Imago in a pair's frame limit, with that machine. -/
def pairedWithManyWords : State :=
  { (State.reset.setF BOOT_STAGE.STAGE IMAGO).setF T1S_STATUS.PAIR_LIMIT 1 with
    eng := { resetEngine with machs := [machineOfManyWords] } }

/-- EM_READ_STATE of machine 0, over T1S. -/
def readStateOverT1s : Req := { origin := .t1s 0, tag := 0, params := [0], ingress := 0 }

theorem readState_accepted_pairedWithManyWords :
    cmdEmReadState.accepts readStateOverT1s pairedWithManyWords = true := by
  decide +kernel

theorem frameLimited_pairedWithManyWords : pairedWithManyWords.frameLimited readStateOverT1s.origin = true := by
  decide +kernel

theorem readState_long_pairedWithManyWords :
    274 < (cmdEmReadState.effect readStateOverT1s pairedWithManyWords).2.length := by
  decide +kernel

/-- Refutes O28: EM_READ_STATE of a machine that lists too many words for the frame limit is answered REJECTED. -/
theorem not_statusCommandsOnlyReport : ¬ Obligations.StatusCommandsOnlyReport := by
  intro h
  obtain ⟨-, -, -, -, -, hread, -⟩ := h readStateOverT1s pairedWithManyWords rfl
  obtain ⟨t, hexec, hok, -⟩ := hread readState_accepted_pairedWithManyWords
  exact Cmd.not_replied_ok_of_not_fits rfl rfl readState_accepted_pairedWithManyWords frameLimited_pairedWithManyWords
    readState_long_pairedWithManyWords ((exec_emReadState _ _).symm.trans hexec) hok

end Sys2Proof.Machine

namespace Sys2Proof.Machine

/-! ### Storing a word that is stored already

READ latches a leader's set before it reads the words, and again as it reads the leader (R264); the second time stores
what stands, in a register file of any form. -/

theorem RegFile.erase_eq_self_iff (f : RegFile) (a : Nat) : f.erase a = f ↔ ∀ x ∈ f, x.1 ≠ a := by
  rw [RegFile.erase_eq_filter, List.filter_eq_self]
  simp

theorem RegFile.mem_insert {f : RegFile} {b : Nat} {v : Word} {x : Nat × Word} (h : x ∈ f.insert b v) :
    x = (b, v) ∨ x ∈ f := by
  induction f with
  | nil => exact .inl (List.mem_singleton.mp h)
  | cons y rest ih =>
    simp only [RegFile.insert] at h
    split_ifs at h <;> grind

theorem RegFile.insert_insert (f : RegFile) (a : Nat) (w : Word) : (f.insert a w).insert a w = f.insert a w := by
  induction f with
  | nil => simp [RegFile.insert]
  | cons y rest ih =>
    simp only [RegFile.insert]
    split_ifs <;> grind [RegFile.insert]

/-- A word that is stored stays where it stands while another register's is stored. -/
theorem RegFile.insert_stays {f : RegFile} {a b : Nat} {w : Word} (hab : a ≠ b) (h : f.insert a w = f) (v : Word) :
    (f.insert b v).insert a w = f.insert b v ∧ (f.erase b).insert a w = f.erase b := by
  induction f with
  | nil => cases h
  | cons y rest ih =>
    obtain ⟨c, u⟩ := y
    rw [RegFile.insert] at h
    split_ifs at h with hlt heq
    · have := congrArg List.length h
      simp at this
    · grind [RegFile.insert, RegFile.erase]
    · grind [RegFile.insert, RegFile.erase]

theorem RegFile.set_set (f : RegFile) (a : Nat) (w : Word) : (f.set a w).set a w = f.set a w := by
  unfold RegFile.set
  split_ifs
  · exact (RegFile.erase_eq_self_iff _ a).mpr fun x hx => by
      rw [f.erase_eq_filter a] at hx
      exact of_decide_eq_true (List.mem_filter.mp hx).2
  · exact f.insert_insert a w

theorem RegFile.set_stays {f : RegFile} {a b : Nat} {w v : Word} (hab : a ≠ b) (h : f.set a w = f) :
    (f.set b v).set a w = f.set b v := by
  unfold RegFile.set at *
  split_ifs at * with hw hv hv
  · rw [RegFile.erase_eq_self_iff] at *
    exact fun x hx => h x (List.mem_of_mem_filter (f.erase_eq_filter b ▸ hx))
  · rw [RegFile.erase_eq_self_iff] at *
    exact fun x hx => (RegFile.mem_insert hx).elim (fun e => by rw [e]; exact hab.symm) (h x)
  · exact (RegFile.insert_stays hab h v).2
  · exact (RegFile.insert_stays hab h v).1

/-- Words of `g` stored at the registers of a list. -/
def RegFile.setAll (g : Nat → Word) (as : List Nat) (f : RegFile) : RegFile := as.foldl (fun f a => f.set a (g a)) f

theorem RegFile.setAll_stays {g : Nat → Word} {a : Nat} : ∀ (as : List Nat) {f : RegFile}, f.set a (g a) = f →
    (f.setAll g as).set a (g a) = f.setAll g as
  | [], _, h => h
  | b :: as, f, h => by
    refine RegFile.setAll_stays as (f := f.set b (g b)) ?_
    by_cases hab : a = b
    · rw [hab, RegFile.set_set]
    · exact RegFile.set_stays hab h

theorem RegFile.setAll_of_stored {g : Nat → Word} : ∀ {as : List Nat} {f : RegFile}, (∀ a ∈ as, f.set a (g a) = f) →
    f.setAll g as = f
  | [], _, _ => rfl
  | a :: as, f, h => by
    rw [RegFile.setAll, List.foldl_cons, h a (List.mem_cons_self ..)]
    exact RegFile.setAll_of_stored fun b hb => h b (List.mem_cons_of_mem a hb)

theorem RegFile.setAll_set {g : Nat → Word} : ∀ (as : List Nat) (f : RegFile), ∀ a ∈ as,
    (f.setAll g as).set a (g a) = f.setAll g as
  | b :: as, f, a, ha => by
    obtain rfl | ha := List.mem_cons.mp ha
    · exact RegFile.setAll_stays as (f.set_set a (g a))
    · exact RegFile.setAll_set as (f.set b (g b)) a ha

theorem RegFile.setAll_setAll (g : Nat → Word) (as : List Nat) (f : RegFile) :
    (f.setAll g as).setAll g as = f.setAll g as :=
  RegFile.setAll_of_stored (RegFile.setAll_set as f)

end Sys2Proof.Machine

namespace Sys2Proof.Machine

/-! ### Reading registers (R264, R419, R422) -/

/-- The registers whose read does more than latch. -/
def steppingRegs : List Nat := [Reg.INT_HOST_CLAIM, Reg.EM_PMEM_DATA, Reg.PIO_PMEM_DATA]

theorem State.readEffect_latches {a : Nat} (h : a ∉ steppingRegs) (s : State) :
    s.readEffect a = { s with latch := s.latch.setAll s.liveWord (followers a) } := by
  obtain ⟨hclaim, hem, hpio⟩ : a ≠ Reg.INT_HOST_CLAIM ∧ a ≠ Reg.EM_PMEM_DATA ∧ a ≠ Reg.PIO_PMEM_DATA := by
    simpa [steppingRegs] using h
  rw [State.readEffect, if_neg hclaim, if_neg hem, if_neg hpio]
  rfl

theorem State.bestPending_latch (s : State) (l : RegFile) (g : Target) : ∀ k,
    State.bestPending { s with latch := l } g k = s.bestPending g k
  | 0 => rfl
  | k + 1 => by
    unfold State.bestPending
    rw [s.bestPending_latch l g k]
    rfl

theorem State.view_latch (s : State) (l : RegFile) (a : Nat) : State.view { s with latch := l } a = s.view a := by
  unfold State.view State.viewInt State.viewTw State.alertOn State.alertWanted State.hostPending State.claimWord
  simp only [State.bestPending_latch]
  rfl

/-- What a register holds now is not among the latched words. -/
theorem State.liveWord_latch (s : State) (l : RegFile) : State.liveWord { s with latch := l } = s.liveWord := by
  funext a
  unfold State.liveWord
  rw [s.view_latch l a]
  rfl

/-- A leader latches the same again. -/
theorem State.readEffect_readEffect {a : Nat} (h : a ∉ steppingRegs) (s : State) :
    (s.readEffect a).readEffect a = s.readEffect a := by
  rw [State.readEffect_latches h, State.readEffect_latches h]
  simp only [State.liveWord_latch, RegFile.setAll_setAll]

theorem leaders_not_steppingRegs : ∀ a ∈ leaders, a ∉ steppingRegs := by decide

theorem leaders_not_followers : ∀ a ∈ leaders, isFollower a = false := by decide

/-- A leader reads what it holds, whatever has been latched. -/
theorem State.readValue_leader {a : Nat} (h : a ∈ leaders) (s : State) :
    (s.readEffect a).readValue a = s.readValue a := by
  have live (u : State) : u.readValue a = u.liveWord a := by
    unfold State.readValue State.liveWord
    rw [leaders_not_followers a h]
    rfl
  rw [live, live, State.readEffect_latches (leaders_not_steppingRegs a h), State.liveWord_latch]

theorem followers_of_not_leader {a : Nat} (h : a ∉ leaders) : followers a = [] := by
  simp only [leaders, List.mem_append, List.mem_cons, List.mem_map, List.not_mem_nil, or_false, not_or] at h
  obtain ⟨⟨⟨hring, htime⟩, hpio⟩, hsafe, hz, hxy, hdelay, hsync, hstate, hstart, hspec, hpair, hxing⟩ := h
  have hengine : (List.range 4).any (fun k => a == Reg.PIO_STATE k) = false := by
    rw [List.any_eq_false]
    exact fun k hk he => hpio ⟨k, hk, (eq_of_beq he).symm⟩
  simp [followers, hring, htime, hsafe, hz, hxy, hdelay, hsync, hstate, hstart, hspec, hpair, hxing, hengine]

/-- A read of any other register has no effect. -/
theorem State.readEffect_of_plain {a : Nat} (hleader : a ∉ leaders) (hstep : a ∉ steppingRegs) (s : State) :
    s.readEffect a = s := by
  rw [State.readEffect_latches hstep, followers_of_not_leader hleader]
  rfl

/-- The registers that a read's side effect may change beside what is pending. -/
def readRegs : List Nat := [Reg.EM_PMEM_ADDR, Reg.PIO_PMEM_ADDR] ++ (List.range 4).map fun k => Reg.INT_HOST_ACT k

theorem State.bestPending_lt {s : State} {g : Target} {n : Nat} (h : s.bestPending g 128 = some n) : n < 128 := by
  have hspec := s.bestPending_spec g 128 (Nat.le_refl _)
  rw [h] at hspec
  exact hspec.2.1

theorem State.claim_regFrame (s : State) : RegFrame readRegs s (s.claim .host) := by
  unfold State.claim
  split
  next n h =>
    have hn := State.bestPending_lt h
    have hactive : (Target.host.active n).reg ∈ readRegs := List.mem_append_right _
      (List.mem_map.mpr ⟨n / 32, List.mem_range.mpr (by omega), by simp [Target.active, mapF, Reg.INT_HOST_ACT]⟩)
    exact ((RegFrame.refl _ s).setF _ _ (.inr (Target.host.pend_reg_mem n hn))).setF _ _ (.inl hactive)
  next => exact .refl _ s

theorem State.claim_regsOnly (s : State) (g : Target) : RegsOnly s (s.claim g) := by
  unfold State.claim
  split
  · exact (RegsOnly.setF s _ _).trans (.setF _ _ _)
  · exact .refl s

/-- What a read's side effect leaves alone. -/
theorem State.readEffect_kept (s : State) (a : Nat) :
    RegFrame readRegs s (s.readEffect a) ∧ (s.readEffect a).link = s.link ∧ (s.readEffect a).entry = s.entry := by
  unfold State.readEffect
  split_ifs
  · exact ⟨s.claim_regFrame, (s.claim_regsOnly .host).link, by rw [s.claim_regsOnly .host]⟩
  · exact ⟨(RegFrame.refl _ s).setF _ _ (.inl (by decide)), rfl, rfl⟩
  · exact ⟨(RegFrame.refl _ s).setF _ _ (.inl (by decide)), rfl, rfl⟩
  · exact ⟨.of_regs rfl, rfl, rfl⟩

end Sys2Proof.Machine

namespace Sys2Proof.Machine

/-! ### READ (R264) -/

theorem leNat_lt : ∀ bs : List Byte, leNat bs < 256 ^ bs.length
  | [] => Nat.one_pos
  | b :: bs => by
    have hb := b.isLt
    have hbs := leNat_lt bs
    rw [leNat, List.length_cons, Nat.pow_succ]
    omega

theorem half_lt (p : List Byte) (i : Nat) : half p i < 2 ^ 16 :=
  Nat.lt_of_lt_of_le (leNat_lt _) (Nat.pow_le_pow_right (by decide) (List.length_take_le 2 _))

theorem length_bytesOf (w : Word) : (bytesOf w).length = 4 := rfl

/-- What READ and WRITE accept of a range (R264, R265). -/
theorem range_of_rangeCheck {p : List Byte} (h : rangeCheck p = none) : half p 0 % 4 = 0 ∧ half p 2 ≤ 64 := by
  have hchecks := (refusals_eq_none_iff _).mp h
  obtain ⟨hbad, hcount, -⟩ : badRange (half p 0) (half p 2) = false ∧
      (half p 2 == 0 || decide (64 < half p 2)) = false ∧ touchesWindow (half p 0) (half p 2) = false := by
    simpa using hchecks
  simp only [badRange, Bool.or_eq_false_iff, bne_eq_false_iff_eq, decide_eq_false_iff_not] at hbad hcount
  omega

theorem runOf_succ (a n : Nat) : runOf a (n + 1) = a :: runOf (a + 4) n := by
  rw [runOf, List.range_succ_eq_map, List.map_cons, List.map_map, runOf]
  refine congrArg _ (List.map_congr_left fun k _ => ?_)
  simp only [Function.comp_apply]
  omega

theorem runOf_one (a : Nat) : runOf a 1 = [a] := rfl

/-- One word is read once, though a leader has latched before. -/
theorem readWords_one (s : State) (a : Nat) :
    (s.latchRange a 1).readWords 1 a [] = (s.readEffect a, [s.readValue a]) := by
  have hlatch : s.latchRange a 1 = s.when (leaders.contains a) (State.readEffect a) := by
    rw [State.latchRange, runOf_one]
    rfl
  have hread (u : State) : u.readWords 1 a [] = (u.readEffect a, [u.readValue a]) := rfl
  rw [hlatch, hread]
  by_cases ha : a ∈ leaders
  · rw [List.contains_iff_mem.mpr ha, State.when_true, State.readEffect_readEffect (leaders_not_steppingRegs a ha),
      State.readValue_leader ha]
  · rw [Bool.eq_false_iff.mpr (mt List.contains_iff_mem.mp ha), State.when_false]

/-- Words of registers whose read has no effect. -/
theorem readWords_plain {s : State} : ∀ (n a : Nat) (ws : List Word),
    (∀ b ∈ runOf a n, b ∉ leaders ∧ b ∉ steppingRegs) →
    s.readWords n a ws = (s, ws.reverse ++ (runOf a n).map s.readValue)
  | 0, _, ws, _ => by rw [State.readWords, runOf, List.range_zero, List.map_nil, List.map_nil, List.append_nil]
  | n + 1, a, ws, h => by
    rw [runOf_succ, List.forall_mem_cons] at h
    obtain ⟨⟨hleader, hstep⟩, hrest⟩ := h
    rw [State.readWords, State.readEffect_of_plain hleader hstep, readWords_plain n (a + 4) _ hrest, runOf_succ,
      List.map_cons, List.reverse_cons, List.append_assoc, List.singleton_append]

theorem State.latchRange_plain {s : State} {a n : Nat} (h : ∀ b ∈ runOf a n, b ∉ leaders) : s.latchRange a n = s :=
  State.each_induction (R := fun s u => u = s) (fun _ => rfl) (fun _ _ _ h k => k.trans h) _ s fun b hb u => by
    rw [Bool.eq_false_iff.mpr (mt List.contains_iff_mem.mp (h b hb)), State.when_false]

section
variable {r : Req} {s : State} (haon : s.aon = true) (hacc : cmdRead.accepts r s = true)
include haon hacc

theorem read_one (hone : half r.params 2 = 1) :
    Does (.read r) s fun t =>
      Replied 0x03 r OK (bytesOf (s.readValue (half r.params 0))) s t ∧
      RegFrame replyRegs (s.readEffect (half r.params 0)) t ∧ ReplyOnly (s.readEffect (half r.params 0)) t := by
  have heffect : cmdRead.effect r s = (s.readEffect (half r.params 0), bytesOf (s.readValue (half r.params 0))) := by
    have hread := readWords_one s (half r.params 0)
    rw [← hone] at hread
    simp only [cmdRead, hread]
    rfl
  obtain ⟨hframe, hlink, hentry⟩ := s.readEffect_kept (half r.params 0)
  have hfit : Fits cmdRead r s := fun _ => by
    rw [heffect, length_bytesOf]
    decide
  obtain ⟨t, hrun, hans⟩ := Cmd.answered_of_accepts haon hacc hfit (by rw [heffect, hlink]) (by rw [heffect, hentry])
    (by rw [heffect]; exact hframe) (by decide)
  have hreplied := hans.replied
  rw [heffect] at hans hreplied
  exact ⟨t, (exec_read r s).trans hrun, hreplied, hans.frame, hans.only⟩

theorem read_plain (hplain : ∀ a ∈ runOf (half r.params 0) (half r.params 2), a ∉ leaders ∧ a ∉ steppingRegs) :
    Does (.read r) s fun t =>
      Replied 0x03 r OK (bytesOfWords ((runOf (half r.params 0) (half r.params 2)).map s.readValue)) s t ∧
      RegFrame replyRegs s t ∧ ReplyOnly s t := by
  have heffect : cmdRead.effect r s =
      (s, bytesOfWords ((runOf (half r.params 0) (half r.params 2)).map s.readValue)) := by
    simp only [cmdRead, State.latchRange_plain fun b hb => (hplain b hb).1, readWords_plain _ _ _ hplain,
      List.reverse_nil, List.nil_append]
  have hfit : Fits cmdRead r s := fun _ => by
    have hcount := (range_of_rangeCheck (Cmd.check_of_accepts hacc)).2
    rw [heffect, length_bytesOfWords, List.length_map, runOf, List.length_map, List.length_range]
    omega
  obtain ⟨t, hrun, hans⟩ := Cmd.answered_of_accepts haon hacc hfit (by rw [heffect]) (by rw [heffect])
    (by rw [heffect]; exact .refl [] s) (by decide)
  have hreplied := hans.replied
  rw [heffect] at hans hreplied
  exact ⟨t, (exec_read r s).trans hrun, hreplied, hans.frame, hans.only⟩

end

end Sys2Proof.Machine

namespace Sys2Proof.Machine

/-! ### WRITE and MODIFY (R265, R419) -/

/-- An accepted command whose effect is one write by command leaves what that write leaves, but for its reply. -/
theorem Cmd.answered_of_writeReg {c : Cmd} {r : Req} {s : State} (haon : s.aon = true) (hacc : c.accepts r s = true)
    {a : Nat} {w : Word} {data : List Byte} (heffect : c.effect r s = (s.writeReg false a w, data))
    (hfit : data.length ≤ 274) (halign : a % 4 = 0) (ha : a < 2 ^ 16) :
    ∃ t, act (c.run r) s = .next t ∧ ∀ u, exec (.registerWrite false (BitVec.ofNat 16 a) w) s = .next u →
      Replied c.op r OK data u t ∧ RegFrame replyRegs u t ∧ ReplyOnly u t := by
  have hnoon := ((c.accepts_iff r s).mp hacc).1
  have hrun := Cmd.run_of_accepts hacc fun _ => by rw [heffect]; exact hfit
  have haddr : (BitVec.ofNat 16 a).toNat / 4 * 4 = a := by
    rw [BitVec.toNat_ofNat, Nat.mod_eq_of_lt ha]
    omega
  rw [heffect] at hrun
  refine ⟨_, (act_next haon).trans (congrArg _ hrun), fun u hu => ?_⟩
  rw [exec_registerWrite_noon haon hnoon, haddr] at hu
  obtain rfl := Host.Outcome.next.inj hu
  exact State.replied_result _ c.op r (OK, data)

theorem write_one {r : Req} {s : State} (haon : s.aon = true) (hacc : cmdWrite.accepts r s = true)
    (hone : half r.params 2 = 1) :
    Does (.write r) s fun t =>
      ∀ u, exec (.registerWrite false (BitVec.ofNat 16 (half r.params 0)) (wordAt r.params 4)) s = .next u →
        Replied 0x04 r OK [] u t ∧ RegFrame replyRegs u t ∧ ReplyOnly u t := by
  have heffect : cmdWrite.effect r s = (s.writeReg false (half r.params 0) (wordAt r.params 4), []) := by
    have hwords : paramWords 1 (r.params.drop 4) = [wordAt r.params 4] := congrArg (fun w => [w]) (wordAt_drop _ 4 0)
    simp only [cmdWrite, hone, hwords, State.writeWords]
  have halign := (range_of_rangeCheck (Cmd.check_of_accepts hacc)).1
  obtain ⟨t, hrun, hwrite⟩ := Cmd.answered_of_writeReg haon hacc heffect (Nat.zero_le _) halign (half_lt _ _)
  exact ⟨t, (exec_write r s).trans hrun, hwrite⟩

theorem modify_accepted {r : Req} {s : State} (haon : s.aon = true) (hacc : cmdModify.accepts r s = true) :
    Does (.modify r) s fun t =>
      ∀ u, exec (.registerWrite false (BitVec.ofNat 16 (half r.params 0))
          ((s.readValue (half r.params 0) &&& ~~~ wordAt r.params 4) ||| (wordAt r.params 8 &&& wordAt r.params 4))) s =
            .next u →
        Replied 0x05 r OK (bytesOf (s.readValue (half r.params 0))) u t ∧ RegFrame replyRegs u t ∧ ReplyOnly u t := by
  have hchecks := (refusals_eq_none_iff _).mp (Cmd.check_of_accepts hacc)
  have halign : half r.params 0 % 4 = 0 := by
    have hbad : badRange (half r.params 0) 1 = false := hchecks _ (List.mem_cons_self ..)
    simp only [badRange, Bool.or_eq_false_iff, bne_eq_false_iff_eq] at hbad
    exact hbad.1.1
  have hfit : (bytesOf (s.readValue (half r.params 0))).length ≤ 274 := by
    rw [length_bytesOf]
    decide
  obtain ⟨t, hrun, hwrite⟩ := Cmd.answered_of_writeReg haon hacc rfl hfit halign (half_lt _ _)
  exact ⟨t, (exec_modify r s).trans hrun, hwrite⟩

/-- Settles O29: READ latches a leader once more than it reads it, to no effect (`State.readEffect_readEffect`), and
passes over every other register (`readWords_plain`); WRITE and MODIFY are one write by command
(`Cmd.answered_of_writeReg`). -/
theorem hostAccessCommands : Obligations.HostAccessCommands := by
  intro r s haon
  refine ⟨fun hacc => ⟨read_one haon hacc, fun hplain => read_plain haon hacc fun a ha => ?_⟩,
    fun hacc hone => write_one haon hacc hone, modify_accepted haon⟩
  obtain ⟨hleader, hclaim, hem, hpio⟩ := hplain a ha
  exact ⟨fun h => Bool.false_ne_true (hleader.symm.trans (List.contains_iff_mem.mpr h)),
    by simp [steppingRegs, hclaim, hem, hpio]⟩

end Sys2Proof.Machine

namespace Sys2Proof.Machine

/-! ### ABORT of the output queue leaves a record visible where a drop episode ends (R236, R243, R266)

The scope QUEUE flushes as QUEUE_FLUSH does (Table 11.6): the GAP record of the episode is still written, after the
flush. -/

theorem State.endOps_of_idle {s : State} (hidle : s.link.executing = none) (ops : List Nat) :
    s.endOps ops = (s, 0) := by
  rw [State.endOps, State.executes, hidle]
  rfl

/-- The scope QUEUE leaves the GAP record of a drop episode as the only visible one. -/
theorem abortScope_queue_with_drop {s : State} (hidle : s.link.executing = none) {e : DropEpisode}
    (hdrop : s.queue.drop = some e) :
    (abortScope 2 s).1.queue.visible = [{ tick := s.tick, words := (e.gap s.tick).words s.queue.seq.toNat }] := by
  have hscope : (abortScope 2 s).1 = s.queueFlush := by
    simp only [abortScope, State.endOps_of_idle hidle]
  rw [hscope, State.queueFlush_with_drop hdrop]

theorem abort_queue_with_drop {r : Req} {s : State} (haon : s.aon = true) (hacc : cmdAbort.accepts r s = true)
    (hmask : numAt r.params 0 4 = 4) (hidle : s.link.executing = none) {e : DropEpisode}
    (hdrop : s.queue.drop = some e) :
    Does (.abort r) s fun t =>
      t.queue.visible = [{ tick := s.tick, words := (e.gap s.tick).words s.queue.seq.toNat }] := by
  have hscopes : maskList 8 (numAt r.params 0 4) = [2] := by rw [hmask]; decide
  have heffect : (cmdAbort.effect r s).1 = (abortScope 2 (s.incSat CMD_ABORTS.ABORTS)).1 := by
    simp only [cmdAbort, hscopes, abortScopes]
  have hfit : Fits cmdAbort r s := fun _ => by
    simp only [cmdAbort, List.length_append, length_leBytes]
    decide
  obtain ⟨-, -, honly⟩ := (cmdAbort.effect r s).1.replied_result cmdAbort.op r (OK, (cmdAbort.effect r s).2)
  have hqueue := honly.queue.trans (congrArg State.queue heffect)
  exact ⟨_, (exec_abort r s).trans ((act_next haon).trans (congrArg _ (Cmd.run_of_accepts hacc hfit))),
    (congrArg QueuePart.visible hqueue).trans
      (abortScope_queue_with_drop (s := s.incSat CMD_ABORTS.ABORTS) hidle hdrop)⟩

/-- Imago in Noon, after one record has found no room in the output queue. -/
def imagoInDropState : State :=
  { State.reset.setF BOOT_STAGE.STAGE IMAGO with
    queue := { resetQueue with drop := some { cause := 2, first := none, last := none, others := 1 } } }

/-- ABORT with the scope QUEUE, over the two-wire bus. -/
def abortQueue : Req := { origin := .twoWire, tag := 0, params := [4, 0, 0, 0], ingress := 0 }

theorem abortQueue_accepted_imagoInDropState : cmdAbort.accepts abortQueue imagoInDropState = true := by
  decide +kernel

/-- Refutes O30: ABORT with the scope QUEUE in the drop state leaves the episode's GAP record visible. -/
theorem not_abortEndsActivities : ¬ Obligations.AbortEndsActivities := by
  intro h
  obtain ⟨-, -, -, hqueue, -⟩ := h abortQueue imagoInDropState rfl abortQueue_accepted_imagoInDropState
  obtain ⟨t, hexec, hempty⟩ := hqueue (by decide)
  obtain ⟨u, hexec', hgap⟩ := abort_queue_with_drop rfl abortQueue_accepted_imagoInDropState (by decide) rfl rfl
  obtain rfl := Host.Outcome.next.inj (hexec.symm.trans hexec')
  exact List.cons_ne_nil _ _ (hgap.symm.trans hempty)

end Sys2Proof.Machine

namespace Sys2Proof.Machine

/-! ### Every step keeps the registers canonical (R417, R419, R421, R422) -/

/-- A command that acts under the AON supply keeps what its effect keeps. -/
theorem act_keeps {P : State → Prop} {c : Instr} {f : State → State} {s t : State} (hx : exec c s = act f s)
    (he : exec c s = .next t) (h : P s) (hf : P s → P (f s)) : P t := by
  obtain rfl : (if s.aon then f s else s) = t := Host.Outcome.next.inj (hx.symm.trans he)
  split
  · exact hf h
  · exact h

theorem canonical_ite {c : Prop} [Decidable c] {a b : State} (ha : a.Canonical) (hb : b.Canonical) :
    (if c then a else b).Canonical := by
  split
  · exact ha
  · exact hb

section
variable {c : Instr} {s t : State} (h : s.Canonical)
include h

theorem ixRow_canonical {op : Nat} {n : Fin 32} {cond : Fin 16} {d sr : Fin 8} {imm : BitVec 16}
    (hx : exec c s = ixRow op n cond d sr imm s) (he : exec c s = .next t) : t.Canonical :=
  act_keeps hx he h fun h => wf_runWord _ _ _ (wf_finishAllDue _ h)

theorem pioRow_canonical {k : Fin 4} {w : Word} (hx : exec c s = pioRow k w s) (he : exec c s = .next t) :
    t.Canonical :=
  act_keeps hx he h fun h => canonical_ite (wf_pioCycle _ _ _ h) h

theorem pioRowPins_canonical {k : Fin 4} {pins : BitVec 6} {w : Word} (hx : exec c s = pioRowPins k pins w s)
    (he : exec c s = .next t) : t.Canonical :=
  act_keeps hx he h fun h => canonical_ite (wf_pioCycle _ _ _ (wf_putPins _ _ h)) (wf_putPins _ _ h)

theorem regWrite_canonical {bus : Bool} {a : Nat} {w : Word} (hx : exec c s = regWrite bus a w s)
    (he : exec c s = .next t) : t.Canonical :=
  act_keeps hx he h fun h => wf_when _ _ _ h fun _ h => wf_byBus _ _ _ _ h fun _ h => wf_writeReg _ _ _ _ h

theorem regRead_canonical {bytes : Fin 5} {a : Nat} (hx : exec c s = regRead bytes a s) (he : exec c s = .next t) :
    t.Canonical :=
  act_keeps hx he h fun h => wf_when _ _ _ h fun _ h => wf_busRead _ _ _ (wf_outWord _ _ (wf_readEffect _ _ h))

theorem cmdRun_canonical {d : Cmd} {r : Req} (hx : exec c s = act (d.run r) s) (he : exec c s = .next t)
    (hd : ∀ u : State, u.Canonical → (d.effect r u).1.Canonical) : t.Canonical :=
  act_keeps hx he h fun h => wf_Cmd_run _ _ _ h hd

theorem brownoutExit_canonical {cycles : BitVec 64} (he : exec (.brownoutExit cycles) s = .next t) : t.Canonical := by
  refine act_keeps (exec_brownoutExit cycles s) he h fun h => ?_
  split
  · exact wf_restartLarva _ _ (wf_holdPins _ _ (wf_safetyReset _ (wf_raise _ _ _ (wf_incSat _ _ (wf_vauxOn _
      (wf_resumeTime _ _ _ _ _ (wf_putEntry _ _ h)))))))
  · exact h

theorem phaseRetry_canonical {p : Fin 3} {light : Bool} {again : Option (Fin 3 × Byte)}
    (he : exec (.phaseRetry p light again) s = .next t) : t.Canonical := by
  refine act_keeps (exec_phaseRetry p light again s) he h fun h => ?_
  split
  · exact h
  · split
    · exact wf_retirePhase _ _ _ _ h
    · exact wf_phaseBack _ _ h

theorem phaseRotation_canonical (he : exec .phaseRotation s = .next t) : t.Canonical := by
  refine act_keeps (exec_phaseRotation s) he h fun h => ?_
  split
  · split
    · exact wf_onePhase _ _ h
    · exact h
  · exact h

theorem restartVerify_canonical {intact : Bool} (he : exec (.restartVerify intact) s = .next t) : t.Canonical := by
  refine act_keeps (exec_restartVerify intact s) he h fun h => ?_
  split
  · exact h
  · dsimp only
    split
    · exact wf_countRestart _ h
    · split
      · exact wf_setActive _ _ (wf_setF _ _ _ (wf_countRestart _ h))
      · split
        · exact wf_enterStage _ _ _ (wf_setF _ _ _ (wf_setActive _ _ (wf_setF _ _ _ (wf_countRestart _ h))))
        · split
          · exact wf_imagoWith _ _ _ (wf_countRestart _ h)
          · exact wf_enterStage _ _ _ (wf_countRestart _ h)

theorem revertImagoEntry_canonical (he : exec .revertImagoEntry s = .next t) : t.Canonical := by
  refine act_keeps (exec_revertImagoEntry s) he h fun h => ?_
  split
  · exact h
  · split
    · exact wf_imagoWith _ _ _ (wf_putBoot _ _ h)
    · exact h

theorem requestReceived_canonical {o : Origin} {bytes : List Byte} {latched : BitVec 96}
    (he : exec (.requestReceived o bytes latched) s = .next t) : t.Canonical := by
  refine act_keeps (exec_requestReceived o bytes latched s) he h fun h => ?_
  split
  · exact wf_when _ _ _ h fun _ h => wf_receive _ _ _ _ h
  · exact wf_receive _ _ _ _ h

theorem profileBoundary_canonical {x : BitVec 64} (he : exec (.profileBoundary x) s = .next t) : t.Canonical := by
  refine act_keeps (exec_profileBoundary x s) he h fun h => ?_
  split
  · exact wf_profileDone _ (wf_hold _ _ _ _ (wf_setF _ _ _ (wf_forUpTo _ (fun _ _ h => wf_profileTriad _ _ _ _ h) _ _
      (wf_putArray _ _ h))))
  · exact h

theorem retirementDecision_canonical {what : Retire}
    (he : exec (.retirementDecision what) s = .next t) : t.Canonical := by
  refine act_keeps (exec_retirementDecision what s) he h fun h => ?_
  split
  · exact canonical_ite (wf_putArray _ _ h) h
  · exact canonical_ite (wf_putArray _ _ h) h

theorem arbitrationWaitExceeded_canonical {what : ArbWait}
    (he : exec (.arbitrationWaitExceeded what) s = .next t) : t.Canonical := by
  refine act_keeps (exec_arbitrationWaitExceeded what s) he h fun h => ?_
  split
  · split
    · exact wf_machFault _ _ _ _ _ h
    · exact wf_machFault _ _ _ _ _ h
  · exact wf_lateStage _ _ _ h

theorem presetApply_canonical (he : exec .presetApply s = .next t) : t.Canonical := by
  refine act_keeps (exec_presetApply s) he h fun h => ?_
  split
  · exact canonical_ite h (wf_presetApply _ _ h)
  · exact h

theorem presetChangeComplete_canonical (he : exec .presetChangeComplete s = .next t) : t.Canonical := by
  refine act_keeps (exec_presetChangeComplete s) he h fun h => ?_
  split
  · split
    · exact h
    · dsimp only
      split
      · exact wf_requestPreset _ _ (wf_putFilt _ _ h)
      · exact wf_setF _ _ _ (wf_putFilt _ _ h)
  · exact h

theorem bankSwapApply_canonical (he : exec .bankSwapApply s = .next t) : t.Canonical := by
  refine act_keeps (exec_bankSwapApply s) he h fun h => ?_
  split
  · exact wf_pairConfigLeave _ (wf_raise _ _ _ (wf_mappingChanged _ (wf_syncDelay _ (wf_setF _ _ _ (wf_putFilt _ _
      (wf_setF _ _ _ (wf_setF _ _ _ h)))))))
  · exact h

theorem notchSetChange_canonical (he : exec .notchSetChange s = .next t) : t.Canonical := by
  refine act_keeps (exec_notchSetChange s) he h fun h => ?_
  split
  · exact wf_useSlot _ _ (wf_putFilt _ _ h)
  · exact h

theorem decimSyncApply_canonical (he : exec .decimSyncApply s = .next t) : t.Canonical := by
  refine act_keeps (exec_decimSyncApply s) he h fun h => ?_
  split
  · exact wf_decimResetAlone _ _ h
  · exact h

theorem committedSampleArrival_canonical {x : BitVec 64}
    (he : exec (.committedSampleArrival x) s = .next t) : t.Canonical := by
  refine act_keeps (exec_committedSampleArrival x s) he h fun h => ?_
  split
  · exact wf_when _ _ _ h fun _ h => wf_commArrive _ _ h
  · exact h

theorem recDeclare_canonical {i : Fin 9} (he : exec (.recDeclare i) s = .next t) : t.Canonical := by
  refine act_keeps (exec_recDeclare i s) he h fun h => ?_
  split
  · exact wf_when _ _ _ h fun _ h => wf_finishDue _ _ _ h
  · exact h

theorem recRelease_canonical {i : Fin 9} (he : exec (.recRelease i) s = .next t) : t.Canonical := by
  refine act_keeps (exec_recRelease i s) he h fun h => ?_
  split
  · exact wf_when _ _ _ h fun _ h => wf_finishDue _ _ _ h
  · exact h

theorem overflowGap_canonical (he : exec .overflowGap s = .next t) : t.Canonical := by
  refine act_keeps (exec_overflowGap s) he h fun h => ?_
  split
  · exact canonical_ite (wf_watermark _ (wf_commitRec _ _ h)) h
  · exact h

theorem queueEccError_canonical {k : Fin 1024} (he : exec (.queueEccError k) s = .next t) : t.Canonical := by
  refine act_keeps (exec_queueEccError k s) he h fun h => ?_
  split
  · exact wf_dropRecs _ _ _ h
  · exact h

theorem transmitOpportunity_canonical {outcome : TxOutcome}
    (he : exec (.transmitOpportunity outcome) s = .next t) : t.Canonical := by
  refine act_keeps (exec_transmitOpportunity outcome s) he h fun h => ?_
  split
  · exact h
  · split
    · exact wf_sendContribs _ _ h
    · dsimp only
      split
      · exact h
      · split
        · exact wf_setF _ _ _ (wf_frameSent _ _ (wf_dropStream _ _ h))
        · exact wf_incSat _ _ h
        · exact wf_incSat _ _ (wf_dropStream _ _ h)
      · split
        · exact wf_frameSent _ _ (wf_putLink _ _ h)
        · exact wf_incSat _ _ h
        · exact wf_incSat _ _ (wf_putLink _ _ h)

theorem pdelayResp_canonical {latched t2 t3 : BitVec 96}
    (he : exec (.pdelayResp latched t2 t3) s = .next t) : t.Canonical := by
  refine act_keeps (exec_pdelayResp latched t2 t3 s) he h fun h => ?_
  dsimp only
  split
  · exact wf_when _ _ _ h fun _ h => wf_putTime _ _ h
  · exact h

theorem txTimestamp_canonical {latched : BitVec 96} (he : exec (.txTimestamp latched) s = .next t) : t.Canonical := by
  refine act_keeps (exec_txTimestamp latched s) he h fun h => ?_
  split
  · exact h
  · exact canonical_ite (wf_raise _ _ _ (wf_incSat _ _ (wf_putTime _ _ h))) (canonical_ite (wf_sendFrame _ _ (wf_raise
      _ _ _ (wf_putTime _ _ (wf_putTime _ _ h)))) (canonical_ite (wf_sendFrame _ _ (wf_raise _ _ _ (wf_putTime _ _
      (wf_putTime _ _ h)))) (wf_raise _ _ _ (wf_putTime _ _ (wf_putTime _ _ h)))))

theorem hostTsExpiry_canonical (he : exec .hostTsExpiry s = .next t) : t.Canonical := by
  refine act_keeps (exec_hostTsExpiry s) he h fun h => ?_
  split
  · exact wf_incSat _ _ (wf_putTime _ _ h)
  · exact h

theorem joinReqReceived_canonical {mac : BitVec 48} {payload : List Byte}
    (he : exec (.joinReqReceived mac payload) s = .next t) : t.Canonical := by
  refine act_keeps (exec_joinReqReceived mac payload s) he h fun h => ?_
  split
  · exact h
  · split
    · exact wf_putT1s _ _ (wf_sendFrame _ _ h)
    · exact wf_sendPair _ _ _ _ (canonical_ite (wf_rearm _ (wf_putTime _ _ (wf_learnPartner _ _ (wf_beginJoin _ _
        h)))) (wf_learnPartner _ _ (wf_beginJoin _ _ h)))

theorem autoJoin_canonical (he : exec .autoJoin s = .next t) : t.Canonical := by
  refine act_keeps (exec_autoJoin s) he h fun h => ?_
  split
  · split
    · exact wf_failJoin _ _ h
    · exact wf_startJoin _ h
  · exact h

theorem ptpOnlyReset_canonical (he : exec .ptpOnlyReset s = .next t) : t.Canonical := by
  refine act_keeps (exec_ptpOnlyReset s) he h fun h => ?_
  split
  · exact wf_when _ _ _ h fun _ h => wf_decimReset _ _ h
  · exact h

theorem fusionWaitExpiry_canonical (he : exec .fusionWaitExpiry s = .next t) : t.Canonical := by
  refine act_keeps (exec_fusionWaitExpiry s) he h fun h => ?_
  split
  · exact canonical_ite (wf_pairLeave _ _ _ (wf_formAlone _ _ h)) (wf_setF _ _ _ (wf_formAlone _ _ h))
  · exact h

theorem nightEntry_canonical (he : exec .nightEntry s = .next t) : t.Canonical := by
  refine act_keeps (exec_nightEntry s) he h fun h => ?_
  split
  · exact h
  · dsimp only
    split
    · exact wf_setF _ _ _ (wf_when _ _ _ (wf_nightPins _ (wf_intoCocoon _ h)) fun _ h => wf_vauxOff _ _ h)
    · exact wf_startDawn _ _ _ (wf_incSat _ _ (wf_setF _ _ _ (wf_when _ _ _ (wf_nightPins _ (wf_intoCocoon _ h)) fun _
        h => wf_vauxOff _ _ h)))

theorem sliceCalibration_canonical {good : Bool} (he : exec (.sliceCalibration good) s = .next t) : t.Canonical := by
  refine act_keeps (exec_sliceCalibration good s) he h fun h => ?_
  split
  · exact h
  · exact canonical_ite (wf_putHk _ _ (wf_setSlice _ _ _ h)) (wf_retireSlice _ _ h)

theorem sliceSwap_canonical {disagree : Bool} (he : exec (.sliceSwap disagree) s = .next t) : t.Canonical := by
  refine act_keeps (exec_sliceSwap disagree s) he h fun h => ?_
  split
  · exact canonical_ite (wf_putHk _ _ (wf_putHk _ _ (wf_incSat _ _ (wf_setSlice _ _ _ (wf_setSlice _ _ _ h)))))
      (canonical_ite (wf_retireSlice _ _ (wf_putHk _ _ (wf_incSat _ _ (wf_setSlice _ _ _ (wf_setSlice _ _ _ h)))))
      (wf_putHk _ _ (wf_setSlice _ _ _ (wf_putHk _ _ (wf_incSat _ _ (wf_setSlice _ _ _ (wf_setSlice _ _ _ h)))))))
  · exact h

theorem phaseShedding_canonical {active : Fin 8} (he : exec (.phaseShedding active) s = .next t) : t.Canonical := by
  refine act_keeps (exec_phaseShedding active s) he h fun h => ?_
  dsimp only
  split
  · exact h
  · split
    · exact wf_setF _ _ _ (wf_setF _ _ _ h)
    · exact wf_setF _ _ _ h

theorem duskBegin_canonical (he : exec .duskBegin s = .next t) : t.Canonical := by
  refine act_keeps (exec_duskBegin s) he h fun h => ?_
  split
  · exact h
  · extract_lets settled stopped flushed queue emptied unlinked mtime untimed dusk
    have hstopped : stopped.Canonical :=
      wf_commitHeld _ _ (wf_stopRecs _ _ (wf_stopMachines _ _ (wf_finishAllDue _ h)))
    have hflushed : flushed.Canonical :=
      wf_flushVisible _ (wf_addSat _ _ _ hstopped)
    clear_value flushed
    have hunlinked : unlinked.Canonical := hflushed
    have hdusk : dusk.Canonical :=
      wf_setF _ _ _ (wf_dropStaged _ (wf_stopSensing _ (wf_stopPio _ (wf_putTime _ _ hunlinked))))
    exact wf_clearTarget _ _ (wf_clearTarget _ _ hdusk)

end

/-- The registers after power-up are all at their reset words. -/
theorem canonical_of_empty {s : State} (hregs : s.regs = []) (hlatch : s.latch = []) : s.Canonical := by
  unfold State.Canonical
  rw [hregs, hlatch]
  exact ⟨rfl, rfl⟩

theorem powerUp_canonical {strap : Bool} {s t : State} (he : exec (.powerUp strap) s = .next t) : t.Canonical := by
  obtain rfl := Host.Outcome.next.inj he
  exact wf_enterStage _ _ _ (wf_vauxOn _ (canonical_of_empty rfl rfl))

theorem committedVote_canonical {x : BitVec 64} {xs : List (Word × Bool)} {s t : State} (h : s.Canonical)
    (he : exec (.committedVote x xs) s = .next t) : t.Canonical := by
  by_cases hlen : xs.length = 216
  · exact act_keeps (exec_committedVote_of_length hlen x s) he h fun h => wf_when _ _ _ h fun _ h => wf_vote _ _ _ h
  · rw [exec_committedVote_of_length_ne hlen] at he
    contradiction

theorem fastSampleArrival_canonical {x : BitVec 64} {xs : List (Word × Bool)} {s t : State} (h : s.Canonical)
    (he : exec (.fastSampleArrival x xs) s = .next t) : t.Canonical := by
  by_cases hlen : xs.length = 216
  · exact act_keeps (exec_fastSampleArrival_of_length hlen x s) he h fun h =>
      wf_when _ _ _ h fun _ h => wf_fastArrive _ _ _ h
  · rw [exec_fastSampleArrival_of_length_ne hlen] at he
    contradiction

theorem pioPmemData_canonical {bus : Bool} {w : Option Word} {s t : State} (h : s.Canonical)
    (he : exec (.pioPmemData bus w) s = .next t) : t.Canonical := by
  cases w with
  | none => exact regRead_canonical h rfl he
  | some w => exact regWrite_canonical h rfl he

/-- Every command of the table keeps the canonical form: one case for each, by the operations its meaning is made of. -/
theorem exec_canonical (c : Instr) {s t : State} (h : s.Canonical) (he : exec c s = .next t) : t.Canonical := by
  cases c with
  | ixNop | ixLdi | ixLdh | ixMov | ixRd | ixAdd | ixAddi | ixSub | ixCmp | ixCmpi | ixMul | ixAbs | ixMin | ixMax |
    ixAnd | ixOr | ixXor | ixShr | ixShl | ixMag3 | ixFilt | ixTset | ixTsetv | ixTclr | ixTst | ixCadd | ixCclr |
    ixJmp | ixEnd | ixNext | ixHalt | ixCkpt | ixEmit | ixSafeoff | ixPiow | ixBell | ixCapt | ixVote =>
    exact ixRow_canonical h rfl he
  | discardReq | dropReply | mbxClear | ringClear | registerWrite | emRegionWrite | emFlagsWrite | emPmemData |
    pioMportWrite | pioSafeLevelWrite | twAddr2Write =>
    exact regWrite_canonical h rfl he
  | sentinelXy | triadZXy | filtDelayNs | syncTickLo | emState | emStartTickLo | specLastLo | safeTrip |
    ringTrigTickLo | idSerialLo | timeNow0 | pairBoundaryLo | pioState | xingInfo =>
    exact regRead_canonical h rfl he
  | pioNop | pioSet | pioDir | pioJtab | pioAddj | pioLdi | pioPut | pioGet | pioSetx | pioIrq | pioHalt =>
    exact pioRow_canonical h rfl he
  | pioJmp | pioShin =>
    exact pioRowPins_canonical h rfl he
  | powerUp => exact powerUp_canonical he
  | aonSupplyLoss => exact act_keeps (exec_aonSupplyLoss s) he h fun _ => canonical_of_empty rfl rfl
  | committedVote => exact committedVote_canonical h he
  | fastSampleArrival => exact fastSampleArrival_canonical h he
  | pioPmemData => exact pioPmemData_canonical h he
  | vbatReversal => exact act_keeps (exec_vbatReversal s) he h fun h => h
  | inputDisconnect => exact act_keeps (exec_inputDisconnect s) he h fun h => wf_raise _ _ _ (wf_setF _ _ _ h)
  | inputReconnect => exact act_keeps (exec_inputReconnect s) he h fun h => wf_raise _ _ _ (wf_setF _ _ _ h)
  | vbatLowReport => exact act_keeps (exec_vbatLowReport s) he h fun h => wf_raise _ _ _ (wf_setF _ _ _ h)
  | rideThroughEntry =>
    exact act_keeps (exec_rideThroughEntry _ s) he h fun h =>
      canonical_ite h (wf_when _ _ _ (wf_when _ _ _ (wf_raise _ _ _ (wf_incSat _ _ (wf_setF _ _ _ h))) fun _ h =>
        wf_setF _ _ _ h) fun _ h => wf_vauxOff _ _ h)
  | rideThroughEnd =>
    exact act_keeps (exec_rideThroughEnd _ _ _ _ _ s) he h fun h =>
      canonical_ite h (canonical_ite (wf_raise _ _ _ (wf_setF _ _ _ h)) (canonical_ite (wf_raise _ _ _ (wf_setF _ _ _
        (wf_setReg _ _ _ (wf_setF _ _ _ (wf_setF _ _ _ (wf_raise _ _ _ (wf_setF _ _ _ h))))))) (canonical_ite
        (wf_estimateCap _ _ _ (wf_setF _ _ _ (wf_setReg _ _ _ (wf_setF _ _ _ (wf_setF _ _ _ (wf_raise _ _ _ (wf_setF _
        _ _ h))))))) (wf_setF _ _ _ (wf_setReg _ _ _ (wf_setF _ _ _ (wf_setF _ _ _ (wf_raise _ _ _ (wf_setF _ _ _
        h)))))))))
  | capacitanceEstimate =>
    exact act_keeps (exec_capacitanceEstimate _ s) he h fun h => wf_reportCap _ (wf_setF _ _ _ h)
  | shedThresholdCrossing =>
    exact act_keeps (exec_shedThresholdCrossing s) he h fun h =>
      wf_when _ _ _ (wf_when _ _ _ (wf_setF _ _ _ h) fun _ h => wf_safePath _ _ _ _ _ _ h) fun _ h => wf_vauxOff _ _ h
  | rearmThresholdCrossing => exact act_keeps (exec_rearmThresholdCrossing s) he h fun h => wf_setF _ _ _ h
  | shedDelayExpiry =>
    exact act_keeps (exec_shedDelayExpiry s) he h fun h => wf_when _ _ _ h fun _ h => wf_vauxOff _ _ h
  | stopThresholdCrossing =>
    exact act_keeps (exec_stopThresholdCrossing s) he h fun h =>
      wf_when _ _ _ (wf_vauxOff _ _ h) fun _ h => wf_brownoutHold _ h
  | brownoutExit => exact brownoutExit_canonical h he
  | vauxStartThreshold =>
    exact act_keeps (exec_vauxStartThreshold s) he h fun h => wf_when _ _ _ h fun _ h => wf_vauxRestart _ h
  | vauxLow => exact act_keeps (exec_vauxLow s) he h fun h => wf_safePath _ _ _ _ _ _ (wf_setF _ _ _ h)
  | vauxOkReached =>
    exact act_keeps (exec_vauxOkReached s) he h fun h =>
      canonical_ite (wf_disarmedQuiet _ (wf_setF _ _ _ h)) (wf_setF _ _ _ h)
  | phaseRetirement => exact act_keeps (exec_phaseRetirement _ _ _ s) he h fun h => wf_retirePhase _ _ _ _ h
  | phaseRetry => exact phaseRetry_canonical h he
  | phaseRotation => exact phaseRotation_canonical h he
  | overloadLimit => exact act_keeps (exec_overloadLimit s) he h fun h => wf_when _ _ _ h fun _ h => wf_limitOn _ _ h
  | overloadRelease => exact act_keeps (exec_overloadRelease s) he h fun h => wf_limitOff _ _ h
  | limitOffExpiry =>
    exact act_keeps (exec_limitOffExpiry s) he h fun h => wf_when _ _ _ h fun _ h => wf_vauxOff _ _ h
  | limitRestartAttempt =>
    exact act_keeps (exec_limitRestartAttempt s) he h fun h => canonical_ite (wf_raise _ _ _ (wf_vauxOn _ h)) h
  | vauxStartRetry =>
    exact act_keeps (exec_vauxStartRetry s) he h fun h => canonical_ite (wf_vauxOff _ _ h) (wf_raise _ _ _ h)
  | thermalLimit => exact act_keeps (exec_thermalLimit s) he h fun h => wf_limitOn _ _ h
  | thermalShutdown =>
    exact act_keeps (exec_thermalShutdown s) he h fun h => wf_vauxOff _ _ (wf_safePath _ _ _ _ _ _ h)
  | thermalRelease =>
    exact act_keeps (exec_thermalRelease s) he h fun h => wf_when _ _ _ (wf_limitOff _ _ h) fun _ h => wf_vauxOn _ h
  | controlPairReset => exact act_keeps (exec_controlPairReset _ s) he h fun h => wf_pairReset _ _ h
  | codeRamEccError =>
    exact act_keeps (exec_codeRamEccError _ s) he h fun h => wf_when _ _ _ h fun _ h => wf_pairReset _ _ h
  | restartVerify => exact restartVerify_canonical h he
  | revertImagoEntry => exact revertImagoEntry_canonical h he
  | requestReceived => exact requestReceived_canonical h he
  | partialRequestTimeout =>
    exact act_keeps (exec_partialRequestTimeout s) he h fun h =>
      canonical_ite h (wf_incSat _ _ (wf_raise _ _ _ (wf_discardPartial _ h)))
  | commandTimeout =>
    exact act_keeps (exec_commandTimeout s) he h fun h =>
      wf_when _ _ _ h fun _ h => wf_incSat _ _ (wf_endExecuting _ _ h)
  | mbxWindowWrite =>
    exact act_keeps (exec_mbxWindowWrite _ _ s) he h fun h =>
      wf_when _ _ _ h fun _ h => canonical_ite (wf_twStart _ h) (wf_mailboxWrite _ _ _ (wf_passByte _ _ (wf_when _ _ _
        (wf_twStart _ h) fun _ h => wf_setF _ _ _ h)))
  | mbxWindowRead =>
    exact act_keeps (exec_mbxWindowRead s) he h fun h =>
      wf_when _ _ _ h fun _ h => wf_mailboxRead _ (wf_passByte _ _ (wf_twStart _ h))
  | nop r => exact cmdRun_canonical h (exec_nop r s) he (wf_cmdNop r)
  | identify r => exact cmdRun_canonical h (exec_identify r s) he (wf_cmdIdentify r)
  | abort r => exact cmdRun_canonical h (exec_abort r s) he (wf_cmdAbort r)
  | read r => exact cmdRun_canonical h (exec_read r s) he (wf_cmdRead r)
  | write r => exact cmdRun_canonical h (exec_write r s) he (wf_cmdWrite r)
  | modify r => exact cmdRun_canonical h (exec_modify r s) he (wf_cmdModify r)
  | imgBegin r =>
    exact act_keeps (exec_imgBegin r s) he h fun h =>
      wf_Cmd_runNoting _ _ _ _ h (wf_cmdImgBegin r) fun _ _ h => wf_noteImg _ _ _ h
  | imgWrite r =>
    exact act_keeps (exec_imgWrite r s) he h fun h =>
      wf_Cmd_runNoting _ _ _ _ h (wf_cmdImgWrite r) fun _ _ h => wf_noteImg _ _ _ h
  | imgVerify r =>
    exact act_keeps (exec_imgVerify r s) he h fun h =>
      wf_Cmd_runNoting _ _ _ _ h (wf_cmdImgVerify r) fun _ _ h => wf_noteVerify _ _ _ h
  | imgActivate r =>
    exact act_keeps (exec_imgActivate r s) he h fun h =>
      wf_Cmd_runNoting _ _ _ _ h (wf_cmdImgActivate r) fun _ _ h => wf_noteImg _ _ _ h
  | settingsWrite r => exact cmdRun_canonical h (exec_settingsWrite r s) he (wf_cmdSettingsWrite r)
  | settingsApply r =>
    exact act_keeps (exec_settingsApply r s) he h fun h =>
      wf_Cmd_runNoting _ _ _ _ h (wf_cmdSettingsApply r) fun _ _ h => wf_noteReject _ _ h
  | revert r =>
    exact act_keeps (exec_revert r s) he h fun h =>
      wf_Cmd_runNoting _ _ _ _ h (wf_cmdRevert r) fun _ _ h => wf_noteImg _ _ _ h
  | bootStatus r => exact cmdRun_canonical h (exec_bootStatus r s) he (wf_cmdBootStatus r)
  | setProfile r => exact cmdRun_canonical h (exec_setProfile r s) he (wf_cmdSetProfile r)
  | setRanges r => exact cmdRun_canonical h (exec_setRanges r s) he (wf_cmdSetRanges r)
  | arrayStatus r => exact cmdRun_canonical h (exec_arrayStatus r s) he (wf_cmdArrayStatus r)
  | setCalDelta r => exact cmdRun_canonical h (exec_setCalDelta r s) he (wf_cmdSetCalDelta r)
  | sentinelConfig r => exact cmdRun_canonical h (exec_sentinelConfig r s) he (wf_cmdSentinelConfig r)
  | selftest r => exact cmdRun_canonical h (exec_selftest r s) he (wf_cmdSelftest r)
  | reinstate r => exact cmdRun_canonical h (exec_reinstate r s) he (wf_cmdReinstate r)
  | triadRead r => exact cmdRun_canonical h (exec_triadRead r s) he (wf_cmdTriadRead r)
  | setPreset r => exact cmdRun_canonical h (exec_setPreset r s) he (wf_cmdSetPreset r)
  | coeffWrite r => exact cmdRun_canonical h (exec_coeffWrite r s) he (wf_cmdCoeffWrite r)
  | coeffCommit r => exact cmdRun_canonical h (exec_coeffCommit r s) he (wf_cmdCoeffCommit r)
  | bankSelect r => exact cmdRun_canonical h (exec_bankSelect r s) he (wf_cmdBankSelect r)
  | decimSync r => exact cmdRun_canonical h (exec_decimSync r s) he (wf_cmdDecimSync r)
  | notchConfig r => exact cmdRun_canonical h (exec_notchConfig r s) he (wf_cmdNotchConfig r)
  | emLoad r => exact cmdRun_canonical h (exec_emLoad r s) he (wf_cmdEmLoad r)
  | emConfig r => exact cmdRun_canonical h (exec_emConfig r s) he (wf_cmdEmConfig r)
  | emStart r => exact cmdRun_canonical h (exec_emStart r s) he (wf_cmdEmStart r)
  | emStop r => exact cmdRun_canonical h (exec_emStop r s) he (wf_cmdEmStop r)
  | emParam r => exact cmdRun_canonical h (exec_emParam r s) he (wf_cmdEmParam r)
  | emReadState r => exact cmdRun_canonical h (exec_emReadState r s) he (wf_cmdEmReadState r)
  | emCrc r => exact cmdRun_canonical h (exec_emCrc r s) he (wf_cmdEmCrc r)
  | recEnable r => exact cmdRun_canonical h (exec_recEnable r s) he (wf_cmdRecEnable r)
  | recConfig r => exact cmdRun_canonical h (exec_recConfig r s) he (wf_cmdRecConfig r)
  | recWheel r => exact cmdRun_canonical h (exec_recWheel r s) he (wf_cmdRecWheel r)
  | recClear r => exact cmdRun_canonical h (exec_recClear r s) he (wf_cmdRecClear r)
  | recRead r => exact cmdRun_canonical h (exec_recRead r s) he (wf_cmdRecRead r)
  | safeArm r =>
    refine act_keeps (exec_safeArm r s) he h fun h => wf_Cmd_run _ _ _ ?_ (wf_cmdSafeArm r)
    split
    · exact wf_safeRefuse _ _ _ h
    · exact h
  | safeHeartbeat r => exact act_keeps (exec_safeHeartbeat r s) he h fun h => wf_heartbeatCommand _ _ h
  | safeDisarm r => exact cmdRun_canonical h (exec_safeDisarm r s) he (wf_cmdSafeDisarm r)
  | safeFaultClear r => exact cmdRun_canonical h (exec_safeFaultClear r s) he (wf_cmdSafeFaultClear r)
  | safeConfig r =>
    refine act_keeps (exec_safeConfig r s) he h fun h => wf_Cmd_run _ _ _ ?_ (wf_cmdSafeConfig r)
    split
    · exact wf_safeRefuse _ _ _ h
    · exact h
  | safeStatus r => exact cmdRun_canonical h (exec_safeStatus r s) he (wf_cmdSafeStatus r)
  | queueRead r => exact cmdRun_canonical h (exec_queueRead r s) he (wf_cmdQueueRead r)
  | queueFlush r => exact cmdRun_canonical h (exec_queueFlush r s) he (wf_cmdQueueFlush r)
  | queueConfig r => exact cmdRun_canonical h (exec_queueConfig r s) he (wf_cmdQueueConfig r)
  | ringConfig r => exact cmdRun_canonical h (exec_ringConfig r s) he (wf_cmdRingConfig r)
  | ringTrigger r =>
    exact act_keeps (exec_ringTrigger r s) he h fun h =>
      wf_Cmd_run _ _ _ (wf_when _ _ _ h fun _ h => wf_incSat _ _ h) (wf_cmdRingTrigger r)
  | ringRead r => exact cmdRun_canonical h (exec_ringRead r s) he (wf_cmdRingRead r)
  | ringRelease r => exact cmdRun_canonical h (exec_ringRelease r s) he (wf_cmdRingRelease r)
  | powerVote r => exact cmdRun_canonical h (exec_powerVote r s) he (wf_cmdPowerVote r)
  | nightConfig r => exact cmdRun_canonical h (exec_nightConfig r s) he (wf_cmdNightConfig r)
  | powerStatus r => exact cmdRun_canonical h (exec_powerStatus r s) he (wf_cmdPowerStatus r)
  | convConfig r => exact cmdRun_canonical h (exec_convConfig r s) he (wf_cmdConvConfig r)
  | convStatus r => exact cmdRun_canonical h (exec_convStatus r s) he (wf_cmdConvStatus r)
  | timeGet r =>
    exact act_keeps (exec_timeGet r s) he h fun h =>
      wf_when _ _ _ (wf_Cmd_run _ _ _ h (wf_cmdTimeGet r)) fun _ h => wf_putLink _ _ h
  | timeSet r => exact cmdRun_canonical h (exec_timeSet r s) he (wf_cmdTimeSet r)
  | timeAdjust r => exact cmdRun_canonical h (exec_timeAdjust r s) he (wf_cmdTimeAdjust r)
  | timeConfig r => exact cmdRun_canonical h (exec_timeConfig r s) he (wf_cmdTimeConfig r)
  | tsRead r => exact cmdRun_canonical h (exec_tsRead r s) he (wf_cmdTsRead r)
  | pairConfig r => exact cmdRun_canonical h (exec_pairConfig r s) he (wf_cmdPairConfig r)
  | pairJoin r => exact cmdRun_canonical h (exec_pairJoin r s) he (wf_cmdPairJoin r)
  | pairLeave r => exact cmdRun_canonical h (exec_pairLeave r s) he (wf_cmdPairLeave r)
  | pairStatus r => exact cmdRun_canonical h (exec_pairStatus r s) he (wf_cmdPairStatus r)
  | pioLoad r => exact cmdRun_canonical h (exec_pioLoad r s) he (wf_cmdPioLoad r)
  | pioStart r => exact cmdRun_canonical h (exec_pioStart r s) he (wf_cmdPioStart r)
  | pioStop r => exact cmdRun_canonical h (exec_pioStop r s) he (wf_cmdPioStop r)
  | pioInject r => exact cmdRun_canonical h (exec_pioInject r s) he (wf_cmdPioInject r)
  | pioConfig r => exact cmdRun_canonical h (exec_pioConfig r s) he (wf_cmdPioConfig r)
  | pioStatus r => exact cmdRun_canonical h (exec_pioStatus r s) he (wf_cmdPioStatus r)
  | hkSequence r => exact cmdRun_canonical h (exec_hkSequence r s) he (wf_cmdHkSequence r)
  | hkWindow r => exact cmdRun_canonical h (exec_hkWindow r s) he (wf_cmdHkWindow r)
  | hkRead r => exact cmdRun_canonical h (exec_hkRead r s) he (wf_cmdHkRead r)
  | hkStatus r => exact cmdRun_canonical h (exec_hkStatus r s) he (wf_cmdHkStatus r)
  | t1sPlcaWrite =>
    exact act_keeps (exec_t1sPlcaWrite _ s) he h fun h => wf_when _ _ _ h fun _ h => wf_writePlca _ _ h
  | intDoorbell =>
    exact act_keeps (exec_intDoorbell _ _ s) he h fun h =>
      wf_when _ _ _ h fun _ h => wf_byBus _ _ _ _ h fun _ h => wf_doorbell _ _ h
  | intHostClaim =>
    exact act_keeps (exec_intHostClaim _ s) he h fun h =>
      wf_when _ _ _ h fun _ h => wf_busRead _ _ _ (wf_outWord _ _ (wf_claim _ _ h))
  | intCpClaim => exact act_keeps (exec_intCpClaim s) he h fun h => wf_when _ _ _ h fun _ h => wf_claim _ _ h
  | intHostComplete =>
    exact act_keeps (exec_intHostComplete _ _ s) he h fun h =>
      wf_when _ _ _ h fun _ h => wf_byBus _ _ _ _ h fun _ h => wf_complete _ _ _ h
  | intCpComplete =>
    exact act_keeps (exec_intCpComplete _ s) he h fun h => wf_when _ _ _ h fun _ h => wf_complete _ _ _ h
  | intHostSet =>
    exact act_keeps (exec_intHostSet _ _ s) he h fun h =>
      wf_when _ _ _ h fun _ h => wf_byBus _ _ _ _ h fun _ h => wf_hostSet _ _ h
  | intHostEnWrite =>
    exact act_keeps (exec_intHostEnWrite _ _ _ s) he h fun h =>
      wf_when _ _ _ h fun _ h => wf_byBus _ _ _ _ h fun _ h => wf_hostEnWrite _ _ _ h
  | queueWindowRead =>
    exact act_keeps (exec_queueWindowRead s) he h fun h =>
      wf_when _ _ _ h fun _ h => wf_queueByte _ (wf_passByte _ _ (wf_twStart _ h))
  | driveLock =>
    exact act_keeps (exec_driveLock _ s) he h fun h =>
      canonical_ite h (wf_settleAtLock _ (wf_syncDriveFault _ (wf_setTriad _ _ _ (wf_setLock _ _ _ h))))
  | driveFault =>
    exact act_keeps (exec_driveFault _ s) he h fun h =>
      canonical_ite h (wf_settleAtLock _ (wf_raise _ _ _ (wf_syncDriveFault _ (wf_setTriad _ _ _ (wf_setLock _ _ _
        h)))))
  | tempModelUpdate => exact act_keeps (exec_tempModelUpdate s) he h fun h => wf_putArray _ _ h
  | dieTempStale =>
    exact act_keeps (exec_dieTempStale _ s) he h fun h =>
      canonical_ite (wf_putArray _ _ h) (wf_when _ _ _ (wf_syncUncomp _ (wf_putArray _ _ h)) fun _ h => wf_raise _ _ _
        h)
  | selftestTriadDone => exact act_keeps (exec_selftestTriadDone _ _ s) he h fun h => wf_finishTest _ _ _ h
  | profileBoundary => exact profileBoundary_canonical h he
  | triadJoin =>
    exact act_keeps (exec_triadJoin _ _ s) he h fun h =>
      canonical_ite (canonical_ite (canonical_ite (wf_profileDone _ (wf_hold _ _ _ _ (wf_putArray _ _ (wf_setTriad _ _
        _ h)))) (wf_putArray _ _ (wf_setTriad _ _ _ h))) (wf_setTriad _ _ _ h)) h
  | sentinelSample =>
    exact act_keeps (exec_sentinelSample _ _ _ _ s) he h fun h =>
      wf_when _ _ _ (wf_putEng _ _ (wf_sentinelFilter _ _ (wf_setF _ _ _ (wf_setF _ _ _ (wf_setF _ _ _ (wf_setF _ _ _
        h)))))) fun _ h => wf_theftNight _ _ h
  | sentinelWake => exact act_keeps (exec_sentinelWake s) he h fun h => wf_when _ _ _ h fun _ h => wf_wake _ _ _ h
  | quorumRestored =>
    exact act_keeps (exec_quorumRestored s) he h fun h =>
      canonical_ite h (wf_raise _ _ _ (wf_hold _ _ _ _ (wf_syncVoteStatus _ (wf_putArray _ _ h))))
  | suspectEntry =>
    exact act_keeps (exec_suspectEntry _ s) he h fun h =>
      canonical_ite (wf_raise _ _ _ (wf_triadHealth _ _ _ _ _ _ (wf_putArray _ _ (wf_setTriad _ _ _ h)))) h
  | suspectClear =>
    exact act_keeps (exec_suspectClear _ s) he h fun h =>
      canonical_ite (wf_incSat _ _ (wf_setTriad _ _ _ (wf_raise _ _ _ (wf_triadHealth _ _ _ _ _ _ h)))) h
  | retirementRequest =>
    exact act_keeps (exec_retirementRequest _ s) he h fun h => canonical_ite (wf_putArray _ _ h) h
  | retirementDecision => exact retirementDecision_canonical h he
  | retirementApply =>
    exact act_keeps (exec_retirementApply _ s) he h fun h =>
      wf_each _ (fun _ _ h => wf_applyRetire _ _ _ h) _ _ (wf_putArray _ _ (wf_each _ (fun _ _ h => wf_applyDie _ _ _
        h) _ _ (wf_putArray _ _ h)))
  | lateStage => exact act_keeps (exec_lateStage _ _ s) he h fun h => wf_lateStage _ _ _ h
  | arbitrationWaitExceeded => exact arbitrationWaitExceeded_canonical h he
  | presetApply => exact presetApply_canonical h he
  | presetChangeComplete => exact presetChangeComplete_canonical h he
  | bankSwapApply => exact bankSwapApply_canonical h he
  | notchPeriodWord => exact act_keeps (exec_notchPeriodWord _ _ s) he h fun h => wf_notchPeriod _ _ _ h
  | notchSetChange => exact notchSetChange_canonical h he
  | tachLost =>
    exact act_keeps (exec_tachLost s) he h fun h => wf_raise _ _ _ (wf_putFilt _ _ (wf_setF _ _ _ (wf_setF _ _ _ h)))
  | syncEdge =>
    exact act_keeps (exec_syncEdge _ _ s) he h fun h =>
      canonical_ite (canonical_ite (wf_edgeIgnored _ h) (canonical_ite (wf_decimResetAlone _ _ (canonical_ite (wf_setF
        _ _ _ h) (wf_setF _ _ _ (wf_setF _ _ _ h)))) (wf_decimReset _ _ (wf_setF _ _ _ h)))) h
  | decimSyncApply => exact decimSyncApply_canonical h he
  | committedSampleArrival => exact committedSampleArrival_canonical h he
  | replayRun =>
    exact act_keeps (exec_replayRun _ s) he h fun h => wf_openNext _ _ (wf_endOpen _ _ (wf_finishAllDue _ h))
  | tickCommit =>
    exact act_keeps (exec_tickCommit _ s) he h fun h =>
      wf_pruneTicks _ (wf_commitHeld _ _ (wf_dawnTime _ _ (canonical_ite (wf_voidWhere _ _ (wf_forUpTo _ (fun _ _ h =>
        wf_catchUp _ _ _ _ h) _ _ (wf_finishAllDue _ h))) (wf_forUpTo _ (fun _ _ h => wf_catchUp _ _ _ _ h) _ _
        (wf_finishAllDue _ h)))))
  | specRejoin =>
    exact act_keeps (exec_specRejoin _ s) he h fun h =>
      canonical_ite (wf_openNext _ _ (wf_hold _ _ _ _ (wf_incSat _ _ (wf_emBit _ _ _ _ (wf_setMach _ _ _ (wf_endOpen _
        _ h)))))) (wf_endOpen _ _ h)
  | emParamApply => exact act_keeps (exec_emParamApply _ s) he h fun h => wf_applyParams _ _ h
  | recConfigApply => exact act_keeps (exec_recConfigApply _ s) he h fun h => wf_applyCfg _ _ h
  | recDeclare => exact recDeclare_canonical h he
  | recRelease => exact recRelease_canonical h he
  | theftReference => exact act_keeps (exec_theftReference s) he h fun h => canonical_ite (wf_putEng _ _ h) h
  | heartbeatTimeout =>
    exact act_keeps (exec_heartbeatTimeout s) he h fun h => wf_when _ _ _ h fun _ h => wf_safePath _ _ _ _ _ _ h
  | safeBClose =>
    exact act_keeps (exec_safeBClose _ s) he h fun h =>
      canonical_ite (canonical_ite (wf_commitOne _ _ (wf_raise _ _ _ (wf_setF _ _ _ h))) (wf_safePath _ _ _ _ _ _ h))
        h
  | readbackFault => exact act_keeps (exec_readbackFault _ s) he h fun h => wf_safePath _ _ _ _ _ _ h
  | stateExchange => exact act_keeps (exec_stateExchange s) he h fun h => h
  | monitorDisagree => exact act_keeps (exec_monitorDisagree s) he h fun h => wf_safePath _ _ _ _ _ _ h
  | safeBDischargeEnd => exact act_keeps (exec_safeBDischargeEnd s) he h fun h => h
  | overflowGap => exact overflowGap_canonical h he
  | queueEccError => exact queueEccError_canonical h he
  | ringCaptureEnd =>
    exact act_keeps (exec_ringCaptureEnd s) he h fun h => wf_when _ _ _ h fun _ h => wf_captureEnd _ h
  | ringPointerMismatch =>
    exact act_keeps (exec_ringPointerMismatch _ s) he h fun h =>
      canonical_ite h (canonical_ite (wf_incSat _ _ h) (wf_commitOne _ _ (wf_raise _ _ _ (wf_incSat _ _ (wf_ringEmpty
        _ h)))))
  | timeSecondRecord =>
    exact act_keeps (exec_timeSecondRecord s) he h fun h =>
      canonical_ite (canonical_ite (wf_commitOne _ _ h) (wf_ringOnly _ _ h)) h
  | housekeepingRecord =>
    exact act_keeps (exec_housekeepingRecord s) he h fun h => canonical_ite (wf_commitOne _ _ h) h
  | streamFrameAge => exact act_keeps (exec_streamFrameAge s) he h fun h => canonical_ite (wf_putT1s _ _ h) h
  | corruptedFrame =>
    exact act_keeps (exec_corruptedFrame _ s) he h fun h =>
      wf_when _ _ _ h fun _ h => wf_raise _ _ _ (wf_incSat _ _ h)
  | beaconReceived =>
    exact act_keeps (exec_beaconReceived s) he h fun h =>
      wf_when _ _ _ h fun _ h => wf_when _ _ _ (wf_plcaApply _ h) fun _ h => wf_plcaInStep _ h
  | beaconLoss =>
    exact act_keeps (exec_beaconLoss s) he h fun h =>
      canonical_ite (wf_raise _ _ _ (wf_setF _ _ _ (wf_setF _ _ _ h))) h
  | transmitOpportunity => exact transmitOpportunity_canonical h he
  | syncFollowUp =>
    exact act_keeps (exec_syncFollowUp _ _ _ s) he h fun h =>
      canonical_ite (wf_when _ _ _ h fun _ h => wf_incSat _ _ h) (canonical_ite (wf_measure _ _ h) h)
  | pdelayReq => exact act_keeps (exec_pdelayReq _ _ s) he h fun h => wf_when _ _ _ h fun _ h => wf_sendFrame _ _ h
  | pdelayResp => exact pdelayResp_canonical h he
  | servoHoldover =>
    exact act_keeps (exec_servoHoldover s) he h fun h => wf_when _ _ _ h fun _ h => wf_setServo _ _ (wf_putTime _ _ h)
  | timeStepApply =>
    exact act_keeps (exec_timeStepApply s) he h fun h =>
      canonical_ite (wf_mappingChanged _ (wf_commitOne _ _ (wf_applyRate _ (wf_applySet _ (wf_applyDelta _ h))))) h
  | txTimestamp => exact txTimestamp_canonical h he
  | hostTsExpiry => exact hostTsExpiry_canonical h he
  | aonCalibration =>
    exact act_keeps (exec_aonCalibration _ s) he h fun h => wf_when _ _ _ h fun _ h => wf_setReg _ _ _ h
  | pairMasterSync =>
    exact act_keeps (exec_pairMasterSync s) he h fun h =>
      canonical_ite (wf_sendFrame _ _ (wf_sendFrame _ _ (wf_putTime _ _ h))) h
  | twPageSelect =>
    exact act_keeps (exec_twPageSelect _ s) he h fun h =>
      wf_when _ _ _ h fun _ h => canonical_ite (wf_twStart _ h) (wf_selectPage _ _ (wf_twStart _ h))
  | twStop =>
    exact act_keeps (exec_twStop _ _ s) he h fun h =>
      wf_when _ _ _ h fun _ h => wf_twIdle _ (canonical_ite (wf_stopPec _ _ _ (wf_twStart _ h)) (canonical_ite
        (wf_twStart _ h) (wf_partialWord _ (wf_twStart _ h))))
  | twBusTimeout =>
    exact act_keeps (exec_twBusTimeout _ _ s) he h fun h =>
      wf_when _ _ _ h fun _ h => wf_setF _ _ _ (wf_each _ (fun _ _ h => wf_when _ _ _ h fun _ h => wf_xingReset _ _ h)
        _ _ (wf_when _ _ _ (wf_raise _ _ _ (wf_incSat _ _ h)) fun _ h => wf_partialWord _ h))
  | twStuckLine =>
    exact act_keeps (exec_twStuckLine _ s) he h fun h =>
      wf_when _ _ _ h fun _ h => wf_raise _ _ _ (wf_incSat _ _ (wf_setF _ _ _ h))
  | alertResponse =>
    exact act_keeps (exec_alertResponse _ s) he h fun h =>
      canonical_ite h (canonical_ite (wf_outByte _ _ (wf_incSat _ _ (wf_twStart _ h))) (wf_twStart _ h))
  | alertRepeat => exact act_keeps (exec_alertRepeat s) he h fun h => canonical_ite h h
  | nightAddressMatch =>
    exact act_keeps (exec_nightAddressMatch s) he h fun h => wf_when _ _ _ h fun _ h => wf_twStart _ (wf_wake _ _ _ h)
  | joinReqReceived => exact joinReqReceived_canonical h he
  | joinAckReceived =>
    exact act_keeps (exec_joinAckReceived _ _ s) he h fun h =>
      wf_when _ _ _ h fun _ h => wf_learnPartner _ _ (wf_putPair _ _ h)
  | joinNakReceived =>
    exact act_keeps (exec_joinNakReceived _ _ s) he h fun h => wf_when _ _ _ h fun _ h => wf_failJoin _ _ h
  | joinAckDeadline =>
    exact act_keeps (exec_joinAckDeadline s) he h fun h =>
      canonical_ite (canonical_ite (wf_failJoin _ _ h) (wf_sendJoinReq _ (wf_putBoundary _ _ (wf_putPair _ _ h)))) h
  | pairBoundary =>
    exact act_keeps (exec_pairBoundary _ s) he h fun h =>
      canonical_ite (canonical_ite (wf_failJoin _ _ h) (wf_hold _ _ _ _ (wf_raise _ _ _ (wf_when _ _ _ (wf_incSat _ _
        (wf_setF _ _ _ h)) fun _ h => wf_setReg _ _ _ h)))) h
  | autoJoin => exact autoJoin_canonical h he
  | syncPulse =>
    exact act_keeps (exec_syncPulse s) he h fun h => canonical_ite (wf_sendPair _ _ _ _ (wf_putPair _ _ h)) h
  | beatReceived =>
    exact act_keeps (exec_beatReceived _ _ s) he h fun h =>
      wf_when _ _ _ h fun _ h => wf_when _ _ _ (wf_putPair _ _ h) fun _ h => wf_setF _ _ _ h
  | ptpOnlyReset => exact ptpOnlyReset_canonical h he
  | syncLost =>
    exact act_keeps (exec_syncLost s) he h fun h => canonical_ite (wf_raise _ _ _ (wf_setF _ _ _ (wf_setF _ _ _ h))) h
  | beatMissed => exact act_keeps (exec_beatMissed s) he h fun h => wf_when _ _ _ h fun _ h => wf_partnerLeave _ h
  | leaveReceived =>
    exact act_keeps (exec_leaveReceived _ s) he h fun h => wf_when _ _ _ h fun _ h => wf_partnerLeave _ h
  | contributionReceived =>
    exact act_keeps (exec_contributionReceived _ _ s) he h fun h =>
      canonical_ite (wf_each _ (fun _ _ h => canonical_ite (wf_takeContrib _ _ h) h) _ _ h) h
  | fusionWaitExpiry => exact fusionWaitExpiry_canonical h he
  | duskBegin => exact duskBegin_canonical h he
  | nightEntry => exact nightEntry_canonical h he
  | wakePioLevel => exact act_keeps (exec_wakePioLevel _ s) he h fun h => wf_when _ _ _ h fun _ h => wf_wake _ _ _ h
  | wakePioEdge => exact act_keeps (exec_wakePioEdge _ _ s) he h fun h => wf_when _ _ _ h fun _ h => wf_wake _ _ _ h
  | nightTimerExpiry =>
    exact act_keeps (exec_nightTimerExpiry s) he h fun h => wf_when _ _ _ h fun _ h => wf_wake _ _ _ h
  | dawnRegulatorReady => exact act_keeps (exec_dawnRegulatorReady s) he h fun h => h
  | dawnOscillatorReady => exact act_keeps (exec_dawnOscillatorReady s) he h fun h => h
  | dawnMemoryReady =>
    exact act_keeps (exec_dawnMemoryReady _ s) he h fun h =>
      canonical_ite h (canonical_ite (wf_setF _ _ _ h) (wf_cocoonLost _ h))
  | dawnComplete =>
    exact act_keeps (exec_dawnComplete _ _ _ s) he h fun h =>
      canonical_ite h (canonical_ite (wf_restartLarva _ _ (wf_holdPins _ _ (wf_clearCp _ (wf_raise _ _ _ (wf_rearm _
        (wf_resumeTime _ _ _ _ _ (wf_putTime _ _ (wf_resampleAll _ (wf_restoreSelections _ (wf_ringAtDawn _
        (wf_putPins _ _ (wf_forUpTo _ (fun _ _ h => wf_when _ _ _ h fun _ h => wf_xingReset _ _ h) _ _ (wf_setReg _ _
        _ (wf_incSat _ _ (wf_setF _ _ _ (wf_setF _ _ _ (wf_setF _ _ _ h))))))))))))))))) (wf_dawnImago _ (wf_raise _ _
        _ (wf_rearm _ (wf_resumeTime _ _ _ _ _ (wf_putTime _ _ (wf_resampleAll _ (wf_restoreSelections _
        (wf_ringAtDawn _ (wf_putPins _ _ (wf_forUpTo _ (fun _ _ h => wf_when _ _ _ h fun _ h => wf_xingReset _ _ h) _
        _ (wf_setReg _ _ _ (wf_incSat _ _ (wf_setF _ _ _ (wf_setF _ _ _ (wf_setF _ _ _ h))))))))))))))))
  | hkPass =>
    exact act_keeps (exec_hkPass s) he h fun h =>
      wf_syncSlices _ (wf_putHk _ _ (wf_each _ (fun _ _ h => wf_restartWindow _ _ h) _ _ h))
  | hkConversionDone =>
    exact act_keeps (exec_hkConversionDone _ _ _ s) he h fun h =>
      canonical_ite h (wf_publish _ _ _ (wf_maxF _ _ _ (wf_setF _ _ _ (wf_when _ _ _ (wf_putHk _ _ h) fun _ h =>
        wf_raise _ _ _ h))))
  | sliceCalibration => exact sliceCalibration_canonical h he
  | sliceSwap => exact sliceSwap_canonical h he
  | legacyActionFire =>
    exact act_keeps (exec_legacyActionFire _ s) he h fun h => canonical_ite (wf_legacyFire _ _ (wf_setPio _ _ _ h)) h
  | twPointerSet =>
    exact act_keeps (exec_twPointerSet _ s) he h fun h =>
      wf_when _ _ _ h fun _ h => canonical_ite (wf_twStart _ h) (wf_setF _ _ _ (wf_twStart _ h))
  | repeatedStart =>
    exact act_keeps (exec_repeatedStart _ s) he h fun h =>
      wf_when _ _ _ h fun _ h => canonical_ite (wf_applySegment _ _ (wf_twStart _ h)) (canonical_ite (wf_twStart _ h)
        (wf_partialWord _ (wf_twStart _ h)))
  | twStuckLineClear => exact act_keeps (exec_twStuckLineClear _ s) he h fun h => wf_setF _ _ _ h
  | phaseShedding => exact phaseShedding_canonical h he
  | beaconTransmit =>
    exact act_keeps (exec_beaconTransmit s) he h fun h =>
      canonical_ite (wf_plcaApply _ (wf_setF _ _ _ (wf_plcaInStep _ h))) h
  | pdelayReqTransmit =>
    exact act_keeps (exec_pdelayReqTransmit s) he h fun h =>
      wf_when _ _ _ h fun _ h => wf_sendFrame _ _ (wf_putTime _ _ h)

/-- Settles O3: after power-up no register and no latched word differs from its reset word. -/
theorem resetIsCanonical : Obligations.ResetIsCanonical := canonical_of_empty rfl rfl

/-- A step is a command of the queue or of the executing place, or a base tick (R36, R254): what each of them keeps, a
step keeps. -/
theorem step_keeps {P : State → Prop}
    (hrest : ∀ {s : State} {rest : List Instr}, P s → P { s with pending := rest })
    (hexec : ∀ (c : Instr) {s t : State}, P s → exec c s = .next t → P t)
    (htick : ∀ s : State, P s → P s.baseTick) {s t : State} (h : P s) (he : step s = .next t) : P t := by
  unfold step at he
  split at he
  · exact hexec _ (hrest h) he
  · split at he
    · exact hexec _ h he
    · rw [← Host.Outcome.next.inj he]
      exact htick s h

/-- Settles O4, by the commands and the operations they are made of. -/
theorem stepKeepsCanonical : Obligations.StepKeepsCanonical := fun _ _ h he =>
  step_keeps (P := State.Canonical) id exec_canonical wf_baseTick h he

end Sys2Proof.Machine

namespace Sys2Proof.Machine

/-! ### Every operation keeps the number of the parts

Each of these short proofs waits for those it cites: they are elaborated one after the other, for in parallel every one
that waits would hold a thread. -/

set_option Elab.async false

theorem State.Shaped.ite {c : Prop} [Decidable c] {a b : State} (ha : a.Shaped) (hb : b.Shaped) :
    (if c then a else b).Shaped := by
  split
  · exact ha
  · exact hb

theorem State.Shaped.fst_ite {α : Type} {c : Prop} [Decidable c] {a b : State × α} (ha : a.1.Shaped)
    (hb : b.1.Shaped) : (if c then a else b).1.Shaped := by
  split
  · exact ha
  · exact hb

/-- An update of anything but the five parts that hold the counted lists. -/
theorem State.Shaped.same {s : State} {regs latch : RegFile} {aon rearmed : Bool} {tick time free : Nat}
    {queue : QueuePart} {ring : RingPart} {link : LinkPart} {boot : BootPart} {committed fast : Option Fused}
    {commMem fastMem : Option PathMem} {held : List HeldRec} {safety : SafetyPart} {pins : PinPart} {mtime : TimePart}
    {t1s : T1sPart} {pair : PairPart} {tw : TwPart} {power : PowerPart} {entry : EntryPart} {xing : List Word}
    {busOut : Word} {pending : List Instr} (h : s.Shaped) :
    ({ s with
      regs := regs, latch := latch, aon := aon, tick := tick, time := time, queue := queue, ring := ring, link := link
      boot := boot, committed := committed, fast := fast, commMem := commMem, fastMem := fastMem, held := held
      safety := safety, pins := pins, rearmed := rearmed, mtime := mtime, t1s := t1s, pair := pair, tw := tw
      power := power, entry := entry, xing := xing, busOut := busOut, free := free, pending := pending } :
      State).Shaped :=
  h

theorem State.Shaped.triads_length {s : State} (h : s.Shaped) : s.array.triads.length = 72 := h.1

theorem State.Shaped.chans_length {s : State} (h : s.Shaped) : s.array.chans.length = 216 := h.2.1

theorem State.Shaped.axes_length {s : State} (h : s.Shaped) : s.array.axes.length = 6 := h.2.2.1

theorem State.Shaped.ticks_done {s : State} (h : s.Shaped) : ∀ e ∈ s.eng.ticks, e.done.length = 9 :=
  h.2.2.2.2.2.2.2.2

theorem keepTheft_length {α : Type} {old : List α} {x : α} : (keepTheft old x).length = 9 := by
  simp [keepTheft]

theorem mem_insertTick {e x : EngTick} {xs : List EngTick} (hx : x ∈ insertTick e xs) : x = e ∨ x ∈ xs := by
  induction xs with
  | nil => exact .inl (List.mem_singleton.mp hx)
  | cons y ys ih =>
    unfold insertTick at hx
    split at hx
    · exact List.mem_cons.mp hx
    · rcases List.mem_cons.mp hx with rfl | hx
      · exact .inr List.mem_cons_self
      · exact (ih hx).imp_right (List.mem_cons_of_mem y)

theorem State.Shaped.when {s : State} {b : Bool} {f : State → State} (h : s.Shaped)
    (hf : ∀ {t : State}, t.Shaped → (f t).Shaped) : (s.when b f).Shaped := by
  unfold State.when
  exact .ite (hf h) h

theorem State.Shaped.setReg {s : State} {a : Nat} {w : Word} (h : s.Shaped) : (s.setReg a w).Shaped := h

theorem State.Shaped.setF {s : State} {f : Fld} {v : Nat} (h : s.Shaped) : (s.setF f v).Shaped := .setReg h

theorem State.Shaped.addSat {s : State} {f : Fld} {n : Nat} (h : s.Shaped) : (s.addSat f n).Shaped := .setF h

theorem State.Shaped.incSat {s : State} {f : Fld} (h : s.Shaped) : (s.incSat f).Shaped := .addSat h

theorem State.Shaped.maxF {s : State} {f : Fld} {v : Nat} (h : s.Shaped) : (s.maxF f v).Shaped := .setF h

theorem State.Shaped.alertAgain {s : State} {t : Target} (h : s.Shaped) : (s.alertAgain t).Shaped := by
  unfold State.alertAgain
  split
  · exact h
  · exact h

theorem State.Shaped.postTo {s : State} {t : Target} {n : Nat} (h : s.Shaped) : (s.postTo t n).Shaped :=
  .ite h (.ite (.incSat h) (.alertAgain (.setF h)))

theorem State.Shaped.post {s : State} {n : Nat} (h : s.Shaped) : (s.post n).Shaped :=
  .when h fun h => .postTo (.postTo h)

theorem State.Shaped.raise {s : State} {a k : Nat} (h : s.Shaped) : (s.raise a k).Shaped := .post (.setF h)

theorem State.Shaped.claim {s : State} {t : Target} (h : s.Shaped) : (s.claim t).Shaped := by
  unfold State.claim
  split
  · exact .setF (.setF h)
  · exact h

theorem State.Shaped.resample {s : State} {t : Target} {n : Nat} (h : s.Shaped) : (s.resample t n).Shaped :=
  .ite (.postTo h) h

theorem State.Shaped.complete {s : State} {t : Target} {n : Nat} (h : s.Shaped) : (s.complete t n).Shaped :=
  .ite (.resample (.setF h)) (.incSat h)

theorem State.Shaped.setEnable {s : State} {t : Target} {n v : Nat} (h : s.Shaped) : (s.setEnable t n v).Shaped :=
  .ite (.setF (.setF h)) (.ite (.resample (.setF h)) (.setF h))

theorem State.Shaped.forUpTo {s : State} {f : Nat → State → State} {n : Nat} (h : s.Shaped)
    (hf : ∀ {k : Nat} {t : State}, t.Shaped → (f k t).Shaped) : (s.forUpTo f n).Shaped := by
  induction n with
  | zero => exact h
  | succ n ih => exact hf ih

theorem State.Shaped.each {s : State} {α : Type} {f : α → State → State} {xs : List α} (h : s.Shaped)
    (hf : ∀ {x : α} {t : State}, t.Shaped → (f x t).Shaped) : (s.each f xs).Shaped := by
  induction xs generalizing s with
  | nil => exact h
  | cons x xs ih => exact ih (hf h)

theorem State.Shaped.draw {s : State} (h : s.Shaped) : s.draw.Shaped := h

theorem State.Shaped.watermark {s : State} (h : s.Shaped) : s.watermark.Shaped := .ite (.raise h) h

theorem State.Shaped.enqueue {s : State} {r : Rec} (h : s.Shaped) : (s.enqueue r).Shaped := h

theorem State.Shaped.skipSeq {s : State} {n : Nat} (h : s.Shaped) : (s.skipSeq n).Shaped := h

theorem State.Shaped.dropRecs {s : State} {cause : Nat} {rs : List Rec} (h : s.Shaped) : (s.dropRecs cause rs).Shaped
    :=
  .raise (.addSat h)

theorem State.Shaped.trimCapture {s : State} (h : s.Shaped) : s.trimCapture.Shaped := .ite (.setF (.setF h)) h

theorem State.Shaped.ringStore {s : State} {r : Rec} {seq : Nat} (h : s.Shaped) : (s.ringStore r seq).Shaped :=
  .ite (.ite (.raise (.setF h)) (.trimCapture h)) h

theorem State.Shaped.ringEmpty {s : State} (h : s.Shaped) : s.ringEmpty.Shaped := .setF (.setF (.setF h))

theorem State.Shaped.ringConfigPoint {s : State} (h : s.Shaped) : s.ringConfigPoint.Shaped := .ite h (.ringEmpty h)

theorem State.Shaped.commitRec {s : State} {r : Rec} (h : s.Shaped) : (s.commitRec r).Shaped :=
  .ringStore (.enqueue h)

theorem State.Shaped.commitDropped {s : State} {r : Rec} (h : s.Shaped) : (s.commitDropped r).Shaped :=
  .ringStore (.skipSeq h)

theorem State.Shaped.commitAll {s : State} {recs : List Rec} (h : s.Shaped) : (s.commitAll recs).Shaped := by
  unfold State.commitAll
  split
  · exact h
  · split
    · exact .ringConfigPoint h
    · dsimp only
      split
      · exact .ite (.watermark (.each (.ringConfigPoint h) .commitRec)) (.dropRecs (.each (.ringConfigPoint h)
          .commitDropped))
      · exact .ite (.watermark (.each (.commitRec (.same (.ringConfigPoint h))) .commitRec)) (.dropRecs (.each
          (.ringConfigPoint h) .commitDropped))

theorem State.Shaped.commitOne {s : State} {r : Rec} (h : s.Shaped) : (s.commitOne r).Shaped := .commitAll h

theorem State.Shaped.flushVisible {s : State} (h : s.Shaped) : s.flushVisible.Shaped := h

theorem State.Shaped.queueFlush {s : State} (h : s.Shaped) : s.queueFlush.Shaped := by
  unfold State.queueFlush
  dsimp only
  split
  · exact .commitRec (.same (.flushVisible h))
  · exact .flushVisible h

theorem State.Shaped.syncSink {s : State} (h : s.Shaped) : s.syncSink.Shaped := .ite h h

theorem State.Shaped.captureTrigger {s : State} {desc tick source machine : Nat} (h : s.Shaped) :
    (s.captureTrigger desc tick source machine).Shaped :=
  .ite (.commitOne (.raise (.setF (.setF (.setF (.setF h)))))) (.incSat h)

theorem State.Shaped.captureEnd {s : State} (h : s.Shaped) : s.captureEnd.Shaped :=
  .ite (.commitOne (.raise (.setF (.setF h)))) h

theorem State.Shaped.ringRelease {s : State} (h : s.Shaped) : s.ringRelease.Shaped :=
  .ite (.setF h) (.ite (.ringEmpty h) h)

theorem State.Shaped.ringEnable {s : State} (h : s.Shaped) : s.ringEnable.Shaped := .ite (.ite (.setF h) h) (.setF h)

theorem State.Shaped.sendFrame {s : State} {f : Frame} (h : s.Shaped) : (s.sendFrame f).Shaped := h

theorem State.Shaped.deliver {s : State} {o : Origin} {drop : Bool} {bs : List Byte} (h : s.Shaped) :
    (s.deliver o drop bs).Shaped := by
  unfold State.deliver
  split
  · exact .ite (.incSat h) (.raise h)
  · exact .sendFrame h

theorem State.Shaped.cacheReply {s : State} {o : Origin} {tag : Byte} {crc : Word} {bs : List Byte} (h : s.Shaped) :
    (s.cacheReply o tag crc bs).Shaped :=
  h

theorem State.Shaped.answer {s : State} {op : Nat} {r : Req} {drop : Bool} {v : Verdict} (h : s.Shaped) :
    (s.answer op r drop v).Shaped :=
  .deliver (.ite h (.cacheReply h))

theorem State.Shaped.finish {s : State} {op : Nat} {r : Req} (h : s.Shaped) : (s.finish op r).1.Shaped := by
  unfold State.finish
  split
  · exact .fst_ite h h
  · exact h

theorem State.Shaped.run {s : State} {c : Cmd} {r : Req} (h : s.Shaped)
    (he : ∀ {t : State}, t.Shaped → (c.effect r t).1.Shaped) : (Cmd.run c r s).Shaped := by
  unfold Cmd.run
  dsimp only
  split
  · exact .answer (.finish h)
  · split
    · exact .answer (.finish h)
    · split
      · exact .answer (.finish h)
      · split
        · exact .answer (.finish h)
        · exact .answer (.finish (he h))

theorem State.Shaped.putLink {s : State} {l : LinkPart} (h : s.Shaped) : (s.putLink l).Shaped := h

theorem State.Shaped.discardPartial {s : State} (h : s.Shaped) : s.discardPartial.Shaped := .putLink h

theorem State.Shaped.dropReply {s : State} (h : s.Shaped) : s.dropReply.Shaped := by
  unfold State.dropReply
  split
  · exact h
  · exact .incSat (.putLink h)

theorem State.Shaped.mbxClear {s : State} (h : s.Shaped) : s.mbxClear.Shaped := .putLink (.addSat h)

theorem State.Shaped.outByte {s : State} {b : Byte} (h : s.Shaped) : (s.outByte b).Shaped := h

theorem State.Shaped.outWord {s : State} {w : Word} (h : s.Shaped) : (s.outWord w).Shaped := h

theorem State.Shaped.mailboxRead {s : State} (h : s.Shaped) : s.mailboxRead.Shaped := by
  unfold State.mailboxRead
  split
  · exact .outByte (.putLink h)
  · split
    · exact .outByte (.putLink h)
    · exact .outByte (.putLink h)
    · exact .outByte (.putLink h)

theorem State.Shaped.queueCommand {s : State} {q : QCmd} (h : s.Shaped) : (s.queueCommand q).Shaped := by
  unfold State.queueCommand
  split
  · exact .putLink h
  · exact .putLink h

theorem State.Shaped.judge {s : State} {o : Origin} {bytes : List Byte} {ingress : Nat} (h : s.Shaped) :
    ∀ t, State.judge o bytes ingress s = .done t → t.Shaped := by
  intro t e
  unfold State.judge at e
  dsimp only at e
  have done {u : State} (hu : u.Shaped) (e : Judged.done u = .done t) : t.Shaped := Judged.done.inj e ▸ hu
  have refuse {b : List Byte} : (State.deliver o false b s).Shaped := .deliver h
  have counted {f : Fld} {b : List Byte} : (State.deliver o false b (s.incSat f)).Shaped := .deliver (.incSat h)
  refine ite_elim e (done (.when h .incSat)) fun e => ite_elim e (done (.incSat (.raise h))) fun e =>
    ite_elim e (done h) fun e => ite_elim e (done refuse) fun e => ite_elim e (done counted) fun e =>
    ite_elim e (done refuse) fun e => ite_elim e (done refuse) fun e => ite_elim e (done refuse) fun e =>
    ite_elim e Judged.noConfusion fun e => ?_
  cases hc : s.cached o (BitVec.ofNat 8 (byteAt bytes 2)) (wordAt bytes (4 + half bytes 0)) with
  | some x => rw [hc] at e; exact done counted e
  | none =>
    rw [hc] at e
    exact ite_elim e (done h) fun e => ite_elim e (done counted) (done (.queueCommand h))

theorem State.Shaped.hold {s : State} {rank key : Nat} {r : Rec} (h : s.Shaped) : (s.hold rank key r).Shaped := h

theorem State.Shaped.emitStatus {s : State} {tied : Bool} {r : Rec} (h : s.Shaped) : (s.emitStatus tied r).Shaped :=
  .ite (.hold h) (.commitOne h)

theorem State.Shaped.holdPins {s : State} {mask : Nat} (h : s.Shaped) : (s.holdPins mask).Shaped := h

theorem State.Shaped.outputsOff {s : State} (h : s.Shaped) : s.outputsOff.Shaped := .same (.setF (.setF h))

theorem State.Shaped.setSafe {s : State} {st : Nat} (h : s.Shaped) : (s.setSafe st).Shaped := .setF (.setF h)

theorem State.Shaped.recordTrip {s : State} {cause reason origin tick : Nat} (h : s.Shaped) :
    (s.recordTrip cause reason origin tick).Shaped :=
  .setReg (.setReg (.setReg h))

theorem State.Shaped.safeEvents {s : State} {cause next : Nat} (h : s.Shaped) : (s.safeEvents cause next).Shaped := by
  unfold State.safeEvents
  extract_lets s1 s2 s3
  have h2 : s2.Shaped := .ite (.raise (.ite (.incSat (.raise h)) h)) (.ite (.incSat (.raise h)) h)
  have h3 : s3.Shaped := .ite (.raise h2) h2
  exact .ite (.raise h3) h3

theorem State.Shaped.latchFault {s : State} {cause next : Nat} (h : s.Shaped) : (s.latchFault cause next).Shaped :=
  .ite (.setF (.setF h)) h

theorem State.Shaped.tripPins {s : State} {next : Nat} (h : s.Shaped) : (s.tripPins next).Shaped :=
  .ite (.holdPins h) (.ite (.holdPins h) h)

theorem State.Shaped.tripCapture {s : State} {next tick : Nat} (h : s.Shaped) : (s.tripCapture next tick).Shaped :=
  .ite (.captureTrigger h) h

theorem State.Shaped.safeEnter {s : State} {next cause reason origin tick : Nat} {tied : Bool} (h : s.Shaped) :
    (s.safeEnter next cause reason origin tick tied).Shaped :=
  .tripCapture (.tripPins (.latchFault (.safeEvents (.emitStatus (.recordTrip (.setSafe (.outputsOff h)))))))

theorem State.Shaped.safePath {s : State} {cause reason origin tick : Nat} {tied : Bool} (h : s.Shaped) :
    (s.safePath cause reason origin tick tied).Shaped :=
  .ite (.safeEnter h) (.ite (.safeEnter h) (.ite (.safeEnter h) (.ite (.same (.recordTrip (.when h .incSat))) (.when h
    .incSat))))

theorem State.Shaped.machineSafe {s : State} {n reason tick : Nat} (h : s.Shaped) :
    (s.machineSafe n reason tick).Shaped :=
  .ite (.safePath h) (.incSat h)

theorem State.Shaped.faultSafe {s : State} {n tick : Nat} (h : s.Shaped) : (s.faultSafe n tick).Shaped := .safePath h

theorem State.Shaped.recognizerSafe {s : State} {cause i reason tick : Nat} (h : s.Shaped) :
    (s.recognizerSafe cause i reason tick).Shaped :=
  .ite (.safePath h) (.incSat h)

theorem State.Shaped.disarmedQuiet {s : State} (h : s.Shaped) : s.disarmedQuiet.Shaped := .commitOne (.setSafe h)

theorem State.Shaped.safeRefuse {s : State} {status lock : Nat} (h : s.Shaped) : (s.safeRefuse status lock).Shaped :=
  .raise (.setF (.setF h))

theorem State.Shaped.armAccept {s : State} {seed : Nat} (h : s.Shaped) : (s.armAccept seed).Shaped :=
  .setF (.setSafe (.setF h))

theorem State.Shaped.arm {s : State} {seed : Nat} (h : s.Shaped) : (s.arm seed).1.Shaped := by
  unfold State.arm
  split
  · exact .safeRefuse h
  · exact .armAccept h

theorem State.Shaped.heartbeat {s : State} {q : Nat} (h : s.Shaped) : (s.heartbeat q).1.Shaped :=
  .fst_ite h (.fst_ite (.ite (.setF (.setSafe (.same (.setF h)))) (.same (.setF h))) (.fst_ite h (.incSat h)))

theorem State.Shaped.disarm {s : State} (h : s.Shaped) : s.disarm.Shaped := .safePath h

theorem State.Shaped.faultClear {s : State} (h : s.Shaped) : s.faultClear.1.Shaped :=
  .fst_ite h (.fst_ite (.disarmedQuiet (.setF (.setF h))) h)

theorem State.Shaped.putSafeLevel {s : State} {w : Word} (h : s.Shaped) : (s.putSafeLevel w).Shaped :=
  .ite (.holdPins (.setF h)) (.setF h)

theorem State.Shaped.putWritable {s : State} {a : Nat} {w : Word} (h : s.Shaped) : (s.putWritable a w).Shaped :=
  .setReg h

theorem State.Shaped.safeConfigApply {s : State} {p : List Byte} (h : s.Shaped) : (safeConfigApply p s).Shaped :=
  .putSafeLevel (.putWritable (.putWritable (.putWritable h)))

theorem State.Shaped.heartbeatCommand {s : State} {r : Req} (h : s.Shaped) : (heartbeatCommand r s).Shaped :=
  .ite (.run h .heartbeat) (.answer (.heartbeat h))

theorem State.Shaped.syncDelay {s : State} (h : s.Shaped) : s.syncDelay.Shaped := .setF (.setF h)

theorem State.Shaped.ringOnly {s : State} {r : Rec} (h : s.Shaped) : (s.ringOnly r).Shaped := .when h .ringStore

theorem State.Shaped.mappingChanged {s : State} (h : s.Shaped) : s.mappingChanged.Shaped := by
  unfold State.mappingChanged
  dsimp only
  split
  · exact h
  · exact .ringOnly h

theorem State.Shaped.putEngTicks {s : State} {e : EnginePart} (h : s.Shaped) (ht : ∀ x ∈ e.ticks, x.done.length = 9)
    (hd : e.dec.length = 9) (hm : e.machs.length = s.eng.machs.length := by rfl) : (s.putEng e).Shaped := by
  obtain ⟨triads, chans, axes, sets, machs, -, pio, entries, -⟩ := h
  exact ⟨triads, chans, axes, sets, hm.trans machs, hd, pio, entries, ht⟩

theorem State.Shaped.putEng {s : State} {e : EnginePart} (h : s.Shaped) (ht : e.ticks = s.eng.ticks := by rfl)
    (hm : e.machs.length = s.eng.machs.length := by rfl) (hd : e.dec.length = s.eng.dec.length := by rfl) :
    (s.putEng e).Shaped := by
  refine .putEngTicks h (ht ▸ ticks_done h) ?_ hm
  obtain ⟨-, -, -, -, -, dec, -⟩ := h
  exact hd.trans dec

theorem State.Shaped.mapTicks {s : State} {f : EngTick → EngTick} (h : s.Shaped)
    (hf : ∀ e, (f e).done.length = e.done.length) : (s.putEng { s.eng with ticks := s.eng.ticks.map f }).Shaped := by
  refine .putEngTicks h (fun x hx => ?_) h.2.2.2.2.2.1
  obtain ⟨e, he, rfl⟩ := List.mem_map.mp hx
  exact (hf e).trans (ticks_done h e he)

theorem State.Shaped.setMach {s : State} {n : Nat} {f : Mach → Mach} (h : s.Shaped) : (s.setMach n f).Shaped :=
  .putEng h (hm := List.length_set)

theorem State.Shaped.emBit {s : State} {a n : Nat} {b : Bool} (h : s.Shaped) : (s.emBit a n b).Shaped := .setF h

theorem State.Shaped.setMachState {s : State} {n st : Nat} (h : s.Shaped) : (s.setMachState n st).Shaped :=
  .emBit (.setMach h)

theorem State.Shaped.setTick {s : State} {t : Nat} {f : EngTick → EngTick} (h : s.Shaped)
    (hf : ∀ e, (f e).done.length = e.done.length := by intro; rfl) : (s.setTick t f).Shaped := by
  refine .mapTicks h fun e => ?_
  split
  · exact hf e
  · rfl

theorem State.Shaped.falsestopMarks {s : State} (h : s.Shaped) : s.falsestopMarks.Shaped := .incSat (.raise h)

theorem State.Shaped.falsestopHeld {s : State} {key origin action detail tick addr : Nat} {value : Word}
    (h : s.Shaped) : (s.falsestopHeld key origin action detail tick addr value).Shaped :=
  .falsestopMarks (.hold h)

theorem State.Shaped.falsestopNow {s : State} {origin action detail tick addr : Nat} {value : Word} (h : s.Shaped) :
    (s.falsestopNow origin action detail tick addr value).Shaped :=
  .falsestopMarks (.commitOne h)

theorem State.Shaped.setPio {s : State} {k : Nat} {f : PioEngine → PioEngine} (h : s.Shaped) : (s.setPio k f).Shaped
    := by
  obtain ⟨triads, chans, axes, sets, machs, dec, pio, entries, ticks⟩ := h
  exact ⟨triads, chans, axes, sets, machs, dec, List.length_set.trans pio, entries, ticks⟩

theorem State.Shaped.putMport {s : State} {k : Nat} {w : Word} (h : s.Shaped) : (s.putMport k w).Shaped := .setPio h

theorem State.Shaped.reportActs {s : State} {n : Nat} {report : Bool} (h : s.Shaped) : (s.reportActs n report).Shaped
    :=
  .ite (.each (.setMach h) .falsestopNow) (.setMach h)

theorem State.Shaped.stopMach {s : State} {n : Nat} {report : Bool} (h : s.Shaped) : (s.stopMach n report).Shaped :=
  .ite (.emBit (.setMachState (.setMach (.reportActs h)))) h

theorem State.Shaped.machFault {s : State} {n code addr tick : Nat} (h : s.Shaped) :
    (s.machFault n code addr tick).Shaped :=
  .ite (.when (.raise (.hold (.setMach (.setMachState (.stopMach h))))) .faultSafe) h

theorem State.Shaped.fallback {s : State} {n reason : Nat} {r : OpenRun} (h : s.Shaped) :
    (s.fallback n reason r).Shaped :=
  .when (.hold (.incSat (.emBit (.setMach h)))) .raise

theorem State.Shaped.perform {s : State} {n tick : Nat} {basis : Bool} {e : Effect} (h : s.Shaped) :
    (s.perform n tick basis e).Shaped := by
  unfold State.perform
  split
  · exact .hold h
  · exact .machineSafe h
  · exact .putMport h
  · exact .ite (.raise h) (.post h)
  · exact .captureTrigger h
  · exact .emBit h
  · exact .stopMach h

theorem State.Shaped.outNow {s : State} {n : Nat} {r : OpenRun} {addr : Nat} {basis : Bool} {e : Effect}
    (h : s.Shaped) : (s.outNow n r addr basis e).Shaped :=
  .ite h (.perform h)

theorem State.Shaped.outSpecAct {s : State} {n : Nat} {r : OpenRun} {addr : Nat} {e : Effect} (h : s.Shaped) :
    (s.outSpecAct n r addr e).Shaped := by
  unfold State.outSpecAct
  split
  · exact .perform (.setMach h)
  · exact h

theorem State.Shaped.poolPeak {s : State} (h : s.Shaped) : s.poolPeak.Shaped := .maxF h

theorem State.Shaped.decideActs {s : State} {n tick : Nat} {tr : List TraceEntry} (h : s.Shaped) :
    (s.decideActs n tick tr).Shaped :=
  .each (.setMach h) fun h => .when h .falsestopHeld

theorem State.Shaped.endRun {s : State} {n : Nat} {r : OpenRun} {after : MState} {halted : Bool} (h : s.Shaped) :
    (s.endRun n r after halted).Shaped := by
  unfold State.endRun
  split
  · exact .setMach h
  · exact .when (.decideActs (.setMach h)) .stopMach
  · exact .when (.setMach h) .stopMach

theorem State.Shaped.advance {s : State} {n : Nat} {r : OpenRun} {pc : Nat} (h : s.Shaped) : (s.advance n r pc).Shaped
    :=
  .ite (.machFault h) (.setMach h)

theorem State.Shaped.output {s : State} {n addr : Nat} {r : OpenRun} {tr : List TraceEntry} {e : Effect}
    (h : s.Shaped) : (s.output n addr r tr e).Shaped := by
  unfold State.output
  dsimp only
  split
  · exact .ite (.fallback h) (.ite (.ite (.endRun (.ite h (.outSpecAct h))) (.advance (.ite h (.outSpecAct h)))) (.ite
      (.endRun h) (.advance h)))
  · exact .ite (.endRun (.ite h (.outNow h))) (.advance (.ite h (.outNow h)))
  · exact .ite (.endRun (.ite h (.outNow h))) (.advance (.ite h (.outNow h)))

theorem State.Shaped.runWord {s : State} {n : Nat} {w : Word} (h : s.Shaped) : (s.runWord n w).Shaped := by
  unfold State.runWord
  split
  · exact h
  · split
    · exact h
    · dsimp only
      split
      · exact .advance h
      · split
        · exact .fallback h
        · split
          · exact .advance h
          · exact .advance h
          · exact .endRun h
          · exact .poolPeak (.output h)

theorem State.Shaped.fetchStep {s : State} {n : Nat} (h : s.Shaped) : (s.fetchStep n).Shaped := by
  unfold State.fetchStep
  split
  · exact h
  · split
    · exact .runWord h
    · exact .machFault h

theorem State.Shaped.finishRun {s : State} {n k : Nat} (h : s.Shaped) : (s.finishRun n k).Shaped := by
  induction k generalizing s with
  | zero => exact h
  | succ k ih => exact .ite (ih (.fetchStep h)) h

theorem State.Shaped.endOpen {s : State} {n : Nat} (h : s.Shaped) : (s.endOpen n).Shaped := .finishRun h

theorem State.Shaped.endAll {s : State} (h : s.Shaped) : s.endAll.Shaped := .forUpTo h .endOpen

theorem State.Shaped.openNext {s : State} {n : Nat} (h : s.Shaped) : (s.openNext n).Shaped := by
  unfold State.openNext
  split
  · exact h
  · exact .setMach h

theorem State.Shaped.catchUp {s : State} {n t k : Nat} (h : s.Shaped) : (s.catchUp n t k).Shaped := by
  induction k generalizing s with
  | zero => exact h
  | succ k ih =>
    unfold State.catchUp
    dsimp only
    split
    · exact .endOpen h
    · exact .ite (ih (.endOpen (.openNext (.endOpen h)))) (.endOpen h)

theorem State.Shaped.performHeld {s : State} {n tick : Nat} {basis : Bool} {acts : List SpecAct} {outs : List Output}
    (h : s.Shaped) : (s.performHeld n tick basis acts outs).Shaped :=
  .each h fun h => .ite h (.perform h)

theorem State.Shaped.confirmRun {s : State} {n : Nat} {rr : RunRec} {basis : Bool} {outs : List Output} (h : s.Shaped)
    : (s.confirmRun n rr basis outs).Shaped :=
  .performHeld (.ite (.setMach (.setMach h)) (.decideActs (.setMach h)))

theorem State.Shaped.specLast {s : State} {tick origin addr : Nat} (h : s.Shaped) :
    (s.specLast tick origin addr).Shaped :=
  .setReg (.setReg (.setReg h))

theorem State.Shaped.refute {s : State} {n : Nat} {rr : RunRec} {addr : Nat} (h : s.Shaped) :
    (s.refute n rr addr).Shaped :=
  .openNext (.setMach (.specLast (.incSat h)))

theorem State.Shaped.resolveMach {s : State} {n : Nat} {e : EngTick} (h : s.Shaped) : (s.resolveMach n e).Shaped := by
  unfold State.resolveMach
  dsimp only
  split
  · exact h
  · split
    · split
      · split
        · exact .confirmRun (.incSat h)
        · exact .refute h
      · exact .confirmRun h
    · exact .openNext h

theorem State.Shaped.voidMach {s : State} {n : Nat} {e : EngTick} (h : s.Shaped) : (s.voidMach n e).Shaped := by
  unfold State.voidMach
  split
  · exact .confirmRun h
  · exact h

theorem State.Shaped.pruneTicks {s : State} (h : s.Shaped) : s.pruneTicks.Shaped :=
  .putEngTicks h (fun x hx => ticks_done h x (List.mem_filter.mp hx).1) h.2.2.2.2.2.1 (List.length_map _)

theorem State.Shaped.grantRecs {s : State} {n : Nat} (h : s.Shaped) : (s.grantRecs n).1.Shaped :=
  .fst_ite h (.raise (.addSat h))

theorem State.Shaped.specRequest {s : State} {cfg : RecCfg} {i t : Nat} {req : Option (Nat × Nat)} (h : s.Shaped) :
    (s.specRequest cfg i t req).Shaped := by
  unfold State.specRequest
  split
  · exact .ite (.recognizerSafe (.putEng h)) h
  · exact h

theorem State.Shaped.putSpec {s : State} {cfg : RecCfg} {i t : Nat} {x : Dec × RecDone} (h : s.Shaped) :
    (s.putSpec cfg i t x).Shaped :=
  .poolPeak (.specRequest (.putEng (.setTick (.grantRecs h) fun _ => List.length_set) (hd := List.length_set)))

theorem State.Shaped.finishDue {s : State} {i t : Nat} (h : s.Shaped) : (s.finishDue i t).Shaped := by
  unfold State.finishDue
  split
  · exact h
  · exact .ite h (.putSpec (.setTick h))

theorem State.Shaped.finishAllDue {s : State} (h : s.Shaped) : s.finishAllDue.Shaped := by
  unfold State.finishAllDue
  split
  · exact .forUpTo h .finishDue
  · exact h

theorem State.Shaped.evalSpec {s : State} {t : Nat} {now : Bool} (h : s.Shaped) : (s.evalSpec t now).Shaped := by
  unfold State.evalSpec
  split
  · exact h
  · exact .forUpTo h .putSpec

theorem State.Shaped.applyCfg {s : State} {t : Nat} (h : s.Shaped) : (s.applyCfg t).Shaped :=
  .each (.putEng h) fun h => .ite (.putEng (.each (.putEng h) .falsestopNow)) (.ite (.putEng (.each (.putEng h)
    .falsestopNow)) (.each (.putEng h) .falsestopNow))

theorem State.Shaped.recSettle {s : State} {cfg : RecCfg} {i t : Nat} {basis : Bool} {x : Dec × RecDone}
    (h : s.Shaped) : (s.recSettle cfg i t basis x).Shaped :=
  .putEng (.setReg (.setF (.setF (.when (.each h .hold) .raise))))

theorem State.Shaped.recDecide {s : State} {i t : Nat} {basis : Bool} {req : Option (Nat × Nat)} (h : s.Shaped) :
    (s.recDecide i t basis req).Shaped := by
  unfold State.recDecide
  dsimp only
  split
  · exact .ite (.putEng h) (.falsestopHeld (.putEng h))
  · exact .recognizerSafe (.putEng h)
  · exact .putEng h

theorem State.Shaped.replayRecs {s : State} {t : Nat} (h : s.Shaped) : (s.replayRecs t).Shaped :=
  .each (.each h .setTick) .evalSpec

theorem State.Shaped.resolveRecs {s : State} {e : EngTick} {f : Fused} (h : s.Shaped) : (s.resolveRecs e f).Shaped :=
    by
  unfold State.resolveRecs
  extract_lets t cfg p _ s1 ms xs at_ spec bad s2 s3 start _ s4
  have h3 : s3.Shaped := .forUpTo (.setTick (.putEng h)) fun h => .recDecide (.recSettle (.ite h (.ite
    (.specLast (.incSat h)) (.incSat h))))
  have h4 : s4.Shaped := .putEngTicks h3 (ticks_done h3) (by simp [start])
  exact .ite (.replayRecs h4) h3

theorem State.Shaped.voidRecs {s : State} {e : EngTick} (h : s.Shaped) : (s.voidRecs e).Shaped :=
  .ite h (.forUpTo (.setTick h) fun h => .recDecide (.recSettle h))

theorem State.Shaped.voidTick {s : State} {t : Nat} (h : s.Shaped) : (s.voidTick t).Shaped := by
  unfold State.voidTick
  dsimp only
  split
  · exact .endAll (.finishAllDue h)
  · exact .forUpTo (.setTick (.voidRecs (.endAll (.finishAllDue h)))) .voidMach

theorem State.Shaped.resolveVoids {s : State} {k : Nat} (h : s.Shaped) : (s.resolveVoids k).Shaped := by
  induction k generalizing s with
  | zero => exact h
  | succ k ih =>
    unfold State.resolveVoids
    split
    · exact .ite (ih (.voidTick h)) h
    · exact h

theorem State.Shaped.voidWhere {s : State} {p : Nat → Bool} (h : s.Shaped) : (s.voidWhere p).Shaped :=
  .pruneTicks (.resolveVoids (.mapTicks h fun _ => by split <;> rfl))

theorem State.Shaped.putArray {s : State} {a : ArrayPart} (h : s.Shaped)
    (ht : a.triads.length = s.array.triads.length := by rfl)
    (hc : a.chans.length = s.array.chans.length := by rfl) (hx : a.axes.length = s.array.axes.length := by rfl) :
    (s.putArray a).Shaped := by
  obtain ⟨triads, chans, axes, rest⟩ := h
  exact ⟨ht.trans triads, hc.trans chans, hx.trans axes, rest⟩

theorem State.Shaped.putFilt {s : State} {f : FilterPart} (h : s.Shaped)
    (hs : f.sets.length = s.filt.sets.length := by rfl) :
    (s.putFilt f).Shaped := by
  obtain ⟨triads, chans, axes, sets, rest⟩ := h
  exact ⟨triads, chans, axes, hs.trans sets, rest⟩

theorem State.Shaped.setTriad {s : State} {k : Nat} {f : Triad → Triad} (h : s.Shaped) : (s.setTriad k f).Shaped :=
  .putArray h (ht := List.length_set)

theorem State.Shaped.setChan {s : State} {c : Nat} {f : Chan → Chan} (h : s.Shaped) : (s.setChan c f).Shaped :=
  .putArray h (hc := List.length_set)

theorem State.Shaped.triadHealth {s : State} {kind k at_ tick detail : Nat} (h : s.Shaped) :
    (s.triadHealth kind k at_ tick detail).Shaped :=
  h

theorem State.Shaped.settlingRecord {s : State} {v : Settling} {resume preset : Nat} (h : s.Shaped) :
    (s.settlingRecord v resume preset).Shaped :=
  .voidWhere (.raise (.commitOne h))

theorem State.Shaped.settleResume {s : State} {resume preset : Nat} (h : s.Shaped) :
    (s.settleResume resume preset).Shaped := by
  unfold State.settleResume
  split
  · exact .ite h (.settlingRecord (.putFilt h))
  · exact h

theorem State.Shaped.settleAtLock {s : State} (h : s.Shaped) : s.settleAtLock.Shaped := by
  unfold State.settleAtLock
  split
  · exact .ite (.settleResume (.putFilt h)) h
  · exact h

theorem State.Shaped.syncDriveFault {s : State} (h : s.Shaped) : s.syncDriveFault.Shaped := .setF h

theorem State.Shaped.setLock {s : State} {k : Nat} {on_ : Bool} (h : s.Shaped) : (s.setLock k on_).Shaped := .setF h

theorem State.Shaped.syncUncomp {s : State} (h : s.Shaped) : s.syncUncomp.Shaped := .setF h

theorem State.Shaped.freshTemp {s : State} {d : Nat} (h : s.Shaped) : (s.freshTemp d).Shaped :=
  .ite (.putArray h) (.syncUncomp (.putArray h))

theorem State.Shaped.requestProfile {s : State} {p : Nat} (h : s.Shaped) : (s.requestProfile p).Shaped :=
  .ite (.setF (.putArray h)) (.setF (.setF (.putArray h)))

theorem State.Shaped.startTriad {s : State} {k : Nat} (h : s.Shaped) : (s.startTriad k).Shaped := .setTriad h

theorem State.Shaped.parkTriad {s : State} {t k : Nat} (h : s.Shaped) : (s.parkTriad t k).Shaped :=
  .syncDriveFault (.ite (.setLock (.setTriad (.ite (.incSat (.raise (.triadHealth h))) h))) (.setTriad (.ite (.incSat
    (.raise (.triadHealth h))) h)))

theorem State.Shaped.profileTriad {s : State} {p t k : Nat} (h : s.Shaped) : (s.profileTriad p t k).Shaped :=
  .ite (.ite h (.setTriad h)) (.ite h (.ite (.putArray (.startTriad h)) (.ite (.putArray (.parkTriad h)) h)))

theorem State.Shaped.profileDone {s : State} (h : s.Shaped) : s.profileDone.Shaped := by
  unfold State.profileDone
  split
  · dsimp only
    split
    · exact .setF (.putArray (.setF h))
    · exact .setF h
  · exact h

theorem State.Shaped.testReport {s : State} {k code : Nat} (h : s.Shaped) : (s.testReport k code).Shaped := by
  unfold State.testReport
  split
  · exact h
  · exact .putArray (.ite (.raise (.triadHealth h)) (.triadHealth h))

theorem State.Shaped.testNext {s : State} {branch : Nat} {ks : List Nat} (h : s.Shaped) :
    (s.testNext branch ks).Shaped := by
  induction ks generalizing s with
  | nil =>
    unfold State.testNext
    split
    · exact .putArray h
    · exact h
  | cons k rest ih =>
    unfold State.testNext
    split
    · exact ih (.testReport h)
    · split
      · exact .setTriad (.putArray h)
      · exact h

theorem State.Shaped.testEnd {s : State} (h : s.Shaped) : s.testEnd.Shaped := by
  unfold State.testEnd
  split
  · exact .ite (.ite (.setF (.setF (.setF (.putArray h)))) (.raise (.setF (.setF (.setF (.setF (.setF (.putArray
      h)))))))) h
  · exact h

theorem State.Shaped.testStart {s : State} {reinstate : Bool} {die : Option Nat} {queues : List (List Nat)}
    (h : s.Shaped) : (s.testStart reinstate die queues).Shaped :=
  .testEnd (.forUpTo (.ite (.setF (.setF (.putArray h))) (.setF (.putArray h))) .testNext)

theorem State.Shaped.dieRestored {s : State} {d : Nat} (h : s.Shaped) : (s.dieRestored d).Shaped := .ite (.setF h) h

theorem State.Shaped.reinstateTriad {s : State} {k : Nat} (h : s.Shaped) : (s.reinstateTriad k).Shaped :=
  .dieRestored (.ite (.setTriad h) (.forUpTo (.startTriad h) .setChan))

theorem State.Shaped.testReturn {s : State} {k : Nat} (h : s.Shaped) : (s.testReturn k).Shaped :=
  .ite (.startTriad h) (.setTriad h)

theorem State.Shaped.finishTest {s : State} {k code : Nat} (h : s.Shaped) : (finishTest k code s).Shaped := by
  unfold Machine.finishTest
  split
  · exact h
  · split
    · exact h
    · exact .ite (.putArray h) (.testEnd (.testNext (.ite (.ite (.reinstateTriad (.testReport (.testReturn (.putArray
        h)))) (.testReport (.testReturn (.putArray h)))) (.ite (.setTriad (.testReport (.testReturn (.putArray h))))
        (.testReport (.testReturn (.putArray h)))))))

theorem State.Shaped.abortDiag {s : State} (h : s.Shaped) : s.abortDiag.Shaped := by
  unfold State.abortDiag
  split
  · exact h
  · dsimp only
    split
    · exact .testEnd (.putArray (.each h fun h => .testReport (.testReturn h)))
    · exact .each h fun h => .testReport (.testReturn h)

theorem State.Shaped.putRange {s : State} {f : Fld} {code : Nat} (h : s.Shaped) : (putRange f code s).Shaped :=
  .ite h (.setF h)

theorem State.Shaped.calDeltaApply {s : State} {p : List Byte} (h : s.Shaped) : (calDeltaApply p s).Shaped :=
  .putArray h

theorem State.Shaped.putTime {s : State} {p : TimePart} (h : s.Shaped) : (s.putTime p).Shaped := h

theorem State.Shaped.setTime {s : State} {t : Int} (h : s.Shaped) : (s.setTime t).Shaped := h

theorem State.Shaped.stepMade {s : State} (h : s.Shaped) : s.stepMade.Shaped := .raise (.incSat (.setF h))

theorem State.Shaped.applyDelta {s : State} (h : s.Shaped) : s.applyDelta.Shaped := by
  unfold State.applyDelta
  split
  · exact .stepMade (.setF (.setTime (.putTime h)))
  · exact h

theorem State.Shaped.applySet {s : State} (h : s.Shaped) : s.applySet.Shaped := by
  unfold State.applySet
  split
  · exact .ite (.stepMade (.setTime (.putTime h))) h
  · exact h

theorem State.Shaped.applyRate {s : State} (h : s.Shaped) : s.applyRate.Shaped := by
  unfold State.applyRate
  split
  · exact .setReg (.putTime h)
  · exact h

theorem State.Shaped.setServo {s : State} {v : Nat} (h : s.Shaped) : (s.setServo v).Shaped := .when (.setF h) .raise

theorem State.Shaped.rearm {s : State} (h : s.Shaped) : s.rearm.Shaped := .setServo (.putTime (.setF h))

theorem State.Shaped.countLock {s : State} {below refused : Bool} (h : s.Shaped) : (s.countLock below refused).Shaped
    :=
  .ite (.setServo (.putTime (.when h .setServo))) (.ite (.setServo (.putTime (.when h .setServo))) (.putTime (.when h
    .setServo)))

theorem State.Shaped.refuseJump {s : State} (h : s.Shaped) : s.refuseJump.Shaped :=
  .raise (.incSat (.commitOne (.setF h)))

theorem State.Shaped.correctRate {s : State} {o : Int} (h : s.Shaped) : (s.correctRate o).Shaped :=
  .putTime (.setF (.setF h))

theorem State.Shaped.measure {s : State} {o : Int} (h : s.Shaped) : (s.measure o).Shaped :=
  .ite (.countLock (.putTime (.setReg h))) (.ite (.countLock (.refuseJump (.setReg h))) (.countLock (.correctRate
    (.setReg h))))

theorem State.Shaped.timeAdjustApply {s : State} {p : List Byte} (h : s.Shaped) : (timeAdjustApply p s).Shaped := by
  unfold Machine.timeAdjustApply
  dsimp only
  refine .when ?_ .setF
  split
  · exact .putTime h
  · exact h

theorem State.Shaped.putTimeCfg {s : State} {w : Word} (h : s.Shaped) : (s.putTimeCfg w).Shaped :=
  .when (.putWritable h) .rearm

theorem State.Shaped.writeTime {s : State} {a : Nat} {w : Word} (h : s.Shaped) : (s.writeTime a w).Shaped :=
  .ite (.putTimeCfg h) (.ite (.when h .setReg) (.ite (.when h .setReg) h))

theorem State.Shaped.putT1s {s : State} {t : T1sPart} (h : s.Shaped) : (s.putT1s t).Shaped := h

theorem State.Shaped.plcaApply {s : State} (h : s.Shaped) : s.plcaApply.Shaped :=
  .ite (.ite (.putT1s h) (.setF (.setF (.putT1s h)))) (.setF (.ite (.putT1s h) (.setF (.setF (.putT1s h)))))

theorem State.Shaped.plcaInStep {s : State} (h : s.Shaped) : s.plcaInStep.Shaped := .when (.setF (.setF h)) .raise

theorem State.Shaped.writePlca {s : State} {w : Word} (h : s.Shaped) : (s.writePlca w).Shaped :=
  .ite (.setF h) (.ite (.putWritable h) (.plcaApply (.putWritable h)))

theorem State.Shaped.dropStream {s : State} {n : Nat} (h : s.Shaped) : (s.dropStream n).Shaped :=
  .syncSink (.putT1s h)

theorem State.Shaped.frameSent {s : State} {f : Frame} (h : s.Shaped) : (s.frameSent f).Shaped := by
  unfold State.frameSent
  dsimp only
  split
  · refine .putTime ?_
    split
    · exact .putTime (.putT1s h)
    · exact .putT1s h
  · split
    · exact .putTime (.putT1s h)
    · exact .putT1s h

theorem State.Shaped.dropContribs {s : State} (h : s.Shaped) : s.dropContribs.Shaped := h

theorem State.Shaped.sendContribs {s : State} {outcome : TxOutcome} (h : s.Shaped) : (s.sendContribs outcome).Shaped
    := by
  unfold State.sendContribs
  split
  · exact .putT1s (.frameSent (.dropContribs h))
  · exact .incSat h
  · exact .incSat (.dropContribs h)

theorem State.Shaped.writeT1s {s : State} {a : Nat} {w : Word} (h : s.Shaped) : (s.writeT1s a w).Shaped :=
  .ite (.writePlca h) (.ite (.ite (.putWritable h) (.setF h)) (.ite (.putWritable h) h))

theorem State.Shaped.putPair {s : State} {p : PairPart} (h : s.Shaped) : (s.putPair p).Shaped := h

theorem State.Shaped.syncPair {s : State} (h : s.Shaped) : s.syncPair.Shaped := .setF (.setF h)

theorem State.Shaped.sendPair {s : State} {msg reason time : Nat} (h : s.Shaped) : (s.sendPair msg reason time).Shaped
    :=
  .putT1s (.sendFrame h)

theorem State.Shaped.alphaReady {s : State} {t : Nat} {alpha : List Word} (h : s.Shaped) :
    (s.alphaReady t alpha).Shaped :=
  .forUpTo (.setTick h) .openNext

theorem State.Shaped.formPair {s : State} {w : PairWait} {c : Contrib} (h : s.Shaped) : (s.formPair w c).Shaped :=
  .alphaReady (.putPair (.setReg (.setF (.setReg (.hold h)))))

theorem State.Shaped.pairLate {s : State} (h : s.Shaped) : s.pairLate.Shaped := .raise (.incSat h)

theorem State.Shaped.formAlone {s : State} {w : PairWait} (h : s.Shaped) : (s.formAlone w).Shaped :=
  .pairLate (.alphaReady (.putPair (.hold h)))

theorem State.Shaped.pairIdle {s : State} (h : s.Shaped) : s.pairIdle.Shaped :=
  .ite (.rearm (.putTime (.putPair (.setF (.setF (.setF h)))))) (.putPair (.setF (.setF (.setF h))))

theorem State.Shaped.failJoin {s : State} {reason : Nat} (h : s.Shaped) : (s.failJoin reason).Shaped :=
  .pairIdle (.raise (.setF h))

theorem State.Shaped.failOpen {s : State} (h : s.Shaped) : s.failOpen.Shaped := .draw (.failJoin h)

theorem State.Shaped.pairLeave {s : State} {cause : Nat} {tell : Bool} (h : s.Shaped) :
    (s.pairLeave cause tell).Shaped :=
  .ite (.pairIdle (.when (.setReg (.raise (.same (.incSat (.setF (.each h .formAlone)))))) .sendPair)) h

theorem State.Shaped.pairCommandLeave {s : State} (h : s.Shaped) : s.pairCommandLeave.Shaped :=
  .ite (.failJoin h) (.pairLeave h)

theorem State.Shaped.pairConfigLeave {s : State} (h : s.Shaped) : s.pairConfigLeave.Shaped :=
  .ite (.failJoin h) (.pairLeave h)

theorem State.Shaped.pairPowerLeave {s : State} {tell : Bool} (h : s.Shaped) : (s.pairPowerLeave tell).Shaped :=
  .ite (.failOpen h) (.pairLeave h)

theorem State.Shaped.dropOldContribs {s : State} {stamp : Int} (h : s.Shaped) : (s.dropOldContribs stamp).Shaped :=
  .forUpTo (.putPair h) .pairLate

theorem State.Shaped.pairSample {s : State} {values omega : List Rat} {before : Option (List Rat)} {own : Fused}
    (h : s.Shaped) : (s.pairSample values omega before own).Shaped := by
  unfold State.pairSample
  extract_lets t stamp body _ s1 _ s2 w _ s3 s4 _
  have h2 : s2.Shaped := .putPair (.ite (.putPair h) h)
  have h4 : s4.Shaped := .dropOldContribs (.putPair h2)
  clear_value s4
  refine .ite ?_ h2
  split
  · exact .formPair (.putPair h4)
  · exact h4

theorem State.Shaped.voteAxisChans {s : State} {ticks : Nat} {c : Rat} {vs : List Voter} (h : s.Shaped) :
    (s.voteAxisChans ticks c vs).Shaped :=
  .each h .setChan

theorem State.Shaped.syncVoteStatus {s : State} (h : s.Shaped) : s.syncVoteStatus.Shaped := .setF (.setF (.setF h))

theorem State.Shaped.syncQuorum {s : State} {t : Nat} (h : s.Shaped) : (s.syncQuorum t).Shaped :=
  .setF (.setF (.setF (.setF (.setF (.setF h)))))

theorem State.Shaped.boundary {s : State} (h : s.Shaped) : s.boundary.Shaped := .putArray (.each h .setChan)

theorem State.Shaped.flagEvents {s : State} {sat clip : Nat} (h : s.Shaped) : (s.flagEvents sat clip).Shaped :=
  .forUpTo (.forUpTo (.setF (.setF h)) fun h => .when h .raise) fun h => .when h .raise

theorem State.Shaped.quorumLost {s : State} {t lost : Nat} (h : s.Shaped) : (s.quorumLost t lost).Shaped :=
  .ite h (.ite (.safePath (.raise (.hold h))) (.raise (.hold h)))

theorem State.Shaped.splitOnset {s : State} {t began : Nat} (h : s.Shaped) : (s.splitOnset t began).Shaped :=
  .ite h (.addSat (.raise (.hold h)))

theorem State.Shaped.endSettling {s : State} (h : s.Shaped) : s.endSettling.Shaped :=
  .setF (.putFilt h)

theorem State.Shaped.vote {s : State} {t : Nat} {xs : List Sample} (h : s.Shaped) : (s.vote t xs).Shaped := by
  unfold State.vote
  extract_lets s1 dt f values s2 split splitMask window stepped old quorum axes _ s3 was lost began s4 m sat clip
    uncomp fused before _ s5 s6 s7 s8 k s9
  have h2 : s2.Shaped := .forUpTo (.endSettling (.boundary h)) .voteAxisChans
  have h3 : s3.Shaped := .putArray h2 (ht := by simp [stepped, triads_length h2]) (hx := by simp [axes, axes_length h2])
  have h6 : s6.Shaped := .flagEvents (.same (.syncQuorum (.syncVoteStatus h3)))
  have h8 : s8.Shaped := .pairSample (.ite h6 (.hold h6))
  exact .quorumLost (.splitOnset (.ite (.hold h8) h8))

theorem State.Shaped.retireTriad {s : State} {k detail : Nat} (h : s.Shaped) : (s.retireTriad k detail).Shaped :=
  .incSat (.putArray (.syncDriveFault (.ite (.setLock (.setTriad (.ite (.finishTest h) h))) (.setTriad (.ite
    (.finishTest h) h)))))

theorem State.Shaped.substitute {s : State} {t k : Nat} (h : s.Shaped) : (s.substitute t k).Shaped := by
  unfold State.substitute
  split
  · exact h
  · split
    · exact h
    · dsimp only
      refine .raise (.hold (.putArray ?_))
      split
      · exact .parkTriad (.ite (.startTriad (.startTriad h)) (.startTriad h))
      · exact .ite (.startTriad (.startTriad h)) (.startTriad h)

theorem State.Shaped.applyRetire {s : State} {t k : Nat} (h : s.Shaped) : (s.applyRetire t k).Shaped :=
  .ite h (.substitute (.retireTriad (.raise (.triadHealth h))))

theorem State.Shaped.applyDie {s : State} {t d : Nat} (h : s.Shaped) : (s.applyDie t d).Shaped :=
  .each (.putArray (.incSat (.setF (.each (.raise h) .retireTriad)))) .substitute

theorem State.Shaped.staleVote {s : State} {t : Nat} {first : Bool} (h : s.Shaped) : (s.staleVote t first).Shaped :=
  .ite h (.quorumLost (.syncVoteStatus (.putArray h (hx := List.length_map _))))

theorem State.Shaped.coeffWriteApply {s : State} {p : List Byte} (h : s.Shaped) : (coeffWriteApply p s).Shaped := by
  unfold Machine.coeffWriteApply
  split
  · exact h
  · exact .setF (.putFilt h (hs := List.length_set))

theorem State.Shaped.syncSuspended {s : State} (h : s.Shaped) : s.syncSuspended.Shaped := .when (.setF h) .raise

theorem State.Shaped.useSlot {s : State} {new : Option Nat} (h : s.Shaped) : (s.useSlot new).Shaped :=
  .ite h (.pairConfigLeave (.hold (.raise (.setF (.setF (.setF h))))))

theorem State.Shaped.notchPeriod {s : State} {engine : Nat} {period : Word} (h : s.Shaped) :
    (s.notchPeriod engine period).Shaped :=
  .ite h (.ite (.putFilt (.setF (.setF h))) (.ite (.putFilt (.putFilt (.setF (.setF h)))) (.ite (.putFilt (.putFilt
    (.setF (.setF h)))) (.putFilt (.putFilt (.setF (.setF h)))))))

theorem State.Shaped.bankApply {s : State} {a g : Nat} (h : s.Shaped) : (bankApply a g s).Shaped :=
  .setF (.putFilt (.setF (.setF h)))

theorem State.Shaped.keepGrid {s : State} {last : Nat} (h : s.Shaped) : (s.keepGrid last).Shaped := .putFilt h

theorem State.Shaped.settleMove {s : State} (h : s.Shaped) : s.settleMove.Shaped := by
  unfold State.settleMove
  split
  · split
    · exact .settleResume h
    · exact h
  · exact h

theorem State.Shaped.voidOffGrid {s : State} (h : s.Shaped) : s.voidOffGrid.Shaped := .voidWhere h

theorem State.Shaped.decimReset {s : State} {t : Nat} (h : s.Shaped) : (s.decimReset t).Shaped :=
  .voidOffGrid (.settleMove (.mappingChanged (.raise (.same (.putFilt (.keepGrid h))))))

theorem State.Shaped.decimResetAlone {s : State} {t : Nat} (h : s.Shaped) : (s.decimResetAlone t).Shaped :=
  .pairConfigLeave (.decimReset h)

theorem State.Shaped.requestReset {s : State} {t : Nat} (h : s.Shaped) : (s.requestReset t).Shaped := .putFilt h

theorem State.Shaped.requestPreset {s : State} {c : Nat} (h : s.Shaped) : (s.requestPreset c).Shaped :=
  .ite (.putFilt (.setF h)) (.ite (.putFilt (.setF h)) (.setF (.putFilt (.setF h))))

theorem State.Shaped.notchAtPreset {s : State} (h : s.Shaped) : s.notchAtPreset.Shaped :=
  .ite (.syncSuspended (.useSlot (.putFilt h))) h

theorem State.Shaped.rescaleNoise {s : State} {old new : Nat} (h : s.Shaped) : (s.rescaleNoise old new).Shaped :=
  .putArray h (hc := List.length_map _)

theorem State.Shaped.presetApply {s : State} {c : PresetChange} (h : s.Shaped) : (s.presetApply c).Shaped := by
  unfold State.presetApply
  extract_lets old sync nOld tL inStart bound first firstGap s1 s2 s3 s4 s5 s6 s7 s8 _ s9 shift _ v s10
  have h1 : s1.Shaped := .ite h (.keepGrid h)
  have h9 : s9.Shaped :=
    .putFilt (.mappingChanged (.syncDelay (.notchAtPreset (.same (.setF (.setF (.setF (.setF (.setF
      (.rescaleNoise h1))))))))))
  refine .pairConfigLeave (.voidOffGrid (.ite ?_ (.ite (.settleMove (.setF (.putFilt h9))) h9)))
  split
  · exact .settleMove (.putFilt h9)
  · exact h9

theorem State.Shaped.coeffCommitApply {s : State} {p : List Byte} (h : s.Shaped) : (coeffCommitApply p s).Shaped := by
  unfold Machine.coeffCommitApply
  split
  · exact h
  · exact .setF (.putFilt h (hs := List.length_set))

theorem State.Shaped.notchApply {s : State} {w : Word} (h : s.Shaped) : (notchApply w s).Shaped :=
  .syncSuspended (.ite (.putWritable h) (.useSlot (.putFilt (.putWritable h))))

theorem State.Shaped.putHk {s : State} {k : HkPart} (h : s.Shaped)
    (he : k.entries.length = s.hk.entries.length := by rfl) :
    (s.putHk k).Shaped := by
  obtain ⟨triads, chans, axes, sets, machs, dec, pio, entries, ticks⟩ := h
  exact ⟨triads, chans, axes, sets, machs, dec, pio, he.trans entries, ticks⟩

theorem State.Shaped.setSlice {s : State} {k v : Nat} (h : s.Shaped) : (s.setSlice k v).Shaped := .setF h

theorem State.Shaped.syncSlices {s : State} (h : s.Shaped) : s.syncSlices.Shaped := .setF (.setF (.setF (.setF h)))

theorem State.Shaped.retireSlice {s : State} {k : Nat} (h : s.Shaped) : (s.retireSlice k).Shaped := by
  unfold State.retireSlice
  dsimp only
  refine .syncSlices ?_
  split
  · exact .ite (.setSlice (.putHk (.incSat (.setSlice h)))) (.putHk (.incSat (.setSlice h)))
  · exact .putHk (.incSat (.setSlice h))

theorem State.Shaped.restartWindow {s : State} {k : Nat} (h : s.Shaped) : (s.restartWindow k).Shaped :=
  .putHk h (he := List.length_set)

theorem State.Shaped.publish {s : State} {k v : Nat} (h : s.Shaped) : (s.publish k v).Shaped :=
  .ite (.freshTemp (.setF h)) (.ite (.freshTemp (.setF h)) (.ite (.freshTemp (.setF h)) (.ite (.freshTemp (.setF h))
    (.ite (.freshTemp (.setF h)) (.ite (.setF h) (.ite (.setF h) (.ite (.setF h) (.ite (.setF h) h))))))))

theorem State.Shaped.hkSeqApply {s : State} {p : List Byte} (h : s.Shaped) : (hkSeqApply p s).Shaped :=
  .each (.setF h) .setReg

theorem State.Shaped.hkWindowApply {s : State} {p : List Byte} (h : s.Shaped) : (hkWindowApply p s).Shaped :=
  .setReg (.setF (.setF h))

theorem State.Shaped.writeHk {s : State} {a : Nat} {w : Word} (h : s.Shaped) : (s.writeHk a w).Shaped :=
  .ite (.ite (.setF h) (.ite (.setF h) (.setF h))) (.ite (.ite (.setF h) (.ite (.setF (.setF h)) (.ite (.setF h) (.ite
    (.setF h) (.setReg h))))) (.ite (.setF h) (.setReg h)))

theorem State.Shaped.putPmem {s : State} {a : Nat} {w : Word} (h : s.Shaped) : (s.putPmem a w).Shaped := .putEng h

theorem State.Shaped.emLoadApply {s : State} {p : List Byte} (h : s.Shaped) : (emLoadApply p s).Shaped :=
  .each h .putPmem

theorem State.Shaped.emRegion {s : State} {n entry len : Nat} (h : s.Shaped) : (s.emRegion n entry len).Shaped :=
  .ite (.setMachState (.setMach h)) (.setMach h)

theorem State.Shaped.emConfigApply {s : State} {p : List Byte} (h : s.Shaped) : (emConfigApply p s).Shaped :=
  .emRegion (.setMach h)

theorem State.Shaped.startMach {s : State} {t0 n : Nat} (h : s.Shaped) : (s.startMach t0 n).Shaped :=
  .emBit (.emBit (.setMachState (.setMach h)))

theorem State.Shaped.emStartApply {s : State} {mask : Nat} (h : s.Shaped) : (emStartApply mask s).Shaped :=
  .each h .startMach

theorem State.Shaped.emStopApply {s : State} {mask : Nat} (h : s.Shaped) : (emStopApply mask s).Shaped :=
  .each h .stopMach

theorem State.Shaped.emParam {s : State} {n k : Nat} {w : Word} (h : s.Shaped) : (s.emParam n k w).Shaped :=
  .setMach h

theorem State.Shaped.emParamApply {s : State} {p : List Byte} (h : s.Shaped) : (emParamApply p s).Shaped :=
  .each h .emParam

theorem State.Shaped.applyParams {s : State} {t : Nat} (h : s.Shaped) : (s.applyParams t).Shaped :=
  .putEng h (hm := List.length_map _)

theorem State.Shaped.emRefused {s : State} {status reason addr : Nat} (h : s.Shaped) :
    (s.emRefused status reason addr).Shaped :=
  .setF (.setF (.setF h))

theorem State.Shaped.writeEmRegion {s : State} {w : Word} (h : s.Shaped) : (s.writeEmRegion w).Shaped :=
  .ite (.emRefused h) (.ite (.emRefused h) (.emRegion h))

theorem State.Shaped.writeEmFlags {s : State} {w : Word} (h : s.Shaped) : (s.writeEmFlags w).Shaped :=
  .ite (.emRefused h) (.setMach h)

theorem State.Shaped.emStep {s : State} (h : s.Shaped) : s.emStep.Shaped := .setF h

theorem State.Shaped.writeEmPmem {s : State} {w : Word} (h : s.Shaped) : (s.writeEmPmem w).Shaped := by
  unfold State.writeEmPmem
  dsimp only
  split
  · exact .emRefused h
  · exact .emStep (.putPmem h)

theorem State.Shaped.writeEmStart {s : State} {w : Word} (h : s.Shaped) : (s.writeEmStart w).Shaped := by
  unfold State.writeEmStart
  split
  · exact h
  · split
    · exact .emRefused h
    · exact .emStartApply h

theorem State.Shaped.pushCfg {s : State} {clear : Nat} (h : s.Shaped) : (s.pushCfg clear).Shaped := by
  unfold State.pushCfg
  dsimp only
  split
  · exact .ite (.putEng h) (.putEng h)
  · exact .putEng h

theorem State.Shaped.recConfigApply {s : State} {p : List Byte} (h : s.Shaped) : (recConfigApply p s).Shaped :=
  .pushCfg (.putWritable (.putWritable (.putWritable (.putWritable (.putWritable h)))))

theorem State.Shaped.recEnableApply {s : State} {p : List Byte} (h : s.Shaped) : (recEnableApply p s).Shaped :=
  .pushCfg (.setF h)

theorem State.Shaped.recWheelApply {s : State} {p : List Byte} (h : s.Shaped) : (recWheelApply p s).Shaped :=
  .pushCfg (.putWritable (.putWritable (.putWritable h)))

theorem State.Shaped.recRefused {s : State} {status rec_ word : Nat} (h : s.Shaped) :
    (s.recRefused status rec_ word).Shaped :=
  .setF (.setF (.setF h))

theorem State.Shaped.writeRec {s : State} {a : Nat} {w : Word} (h : s.Shaped) : (s.writeRec a w).Shaped := by
  unfold State.writeRec
  dsimp only
  split
  · exact .pushCfg (.putWritable h)
  · split
    · split
      · exact .recRefused h
      · exact .pushCfg (.setReg h)
    · split
      · exact .ite (.recRefused h) (.pushCfg (.setReg h))
      · split
        · exact .recRefused h
        · exact .pushCfg (.setReg h)

theorem State.Shaped.putPins {s : State} {p : PinPart} (h : s.Shaped) : (s.putPins p).Shaped := h

theorem State.Shaped.applySafeLevel {s : State} {mask : Nat} (h : s.Shaped) : (s.applySafeLevel mask).Shaped :=
  .putPins h

theorem State.Shaped.releasePins {s : State} {mask : Nat} (h : s.Shaped) : (s.releasePins mask).Shaped :=
  .ite h (.putPins h)

theorem State.Shaped.pioDrive {s : State} {k : Nat} {w : Word} (h : s.Shaped) : (s.pioDrive k w).Shaped := by
  unfold State.pioDrive
  dsimp only
  split
  · exact .putPins h
  · exact .putPins h
  · exact .putPins h
  · exact h

theorem State.Shaped.setPioState {s : State} {k st : Nat} (h : s.Shaped) : (s.setPioState k st).Shaped :=
  .setF (.setF (.setPio h))

theorem State.Shaped.pioExec {s : State} {k : Nat} {w : Word} (h : s.Shaped) : (s.pioExec k w).Shaped := by
  unfold State.pioExec
  dsimp only
  split
  · exact .notchPeriod (.setPio (.pioDrive h))
  · exact .raise (.setPio (.pioDrive h))
  · exact .raise (.setPioState (.setPio (.pioDrive h)))
  · exact .setPio (.pioDrive h)

theorem State.Shaped.pioCycle {s : State} {k : Nat} {w : Word} (h : s.Shaped) : (s.pioCycle k w).Shaped :=
  .setPio (.pioExec h)

theorem State.Shaped.legacyFire {s : State} {k : Nat} (h : s.Shaped) : (s.legacyFire k).Shaped :=
  .ite (.setPio (.when (.putPins h) .raise)) (.ite (.setPioState (.when (.putPins h) .raise)) (.setPio (.when
    (.putPins h) .raise)))

theorem State.Shaped.pioTick {s : State} {k : Nat} (h : s.Shaped) : (s.pioTick k).Shaped :=
  .ite h (.ite (.ite (.legacyFire h) (.setPio h)) (.pioCycle h))

theorem State.Shaped.pioRun {s : State} {n : Nat} (h : s.Shaped) : (s.pioRun n).Shaped := by
  induction n generalizing s with
  | zero => exact h
  | succ n ih => exact ih (.pioTick (.pioTick (.pioTick (.pioTick h))))

theorem State.Shaped.pioRefused {s : State} {status reason addr : Nat} (h : s.Shaped) :
    (s.pioRefused status reason addr).Shaped :=
  .setF (.setF (.setF h))

theorem State.Shaped.putPioWord {s : State} {k a : Nat} {w : Word} (h : s.Shaped) : (s.putPioWord k a w).Shaped :=
  .setPio h

theorem State.Shaped.pioLoadApply {s : State} {p : List Byte} (h : s.Shaped) : (pioLoadApply p s).Shaped :=
  .each h .putPioWord

theorem State.Shaped.pioStartApply {s : State} {p : List Byte} (h : s.Shaped) : (pioStartApply p s).Shaped :=
  .each h fun h => .releasePins (.setPioState (.setPio (.putPins h)))

theorem State.Shaped.pioStop {s : State} {k : Nat} (h : s.Shaped) : (s.pioStop k).Shaped :=
  .setPioState (.applySafeLevel h)

theorem State.Shaped.pioInjectApply {s : State} {p : List Byte} (h : s.Shaped) : (pioInjectApply p s).Shaped :=
  .ite (.setPio (.pioExec h)) (.pioExec h)

theorem State.Shaped.pioConfigApply {s : State} {p : List Byte} (h : s.Shaped) : (pioConfigApply p s).Shaped :=
  .releasePins (.setReg (.setReg (.setReg h)))

theorem State.Shaped.pioStep {s : State} (h : s.Shaped) : s.pioStep.Shaped := .setF h

theorem State.Shaped.writePioPmem {s : State} {w : Word} (h : s.Shaped) : (s.writePioPmem w).Shaped := by
  unfold State.writePioPmem
  dsimp only
  split
  · exact .pioRefused h
  · exact .pioStep (.putPioWord h)

theorem State.Shaped.writePioConfig {s : State} {a : Nat} {w : Word} (h : s.Shaped) : (s.writePioConfig a w).Shaped :=
    by
  unfold State.writePioConfig
  dsimp only
  split
  · exact .pioRefused h
  · exact .releasePins (.setReg h)

theorem State.Shaped.addTick {s : State} {e : EngTick} (h : s.Shaped) (he : e.done.length = 9 := by rfl) :
    (s.addTick e).Shaped := by
  refine .putEngTicks h (fun x hx => ?_) h.2.2.2.2.2.1
  rcases mem_insertTick hx with rfl | hx
  · exact he
  · exact ticks_done h x hx

theorem State.Shaped.engineSettle {s : State} (h : s.Shaped) : s.engineSettle.Shaped := .endAll (.finishAllDue h)

theorem State.Shaped.fastArrive {s : State} {t : Nat} {xs : List Sample} (h : s.Shaped) : (s.fastArrive t xs).Shaped
    := by
  unfold State.fastArrive
  extract_lets s1 cfg l f i p demod imb _ e s2 _ s3 s4 _ s5 s6
  have h1 : s1.Shaped := .pruneTicks (.applyCfg (.applyParams (.engineSettle h)))
  clear_value s1
  have h3 : s3.Shaped := .putEng (.addTick (.same h1))
  clear_value s3
  have h4 : s4.Shaped := .evalSpec h3
  clear_value s4
  have h5 : s5.Shaped := .putEng h4 (hm := List.length_map _)
  exact .resolveVoids (.forUpTo (.maxF h5) .openNext)

theorem State.Shaped.commArrive {s : State} {f : Fused} (h : s.Shaped) : (s.commArrive f).Shaped := by
  unfold State.commArrive
  extract_lets t s1 s2 wait s3
  have h1 : s1.Shaped := .voidWhere (.engineSettle h)
  have h3 : s3.Shaped := .setTick (.ite h1 (.addTick h1)) fun _ => by split <;> rfl
  split
  · exact h3
  · exact .ite h3 (.forUpTo (.setTick (.resolveRecs h3)) .resolveMach)

theorem State.Shaped.commitTick {s : State} {hs : List HeldRec} (h : s.Shaped) : (s.commitTick hs).Shaped :=
  .ite (.commitAll h) (.ite (.commitAll h) (.commitAll (.each (.ringConfigPoint h) fun h => .ite h (.ringOnly h))))

theorem State.Shaped.dawnTime {s : State} {t : Nat} (h : s.Shaped) : (s.dawnTime t).Shaped := .ite (.commitOne h) h

theorem State.Shaped.commitHeld {s : State} {t : Nat} (h : s.Shaped) : (s.commitHeld t).Shaped := .each h .commitTick

theorem State.Shaped.loseFast {s : State} {t : Nat} (h : s.Shaped) : (s.loseFast t).Shaped := by
  unfold State.loseFast
  extract_lets s1 s2 s3 s4
  have h1 : s1.Shaped := .applyCfg (.applyParams (.engineSettle h))
  clear_value s1
  exact .ite (.putEng (.addTick (.same h1))) h

theorem State.Shaped.loseCommitted {s : State} {stage t : Nat} (h : s.Shaped) : (s.loseCommitted stage t).Shaped :=
  .ite (.ite (.staleVote (.ite (.same (.hold h)) (.hold h))) (.ite (.same (.hold h)) (.hold h))) h

theorem State.Shaped.lateStage {s : State} {stage t : Nat} (h : s.Shaped) : (s.lateStage stage t).Shaped :=
  .ite (.ite (.loseFast (.raise (.setF h))) (.raise (.setF h))) (.loseCommitted (.ite (.loseFast (.raise (.setF h)))
    (.raise (.setF h))))

theorem State.Shaped.edgeIgnored {s : State} (h : s.Shaped) : s.edgeIgnored.Shaped := .raise (.incSat h)

theorem State.Shaped.putBoundary {s : State} {b : Nat} (h : s.Shaped) : (s.putBoundary b).Shaped :=
  .setReg (.setReg h)

theorem State.Shaped.beginJoin {s : State} {b : Nat} (h : s.Shaped) : (s.beginJoin b).Shaped :=
  .putPair (.setF (.setF (.setF (.setF (.putBoundary h)))))

theorem State.Shaped.sendJoinReq {s : State} (h : s.Shaped) : s.sendJoinReq.Shaped := .sendPair h

theorem State.Shaped.startJoin {s : State} (h : s.Shaped) : s.startJoin.Shaped := .sendJoinReq (.beginJoin h)

theorem State.Shaped.learnPartner {s : State} {p : List Byte} (h : s.Shaped) : (s.learnPartner p).Shaped :=
  .forUpTo (.setF (.putPair h)) .setReg

theorem State.Shaped.partnerLeave {s : State} (h : s.Shaped) : s.partnerLeave.Shaped :=
  .ite (.failOpen h) (.pairLeave h)

theorem State.Shaped.takeContrib {s : State} {c : Contrib} (h : s.Shaped) : (s.takeContrib c).Shaped := by
  unfold State.takeContrib
  split
  · exact .formPair h
  · exact .ite (.putPair h) (.ite (.putPair h) (.pairLate h))

theorem State.Shaped.pairConfigApply {s : State} {p : List Byte} (h : s.Shaped) : (pairConfigApply p s).Shaped :=
  .syncPair (.putWritable (.setReg (.putWritable h)))

theorem State.Shaped.writePair {s : State} {a : Nat} {w : Word} (h : s.Shaped) : (s.writePair a w).Shaped :=
  .ite (.ite (.setF h) (.syncPair (.putWritable h))) h

theorem State.Shaped.takeVisible {s : State} {n : Nat} (h : s.Shaped) : (s.takeVisible n).Shaped := .syncSink h

theorem State.Shaped.putQueueCfg {s : State} {w : Word} (h : s.Shaped) : (s.putQueueCfg w).Shaped :=
  .watermark (.syncSink (.same (.putWritable h)))

theorem State.Shaped.queueByte {s : State} (h : s.Shaped) : s.queueByte.Shaped := by
  unfold State.queueByte
  split
  · exact .outByte h
  · split
    · exact .syncSink (.outByte h)
    · split
      · split
        · exact .syncSink (.outByte h)
        · exact .syncSink h
      · exact .outByte (.same (.syncSink h))

theorem State.Shaped.commandTrigger {s : State} {desc : Nat} (h : s.Shaped) : (s.commandTrigger desc).Shaped :=
  .captureTrigger h

theorem State.Shaped.ringCmd {s : State} {w : Word} (h : s.Shaped) : (s.ringCmd w).Shaped :=
  .ite (.commandTrigger h) (.ite (.ringRelease h) (.ite (.ringEmpty h) h))

theorem State.Shaped.twStart {s : State} (h : s.Shaped) : s.twStart.Shaped := .ite h (.setF h)

theorem State.Shaped.busAccess {s : State} {a n : Nat} (h : s.Shaped) : (s.busAccess a n).Shaped := .setF (.twStart h)

theorem State.Shaped.byBus {s : State} {bus : Bool} {a : Nat} {f : State → State} (h : s.Shaped)
    (hf : ∀ {t : State}, t.Shaped → (f t).Shaped) : (s.byBus bus a f).Shaped :=
  .ite (.ite (.twStart h) (hf (.busAccess (.twStart h)))) (hf h)

theorem State.Shaped.busRead {s : State} {bytes : Fin 5} {a : Nat} (h : s.Shaped) : (s.busRead bytes a).Shaped :=
  .ite h (.busAccess h)

theorem State.Shaped.doorbell {s : State} {w : Word} (h : s.Shaped) : (s.doorbell w).Shaped :=
  .ite (.incSat h) (.post h)

theorem State.Shaped.hostSet {s : State} {w : Word} (h : s.Shaped) : (s.hostSet w).Shaped := .setEnable h

theorem State.Shaped.hostEnWrite {s : State} {j : Nat} {w : Word} (h : s.Shaped) : (s.hostEnWrite j w).Shaped :=
  .forUpTo h .setEnable

theorem State.Shaped.cpEnables {s : State} (h : s.Shaped) : s.cpEnables.Shaped :=
  .forUpTo h fun h => .draw (.forUpTo h .setEnable)

theorem State.Shaped.clearTarget {s : State} {t : Target} (h : s.Shaped) : (s.clearTarget t).Shaped :=
  .forUpTo h fun h => .setF (.setF h)

theorem State.Shaped.clearCp {s : State} (h : s.Shaped) : s.clearCp.Shaped := .forUpTo (.clearTarget h) .setF

theorem State.Shaped.resampleAll {s : State} (h : s.Shaped) : s.resampleAll.Shaped :=
  .forUpTo h fun h => .resample (.resample h)

theorem State.Shaped.xingReset {s : State} {k : Nat} (h : s.Shaped) : (s.xingReset k).Shaped := h

theorem State.Shaped.stopMachines {s : State} {report : Bool} (h : s.Shaped) : (s.stopMachines report).Shaped :=
  .forUpTo h .stopMach

theorem State.Shaped.stopRecs {s : State} {report : Bool} (h : s.Shaped) : (s.stopRecs report).Shaped := by
  unfold State.stopRecs
  extract_lets acts _ s1 s2 _ s3 keep s4
  have h2 : s2.Shaped := .ite (.each (.putEng h) .falsestopNow) (.putEng h)
  have h3 : s3.Shaped := .putEngTicks h2 (fun _ hx => absurd hx List.not_mem_nil) keepTheft_length
  exact .each (.setReg (.setReg h3)) .setReg

theorem State.Shaped.stopSensing {s : State} (h : s.Shaped) : s.stopSensing.Shaped := by
  unfold State.stopSensing
  extract_lets _ s1 _ s2 s3 s4 s5 s6
  have h1 : s1.Shaped := .putArray h (ht := List.length_map _) (hx := (axes_length h).symm)
  have h3 : s3.Shaped := .same (.putFilt h1)
  exact .setF (.setF (.setF (.setF (.setF (.setF (.setReg (.setReg h3)))))))

theorem State.Shaped.stopPio {s : State} (h : s.Shaped) : s.stopPio.Shaped := .each h .pioStop

theorem State.Shaped.leaveImago {s : State} (h : s.Shaped) : s.leaveImago.Shaped :=
  .setF (.stopSensing (.stopPio (.flushVisible (.safePath (.commitHeld (.stopRecs (.stopMachines (.pairPowerLeave
    (.finishAllDue h)))))))))

theorem State.Shaped.enterStage {s : State} {st entry : Nat} (h : s.Shaped) : (s.enterStage st entry).Shaped :=
  .raise (.cpEnables (.setF (.setF h)))

theorem State.Shaped.noiseAtFloor {s : State} (h : s.Shaped) : s.noiseAtFloor.Shaped :=
  .putArray h (hc := by simp [chans_length h])

theorem State.Shaped.startSensing {s : State} {cause : Nat} (h : s.Shaped) : (s.startSensing cause).Shaped := by
  unfold State.startSensing
  extract_lets from_ fresh _ s1 v _
  have h1 : s1.Shaped := .putArray h (ht := by simp [triads_length h])
  exact .settleAtLock (.syncDriveFault (.setF (.putFilt h1)))

theorem State.Shaped.enterImago {s : State} {entry schema : Nat} (h : s.Shaped) : (s.enterImago entry schema).Shaped
    :=
  .ite (.ite (.disarmedQuiet (.same (.setF (.enterStage h)))) (.setF (.enterStage h))) (.noiseAtFloor (.same (.ite
    (.disarmedQuiet (.same (.setF (.enterStage h)))) (.setF (.enterStage h)))))

theorem State.Shaped.resumeTime {s : State} {tick0 time0 : Nat} {rate : Int} {cycles : Nat} (h : s.Shaped) :
    (s.resumeTime tick0 time0 rate cycles).Shaped :=
  .raise (.same (.setF (.setF (.setTime h))))

theorem State.Shaped.dropCommands {s : State} (h : s.Shaped) : s.dropCommands.Shaped := .putTime (.putLink h)

theorem State.Shaped.dropStaged {s : State} (h : s.Shaped) : s.dropStaged.Shaped := h

theorem State.Shaped.restartLarva {s : State} {brownout : Bool} (h : s.Shaped) : (s.restartLarva brownout).Shaped :=
  .enterStage (.setF (.setF h))

theorem State.Shaped.safetyReset {s : State} (h : s.Shaped) : s.safetyReset.Shaped :=
  .same (.incSat (.setF (.safePath h)))

theorem State.Shaped.controlReset {s : State} {cut : Nat} (h : s.Shaped) : (s.controlReset cut).Shaped :=
  .restartLarva (.clearCp (.each (.dropStaged (.dropCommands (.stopSensing (.holdPins (.applySafeLevel (.stopPio
    (.flushVisible (.stopRecs (.stopMachines (.pairPowerLeave (.safetyReset h))))))))))) fun h => .when h .xingReset))

theorem State.Shaped.putEntry {s : State} {e : EntryPart} (h : s.Shaped) : (s.putEntry e).Shaped := h

theorem State.Shaped.onePhase {s : State} {p : Nat} (h : s.Shaped) : (s.onePhase p).Shaped := .setF (.setF h)

theorem State.Shaped.startPhase {s : State} (h : s.Shaped) : s.startPhase.Shaped := by
  unfold State.startPhase
  dsimp only
  split
  · exact .draw (.onePhase h)
  · exact h

theorem State.Shaped.syncLimit {s : State} (h : s.Shaped) : s.syncLimit.Shaped := .setF (.setF h)

theorem State.Shaped.limitOn {s : State} {k : Nat} (h : s.Shaped) : (s.limitOn k).Shaped :=
  .ite h (.raise (.incSat (.syncLimit (.putEntry h))))

theorem State.Shaped.limitOff {s : State} {k : Nat} (h : s.Shaped) : (s.limitOff k).Shaped := .syncLimit (.putEntry h)

theorem State.Shaped.vauxOff {s : State} {why : Nat} (h : s.Shaped) : (s.vauxOff why).Shaped :=
  .ite (.setF (.setF (.limitOff (.putEntry h)))) h

theorem State.Shaped.vauxOn {s : State} (h : s.Shaped) : s.vauxOn.Shaped := .ite h (.startPhase (.setF (.putEntry h)))

theorem State.Shaped.vauxRestart {s : State} (h : s.Shaped) : s.vauxRestart.Shaped := .raise (.incSat (.vauxOn h))

theorem State.Shaped.losePower {s : State} {held : Nat → Bool} (_ : s.Shaped) : (s.losePower held).Shaped := by
  unfold State.losePower
  extract_lets theft en active _ _ _ _ s1
  have h1 : s1.Shaped :=
    ⟨rfl, rfl, rfl, rfl, rfl, keepTheft_length, rfl, rfl, fun _ hx => absurd hx List.not_mem_nil⟩
  exact .setReg (.setReg h1)

theorem State.Shaped.brownoutHold {s : State} (h : s.Shaped) : s.brownoutHold.Shaped := .losePower (.putEntry h)

theorem State.Shaped.reportCap {s : State} (h : s.Shaped) : s.reportCap.Shaped := .when (.setF (.setF h)) .raise

theorem State.Shaped.estimateCap {s : State} {charge dv : Nat} (h : s.Shaped) : (s.estimateCap charge dv).Shaped :=
  .reportCap (.when (.setF (.setF h)) .raise)

theorem State.Shaped.retirePhase {s : State} {p cause dev : Nat} (h : s.Shaped) : (s.retirePhase p cause dev).Shaped
    := by
  unfold State.retirePhase
  dsimp only
  split
  · refine .vauxOff ?_
    split
    · split
      · exact .onePhase (.raise (.incSat (.setF (.setF (.setF h)))))
      · exact .setF (.raise (.incSat (.setF (.setF (.setF h)))))
    · exact .setF (.raise (.incSat (.setF (.setF (.setF h)))))
  · refine .limitOn ?_
    split
    · split
      · exact .onePhase (.raise (.incSat (.setF (.setF (.setF h)))))
      · exact .setF (.raise (.incSat (.setF (.setF (.setF h)))))
    · exact .setF (.raise (.incSat (.setF (.setF (.setF h)))))
  · split
    · split
      · exact .onePhase (.raise (.incSat (.setF (.setF (.setF h)))))
      · exact .setF (.raise (.incSat (.setF (.setF (.setF h)))))
    · exact .setF (.raise (.incSat (.setF (.setF (.setF h)))))

theorem State.Shaped.phaseBack {s : State} {p : Nat} (h : s.Shaped) : (s.phaseBack p).Shaped :=
  .ite (.vauxRestart (.ite (.limitOn (.setF (.setF h))) (.limitOff (.setF (.setF h))))) (.ite (.limitOn (.setF (.setF
    h))) (.limitOff (.setF (.setF h))))

theorem State.Shaped.writeConvCfg {s : State} {w : Word} (h : s.Shaped) : (s.writeConvCfg w).Shaped :=
  .ite (.setF h) (.setReg h)

theorem State.Shaped.writeNight {s : State} {a : Nat} {w : Word} (h : s.Shaped) : (s.writeNight a w).Shaped :=
  .ite h (.setReg h)

theorem State.Shaped.intoCocoon {s : State} (h : s.Shaped) : s.intoCocoon.Shaped := by
  unfold State.intoCocoon
  extract_lets keep _ ring n1 _ _ n2 _ n3 _
  have h1 : n1.Shaped := .losePower h
  have h3 : n3.Shaped := .putFilt (.same h1) (hs := by obtain ⟨-, -, -, sets, -⟩ := h1; exact sets.symm)
  exact .putArray h3 (by simp [triads_length h, triads_length h3]) (by simp [chans_length h, chans_length h3])

theorem State.Shaped.nightPins {s : State} (h : s.Shaped) : s.nightPins.Shaped := .putPins h

theorem State.Shaped.startDawn {s : State} {codes : List Nat} {pins : Nat} (h : s.Shaped) :
    (s.startDawn codes pins).Shaped :=
  .when (.same (.setF (.setF (.setF h)))) .vauxOn

theorem State.Shaped.wake {s : State} {code pins : Nat} (h : s.Shaped) : (s.wake code pins).Shaped := by
  unfold State.wake
  split
  · exact h
  · exact .startDawn h
  · exact h

theorem State.Shaped.sentinelFilter {s : State} {v : List Rat} (h : s.Shaped) : (s.sentinelFilter v).Shaped :=
  .putArray h

theorem State.Shaped.theftNight {s : State} {t : Nat} (h : s.Shaped) : (s.theftNight t).Shaped := by
  unfold State.theftNight
  extract_lets cfg m d x _ s1 _ _
  have h1 : s1.Shaped := .putEng h (hd := List.length_set)
  refine .ite h ?_
  split
  · exact h1
  · exact .when (.putEng h1) .wake

theorem State.Shaped.runNoting {s : State} {c : Cmd} {note : Verdict → State → State} {r : Req} (h : s.Shaped)
    (he : ∀ {t : State}, t.Shaped → (c.effect r t).1.Shaped)
    (hn : ∀ {v : Verdict} {t : State}, t.Shaped → (note v t).Shaped) : (Cmd.runNoting c note r s).Shaped := by
  unfold Cmd.runNoting
  split
  · exact hn (.run h he)
  · exact .run h he

theorem State.Shaped.putBoot {s : State} {b : BootPart} (h : s.Shaped) : (s.putBoot b).Shaped := h

theorem State.Shaped.putSlot {s : State} {k : Nat} {v : Slot} (h : s.Shaped) : (s.putSlot k v).Shaped :=
  .ite (.putBoot h) (.putBoot h)

theorem State.Shaped.putBlock {s : State} {k : Nat} {b : Option (List Byte)} (h : s.Shaped) : (s.putBlock k b).Shaped
    :=
  .setF (.putSlot h)

theorem State.Shaped.setActive {s : State} {k : Option Nat} (h : s.Shaped) : (s.setActive k).Shaped := by
  unfold State.setActive
  dsimp only
  split
  · exact .setF (.setReg (.setReg (.setReg (.setF h))))
  · exact .setReg (.setReg (.setReg (.setF h)))

theorem State.Shaped.noteImg {s : State} {k : Nat} {v : Verdict} (h : s.Shaped) : (noteImg k v s).Shaped :=
  .ite (.setF (.setF h)) h

theorem State.Shaped.cmdImgBegin {s : State} {r : Req} (h : s.Shaped) : (Cmd.effect cmdImgBegin r s).1.Shaped := by
  unfold Machine.cmdImgBegin
  dsimp only
  refine .when (.setF (.setF (.putSlot ?_))) .setF
  split
  · exact .setF (.putSlot h)
  · exact h

theorem State.Shaped.cmdImgWrite {s : State} {r : Req} (h : s.Shaped) : (Cmd.effect cmdImgWrite r s).1.Shaped := by
  unfold Machine.cmdImgWrite
  dsimp only
  split
  · exact h
  · exact .fst_ite h (.when (.putSlot h) .setF)

theorem State.Shaped.noteVerify {s : State} {k : Nat} {v : Verdict} (h : s.Shaped) : (noteVerify k v s).Shaped :=
  .ite (.raise (.incSat (.setF (.noteImg h)))) (.noteImg h)

theorem State.Shaped.activate {s : State} {k : Nat} (h : s.Shaped) : (s.activate k).Shaped := by
  unfold State.activate
  dsimp only
  refine .enterStage (.raise (.setF (.putBoot (.setActive (.putBlock ?_)))))
  split
  · exact .when (.setF (.when h .leaveImago)) .setF
  · exact .when h .leaveImago

theorem State.Shaped.sectionCmd {s : State} {typ : Nat} {c : Cmd} {r : Req} (h : s.Shaped)
    (e : sectionCmd typ = some c) : (c.effect r s).1.Shaped := by
  unfold Machine.sectionCmd at e
  split at e <;> cases e
  · exact .requestProfile h
  · exact .putRange (.putRange h)
  · exact .calDeltaApply h
  · exact .putWritable h
  · exact .requestPreset h
  · exact .notchApply h
  · exact .emLoadApply h
  · exact .emConfigApply h
  · exact .emStartApply h
  · exact .emParamApply h
  · exact .recEnableApply h
  · exact .recConfigApply h
  · exact .recWheelApply h
  · exact .safeConfigApply h
  · exact .setReg (.putQueueCfg h)
  · exact .forUpTo (.ringEnable (.putWritable h)) .setReg
  · exact .setReg (.setReg (.setReg h))
  · exact .setReg h
  · exact .setReg (.setReg (.putTimeCfg h))
  · exact .pairConfigApply h
  · exact .pioLoadApply h
  · exact .pioStartApply h
  · exact .pioConfigApply h
  · exact .hkSeqApply h
  · exact .hkWindowApply h

theorem State.Shaped.sectionApply {s : State} {x : Section} (h : s.Shaped) : (sectionApply x s).Shaped := by
  unfold Machine.sectionApply
  split
  · exact h
  · split
    · exact .ite (.putWritable h) (.setReg h)
    · split
      · rename_i hc
        exact .sectionCmd h hc
      · exact h

theorem State.Shaped.blockBase {s : State} (h : s.Shaped) : s.blockBase.Shaped := by
  unfold State.blockBase
  extract_lets s1 _ s2 _ s3 s4 back s5
  have h1 : s1.Shaped := .stopPio (.stopMachines h)
  clear_value s1
  have h3 : s3.Shaped :=
    .putArray (.putEng h1 (hm := h1.2.2.2.2.1.symm))
  have h4 : s4.Shaped := by
    obtain ⟨triads, chans, axes, sets, machs, dec, pio, entries, ticks⟩ := h3
    exact ⟨triads, chans, axes, sets, machs, dec, (List.length_map _).trans pio, entries, ticks⟩
  exact .each (.each (.each h4 .setReg) .setReg) .setReg

theorem State.Shaped.applyType {s : State} {secs : List Section} {absent : Bool} {t : Nat} (h : s.Shaped) :
    (applyType secs absent t s).Shaped := by
  unfold Machine.applyType
  split
  · exact .ite (.sectionApply h) h
  · exact .each h .sectionApply

theorem State.Shaped.applyBlock {s : State} {secs : List Section} (h : s.Shaped) : (s.applyBlock secs).Shaped :=
  .each (.blockBase h) .applyType

theorem State.Shaped.storeBlock {s : State} {b : List Byte} (h : s.Shaped) : (s.storeBlock b).Shaped := by
  unfold State.storeBlock
  split
  · exact .putBlock h
  · exact h

theorem State.Shaped.imagoWith {s : State} {entry : Nat} {b : List Byte} (h : s.Shaped) : (s.imagoWith entry b).Shaped
    :=
  .startSensing (.applyBlock (.enterImago h))

theorem State.Shaped.acceptBlock {s : State} {b : List Byte} (h : s.Shaped) : (s.acceptBlock b).Shaped :=
  .ite (.applyBlock (.setF (.raise (.storeBlock h)))) (.imagoWith (.putBoot (.raise (.storeBlock h))))

theorem State.Shaped.noteReject {s : State} {v : Verdict} (h : s.Shaped) : (noteReject v s).Shaped :=
  .ite (.raise (.incSat (.setReg h))) h

theorem State.Shaped.revert {s : State} (h : s.Shaped) : s.revert.Shaped := by
  unfold State.revert
  dsimp only
  refine .enterStage (.putBoot (.incSat (.setActive ?_)))
  split
  · exact .setF (.setF (.putBlock (.when h .leaveImago)))
  · exact .setF (.when h .leaveImago)

theorem State.Shaped.pairReset {s : State} {cut : Nat} (h : s.Shaped) : (s.pairReset cut).Shaped :=
  .ite (.controlReset h) (.ite (.same (.safetyReset h)) h)

theorem State.Shaped.countRestart {s : State} (h : s.Shaped) : s.countRestart.Shaped := .raise (.incSat (.putBoot h))

theorem State.Shaped.cocoonLost {s : State} (h : s.Shaped) : s.cocoonLost.Shaped :=
  .ite (.same (.setF (.setF (.putTime (.same (.losePower h)))))) (.setSafe (.outputsOff (.same (.setF (.setF (.putTime
    (.same (.losePower h))))))))

theorem State.Shaped.reapply {s : State} (h : s.Shaped) : s.reapply.Shaped := .pushCfg (.each h .applyType)

theorem State.Shaped.restoreSelections {s : State} (h : s.Shaped) : s.restoreSelections.Shaped :=
  .syncDelay (.setF (.ite h (.setF (.putArray h (ht := List.length_map _)))))

theorem State.Shaped.settleOwed {s : State} (h : s.Shaped) : s.settleOwed.Shaped := by
  unfold State.settleOwed
  split
  · exact .when (.recSettle (.putEng h)) .recognizerSafe
  · exact h

theorem State.Shaped.ringAtDawn {s : State} (h : s.Shaped) : s.ringAtDawn.Shaped := .ite h (.ringEmpty h)

theorem State.Shaped.dawnImago {s : State} (h : s.Shaped) : s.dawnImago.Shaped :=
  .when (.settleOwed (.reapply (.startSensing (.noiseAtFloor h)))) .holdPins

theorem State.Shaped.readEffect {s : State} {a : Nat} (h : s.Shaped) : (s.readEffect a).Shaped :=
  .ite (.claim h) (.ite (.emStep h) (.ite (.pioStep h) h))

theorem State.Shaped.writeW1c {s : State} {a : Nat} {w : Word} (h : s.Shaped) : (s.writeW1c a w).Shaped :=
  .ite (.watermark (.setReg h)) (.setReg h)

theorem State.Shaped.writeMbxCtrl {s : State} {w : Word} (h : s.Shaped) : (s.writeMbxCtrl w).Shaped :=
  .when (.when (.when h .discardPartial) .dropReply) .mbxClear

theorem State.Shaped.writeInt {s : State} {a : Nat} {w : Word} (h : s.Shaped) : (s.writeInt a w).Shaped :=
  .ite (.doorbell h) (.ite (.complete h) (.ite (.hostSet h) (.ite (.hostEnWrite h) h)))

theorem State.Shaped.writeQueue {s : State} {a : Nat} {w : Word} (h : s.Shaped) : (s.writeQueue a w).Shaped :=
  .ite (.putQueueCfg h) (.ite (.when h .queueFlush) (.ite (.ringEnable (.putWritable h)) (.ite (.ringCmd h)
    (.putWritable h))))

theorem State.Shaped.writeAddr2 {s : State} {bus : Bool} {w : Word} (h : s.Shaped) : (s.writeAddr2 bus w).Shaped :=
  .ite (.setF h) (.ite (.putWritable h) (.same (.putWritable h)))

theorem State.Shaped.writePio {s : State} {a : Nat} {w : Word} (h : s.Shaped) : (s.writePio a w).Shaped :=
  .ite (.writePioConfig h) (.ite (.writePioPmem h) (.ite (.putWritable h) (.ite (.putMport h) h)))

theorem State.Shaped.hbRefused {s : State} {status : Nat} (h : s.Shaped) : (s.hbRefused status).Shaped :=
  .setF (.setF h)

theorem State.Shaped.writeHb {s : State} {w : Word} (h : s.Shaped) : (s.writeHb w).Shaped :=
  .ite (.heartbeat h) (.hbRefused (.heartbeat h))

theorem State.Shaped.safeCmd {s : State} {w : Word} (h : s.Shaped) : (s.safeCmd w).Shaped := by
  unfold State.safeCmd
  refine .ite ?_ (.ite (.disarm h) (.ite (.arm h) h))
  have hf := faultClear h
  split <;> rename_i he <;> rw [he] at hf
  · exact .hbRefused hf
  · exact hf

theorem State.Shaped.writeSafeLevel {s : State} {w : Word} (h : s.Shaped) : (s.writeSafeLevel w).Shaped :=
  .ite (.safeRefuse h) (.putSafeLevel h)

theorem State.Shaped.writeSafe {s : State} {a : Nat} {w : Word} (h : s.Shaped) : (s.writeSafe a w).Shaped :=
  .ite (.writeHb h) (.ite (.safeCmd h) (.ite (.writeSafeLevel h) (.ite (.ite (.safeRefuse h) (.ite (.safeRefuse h)
    (.putWritable h))) h)))

theorem State.Shaped.writeReinstate {s : State} {w : Word} (h : s.Shaped) : (s.writeReinstate w).Shaped := by
  unfold State.writeReinstate
  dsimp only
  split
  · exact .putWritable h
  · split
    · exact .setF (.putWritable h)
    · exact .testStart (.putWritable h)

theorem State.Shaped.writeSelftest {s : State} {w : Word} (h : s.Shaped) : (s.writeSelftest w).Shaped :=
  .ite (.testStart (.putWritable h)) (.putWritable h)

theorem State.Shaped.writeRange {s : State} {w : Word} (h : s.Shaped) : (s.writeRange w).Shaped :=
  .putRange (.putRange h)

theorem State.Shaped.writeArray {s : State} {a : Nat} {w : Word} (h : s.Shaped) : (s.writeArray a w).Shaped :=
  .ite (.writeReinstate h) (.ite (.writeSelftest h) (.ite (.ite h (.requestProfile h)) (.ite (.writeRange h) (.ite
    (.putWritable h) (.putWritable h)))))

theorem State.Shaped.writePreset {s : State} {w : Word} (h : s.Shaped) : (s.writePreset w).Shaped :=
  .ite h (.requestPreset h)

theorem State.Shaped.writeBank {s : State} {w : Word} (h : s.Shaped) : (s.writeBank w).Shaped := by
  unfold State.writeBank
  split
  · exact .setF h
  · exact .bankApply h

theorem State.Shaped.writeFilt {s : State} {a : Nat} {w : Word} (h : s.Shaped) : (s.writeFilt a w).Shaped :=
  .ite (.writePreset h) (.ite (.writeBank h) (.ite (.putWritable h) (.ite (.ite h (.notchApply h)) h)))

theorem State.Shaped.writeEm {s : State} {a : Nat} {w : Word} (h : s.Shaped) : (s.writeEm a w).Shaped :=
  .ite (.writeEmStart h) (.ite (.emStopApply h) (.ite (.writeEmRegion h) (.ite (.writeEmFlags h) (.ite (.emParam h)
    (.ite (.writeEmPmem h) (.putWritable h))))))

theorem State.Shaped.writeReg {s : State} {bus : Bool} {a : Nat} {w : Word} (h : s.Shaped) :
    (s.writeReg bus a w).Shaped := by
  unfold State.writeReg
  split
  · exact h
  · split
    · exact .writeW1c h
    · split
      · exact .ite (.writeMbxCtrl h) h
      · exact .writeInt h
      · exact .ite (.putWritable h) (.ite h (.writeNight h))
      · exact .writeQueue h
      · exact .writeTime h
      · exact .writeT1s h
      · exact .ite (.writeAddr2 h) (.putWritable h)
      · exact .ite h (.writeHk h)
      · exact .writePio h
      · exact .writeSafe h
      · exact .ite (.writeConvCfg h) h
      · exact .writeArray h
      · exact .writeFilt h
      · exact .writeEm h
      · exact .ite h (.writeRec h)
      · exact .writePair h
      · exact .putWritable h
      · exact h

theorem State.Shaped.readWords {s : State} {n a : Nat} {ws : List Word} (h : s.Shaped) : (s.readWords n a ws).1.Shaped
    := by
  induction n generalizing s a ws with
  | zero => exact h
  | succ n ih => exact ih (.readEffect h)

theorem State.Shaped.latchRange {s : State} {a n : Nat} (h : s.Shaped) : (s.latchRange a n).Shaped :=
  .each h fun h => .when h .readEffect

theorem State.Shaped.writeWords {s : State} {a : Nat} {ws : List Word} (h : s.Shaped) : (s.writeWords a ws).Shaped :=
    by
  induction ws generalizing s a with
  | nil => exact h
  | cons w ws ih => exact ih (.writeReg h)

theorem State.Shaped.endReply {s : State} {status : Nat} {q : QCmd} (h : s.Shaped) : (s.endReply status q).Shaped :=
  .deliver h

theorem State.Shaped.endExecuting {s : State} {status : Nat} (h : s.Shaped) : (s.endExecuting status).Shaped := by
  unfold State.endExecuting
  split
  · exact h
  · exact .endReply h

theorem State.Shaped.endAborted {s : State} (h : s.Shaped) : s.endAborted.Shaped := .incSat (.endExecuting h)

theorem State.Shaped.endOps {s : State} {ops : List Nat} (h : s.Shaped) : (s.endOps ops).1.Shaped :=
  .fst_ite (.endAborted h) h

theorem State.Shaped.abortCommands {s : State} (h : s.Shaped) : s.abortCommands.1.Shaped := .forUpTo h .endAborted

theorem State.Shaped.abortRing {s : State} (h : s.Shaped) : s.abortRing.Shaped := .ite (.setF h) (.ringRelease h)

theorem State.Shaped.abortImage {s : State} (h : s.Shaped) : s.abortImage.Shaped := by
  unfold State.abortImage
  dsimp only
  refine .when ?_ .putBoot
  split
  · exact .setF (.putSlot h)
  · exact h

theorem State.Shaped.abortScope {s : State} {k : Nat} (h : s.Shaped) : (abortScope k s).1.Shaped := by
  unfold Machine.abortScope
  split <;> dsimp only
  · exact .abortCommands h
  · exact .stopMachines h
  · exact .queueFlush (.endOps h)
  · exact .abortRing h
  · exact .abortDiag h
  · exact .abortImage (.endOps h)
  · exact .stopPio h
  · exact .when h .pairCommandLeave

theorem State.Shaped.abortScopes {s : State} {ks : List Nat} {ended removed : Nat} (h : s.Shaped) :
    (abortScopes ks (s, ended, removed)).1.Shaped := by
  induction ks generalizing s ended removed with
  | nil => exact h
  | cons k ks ih => exact ih (.abortScope h)

theorem State.Shaped.cmdAbort {s : State} {r : Req} (h : s.Shaped) : (Cmd.effect cmdAbort r s).1.Shaped :=
  .abortScopes (.incSat h)

theorem State.Shaped.runImmediate {s : State} {op : Nat} {r : Req} (h : s.Shaped) : (runImmediate op r s).Shaped :=
  .ite (.run h id) (.ite (.run h .cmdAbort) (.ite (.run h .emStopApply) (.ite (.heartbeatCommand h)
    (.ite (.run h .disarm) (.run h id)))))

theorem State.Shaped.receive {s : State} {o : Origin} {bytes : List Byte} {ingress : Nat} (h : s.Shaped) :
    (s.receive o bytes ingress).Shaped := by
  unfold State.receive
  split
  · rename_i hd
    exact judge h _ hd
  · exact .runImmediate h

theorem State.Shaped.mailboxWrite {s : State} {first : Bool} {b : Byte} (h : s.Shaped) :
    (s.mailboxWrite first b).Shaped :=
  .ite h (.ite (.putLink h) (.ite (.receive (.putLink (.putLink h))) (.ite (.putLink h) (.receive (.discardPartial
    (.putLink h))))))

theorem State.Shaped.passByte {s : State} {page : Nat} (h : s.Shaped) : (s.passByte page).Shaped := .setF h

theorem State.Shaped.partialWord {s : State} (h : s.Shaped) : s.partialWord.Shaped := .raise (.incSat h)

theorem State.Shaped.selectPage {s : State} {p : Nat} (h : s.Shaped) : (s.selectPage p).Shaped :=
  .ite (.raise h) (.setF h)

theorem State.Shaped.dataBytes {s : State} {bs : List Byte} {first : Bool} {buf : List Byte} (h : s.Shaped) :
    (s.dataBytes bs first buf).Shaped := by
  induction bs generalizing s first buf with
  | nil => exact .ite h (.partialWord h)
  | cons b bs ih =>
    unfold State.dataBytes
    extract_lets page p s1
    have h1 : s1.Shaped := .passByte h
    exact .ite (ih (.mailboxWrite h1)) (.ite (ih h1) (.ite (ih h1) (.ite (ih (.writeReg h1)) (ih (.partialWord h1)))))

theorem State.Shaped.applySegment {s : State} {bytes : List Byte} (h : s.Shaped) : (s.applySegment bytes).Shaped := by
  unfold State.applySegment
  split
  · exact .ite h (.ite (.selectPage h) (.dataBytes (.setF h)))
  · exact h

theorem State.Shaped.stopPec {s : State} {before rest : List Byte} (h : s.Shaped) : (s.stopPec before rest).Shaped :=
    by
  unfold State.stopPec
  split
  · exact .ite h (.ite (.applySegment h) (.raise (.incSat h)))
  · exact h

theorem State.Shaped.twIdle {s : State} (h : s.Shaped) : s.twIdle.Shaped := .setF h

theorem State.Shaped.baseTick {s : State} (h : s.Shaped) : s.baseTick.Shaped :=
  .ite h (.forUpTo (.ite (.pioRun (.setTime h)) (.setTime h)) fun h => .openNext (.endOpen h))

end Sys2Proof.Machine

namespace Sys2Proof.Machine

/-! ### Every command and every base tick keeps the number of the parts -/

section
variable {c : Instr} {s t : State} (h : s.Shaped)
include h

theorem ixRow_shaped {op : Nat} {n : Fin 32} {cond : Fin 16} {d sr : Fin 8} {imm : BitVec 16}
    (hx : exec c s = ixRow op n cond d sr imm s) (he : exec c s = .next t) : t.Shaped :=
  act_keeps hx he h fun h => .runWord (.finishAllDue h)

theorem pioRow_shaped {k : Fin 4} {w : Word} (hx : exec c s = pioRow k w s) (he : exec c s = .next t) : t.Shaped :=
  act_keeps hx he h fun h => .ite (.pioCycle h) h

theorem pioRowPins_shaped {k : Fin 4} {pins : BitVec 6} {w : Word} (hx : exec c s = pioRowPins k pins w s)
    (he : exec c s = .next t) : t.Shaped :=
  act_keeps hx he h fun h => .ite (.pioCycle (.putPins h)) (.putPins h)

theorem regWrite_shaped {bus : Bool} {a : Nat} {w : Word} (hx : exec c s = regWrite bus a w s)
    (he : exec c s = .next t) : t.Shaped :=
  act_keeps hx he h fun h => .when h fun h => .byBus h .writeReg

theorem regRead_shaped {bytes : Fin 5} {a : Nat} (hx : exec c s = regRead bytes a s) (he : exec c s = .next t) :
    t.Shaped :=
  act_keeps hx he h fun h => .when h fun h => .busRead (.outWord (.readEffect h))

theorem cmdRun_shaped {d : Cmd} {r : Req} (hx : exec c s = act (d.run r) s) (he : exec c s = .next t)
    (hd : ∀ {u : State}, u.Shaped → (d.effect r u).1.Shaped) : t.Shaped :=
  act_keeps hx he h fun h => .run h hd

theorem brownoutExit_shaped {cycles : BitVec 64} (he : exec (.brownoutExit cycles) s = .next t) : t.Shaped := by
  refine act_keeps (exec_brownoutExit cycles s) he h fun h => ?_
  split
  · exact .restartLarva (.holdPins (.safetyReset (.raise (.incSat (.vauxOn (.resumeTime (.putEntry h)))))))
  · exact h

theorem phaseRetry_shaped {p : Fin 3} {light : Bool} {again : Option (Fin 3 × Byte)}
    (he : exec (.phaseRetry p light again) s = .next t) : t.Shaped := by
  refine act_keeps (exec_phaseRetry p light again s) he h fun h => ?_
  split
  · exact h
  · split
    · exact .retirePhase h
    · exact .phaseBack h

theorem phaseRotation_shaped (he : exec .phaseRotation s = .next t) : t.Shaped := by
  refine act_keeps (exec_phaseRotation s) he h fun h => ?_
  split
  · split
    · exact .onePhase h
    · exact h
  · exact h

theorem restartVerify_shaped {intact : Bool} (he : exec (.restartVerify intact) s = .next t) : t.Shaped := by
  refine act_keeps (exec_restartVerify intact s) he h fun h => ?_
  split
  · exact h
  · dsimp only
    split
    · exact .countRestart h
    · split
      · exact .setActive (.setF (.countRestart h))
      · split
        · exact .enterStage (.setF (.setActive (.setF (.countRestart h))))
        · split
          · exact .imagoWith (.countRestart h)
          · exact .enterStage (.countRestart h)

theorem revertImagoEntry_shaped (he : exec .revertImagoEntry s = .next t) : t.Shaped := by
  refine act_keeps (exec_revertImagoEntry s) he h fun h => ?_
  split
  · exact h
  · split
    · exact .imagoWith (.putBoot h)
    · exact h

theorem requestReceived_shaped {o : Origin} {bytes : List Byte} {latched : BitVec 96}
    (he : exec (.requestReceived o bytes latched) s = .next t) : t.Shaped := by
  refine act_keeps (exec_requestReceived o bytes latched s) he h fun h => ?_
  split
  · exact .when h .receive
  · exact .receive h

theorem safeArm_shaped {r : Req} (he : exec (.safeArm r) s = .next t) : t.Shaped := by
  refine act_keeps (exec_safeArm r s) he h fun h => ?_
  refine .run ?_ .armAccept
  split
  · exact .safeRefuse h
  · exact h

theorem safeConfig_shaped {r : Req} (he : exec (.safeConfig r) s = .next t) : t.Shaped := by
  refine act_keeps (exec_safeConfig r s) he h fun h => ?_
  refine .run ?_ .safeConfigApply
  split
  · exact .safeRefuse h
  · exact h

theorem profileBoundary_shaped {x : BitVec 64} (he : exec (.profileBoundary x) s = .next t) : t.Shaped := by
  refine act_keeps (exec_profileBoundary x s) he h fun h => ?_
  split
  · exact .profileDone (.hold (.setF (.forUpTo (.putArray h) .profileTriad)))
  · exact h

theorem retirementDecision_shaped {what : Retire} (he : exec (.retirementDecision what) s = .next t) : t.Shaped := by
  refine act_keeps (exec_retirementDecision what s) he h fun h => ?_
  split
  · exact .ite (.putArray h) h
  · exact .ite (.putArray h) h

theorem arbitrationWaitExceeded_shaped {what : ArbWait}
    (he : exec (.arbitrationWaitExceeded what) s = .next t) : t.Shaped := by
  refine act_keeps (exec_arbitrationWaitExceeded what s) he h fun h => ?_
  split
  · split
    · exact .machFault h
    · exact .machFault h
  · exact .lateStage h

theorem presetApply_shaped (he : exec .presetApply s = .next t) : t.Shaped := by
  refine act_keeps (exec_presetApply s) he h fun h => ?_
  split
  · exact .ite h (.presetApply h)
  · exact h

theorem presetChangeComplete_shaped (he : exec .presetChangeComplete s = .next t) : t.Shaped := by
  refine act_keeps (exec_presetChangeComplete s) he h fun h => ?_
  split
  · split
    · exact h
    · dsimp only
      split
      · exact .requestPreset (.putFilt h)
      · exact .setF (.putFilt h)
  · exact h

theorem bankSwapApply_shaped (he : exec .bankSwapApply s = .next t) : t.Shaped := by
  refine act_keeps (exec_bankSwapApply s) he h fun h => ?_
  split
  · exact .pairConfigLeave (.raise (.mappingChanged (.syncDelay (.setF (.putFilt (.setF (.setF h)))))))
  · exact h

theorem notchSetChange_shaped (he : exec .notchSetChange s = .next t) : t.Shaped := by
  refine act_keeps (exec_notchSetChange s) he h fun h => ?_
  split
  · exact .useSlot (.putFilt h)
  · exact h

theorem decimSyncApply_shaped (he : exec .decimSyncApply s = .next t) : t.Shaped := by
  refine act_keeps (exec_decimSyncApply s) he h fun h => ?_
  split
  · exact .decimResetAlone h
  · exact h

theorem committedSampleArrival_shaped {x : BitVec 64}
    (he : exec (.committedSampleArrival x) s = .next t) : t.Shaped := by
  refine act_keeps (exec_committedSampleArrival x s) he h fun h => ?_
  split
  · exact .when h .commArrive
  · exact h

theorem recDeclare_shaped {i : Fin 9} (he : exec (.recDeclare i) s = .next t) : t.Shaped := by
  refine act_keeps (exec_recDeclare i s) he h fun h => ?_
  split
  · exact .when h .finishDue
  · exact h

theorem recRelease_shaped {i : Fin 9} (he : exec (.recRelease i) s = .next t) : t.Shaped := by
  refine act_keeps (exec_recRelease i s) he h fun h => ?_
  split
  · exact .when h .finishDue
  · exact h

theorem overflowGap_shaped (he : exec .overflowGap s = .next t) : t.Shaped := by
  refine act_keeps (exec_overflowGap s) he h fun h => ?_
  split
  · exact .ite (.watermark (.commitRec h)) h
  · exact h

theorem queueEccError_shaped {k : Fin 1024} (he : exec (.queueEccError k) s = .next t) : t.Shaped := by
  refine act_keeps (exec_queueEccError k s) he h fun h => ?_
  split
  · exact .dropRecs h
  · exact h

theorem transmitOpportunity_shaped {outcome : TxOutcome}
    (he : exec (.transmitOpportunity outcome) s = .next t) : t.Shaped := by
  refine act_keeps (exec_transmitOpportunity outcome s) he h fun h => ?_
  split
  · exact h
  · split
    · exact .sendContribs h
    · dsimp only
      split
      · exact h
      · split
        · exact .setF (.frameSent (.dropStream h))
        · exact .incSat h
        · exact .incSat (.dropStream h)
      · split
        · exact .frameSent (.putLink h)
        · exact .incSat h
        · exact .incSat (.putLink h)

theorem pdelayResp_shaped {latched t2 t3 : BitVec 96}
    (he : exec (.pdelayResp latched t2 t3) s = .next t) : t.Shaped := by
  refine act_keeps (exec_pdelayResp latched t2 t3 s) he h fun h => ?_
  dsimp only
  split
  · exact .when h .putTime
  · exact h

theorem txTimestamp_shaped {latched : BitVec 96} (he : exec (.txTimestamp latched) s = .next t) : t.Shaped := by
  refine act_keeps (exec_txTimestamp latched s) he h fun h => ?_
  split
  · exact h
  · exact .ite (.raise (.incSat (.putTime h))) (.ite (.sendFrame (.raise (.putTime (.putTime h)))) (.ite (.sendFrame
      (.raise (.putTime (.putTime h)))) (.raise (.putTime (.putTime h)))))

theorem hostTsExpiry_shaped (he : exec .hostTsExpiry s = .next t) : t.Shaped := by
  refine act_keeps (exec_hostTsExpiry s) he h fun h => ?_
  split
  · exact .incSat (.putTime h)
  · exact h

theorem joinReqReceived_shaped {mac : BitVec 48} {payload : List Byte}
    (he : exec (.joinReqReceived mac payload) s = .next t) : t.Shaped := by
  refine act_keeps (exec_joinReqReceived mac payload s) he h fun h => ?_
  split
  · exact h
  · split
    · exact .putT1s (.sendFrame h)
    · exact .sendPair (.ite (.rearm (.putTime (.learnPartner (.beginJoin h)))) (.learnPartner (.beginJoin h)))

theorem autoJoin_shaped (he : exec .autoJoin s = .next t) : t.Shaped := by
  refine act_keeps (exec_autoJoin s) he h fun h => ?_
  split
  · split
    · exact .failJoin h
    · exact .startJoin h
  · exact h

theorem ptpOnlyReset_shaped (he : exec .ptpOnlyReset s = .next t) : t.Shaped := by
  refine act_keeps (exec_ptpOnlyReset s) he h fun h => ?_
  split
  · exact .when h .decimReset
  · exact h

theorem fusionWaitExpiry_shaped (he : exec .fusionWaitExpiry s = .next t) : t.Shaped := by
  refine act_keeps (exec_fusionWaitExpiry s) he h fun h => ?_
  split
  · exact .ite (.pairLeave (.formAlone h)) (.setF (.formAlone h))
  · exact h

theorem nightEntry_shaped (he : exec .nightEntry s = .next t) : t.Shaped := by
  refine act_keeps (exec_nightEntry s) he h fun h => ?_
  split
  · exact h
  · dsimp only
    split
    · exact .setF (.when (.nightPins (.intoCocoon h)) .vauxOff)
    · exact .startDawn (.incSat (.setF (.when (.nightPins (.intoCocoon h)) .vauxOff)))

theorem dawnComplete_shaped {cycles : BitVec 64} {ms : Word} {cut : BitVec 11}
    (he : exec (.dawnComplete cycles ms cut) s = .next t) : t.Shaped := by
  refine act_keeps (exec_dawnComplete cycles ms cut s) he h fun h => ?_
  extract_lets s1 s2 s3 s4 _ s5 s6 d _ s7 s8 _ s9
  have h4 : s4.Shaped := .forUpTo (.setReg (.incSat (.setF (.setF (.setF h))))) fun h => .when h .xingReset
  have h8 : s8.Shaped := .raise (.rearm (.resumeTime (.putTime (.resampleAll (.restoreSelections (.ringAtDawn
    (.putPins h4)))))))
  clear_value s8
  exact .ite h (.ite (.restartLarva (.holdPins (.clearCp (.same h8)))) (.dawnImago h8))

theorem sliceCalibration_shaped {good : Bool} (he : exec (.sliceCalibration good) s = .next t) : t.Shaped := by
  refine act_keeps (exec_sliceCalibration good s) he h fun h => ?_
  split
  · exact h
  · exact .ite (.putHk (.setSlice h)) (.retireSlice h)

theorem sliceSwap_shaped {disagree : Bool} (he : exec (.sliceSwap disagree) s = .next t) : t.Shaped := by
  refine act_keeps (exec_sliceSwap disagree s) he h fun h => ?_
  split
  · exact .ite (.putHk (.putHk (.incSat (.setSlice (.setSlice h))))) (.ite (.retireSlice (.putHk (.incSat (.setSlice
      (.setSlice h))))) (.putHk (.setSlice (.putHk (.incSat (.setSlice (.setSlice h)))))))
  · exact h

theorem phaseShedding_shaped {active : Fin 8} (he : exec (.phaseShedding active) s = .next t) : t.Shaped := by
  refine act_keeps (exec_phaseShedding active s) he h fun h => ?_
  dsimp only
  split
  · exact h
  · split
    · exact .setF (.setF h)
    · exact .setF h

theorem committedVote_shaped {x : BitVec 64} {xs : List (Word × Bool)}
    (he : exec (.committedVote x xs) s = .next t) : t.Shaped := by
  by_cases hlen : xs.length = 216
  · exact act_keeps (exec_committedVote_of_length hlen x s) he h fun h => .when h .vote
  · rw [exec_committedVote_of_length_ne hlen] at he
    contradiction

theorem fastSampleArrival_shaped {x : BitVec 64} {xs : List (Word × Bool)}
    (he : exec (.fastSampleArrival x xs) s = .next t) : t.Shaped := by
  by_cases hlen : xs.length = 216
  · exact act_keeps (exec_fastSampleArrival_of_length hlen x s) he h fun h => .when h .fastArrive
  · rw [exec_fastSampleArrival_of_length_ne hlen] at he
    contradiction

theorem pioPmemData_shaped {bus : Bool} {w : Option Word} (he : exec (.pioPmemData bus w) s = .next t) :
    t.Shaped := by
  cases w with
  | none => exact regRead_shaped h rfl he
  | some w => exact regWrite_shaped h rfl he

end

/-- Settles O60. -/
theorem resetIsShaped : Obligations.ResetIsShaped := by
  unfold Obligations.ResetIsShaped State.Shaped
  exact ⟨rfl, rfl, rfl, rfl, rfl, rfl, rfl, rfl, fun _ h => absurd h List.not_mem_nil⟩

theorem powerUp_shaped {strap : Bool} {s t : State} (he : exec (.powerUp strap) s = .next t) : t.Shaped := by
  obtain rfl := Host.Outcome.next.inj he
  exact .enterStage (.vauxOn (.same (resetIsShaped)))

/-- Every command of the table keeps the number of the parts: one case for each, by the operations its meaning is made
of. -/
theorem exec_shaped (c : Instr) {s t : State} (h : s.Shaped) (he : exec c s = .next t) : t.Shaped := by
  cases c with
  | ixNop | ixLdi | ixLdh | ixMov | ixRd | ixAdd | ixAddi | ixSub | ixCmp | ixCmpi | ixMul | ixAbs | ixMin | ixMax |
    ixAnd | ixOr | ixXor | ixShr | ixShl | ixMag3 | ixFilt | ixTset | ixTsetv | ixTclr | ixTst | ixCadd | ixCclr |
    ixJmp | ixEnd | ixNext | ixHalt | ixCkpt | ixEmit | ixSafeoff | ixPiow | ixBell | ixCapt | ixVote =>
    exact ixRow_shaped h rfl he
  | discardReq | dropReply | mbxClear | ringClear | registerWrite | emRegionWrite | emFlagsWrite | emPmemData |
    pioMportWrite | pioSafeLevelWrite | twAddr2Write =>
    exact regWrite_shaped h rfl he
  | sentinelXy | triadZXy | filtDelayNs | syncTickLo | emState | emStartTickLo | specLastLo | safeTrip |
    ringTrigTickLo | idSerialLo | timeNow0 | pairBoundaryLo | pioState | xingInfo =>
    exact regRead_shaped h rfl he
  | pioNop | pioSet | pioDir | pioJtab | pioAddj | pioLdi | pioPut | pioGet | pioSetx | pioIrq | pioHalt =>
    exact pioRow_shaped h rfl he
  | pioJmp | pioShin =>
    exact pioRowPins_shaped h rfl he
  | powerUp => exact powerUp_shaped he
  | aonSupplyLoss => exact act_keeps (exec_aonSupplyLoss s) he h fun _ => .same resetIsShaped
  | committedVote => exact committedVote_shaped h he
  | fastSampleArrival => exact fastSampleArrival_shaped h he
  | pioPmemData => exact pioPmemData_shaped h he
  | vbatReversal => exact act_keeps (exec_vbatReversal s) he h fun h => h
  | inputDisconnect => exact act_keeps (exec_inputDisconnect s) he h fun h => .raise (.setF h)
  | inputReconnect => exact act_keeps (exec_inputReconnect s) he h fun h => .raise (.setF h)
  | vbatLowReport => exact act_keeps (exec_vbatLowReport s) he h fun h => .raise (.setF h)
  | rideThroughEntry =>
    exact act_keeps (exec_rideThroughEntry _ s) he h fun h =>
      .ite h (.when (.when (.raise (.incSat (.setF h))) .setF) .vauxOff)
  | rideThroughEnd =>
    exact act_keeps (exec_rideThroughEnd _ _ _ _ _ s) he h fun h =>
      .ite h (.ite (.raise (.setF h)) (.ite (.raise (.setF (.setReg (.setF (.setF (.raise (.setF h))))))) (.ite
        (.estimateCap (.setF (.setReg (.setF (.setF (.raise (.setF h))))))) (.setF (.setReg (.setF (.setF (.raise
        (.setF h)))))))))
  | capacitanceEstimate => exact act_keeps (exec_capacitanceEstimate _ s) he h fun h => .reportCap (.setF h)
  | shedThresholdCrossing =>
    exact act_keeps (exec_shedThresholdCrossing s) he h fun h => .when (.when (.same (.setF h)) .safePath) .vauxOff
  | rearmThresholdCrossing => exact act_keeps (exec_rearmThresholdCrossing s) he h fun h => .same (.setF h)
  | shedDelayExpiry => exact act_keeps (exec_shedDelayExpiry s) he h fun h => .when h .vauxOff
  | stopThresholdCrossing =>
    exact act_keeps (exec_stopThresholdCrossing s) he h fun h => .when (.vauxOff h) .brownoutHold
  | brownoutExit => exact brownoutExit_shaped h he
  | vauxStartThreshold => exact act_keeps (exec_vauxStartThreshold s) he h fun h => .when h .vauxRestart
  | vauxLow => exact act_keeps (exec_vauxLow s) he h fun h => .safePath (.setF h)
  | vauxOkReached =>
    exact act_keeps (exec_vauxOkReached s) he h fun h => .ite (.disarmedQuiet (.same (.setF h))) (.setF h)
  | phaseRetirement => exact act_keeps (exec_phaseRetirement _ _ _ s) he h fun h => .retirePhase h
  | phaseRetry => exact phaseRetry_shaped h he
  | phaseRotation => exact phaseRotation_shaped h he
  | overloadLimit => exact act_keeps (exec_overloadLimit s) he h fun h => .when h .limitOn
  | overloadRelease => exact act_keeps (exec_overloadRelease s) he h fun h => .limitOff h
  | limitOffExpiry => exact act_keeps (exec_limitOffExpiry s) he h fun h => .when h .vauxOff
  | limitRestartAttempt => exact act_keeps (exec_limitRestartAttempt s) he h fun h => .ite (.raise (.vauxOn h)) h
  | vauxStartRetry => exact act_keeps (exec_vauxStartRetry s) he h fun h => .ite (.vauxOff h) (.raise h)
  | thermalLimit => exact act_keeps (exec_thermalLimit s) he h fun h => .limitOn h
  | thermalShutdown => exact act_keeps (exec_thermalShutdown s) he h fun h => .vauxOff (.same (.safePath h))
  | thermalRelease => exact act_keeps (exec_thermalRelease s) he h fun h => .when (.limitOff h) .vauxOn
  | controlPairReset => exact act_keeps (exec_controlPairReset _ s) he h fun h => .pairReset h
  | codeRamEccError => exact act_keeps (exec_codeRamEccError _ s) he h fun h => .when h .pairReset
  | restartVerify => exact restartVerify_shaped h he
  | revertImagoEntry => exact revertImagoEntry_shaped h he
  | requestReceived => exact requestReceived_shaped h he
  | partialRequestTimeout =>
    exact act_keeps (exec_partialRequestTimeout s) he h fun h => .ite h (.incSat (.raise (.discardPartial h)))
  | commandTimeout => exact act_keeps (exec_commandTimeout s) he h fun h => .when h fun h => .incSat (.endExecuting h)
  | mbxWindowWrite =>
    exact act_keeps (exec_mbxWindowWrite _ _ s) he h fun h =>
      .when h fun h => .ite (.twStart h) (.mailboxWrite (.passByte (.when (.twStart h) .setF)))
  | mbxWindowRead =>
    exact act_keeps (exec_mbxWindowRead s) he h fun h => .when h fun h => .mailboxRead (.passByte (.twStart h))
  | nop r => exact cmdRun_shaped h (exec_nop r s) he id
  | identify r => exact cmdRun_shaped h (exec_identify r s) he .draw
  | abort r => exact cmdRun_shaped h (exec_abort r s) he .cmdAbort
  | read r => exact cmdRun_shaped h (exec_read r s) he fun h => .readWords (.latchRange h)
  | write r => exact cmdRun_shaped h (exec_write r s) he .writeWords
  | modify r => exact cmdRun_shaped h (exec_modify r s) he .writeReg
  | imgBegin r => exact act_keeps (exec_imgBegin r s) he h fun h => .runNoting h .cmdImgBegin .noteImg
  | imgWrite r => exact act_keeps (exec_imgWrite r s) he h fun h => .runNoting h .cmdImgWrite .noteImg
  | imgVerify r =>
    exact act_keeps (exec_imgVerify r s) he h fun h => .runNoting h (fun h => .raise (.setF h)) .noteVerify
  | imgActivate r => exact act_keeps (exec_imgActivate r s) he h fun h => .runNoting h .activate .noteImg
  | settingsWrite r =>
    exact cmdRun_shaped h (exec_settingsWrite r s) he fun h => .fst_ite (.putBoot h) (.fst_ite (.putBoot h) h)
  | settingsApply r => exact act_keeps (exec_settingsApply r s) he h fun h => .runNoting h .acceptBlock .noteReject
  | revert r => exact act_keeps (exec_revert r s) he h fun h => .runNoting h .revert .noteImg
  | bootStatus r => exact cmdRun_shaped h (exec_bootStatus r s) he id
  | setProfile r => exact cmdRun_shaped h (exec_setProfile r s) he .requestProfile
  | setRanges r => exact cmdRun_shaped h (exec_setRanges r s) he fun h => .putRange (.putRange h)
  | arrayStatus r => exact cmdRun_shaped h (exec_arrayStatus r s) he id
  | setCalDelta r => exact cmdRun_shaped h (exec_setCalDelta r s) he .calDeltaApply
  | sentinelConfig r => exact cmdRun_shaped h (exec_sentinelConfig r s) he .putWritable
  | selftest r => exact cmdRun_shaped h (exec_selftest r s) he .testStart
  | reinstate r => exact cmdRun_shaped h (exec_reinstate r s) he .testStart
  | triadRead r => exact cmdRun_shaped h (exec_triadRead r s) he id
  | setPreset r => exact cmdRun_shaped h (exec_setPreset r s) he .requestPreset
  | coeffWrite r => exact cmdRun_shaped h (exec_coeffWrite r s) he fun h => .syncSuspended (.coeffWriteApply h)
  | coeffCommit r => exact cmdRun_shaped h (exec_coeffCommit r s) he fun h => .syncSuspended (.coeffCommitApply h)
  | bankSelect r => exact cmdRun_shaped h (exec_bankSelect r s) he .bankApply
  | decimSync r => exact cmdRun_shaped h (exec_decimSync r s) he .requestReset
  | notchConfig r => exact cmdRun_shaped h (exec_notchConfig r s) he .notchApply
  | emLoad r => exact cmdRun_shaped h (exec_emLoad r s) he .emLoadApply
  | emConfig r => exact cmdRun_shaped h (exec_emConfig r s) he .emConfigApply
  | emStart r => exact cmdRun_shaped h (exec_emStart r s) he .emStartApply
  | emStop r => exact cmdRun_shaped h (exec_emStop r s) he .emStopApply
  | emParam r => exact cmdRun_shaped h (exec_emParam r s) he .emParamApply
  | emReadState r => exact cmdRun_shaped h (exec_emReadState r s) he id
  | emCrc r => exact cmdRun_shaped h (exec_emCrc r s) he id
  | recEnable r => exact cmdRun_shaped h (exec_recEnable r s) he .recEnableApply
  | recConfig r => exact cmdRun_shaped h (exec_recConfig r s) he .recConfigApply
  | recWheel r => exact cmdRun_shaped h (exec_recWheel r s) he .recWheelApply
  | recClear r => exact cmdRun_shaped h (exec_recClear r s) he .pushCfg
  | recRead r => exact cmdRun_shaped h (exec_recRead r s) he id
  | safeArm => exact safeArm_shaped h he
  | safeHeartbeat r => exact act_keeps (exec_safeHeartbeat r s) he h fun h => .heartbeatCommand h
  | safeDisarm r => exact cmdRun_shaped h (exec_safeDisarm r s) he .disarm
  | safeFaultClear r => exact cmdRun_shaped h (exec_safeFaultClear r s) he .faultClear
  | safeConfig => exact safeConfig_shaped h he
  | safeStatus r => exact cmdRun_shaped h (exec_safeStatus r s) he id
  | queueRead r => exact cmdRun_shaped h (exec_queueRead r s) he .takeVisible
  | queueFlush r => exact cmdRun_shaped h (exec_queueFlush r s) he .queueFlush
  | queueConfig r => exact cmdRun_shaped h (exec_queueConfig r s) he fun h => .setReg (.putQueueCfg h)
  | ringConfig r =>
    exact cmdRun_shaped h (exec_ringConfig r s) he fun h => .forUpTo (.ringEnable (.putWritable h)) .setReg
  | ringTrigger r => exact act_keeps (exec_ringTrigger r s) he h fun h => .run (.when h .incSat) .commandTrigger
  | ringRead r => exact cmdRun_shaped h (exec_ringRead r s) he id
  | ringRelease r => exact cmdRun_shaped h (exec_ringRelease r s) he .ringRelease
  | powerVote r => exact cmdRun_shaped h (exec_powerVote r s) he .setF
  | nightConfig r => exact cmdRun_shaped h (exec_nightConfig r s) he fun h => .setReg (.setReg (.setReg h))
  | powerStatus r => exact cmdRun_shaped h (exec_powerStatus r s) he id
  | convConfig r => exact cmdRun_shaped h (exec_convConfig r s) he .setReg
  | convStatus r => exact cmdRun_shaped h (exec_convStatus r s) he id
  | timeGet r => exact act_keeps (exec_timeGet r s) he h fun h => .when (.run h id) .putLink
  | timeSet r => exact cmdRun_shaped h (exec_timeSet r s) he .putTime
  | timeAdjust r => exact cmdRun_shaped h (exec_timeAdjust r s) he .timeAdjustApply
  | timeConfig r => exact cmdRun_shaped h (exec_timeConfig r s) he fun h => .setReg (.setReg (.putTimeCfg h))
  | tsRead r => exact cmdRun_shaped h (exec_tsRead r s) he .putTime
  | pairConfig r => exact cmdRun_shaped h (exec_pairConfig r s) he .pairConfigApply
  | pairJoin r => exact cmdRun_shaped h (exec_pairJoin r s) he .startJoin
  | pairLeave r => exact cmdRun_shaped h (exec_pairLeave r s) he .pairCommandLeave
  | pairStatus r => exact cmdRun_shaped h (exec_pairStatus r s) he id
  | pioLoad r => exact cmdRun_shaped h (exec_pioLoad r s) he .pioLoadApply
  | pioStart r => exact cmdRun_shaped h (exec_pioStart r s) he .pioStartApply
  | pioStop r => exact cmdRun_shaped h (exec_pioStop r s) he fun h => .each h .pioStop
  | pioInject r => exact cmdRun_shaped h (exec_pioInject r s) he .pioInjectApply
  | pioConfig r => exact cmdRun_shaped h (exec_pioConfig r s) he .pioConfigApply
  | pioStatus r => exact cmdRun_shaped h (exec_pioStatus r s) he id
  | hkSequence r => exact cmdRun_shaped h (exec_hkSequence r s) he .hkSeqApply
  | hkWindow r => exact cmdRun_shaped h (exec_hkWindow r s) he .hkWindowApply
  | hkRead r => exact cmdRun_shaped h (exec_hkRead r s) he id
  | hkStatus r => exact cmdRun_shaped h (exec_hkStatus r s) he id
  | t1sPlcaWrite => exact act_keeps (exec_t1sPlcaWrite _ s) he h fun h => .when h .writePlca
  | intDoorbell => exact act_keeps (exec_intDoorbell _ _ s) he h fun h => .when h fun h => .byBus h .doorbell
  | intHostClaim =>
    exact act_keeps (exec_intHostClaim _ s) he h fun h => .when h fun h => .busRead (.outWord (.claim h))
  | intCpClaim => exact act_keeps (exec_intCpClaim s) he h fun h => .when h .claim
  | intHostComplete => exact act_keeps (exec_intHostComplete _ _ s) he h fun h => .when h fun h => .byBus h .complete
  | intCpComplete => exact act_keeps (exec_intCpComplete _ s) he h fun h => .when h .complete
  | intHostSet => exact act_keeps (exec_intHostSet _ _ s) he h fun h => .when h fun h => .byBus h .hostSet
  | intHostEnWrite =>
    exact act_keeps (exec_intHostEnWrite _ _ _ s) he h fun h => .when h fun h => .byBus h .hostEnWrite
  | queueWindowRead =>
    exact act_keeps (exec_queueWindowRead s) he h fun h => .when h fun h => .queueByte (.passByte (.twStart h))
  | driveLock =>
    exact act_keeps (exec_driveLock _ s) he h fun h =>
      .ite h (.settleAtLock (.syncDriveFault (.setTriad (.setLock h))))
  | driveFault =>
    exact act_keeps (exec_driveFault _ s) he h fun h =>
      .ite h (.settleAtLock (.raise (.syncDriveFault (.setTriad (.setLock h)))))
  | tempModelUpdate =>
    exact act_keeps (exec_tempModelUpdate s) he h fun h => .putArray h (hc := by simp [h.chans_length])
  | dieTempStale =>
    exact act_keeps (exec_dieTempStale _ s) he h fun h =>
      .ite (.putArray h) (.when (.syncUncomp (.putArray h)) .raise)
  | selftestTriadDone => exact act_keeps (exec_selftestTriadDone _ _ s) he h fun h => .finishTest h
  | profileBoundary => exact profileBoundary_shaped h he
  | triadJoin =>
    exact act_keeps (exec_triadJoin _ _ s) he h fun h =>
      .ite (.ite (.ite (.profileDone (.hold (.putArray (.setTriad h)))) (.putArray (.setTriad h))) (.setTriad h)) h
  | sentinelSample =>
    exact act_keeps (exec_sentinelSample _ _ _ _ s) he h fun h =>
      .when (.putEng (.sentinelFilter (.setF (.setF (.setF (.setF h)))))) .theftNight
  | sentinelWake => exact act_keeps (exec_sentinelWake s) he h fun h => .when h .wake
  | quorumRestored =>
    exact act_keeps (exec_quorumRestored s) he h fun h =>
      .ite h (.raise (.hold (.syncVoteStatus (.putArray h (hx := by simp [h.axes_length])))))
  | suspectEntry =>
    exact act_keeps (exec_suspectEntry _ s) he h fun h => .ite (.raise (.triadHealth (.putArray (.setTriad h)))) h
  | suspectClear =>
    exact act_keeps (exec_suspectClear _ s) he h fun h => .ite (.incSat (.setTriad (.raise (.triadHealth h)))) h
  | retirementRequest => exact act_keeps (exec_retirementRequest _ s) he h fun h => .ite (.putArray h) h
  | retirementDecision => exact retirementDecision_shaped h he
  | retirementApply =>
    exact act_keeps (exec_retirementApply _ s) he h fun h =>
      .each (.putArray (.each (.putArray h) .applyDie)) .applyRetire
  | lateStage => exact act_keeps (exec_lateStage _ _ s) he h fun h => .lateStage h
  | arbitrationWaitExceeded => exact arbitrationWaitExceeded_shaped h he
  | presetApply => exact presetApply_shaped h he
  | presetChangeComplete => exact presetChangeComplete_shaped h he
  | bankSwapApply => exact bankSwapApply_shaped h he
  | notchPeriodWord => exact act_keeps (exec_notchPeriodWord _ _ s) he h fun h => .notchPeriod h
  | notchSetChange => exact notchSetChange_shaped h he
  | tachLost => exact act_keeps (exec_tachLost s) he h fun h => .raise (.putFilt (.setF (.setF h)))
  | syncEdge =>
    exact act_keeps (exec_syncEdge _ _ s) he h fun h =>
      .ite (.ite (.edgeIgnored h) (.ite (.decimResetAlone (.ite (.setF h) (.setF (.setF h)))) (.decimReset (.setF
        h)))) h
  | decimSyncApply => exact decimSyncApply_shaped h he
  | committedSampleArrival => exact committedSampleArrival_shaped h he
  | replayRun => exact act_keeps (exec_replayRun _ s) he h fun h => .openNext (.endOpen (.finishAllDue h))
  | tickCommit =>
    exact act_keeps (exec_tickCommit _ s) he h fun h =>
      .pruneTicks (.commitHeld (.dawnTime (.ite (.voidWhere (.forUpTo (.finishAllDue h) .catchUp)) (.forUpTo
        (.finishAllDue h) .catchUp))))
  | specRejoin =>
    exact act_keeps (exec_specRejoin _ s) he h fun h =>
      .ite (.openNext (.hold (.incSat (.emBit (.setMach (.endOpen h)))))) (.endOpen h)
  | emParamApply => exact act_keeps (exec_emParamApply _ s) he h fun h => .applyParams h
  | recConfigApply => exact act_keeps (exec_recConfigApply _ s) he h fun h => .applyCfg h
  | recDeclare => exact recDeclare_shaped h he
  | recRelease => exact recRelease_shaped h he
  | theftReference => exact act_keeps (exec_theftReference s) he h fun h => .ite (.putEng h) h
  | heartbeatTimeout => exact act_keeps (exec_heartbeatTimeout s) he h fun h => .when h .safePath
  | safeBClose =>
    exact act_keeps (exec_safeBClose _ s) he h fun h =>
      .ite (.ite (.commitOne (.same (.raise (.setF h)))) (.safePath h)) h
  | readbackFault => exact act_keeps (exec_readbackFault _ s) he h fun h => .safePath h
  | stateExchange => exact act_keeps (exec_stateExchange s) he h fun h => h
  | monitorDisagree => exact act_keeps (exec_monitorDisagree s) he h fun h => .safePath h
  | safeBDischargeEnd => exact act_keeps (exec_safeBDischargeEnd s) he h fun h => h
  | overflowGap => exact overflowGap_shaped h he
  | queueEccError => exact queueEccError_shaped h he
  | ringCaptureEnd => exact act_keeps (exec_ringCaptureEnd s) he h fun h => .when h .captureEnd
  | ringPointerMismatch =>
    exact act_keeps (exec_ringPointerMismatch _ s) he h fun h =>
      .ite h (.ite (.incSat h) (.commitOne (.raise (.incSat (.ringEmpty h)))))
  | timeSecondRecord =>
    exact act_keeps (exec_timeSecondRecord s) he h fun h => .ite (.ite (.commitOne h) (.ringOnly h)) h
  | housekeepingRecord => exact act_keeps (exec_housekeepingRecord s) he h fun h => .ite (.commitOne h) h
  | streamFrameAge => exact act_keeps (exec_streamFrameAge s) he h fun h => .ite (.putT1s h) h
  | corruptedFrame => exact act_keeps (exec_corruptedFrame _ s) he h fun h => .when h fun h => .raise (.incSat h)
  | beaconReceived =>
    exact act_keeps (exec_beaconReceived s) he h fun h => .when h fun h => .when (.plcaApply h) .plcaInStep
  | beaconLoss => exact act_keeps (exec_beaconLoss s) he h fun h => .ite (.raise (.setF (.setF h))) h
  | transmitOpportunity => exact transmitOpportunity_shaped h he
  | syncFollowUp =>
    exact act_keeps (exec_syncFollowUp _ _ _ s) he h fun h => .ite (.when h .incSat) (.ite (.measure h) h)
  | pdelayReq => exact act_keeps (exec_pdelayReq _ _ s) he h fun h => .when h .sendFrame
  | pdelayResp => exact pdelayResp_shaped h he
  | servoHoldover => exact act_keeps (exec_servoHoldover s) he h fun h => .when h fun h => .setServo (.putTime h)
  | timeStepApply =>
    exact act_keeps (exec_timeStepApply s) he h fun h =>
      .ite (.mappingChanged (.commitOne (.applyRate (.applySet (.applyDelta h))))) h
  | txTimestamp => exact txTimestamp_shaped h he
  | hostTsExpiry => exact hostTsExpiry_shaped h he
  | aonCalibration => exact act_keeps (exec_aonCalibration _ s) he h fun h => .when h .setReg
  | pairMasterSync =>
    exact act_keeps (exec_pairMasterSync s) he h fun h => .ite (.sendFrame (.sendFrame (.putTime h))) h
  | twPageSelect =>
    exact act_keeps (exec_twPageSelect _ s) he h fun h =>
      .when h fun h => .ite (.twStart h) (.selectPage (.twStart h))
  | twStop =>
    exact act_keeps (exec_twStop _ _ s) he h fun h =>
      .when h fun h => .twIdle (.ite (.stopPec (.twStart h)) (.ite (.twStart h) (.partialWord (.twStart h))))
  | twBusTimeout =>
    exact act_keeps (exec_twBusTimeout _ _ s) he h fun h =>
      .when h fun h => .setF (.same (.each (.when (.raise (.incSat h)) .partialWord) fun h => .when h .xingReset))
  | twStuckLine => exact act_keeps (exec_twStuckLine _ s) he h fun h => .when h fun h => .raise (.incSat (.setF h))
  | alertResponse =>
    exact act_keeps (exec_alertResponse _ s) he h fun h =>
      .ite h (.ite (.outByte (.incSat (.same (.twStart h)))) (.twStart h))
  | alertRepeat => exact act_keeps (exec_alertRepeat s) he h fun h => .ite h h
  | nightAddressMatch => exact act_keeps (exec_nightAddressMatch s) he h fun h => .when h fun h => .twStart (.wake h)
  | joinReqReceived => exact joinReqReceived_shaped h he
  | joinAckReceived =>
    exact act_keeps (exec_joinAckReceived _ _ s) he h fun h => .when h fun h => .learnPartner (.putPair h)
  | joinNakReceived => exact act_keeps (exec_joinNakReceived _ _ s) he h fun h => .when h .failJoin
  | joinAckDeadline =>
    exact act_keeps (exec_joinAckDeadline s) he h fun h =>
      .ite (.ite (.failJoin h) (.sendJoinReq (.putBoundary (.putPair h)))) h
  | pairBoundary =>
    exact act_keeps (exec_pairBoundary _ s) he h fun h =>
      .ite (.ite (.failJoin h) (.hold (.raise (.when (.incSat (.setF h)) .setReg)))) h
  | autoJoin => exact autoJoin_shaped h he
  | syncPulse => exact act_keeps (exec_syncPulse s) he h fun h => .ite (.sendPair (.putPair h)) h
  | beatReceived => exact act_keeps (exec_beatReceived _ _ s) he h fun h => .when h fun h => .when (.putPair h) .setF
  | ptpOnlyReset => exact ptpOnlyReset_shaped h he
  | syncLost => exact act_keeps (exec_syncLost s) he h fun h => .ite (.raise (.setF (.setF h))) h
  | beatMissed => exact act_keeps (exec_beatMissed s) he h fun h => .when h .partnerLeave
  | leaveReceived => exact act_keeps (exec_leaveReceived _ s) he h fun h => .when h .partnerLeave
  | contributionReceived =>
    exact act_keeps (exec_contributionReceived _ _ s) he h fun h => .ite (.each h fun h => .ite (.takeContrib h) h) h
  | fusionWaitExpiry => exact fusionWaitExpiry_shaped h he
  | duskBegin =>
    exact act_keeps (exec_duskBegin s) he h fun h =>
      .ite h (.clearTarget (.clearTarget (.setF (.dropStaged (.stopSensing (.stopPio (.putTime (.same (.same
        (.flushVisible (.addSat (.commitHeld (.stopRecs (.stopMachines (.finishAllDue h)))))))))))))))
  | nightEntry => exact nightEntry_shaped h he
  | wakePioLevel => exact act_keeps (exec_wakePioLevel _ s) he h fun h => .when h .wake
  | wakePioEdge => exact act_keeps (exec_wakePioEdge _ _ s) he h fun h => .when h .wake
  | nightTimerExpiry => exact act_keeps (exec_nightTimerExpiry s) he h fun h => .when h .wake
  | dawnRegulatorReady => exact act_keeps (exec_dawnRegulatorReady s) he h fun h => h
  | dawnOscillatorReady => exact act_keeps (exec_dawnOscillatorReady s) he h fun h => h
  | dawnMemoryReady =>
    exact act_keeps (exec_dawnMemoryReady _ s) he h fun h => .ite h (.ite (.setF h) (.cocoonLost h))
  | dawnComplete => exact dawnComplete_shaped h he
  | hkPass => exact act_keeps (exec_hkPass s) he h fun h => .syncSlices (.putHk (.each h .restartWindow))
  | hkConversionDone =>
    exact act_keeps (exec_hkConversionDone _ _ _ s) he h fun h =>
      .ite h (.publish (.maxF (.setF (.when (.putHk h (he := List.length_set)) .raise))))
  | sliceCalibration => exact sliceCalibration_shaped h he
  | sliceSwap => exact sliceSwap_shaped h he
  | legacyActionFire => exact act_keeps (exec_legacyActionFire _ s) he h fun h => .ite (.legacyFire (.setPio h)) h
  | twPointerSet =>
    exact act_keeps (exec_twPointerSet _ s) he h fun h => .when h fun h => .ite (.twStart h) (.setF (.twStart h))
  | repeatedStart =>
    exact act_keeps (exec_repeatedStart _ s) he h fun h =>
      .when h fun h => .ite (.applySegment (.twStart h)) (.ite (.twStart h) (.partialWord (.twStart h)))
  | twStuckLineClear => exact act_keeps (exec_twStuckLineClear _ s) he h fun h => .setF h
  | phaseShedding => exact phaseShedding_shaped h he
  | beaconTransmit =>
    exact act_keeps (exec_beaconTransmit s) he h fun h => .ite (.plcaApply (.setF (.plcaInStep h))) h
  | pdelayReqTransmit =>
    exact act_keeps (exec_pdelayReqTransmit s) he h fun h => .when h fun h => .sendFrame (.putTime h)

/-- Settles O59, by the commands and the operations they are made of. -/
theorem stepKeepsShape : Obligations.StepKeepsShape := fun _ _ h he =>
  step_keeps (P := State.Shaped) (.same ·) exec_shaped (fun _ => .baseTick) h he

end Sys2Proof.Machine

namespace Sys2Proof.Machine

/-! ### Claims (R402) -/

theorem Target.active_reg_not_mem_pendRegs (g : Target) {n : Nat} (hn : n < 128) : (g.active n).reg ∉ pendRegs := by
  have h : n / 32 = 0 ∨ n / 32 = 1 ∨ n / 32 = 2 ∨ n / 32 = 3 := by omega
  cases g <;> simp only [Target.active, mapF] <;> rcases h with h | h | h | h <;> rw [h] <;> decide

/-- The host's read of a claim: the word the claim gives, and the claim beside what the bus moves. -/
theorem exec_intHostClaim_noon {s : State} (haon : s.aon = true) (hnoon : s.noon = true) (bytes : Fin 5) :
    exec (.intHostClaim bytes) s =
      .next (((s.claim .host).outWord (s.claimWord .host)).busRead bytes Reg.INT_HOST_CLAIM) := by
  rw [exec_intHostClaim]
  exact act_when_noon haon hnoon

theorem intHostClaim_claims {s : State} (haon : s.aon = true) (hnoon : s.noon = true) (bytes : Fin 5) {n : Nat}
    (hclaim : Claimable s .host n) :
    Does (.intHostClaim bytes) s fun t =>
      t.busOut = w32 (n + 256 * s.fld (Target.host.en n)) ∧
      t.fld (Target.host.pend n) = 0 ∧ t.fld (Target.host.active n) = 1 ∧ OtherSources .host n s t ∧
      (∀ a, a ∉ busRegs → a ≠ (Target.host.pend n).reg → a ≠ (Target.host.active n).reg → t.reg a = s.reg a) ∧
      BusOnly s t := by
  have hn := hclaim.1
  refine ⟨_, exec_intHostClaim_noon haon hnoon bytes, ?_⟩
  rw [s.claim_of_claimable .host n hclaim, s.claimWord_of_claimable .host n hclaim]
  obtain ⟨hpend, hactive, hother, hreg⟩ := s.claimed_fields .host n hn
  obtain ⟨hbus, hout⟩ := State.busRead_only
    (((s.setF (Target.host.pend n) 0).setF (Target.host.active n) 1).outWord
      (w32 (n + 256 * s.fld (Target.host.en n)))) bytes Reg.INT_HOST_CLAIM
  refine ⟨hout, ?_, ?_, fun m hm hne => ?_, fun a hbusReg hp ha => ?_, BusOnly.trans (by rfl) hbus⟩
  · exact (State.fld_busRead _ _ _ _ (Target.not_busRegs .host n hn).1).trans hpend
  · exact (State.fld_busRead _ _ _ _ (Target.not_busRegs .host n hn).2).trans hactive
  · obtain ⟨hp, ha⟩ := Target.not_busRegs .host m hm
    exact ⟨(State.fld_busRead _ _ _ _ hp).trans (hother m hm hne).1,
      (State.fld_busRead _ _ _ _ ha).trans (hother m hm hne).2⟩
  · exact (State.reg_busRead _ _ _ _ hbusReg).trans (hreg a hp ha)

theorem intHostClaim_none {s : State} (haon : s.aon = true) (hnoon : s.noon = true) (bytes : Fin 5)
    (hnone : NothingPends s .host) :
    Does (.intHostClaim bytes) s fun t =>
      t.busOut = 0x80 ∧ (∀ a, a ∉ busRegs → t.reg a = s.reg a) ∧ BusOnly s t := by
  refine ⟨_, exec_intHostClaim_noon haon hnoon bytes, ?_⟩
  rw [s.claim_of_nothing .host hnone, s.claimWord_of_nothing .host hnone]
  obtain ⟨hbus, hout⟩ := (s.outWord 0x80).busRead_only bytes Reg.INT_HOST_CLAIM
  exact ⟨hout, fun a ha => (s.outWord 0x80).reg_busRead bytes _ a ha, BusOnly.trans (by rfl) hbus⟩

/-- Settles O10, by the scan of `State.bestPending_of_claimable`. -/
theorem claimTakesTheBestPendingSource : Obligations.ClaimTakesTheBestPendingSource := by
  intro s haon hnoon
  have hcp : exec .intCpClaim s = .next (s.claim .cp) := by
    rw [exec_intCpClaim]
    exact act_when_noon haon hnoon
  refine ⟨fun bytes _ => intHostClaim_claims haon hnoon bytes, fun bytes => intHostClaim_none haon hnoon bytes,
    fun n hclaim => ⟨_, hcp, ?_⟩, fun hnone => ⟨_, hcp, s.claim_of_nothing .cp hnone⟩⟩
  rw [s.claim_of_claimable .cp n hclaim]
  obtain ⟨hpend, hactive, hother, hreg⟩ := s.claimed_fields .cp n hclaim.1
  exact ⟨hpend, hactive, hother, hreg, rfl⟩

/-! ### Completions (R403) -/

/-- No level is formed in the registers of the interrupt controller (Table 19.1). -/
theorem levelBits_page : ∀ n < 128, ∀ p ∈ levelBits n, p.1 / 256 ≠ 2 := by decide

theorem State.level_congr {s t : State} {n : Nat} (hn : n < 128) (h : ∀ a, a / 256 ≠ 2 → t.reg a = s.reg a) :
    t.level n = s.level n := by
  unfold State.level
  rw [Bool.eq_iff_iff, List.any_eq_true, List.any_eq_true]
  refine exists_congr fun p => and_congr_right fun hp => ?_
  rw [h _ (levelBits_page n hn p hp)]

theorem State.level_setF {s : State} {f : Fld} {v n : Nat} (hn : n < 128) (hf : f.reg / 256 = 2) :
    (s.setF f v).level n = s.level n :=
  State.level_congr hn fun a ha => s.reg_setF_other f v a fun e => ha (e ▸ hf)

theorem Target.active_page (g : Target) {n : Nat} (hn : n < 128) : (g.active n).reg / 256 = 2 := by
  cases g <;> simp only [Target.active, mapF, Reg.INT_HOST_ACT, Reg.INT_CP_ACT] <;> omega

theorem Target.en_page (g : Target) {n : Nat} (hn : n < 128) : (g.en n).reg / 256 = 2 := by
  cases g <;> simp only [Target.en, Reg.INT_HOST_EN, Reg.INT_CP_EN] <;> omega

theorem Target.en_not_active (g : Target) {n : Nat} (hn : n < 128) : (g.en n).reg ≠ (g.active n).reg := by
  cases g <;> simp only [Target.en, Target.active, mapF, Reg.INT_HOST_EN, Reg.INT_CP_EN, Reg.INT_HOST_ACT,
    Reg.INT_CP_ACT] <;> omega

theorem RegFrame.resample {as : List Nat} {s t : State} (h : RegFrame as s t) (g : Target) {n : Nat} (hn : n < 128) :
    RegFrame as s (t.resample g n) := by
  unfold State.resample
  split
  · exact h.postTo g n hn
  · exact h

theorem RegsOnly.resample (s : State) (g : Target) (n : Nat) : RegsOnly s (s.resample g n) := by
  unfold State.resample
  split
  · exact .postTo s g n
  · exact .refl s

theorem State.resample_of_level {s : State} {n : Nat} (h : s.level n = true) (g : Target) :
    s.resample g n = s.postTo g n := if_pos h

theorem State.resample_of_not_level {s : State} {n : Nat} (h : s.level n = false) (g : Target) :
    s.resample g n = s := if_neg (by simp [h])

theorem State.complete_of_active {s : State} {g : Target} {n : Nat} (hn : n < 128) (h : s.on (g.active n) = true) :
    (s.complete g n).fld (g.active n) = 0 ∧
    (s.level n = true → s.fld (g.en n) ≠ 0 → (s.complete g n).on (g.pend n) = true) ∧
    (s.level n = false → s.complete g n = s.setF (g.active n) 0) ∧
    RegFrame [(g.active n).reg] s (s.complete g n) ∧ RegsOnly s (s.complete g n) := by
  have e : s.complete g n = (s.setF (g.active n) 0).resample g n := if_pos h
  have hlevel := State.level_setF (s := s) (v := 0) hn (g.active_page hn)
  rw [e]
  refine ⟨?_, fun hl hen => ?_, fun hl => State.resample_of_not_level (hlevel.trans hl) g, ?_, ?_⟩
  · rw [((RegFrame.refl [] _).resample g hn).fld _ List.not_mem_nil (g.active_reg_not_mem_pendRegs hn),
      State.fld_setF_same _ _ _ (g.width_le n).2]
    rfl
  · rw [State.resample_of_level (hlevel.trans hl)]
    refine State.postTo_pends _ g n hn ?_
    rwa [State.fld_setF_other _ _ _ _ (.inl (g.en_not_active hn))]
  · exact ((RegFrame.refl _ s).setF _ _ (.inl (List.mem_singleton.mpr rfl))).resample g hn
  · exact (RegsOnly.setF s _ _).trans (.resample _ g n)

theorem State.complete_of_not_active {s : State} {g : Target} {n : Nat} (h : s.on (g.active n) = false) :
    s.complete g n = s.incSat g.ignored := if_neg (by simp [h])

/-- Settles O11, for both targets by `State.complete_of_active`. -/
theorem completionResamplesTheLevel : Obligations.CompletionResamplesTheLevel := by
  intro s haon hnoon
  have hhost (w : Word) : exec (.intHostComplete false w) s = .next (s.complete .host (bits w 0 7)) := by
    rw [exec_intHostComplete]
    exact act_when_noon haon hnoon
  have hcp (n : BitVec 7) : exec (.intCpComplete n) s = .next (s.complete .cp n.toNat) := by
    rw [exec_intCpComplete]
    exact act_when_noon haon hnoon
  exact ⟨fun w h => ⟨_, hhost w, State.complete_of_active (bits_lt w 0 7) h⟩,
    fun w h => ⟨_, hhost w, State.complete_of_not_active h⟩,
    fun n h => ⟨_, hcp n, State.complete_of_active n.isLt h⟩,
    fun n h => ⟨_, hcp n, State.complete_of_not_active h⟩⟩

/-! ### Enables and doorbells (R400, R401, R404) -/

theorem Target.en_fits (g : Target) (n : Nat) : (g.en n).lo + (g.en n).width ≤ 32 := by
  cases g <;> simp only [Target.en] <;> omega

theorem Target.en_apart (g : Target) {m n : Nat} (h : m ≠ n) :
    (g.en m).reg ≠ (g.en n).reg ∨ (g.en n).lo + (g.en n).width ≤ (g.en m).lo ∨
      (g.en m).lo + (g.en m).width ≤ (g.en n).lo := by
  cases g <;> simp only [Target.en, Reg.INT_HOST_EN, Reg.INT_CP_EN] <;> omega

theorem Target.en_reg_not_mem_pendRegs (g : Target) {n : Nat} (hn : n < 128) : (g.en n).reg ∉ pendRegs :=
  postRegs_not_pendRegs _ (g.en_reg_mem_postRegs n hn)

/-- A change of EN stores it; beside it only what is pending changes. -/
theorem State.setEnable_stores (s : State) (g : Target) {n : Nat} (hn : n < 128) (v : Nat) :
    RegFrame [] (s.setF (g.en n) v) (s.setEnable g n v) ∧ RegsOnly s (s.setEnable g n v) := by
  unfold State.setEnable
  extract_lets old u
  split
  · exact ⟨(RegFrame.refl [] u).setF _ _ (.inr (g.pend_reg_mem n hn)), (RegsOnly.setF s _ _).trans (.setF u _ _)⟩
  · split
    · exact ⟨(RegFrame.refl [] u).resample g hn, (RegsOnly.setF s _ _).trans (.resample u g n)⟩
    · exact ⟨.refl [] u, .setF s _ _⟩

theorem State.setEnable_regFrame (s : State) (g : Target) {n : Nat} (hn : n < 128) (v : Nat) :
    RegFrame [(g.en n).reg] s (s.setEnable g n v) :=
  ((RegFrame.refl _ s).setF _ _ (.inl (List.mem_singleton.mpr rfl))).trans
    ((s.setEnable_stores g hn v).1.mono fun _ h => absurd h List.not_mem_nil)

theorem State.fld_setEnable {s : State} {g : Target} {n : Nat} (hn : n < 128) (v : Nat) {f : Fld}
    (hf : f.reg ∉ pendRegs) : (s.setEnable g n v).fld f = (s.setF (g.en n) v).fld f :=
  (s.setEnable_stores g hn v).1.fld f List.not_mem_nil hf

/-- What becomes of the pending bit of a source whose EN is changed (R404). -/
theorem State.setEnable_pend {s : State} {g : Target} {n : Nat} (hn : n < 128) {v : Nat} (hv : v < 4) :
    (v = 0 → (s.setEnable g n v).fld (g.pend n) = 0) ∧
    (v ≠ 0 → s.fld (g.en n) = 0 → s.level n = true → (s.setEnable g n v).on (g.pend n) = true) ∧
    (v ≠ 0 → s.fld (g.en n) ≠ 0 → (s.setEnable g n v).fld (g.pend n) = s.fld (g.pend n)) := by
  have hmod : v % 4 = v := Nat.mod_eq_of_lt hv
  unfold State.setEnable
  extract_lets old u
  rw [hmod]
  refine ⟨fun h => ?_, fun h hold hl => ?_, fun h hold => ?_⟩
  · rw [if_pos h, State.fld_setF_same _ _ _ (g.width_le n).1]
    rfl
  · have hlevel : u.level n = true := (State.level_setF hn (g.en_page hn)).trans hl
    rw [if_neg h, if_pos hold, State.resample_of_level hlevel]
    refine u.postTo_pends g n hn ?_
    rw [State.fld_setF_same _ _ _ (g.en_fits n), show (g.en n).width = 2 by cases g <;> rfl]
    omega
  · rw [if_neg h, if_neg hold]
    exact s.fld_setF_other _ _ _ (.inl (Ne.symm (g.en_not_pend g n n hn hn)))

theorem intHostSet_result {s : State} (haon : s.aon = true) (hnoon : s.noon = true) {w : Word} {n v : Nat}
    (hn : n = bits w 0 7) (hv : v = bits w 8 2) :
    Does (.intHostSet false w) s fun t =>
      t.fld (Target.host.en n) = v ∧ (∀ m < 128, m ≠ n → t.fld (Target.host.en m) = s.fld (Target.host.en m)) ∧
      t.fld (Target.host.active n) = s.fld (Target.host.active n) ∧
      (v = 0 → t.fld (Target.host.pend n) = 0) ∧
      (v ≠ 0 → s.fld (Target.host.en n) = 0 → s.level n = true → t.on (Target.host.pend n) = true) ∧
      (v ≠ 0 → s.fld (Target.host.en n) ≠ 0 → t.fld (Target.host.pend n) = s.fld (Target.host.pend n)) ∧
      RegFrame [(Target.host.en n).reg] s t ∧ RegsOnly s t := by
  have hn128 : n < 128 := hn ▸ bits_lt w 0 7
  have hv4 : v < 4 := hv ▸ bits_lt w 8 2
  have he : exec (.intHostSet false w) s = .next (s.setEnable .host n v) := by
    rw [exec_intHostSet, hn, hv]
    exact act_when_noon haon hnoon
  obtain ⟨hcleared, hposted, hkept⟩ := State.setEnable_pend (s := s) (g := .host) hn128 hv4
  refine ⟨_, he, ?_, fun m hm hne => ?_, ?_, hcleared, hposted, hkept, s.setEnable_regFrame .host hn128 v,
    (s.setEnable_stores .host hn128 v).2⟩
  · rw [State.fld_setEnable hn128 v (Target.en_reg_not_mem_pendRegs .host hn128),
      State.fld_setF_same _ _ _ (Target.en_fits .host n)]
    exact Nat.mod_eq_of_lt hv4
  · rw [State.fld_setEnable hn128 v (Target.en_reg_not_mem_pendRegs .host hm),
      State.fld_setF_other _ _ _ _ (Target.en_apart .host hne)]
  · rw [State.fld_setEnable hn128 v (Target.active_reg_not_mem_pendRegs .host hn128),
      State.fld_setF_other _ _ _ _ (.inl (Target.en_not_active .host hn128).symm)]

/-- The first `k` of the sixteen changes of EN in one register (R404). -/
def State.enabled (g : Target) (j : Nat) (w : Word) (k : Nat) (s : State) : State :=
  s.forUpTo (fun i u => u.setEnable g (16 * j + i) (bits w (2 * i) 2)) k

theorem Target.en_row (g : Target) (j : Nat) {k : Nat} (hk : k < 16) :
    (g.en (16 * j + k)).reg = (g.en (16 * j)).reg ∧ (g.en (16 * j + k)).lo = 2 * k := by
  have hdiv : (16 * j + k) / 16 = j := by omega
  have hdiv' : 16 * j / 16 = j := by omega
  have hmod : (16 * j + k) % 16 = k := by omega
  cases g <;> simp only [Target.en, hdiv, hdiv', hmod, and_self]

theorem State.enabled_stores (s : State) (g : Target) {j : Nat} (hj : j < 8) (w : Word) {k : Nat} (hk : k ≤ 16) :
    RegFrame [(g.en (16 * j)).reg] s (s.enabled g j w k) ∧ RegsOnly s (s.enabled g j w k) ∧
      ∀ i < 2 * k, ((s.enabled g j w k).reg (g.en (16 * j)).reg).getLsbD i = w.getLsbD i := by
  induction k with
  | zero => exact ⟨.refl _ s, .refl s, fun i hi => absurd hi (by omega)⟩
  | succ k ih =>
    obtain ⟨hframe, honly, hbits⟩ := ih (by omega)
    obtain ⟨hreg, hlo⟩ := g.en_row j (k := k) (by omega)
    have hn : 16 * j + k < 128 := by omega
    have hstep := State.setEnable_regFrame (s.enabled g j w k) g hn (bits w (2 * k) 2)
    have hstored := State.setEnable_stores (s.enabled g j w k) g hn (bits w (2 * k) 2)
    rw [hreg] at hstep
    refine ⟨hframe.trans hstep, honly.trans hstored.2, fun i hi => ?_⟩
    have hword : (s.enabled g j w (k + 1)).reg (g.en (16 * j)).reg =
        putBits ((s.enabled g j w k).reg (g.en (16 * j)).reg) (2 * k) 2 (bits w (2 * k) 2) := by
      refine (hstored.1 _ List.not_mem_nil (g.en_reg_not_mem_pendRegs (by omega))).trans ?_
      rw [← hreg, State.reg_setF_same, putF, hlo, show (g.en (16 * j + k)).width = 2 by cases g <;> rfl]
    rw [hword, getLsbD_putBits _ _ _ _ _ (by omega)]
    split
    · rw [testBit_bits]
      rw [decide_eq_true (by omega), Bool.true_and, show 2 * k + (i - 2 * k) = i by omega]
    · exact hbits i (by omega)

theorem intHostEnWrite_result {s : State} (haon : s.aon = true) (hnoon : s.noon = true) (j : Fin 8) (w : Word) :
    Does (.intHostEnWrite false j w) s fun t =>
      t.reg (Reg.INT_HOST_EN j.val) = w ∧ RegFrame [Reg.INT_HOST_EN j.val] s t ∧ RegsOnly s t := by
  have he : exec (.intHostEnWrite false j w) s = .next (s.enabled .host j.val w 16) := by
    rw [exec_intHostEnWrite]
    exact act_when_noon haon hnoon
  have hreg : (Target.host.en (16 * j.val)).reg = Reg.INT_HOST_EN j.val := by
    simp only [Target.en, show 16 * j.val / 16 = j.val by omega]
  obtain ⟨hframe, honly, hbits⟩ := s.enabled_stores .host j.isLt w (Nat.le_refl 16)
  rw [hreg] at hframe hbits
  exact ⟨_, he, BitVec.eq_of_getLsbD_eq fun i hi => hbits i (by omega), hframe, honly⟩

/-- Settles O12. -/
theorem enablesAndDoorbells : Obligations.EnablesAndDoorbells := by
  intro s w haon hnoon
  have hbell : exec (.intDoorbell false w) s = .next (s.doorbell w) := by
    rw [exec_intDoorbell]
    exact act_when_noon haon hnoon
  have hn := bits_lt w 0 7
  refine ⟨fun n v hn hv => intHostSet_result haon hnoon hn hv, fun j => intHostEnWrite_result haon hnoon j w,
    fun h => ⟨_, hbell, ?_⟩, fun h => ⟨_, hbell, if_pos h⟩⟩
  have hpost : s.doorbell w = s.post (bits w 0 7) := if_neg (by omega)
  rw [hpost]
  exact ⟨s.post_pended _ hn, (RegFrame.refl [] s).post _ hn, .post s _⟩

end Sys2Proof.Machine

namespace Sys2Proof.Machine

/-! ### Entry to a stage (R273, R409) -/

/-- Nothing is changed but registers, the next free value's index, and the mark that ALERT_N's release has come to an
end. -/
def RegsAndFree (s t : State) : Prop :=
  t = { s with regs := t.regs, free := t.free, tw := { s.tw with quiet := t.tw.quiet } }

theorem RegsAndFree.refl (s : State) : RegsAndFree s s := rfl

theorem RegsAndFree.trans {s t u : State} (h : RegsAndFree s t) (k : RegsAndFree t u) : RegsAndFree s u := by
  unfold RegsAndFree at *
  rw [k, h]

theorem RegsOnly.regsAndFree {s t : State} (h : RegsOnly s t) : RegsAndFree s t := by
  unfold RegsOnly at h
  unfold RegsAndFree
  rw [h]

/-- What each of the first `n` steps keeps is kept by all of them. -/
theorem State.forUpTo_induction {f : Nat → State → State} {R : State → State → Prop} (refl : ∀ s, R s s)
    (trans : ∀ s u t, R s u → R u t → R s t) (s : State) :
    ∀ n : Nat, (∀ k < n, ∀ u, R u (f k u)) → R s (s.forUpTo f n)
  | 0, _ => refl s
  | n + 1, h => trans _ _ _ (State.forUpTo_induction refl trans s n fun k hk => h k (by omega)) (h n (by omega) _)

/-- The enables of the control target. -/
def cpEnRegs : List Nat := (List.range 8).map Reg.INT_CP_EN

theorem State.cpEnables_kept (s : State) : RegFrame cpEnRegs s s.cpEnables ∧ RegsAndFree s s.cpEnables := by
  refine State.forUpTo_induction (R := fun s t => RegFrame cpEnRegs s t ∧ RegsAndFree s t)
    (fun s => ⟨.refl _ s, .refl s⟩) (fun _ _ _ h k => ⟨h.1.trans k.1, h.2.trans k.2⟩) s 8 fun j hj u => ?_
  obtain ⟨hframe, honly, -⟩ := u.enabled_stores .cp hj (Config.freeWord u.free) (Nat.le_refl 16)
  refine ⟨(hframe.mono fun a ha => ?_).regs rfl, honly.regsAndFree.trans (by rfl)⟩
  rw [List.mem_singleton.mp ha, Target.en, show 16 * j / 16 = j by omega]
  exact List.mem_map_of_mem (List.mem_range.mpr hj)

/-- The registers that the entry to a stage changes. -/
def stageRegs : List Nat := [Reg.BOOT_STAGE, Reg.BOOT_EVENTS] ++ cpEnRegs

theorem State.enterStage_kept (s : State) (st entry : Nat) :
    RegFrame stageRegs s (s.enterStage st entry) ∧ RegsAndFree s (s.enterStage st entry) := by
  obtain ⟨hframe, honly⟩ := ((s.setF BOOT_STAGE.STAGE st).setF BOOT_STAGE.ENTRY entry).cpEnables_kept
  refine ⟨RegFrame.raise (RegFrame.trans ?_ (hframe.mono (List.subset_append_right _ _))) _ _ (by decide) (by decide),
    RegsAndFree.trans (by rfl) (honly.trans (RegsOnly.raise _ _ _).regsAndFree)⟩
  exact ((RegFrame.refl _ s).setF _ _ (.inl (by decide))).setF _ _ (.inl (by decide))

/-- The stage and the way it was entered. -/
theorem State.enterStage_stage (s : State) {st entry : Nat}
    (hst : st < 4) (hentry : entry < 2 ^ BOOT_STAGE.ENTRY.width) :
    (s.enterStage st entry).stage = st ∧ (s.enterStage st entry).fld BOOT_STAGE.ENTRY = entry := by
  have kept (f : Fld) (hf : f.reg = Reg.BOOT_STAGE) : (s.enterStage st entry).fld f =
      ((s.setF BOOT_STAGE.STAGE st).setF BOOT_STAGE.ENTRY entry).fld f := by
    refine (State.fld_raise _ _ _ _ (by decide) (by rw [hf]; decide) (by rw [hf]; decide)).trans ?_
    exact (State.cpEnables_kept _).1.fld f (by rw [hf]; decide) (by rw [hf]; decide)
  refine ⟨?_, ?_⟩
  · rw [State.stage, kept _ rfl, State.fld_setF_other _ _ _ _ (.inr (by decide)), State.fld_setF_same _ _ _ (by decide)]
    exact Nat.mod_eq_of_lt hst
  · rw [kept _ rfl, State.fld_setF_same _ _ _ (by decide)]
    exact Nat.mod_eq_of_lt hentry

/-! ### POWER_UP and the loss of the AON supply (R222, R274) -/

/-- The state after power-up, before VAUX starts: the reset state with the strap as sampled. -/
def State.strapped (strap : Bool) (s : State) : State :=
  { State.reset with pending := s.pending, free := s.free, tw := { State.reset.tw with strap := strap } }

theorem exec_powerUp_eq (strap : Bool) (s : State) :
    exec (.powerUp strap) s = .next ((s.strapped strap).vauxOn.enterStage LARVA 0) := rfl

/-- The parts that the start of VAUX leaves alone. -/
theorem State.vauxOn_kept (s : State) :
    s.vauxOn = { s with regs := s.vauxOn.regs, entry := s.vauxOn.entry, free := s.vauxOn.free } := by
  unfold State.vauxOn
  split
  · rfl
  · unfold State.startPhase
    extract_lets hs
    split <;> rfl

theorem State.vauxOn_hold (s : State) : s.vauxOn.entry.hold = s.entry.hold := by
  unfold State.vauxOn
  split
  · rfl
  · rw [State.startPhase_entry]
    rfl

theorem State.strapped_healthyPhases (strap : Bool) (s : State) : (s.strapped strap).healthyPhases ≠ [] := by
  have h : (s.strapped strap).fld PHASE_STATUS.RETIRED = 0 := by rfl
  simp [State.healthyPhases, h, List.range_succ]

theorem powerUp_result (strap : Bool) (s : State) : Does (.powerUp strap) s fun t =>
    t.aon = true ∧ t.noon = true ∧ t.stage = LARVA ∧ t.safeState = LOCKED ∧ t.SafeOff ∧
      t.on CONV_STATUS.VAUX_ON = true ∧
    t.tick = 0 ∧ t.time = 0 ∧ t.queue = resetQueue ∧ t.ring = resetRing ∧ t.link = resetLink ∧ t.boot = resetBoot ∧
    t.eng = resetEngine ∧ t.array = resetArray ∧ t.ownAddress = (if strap then 0x4E else 0x4C) ∧
    t.pending = s.pending := by
  obtain ⟨hstageFrame, honly⟩ := (s.strapped strap).vauxOn.enterStage_kept LARVA 0
  have hvaux := (s.strapped strap).vauxOn_kept
  have hframe : RegFrame ([Reg.CONV_STATUS, Reg.PHASE_STATUS] ++ stageRegs) (s.strapped strap)
      ((s.strapped strap).vauxOn.enterStage LARVA 0) :=
    ((RegFrame.refl _ _).vauxOn (by decide) (by decide)).trans (hstageFrame.mono (List.subset_append_right _ _))
  have reset (f : Fld) (hf : f.reg ∉ [Reg.CONV_STATUS, Reg.PHASE_STATUS] ++ stageRegs) (hp : f.reg ∉ pendRegs) :
      ((s.strapped strap).vauxOn.enterStage LARVA 0).fld f = bits (resetWord f.reg) f.lo f.width :=
    hframe.fld f hf hp
  refine ⟨_, exec_powerUp_eq strap s, ?_⟩
  have hon : ((s.strapped strap).vauxOn.enterStage LARVA 0).on CONV_STATUS.VAUX_ON = true := by
    rw [hstageFrame.on _ (by decide) (by decide)]
    exact (State.vauxOn_starts (s.strapped_healthyPhases strap)).1
  have hstage := ((s.strapped strap).vauxOn.enterStage_stage (st := LARVA) (entry := 0) (by decide) (by decide)).1
  have hhold : ((s.strapped strap).vauxOn.enterStage LARVA 0).entry.hold = none := by
    rw [honly]
    exact (s.strapped strap).vauxOn_hold
  have hnoon : ((s.strapped strap).vauxOn.enterStage LARVA 0).noon = true := by
    rw [State.noon, hhold, reset _ (by decide) (by decide)]
    decide
  refine ⟨?_, hnoon, hstage, reset _ (by decide) (by decide), ⟨reset _ (by decide) (by decide),
    reset _ (by decide) (by decide)⟩, hon, ?_, ?_, ?_, ?_, ?_, ?_, ?_, ?_, ?_, ?_⟩
  all_goals
    rw [honly, hvaux]
    rfl

/-- Settles O20. -/
theorem powerUpAndAonLoss : Obligations.PowerUpAndAonLoss := by
  refine ⟨powerUp_result, fun s haon => ⟨{ State.reset with aon := false, pending := s.pending, free := s.free },
    ?_, rfl, rfl, rfl, State.fld_reset _, State.reset_safeOff, rfl⟩⟩
  exact (exec_aonSupplyLoss s).trans (congrArg Host.Outcome.next (if_pos haon))

end Sys2Proof.Machine

namespace Sys2Proof.Machine

/-! ### What a path to SAFE off leaves (R213, R221) -/

/-- Nothing is changed but registers, the safety function, the pins, the two stores of records, the records that wait
for their tick, and ALERT_N's mark. -/
def PathOnly (s t : State) : Prop :=
  t = { s with
    regs := t.regs, safety := t.safety, pins := t.pins, queue := t.queue, ring := t.ring, held := t.held
    tw := { s.tw with quiet := t.tw.quiet } }

theorem PathOnly.refl (s : State) : PathOnly s s := rfl

theorem PathOnly.trans {s t u : State} (h : PathOnly s t) (k : PathOnly t u) : PathOnly s u := by
  unfold PathOnly at *
  rw [k, h]

theorem StoresOnly.pathOnly {s t : State} (h : StoresOnly s t) : PathOnly s t := by
  unfold StoresOnly at h
  unfold PathOnly
  rw [h]

theorem RegsOnly.pathOnly {s t : State} (h : RegsOnly s t) : PathOnly s t := h.storesOnly.pathOnly

theorem PathOnly.rearmed {s t : State} (h : PathOnly s t) : t.rearmed = s.rearmed := by
  unfold PathOnly at h
  rw [h]

theorem PathOnly.ite {s t u : State} {c : Prop} [Decidable c] (ht : PathOnly s t) (hu : PathOnly s u) :
    PathOnly s (if c then t else u) := by
  split
  · exact ht
  · exact hu

theorem PathOnly.raise {s t : State} (h : PathOnly s t) (a k : Nat) : PathOnly s (t.raise a k) :=
  h.trans (RegsOnly.raise t a k).pathOnly

theorem State.safeEvents_pathOnly (s : State) (cause next : Nat) : PathOnly s (s.safeEvents cause next) := by
  unfold State.safeEvents
  extract_lets u v w
  have hu : PathOnly s u := (((PathOnly.refl s).raise _ _).trans (RegsOnly.incSat _ _).pathOnly).ite (.refl s)
  have hv : PathOnly s v := (hu.raise _ _).ite hu
  have hw : PathOnly s w := (hv.raise _ _).ite hv
  exact (hw.raise _ _).ite hw

theorem State.safeEnter_pathOnly (s : State) (next cause reason origin tick : Nat) (tied : Bool) :
    PathOnly s (s.safeEnter next cause reason origin tick tied) := by
  unfold State.safeEnter
  extract_lets u kind v w
  have hu : PathOnly s u := rfl
  have hv : PathOnly s v := hu.trans (PathOnly.ite (by rfl) (u.commitOne_storesOnly _).pathOnly)
  have hw : PathOnly s w := (hv.trans (v.safeEvents_pathOnly _ _)).trans (PathOnly.ite (by rfl) (.refl _))
  have hpins : PathOnly w (w.tripPins next) := PathOnly.ite (by rfl) (PathOnly.ite (by rfl) (.refl w))
  exact (hw.trans hpins).trans (PathOnly.ite (State.captureTrigger_storesOnly _ _ _ _ _).pathOnly (.refl _))

theorem State.safePath_pathOnly (s : State) (cause reason origin tick : Nat) (tied : Bool) :
    PathOnly s (s.safePath cause reason origin tick tied) := by
  have late : PathOnly s (s.when s.noon (State.incSat SAFE_COUNTS.LATE_REQ)) :=
    PathOnly.ite (RegsOnly.incSat s _).pathOnly (.refl s)
  unfold State.safePath
  extract_lets st u old new v
  exact PathOnly.ite (s.safeEnter_pathOnly _ _ _ _ _ _) (PathOnly.ite (s.safeEnter_pathOnly _ _ _ _ _ _)
    (PathOnly.ite (s.safeEnter_pathOnly _ _ _ _ _ _) (PathOnly.ite (late.trans (by rfl)) late)))

/-! ### Events through later stores -/

/-- A raised event stands while its register, and those of what is pending, are left alone. -/
theorem Raised.of_kept {a k : Nat} {s t u : State} (h : Raised a k s t) (hn : sourceOf a k < 128)
    (hkept : ∀ b ∈ a :: pendRegs, u.reg b = t.reg b) : Raised a k s u := by
  obtain ⟨hon, hpended⟩ := h
  have kept (f : Fld) (hf : f.reg ∈ a :: pendRegs) : u.on f = t.on f := by
    simp only [State.on, State.fld, hkept _ hf]
  exact ⟨(kept _ (List.mem_cons_self ..)).trans hon,
    fun hnoon g hen => (kept _ (List.mem_cons_of_mem _ (g.pend_reg_mem _ hn))).trans (hpended hnoon g hen)⟩

theorem State.reg_limitOff (s : State) (k : Nat) {a : Nat} (ha : a ≠ Reg.CONV_STATUS) :
    (s.limitOff k).reg a = s.reg a :=
  (State.reg_setF_other _ _ _ _ ha).trans (State.reg_setF_other _ _ _ _ ha)

/-- Switching VAUX off stores its two registers alone, and among the parts the converter's. -/
theorem State.reg_vauxOff (s : State) (why : Nat) {a : Nat} (hc : a ≠ Reg.CONV_STATUS) (hp : a ≠ Reg.PHASE_STATUS) :
    (s.vauxOff why).reg a = s.reg a := by
  unfold State.vauxOff
  extract_lets u
  split
  · exact ((State.reg_setF_other _ _ _ _ hp).trans (State.reg_setF_other _ _ _ _ hc)).trans (State.reg_limitOff _ _ hc)
  · rfl

theorem State.vauxOff_only (s : State) (why : Nat) :
    s.vauxOff why = { s with regs := (s.vauxOff why).regs, entry := (s.vauxOff why).entry } := by
  unfold State.vauxOff
  extract_lets u
  split <;> rfl

/-- A field of CONV_STATUS beside VAUX_ON, LIMIT and LIMIT_CAUSE stands while VAUX goes off. -/
theorem State.fld_vauxOff (s : State) (why : Nat) {f : Fld} (hr : f.reg = Reg.CONV_STATUS)
    (hf : f.lo + f.width ≤ 4 ∨ 10 ≤ f.lo) : (s.vauxOff why).fld f = s.fld f := by
  unfold State.vauxOff
  extract_lets u
  have apart (g : Fld) (hlo : 4 ≤ g.lo) (hhi : g.lo + g.width ≤ 10) (t : State) (v : Nat) :
      (t.setF g v).fld f = t.fld f := t.fld_setF_other g f v (.inr (by omega))
  split
  · rw [State.fld_setF_other _ _ _ _ (.inl (by rw [hr]; decide)), apart _ (by decide) (by decide)]
    exact (apart _ (by decide) (by decide) _ _).trans (apart _ (by decide) (by decide) _ _)
  · rfl

theorem Raised.vauxOff {a k : Nat} {s t : State} (h : Raised a k s t) (hn : sourceOf a k < 128) (why : Nat)
    (hc : Reg.CONV_STATUS ∉ a :: pendRegs) (hp : Reg.PHASE_STATUS ∉ a :: pendRegs) : Raised a k s (t.vauxOff why) :=
  h.of_kept hn fun _ hb => t.reg_vauxOff why (fun e => hc (e ▸ hb)) fun e => hp (e ▸ hb)

/-! ### Ride-through and the estimate of the reservoir (R33, R363, R368, R369) -/

/-- The common part of a ride-through's begin: the mark, the count and the event, with the ESR in Noon. -/
def State.rideBegun (esr : Nat) (s : State) : State :=
  let u := ((s.setF CONV_STATUS.RIDE 1).incSat CONV_COUNTS.RIDES).raise Reg.CONV_EVENTS 0
  u.when u.noon (State.setF RES_MODEL.ESR esr)

/-- The registers of a ride-through's begin. -/
def rideRegs : List Nat := [Reg.CONV_STATUS, Reg.CONV_COUNTS, Reg.CONV_EVENTS, Reg.RES_MODEL, Reg.PHASE_STATUS]

theorem State.noon_of_frame {as : List Nat} {s t : State} (h : RegFrame as s t) (ha : Reg.PWR_STATE ∉ as)
    (hold : t.entry.hold = s.entry.hold) : t.noon = s.noon := by
  rw [State.noon, State.noon, hold, h.fld PWR_STATE.STATE ha (by decide)]

theorem State.rideBegun_regFrame (s : State) (esr : Nat) : RegFrame rideRegs s (s.rideBegun esr) := by
  unfold State.rideBegun
  extract_lets u
  have hu : RegFrame rideRegs s u := (((RegFrame.refl _ s).setF _ _ (.inl (by decide))).incSat _
    (.inl (by decide))).raise _ _ (by decide) (by decide)
  unfold State.when
  split
  · exact hu.setF _ _ (.inl (by decide))
  · exact hu

theorem State.rideBegun_regsOnly (s : State) (esr : Nat) : RegsOnly s (s.rideBegun esr) := by
  unfold State.rideBegun
  extract_lets u
  have hu : RegsOnly s u := ((RegsOnly.setF s _ _).trans (.incSat _ _)).trans (.raise _ _ _)
  unfold State.when
  split
  · exact hu.trans (.setF _ _ _)
  · exact hu

/-- The registers of what the raise has left, whether or not the ESR is stored. -/
theorem State.rideBegun_result (s : State) (esr : BitVec 16) :
    (s.rideBegun esr.toNat).on CONV_STATUS.RIDE = true ∧
    (s.rideBegun esr.toNat).fld CONV_COUNTS.RIDES =
      min (s.fld CONV_COUNTS.RIDES + 1) (2 ^ CONV_COUNTS.RIDES.width - 1) ∧
    Raised Reg.CONV_EVENTS 0 s (s.rideBegun esr.toNat) ∧
    (s.noon = true → (s.rideBegun esr.toNat).fld RES_MODEL.ESR = esr.toNat) ∧
    (s.rideBegun esr.toNat).fld CONV_STATUS.VAUX_ON = s.fld CONV_STATUS.VAUX_ON := by
  unfold State.rideBegun
  extract_lets u
  have hmarks : RegFrame [Reg.CONV_STATUS, Reg.CONV_COUNTS] s ((s.setF CONV_STATUS.RIDE 1).incSat CONV_COUNTS.RIDES) :=
    ((RegFrame.refl _ s).setF _ _ (.inl (by decide))).incSat _ (.inl (by decide))
  have hu : RegFrame [Reg.CONV_STATUS, Reg.CONV_COUNTS, Reg.CONV_EVENTS] s u :=
    (hmarks.mono (by decide)).raise _ _ (by decide) (by decide)
  have honly : RegsOnly s u := ((RegsOnly.setF s _ _).trans (.incSat _ _)).trans (.raise _ _ _)
  have hnoon : u.noon = s.noon := State.noon_of_frame hu (by decide) (by rw [honly])
  have kept (f : Fld) (hf : f.reg ≠ Reg.RES_MODEL) :
      (u.when u.noon (State.setF RES_MODEL.ESR esr.toNat)).fld f = u.fld f := by
    unfold State.when
    split
    · exact u.fld_setF_other _ _ _ (.inl hf)
    · rfl
  have hraised : Raised Reg.CONV_EVENTS 0 s u :=
    hmarks.raise_raised rfl (by decide) _ _ (by decide) (by decide) (by decide)
  have before (f : Fld) (hf : f.reg ∉ Reg.CONV_EVENTS :: Reg.CONV_COUNTS :: pendRegs) :
      u.fld f = (s.setF CONV_STATUS.RIDE 1).fld f := by
    obtain ⟨hev, hcount, hpend⟩ : f.reg ≠ Reg.CONV_EVENTS ∧ f.reg ≠ Reg.CONV_COUNTS ∧ f.reg ∉ pendRegs := by
      simpa [not_or] using hf
    exact (State.fld_raise _ _ _ _ (by decide) hpend hev).trans (State.fld_setF_other _ _ _ _ (.inl hcount))
  refine ⟨?_, ?_, ?_, fun h => ?_, ?_⟩
  · rw [State.on, kept _ (by decide), before _ (by decide), State.fld_setF_same _ _ _ (by decide)]
    rfl
  · rw [kept _ (by decide), State.fld_raise _ _ _ _ (by decide) (by decide) (by decide),
      State.fld_incSat _ _ (by decide), State.fld_setF_other _ _ _ _ (.inl (by decide))]
  · unfold State.when
    split
    · exact hraised.setF _ _ (by decide) (by decide)
    · exact hraised
  · rw [State.when, if_pos (hnoon.trans h), State.fld_setF_same _ _ _ (by decide)]
    exact Nat.mod_eq_of_lt esr.isLt
  · rw [kept _ (by decide), before _ (by decide), State.fld_setF_other _ _ _ _ (.inr (by decide))]

theorem rideThroughEntry_result {s : State} (haon : s.aon = true) (esr : BitVec 16)
    (hride : s.on CONV_STATUS.RIDE = false) :
    Does (.rideThroughEntry esr) s fun t =>
      t.on CONV_STATUS.RIDE = true ∧
      t.fld CONV_COUNTS.RIDES = min (s.fld CONV_COUNTS.RIDES + 1) (2 ^ CONV_COUNTS.RIDES.width - 1) ∧
      Raised Reg.CONV_EVENTS 0 s t ∧ (s.noon = true → t.fld RES_MODEL.ESR = esr.toNat) ∧
      (s.fld CONV_CFG.SHED_MODE ≠ 2 ∨ s.fld CONV_CFG.SHED_DELAY ≠ 0 →
        t.fld CONV_STATUS.VAUX_ON = s.fld CONV_STATUS.VAUX_ON ∧ RegsOnly s t) ∧
      RegFrame [Reg.CONV_STATUS, Reg.CONV_COUNTS, Reg.CONV_EVENTS, Reg.RES_MODEL, Reg.PHASE_STATUS] s t := by
  have hframe := s.rideBegun_regFrame esr.toNat
  obtain ⟨hon, hcount, hraised, hesr, hvaux⟩ := s.rideBegun_result esr
  have he : exec (.rideThroughEntry esr) s = .next ((s.rideBegun esr.toNat).when
      ((s.rideBegun esr.toNat).fld CONV_CFG.SHED_MODE == 2 && (s.rideBegun esr.toNat).fld CONV_CFG.SHED_DELAY == 0)
      (State.vauxOff 1)) :=
    (exec_rideThroughEntry esr s).trans ((act_next haon).trans (congrArg _ (if_neg (by simp [hride]))))
  refine ⟨_, he, ?_⟩
  rw [hframe.fld _ (by decide) (by decide), hframe.fld _ (by decide) (by decide)]
  by_cases hshed : s.fld CONV_CFG.SHED_MODE = 2 ∧ s.fld CONV_CFG.SHED_DELAY = 0
  · rw [show (s.fld CONV_CFG.SHED_MODE == 2 && s.fld CONV_CFG.SHED_DELAY == 0) = true by simp [hshed], State.when_true]
    refine ⟨?_, ?_, hraised.vauxOff (by decide) _ (by decide) (by decide), fun h => ?_, fun h => by omega,
      hframe.vauxOff (by decide) (by decide) _⟩
    · rw [State.on, State.fld_vauxOff _ _ rfl (by decide)]
      exact hon
    · rw [State.fld, State.reg_vauxOff _ _ (by decide) (by decide)]
      exact hcount
    · rw [State.fld, State.reg_vauxOff _ _ (by decide) (by decide)]
      exact hesr h
  · rw [show (s.fld CONV_CFG.SHED_MODE == 2 && s.fld CONV_CFG.SHED_DELAY == 0) = false by simpa using hshed,
      State.when_false]
    exact ⟨hon, hcount, hraised, hesr, fun _ => ⟨hvaux, s.rideBegun_regsOnly _⟩, hframe⟩

theorem rideThroughEnd_result {s : State} (haon : s.aon = true) (hnoon : s.noon = true) (low ms : BitVec 16)
    (charge : Word) (dv : BitVec 16) (hride : s.on CONV_STATUS.RIDE = true) (hdv : dv.toNat < 200) :
    Does (.rideThroughEnd low ms charge dv false) s fun t =>
      t.on CONV_STATUS.RIDE = false ∧ t.fld RES_LAST.MIN_VHOLD = low.toNat ∧ t.fld RES_LAST.DURATION = ms.toNat ∧
      t.reg Reg.RES_CHARGE = charge ∧ t.on CONV_STATUS.STALE = false ∧ Raised Reg.CONV_EVENTS 0 s t ∧
      RegFrame [Reg.CONV_STATUS, Reg.CONV_EVENTS, Reg.RES_LAST, Reg.RES_CHARGE] s t ∧ RegsOnly s t := by
  have hended : RegFrame [Reg.CONV_STATUS] s (s.setF CONV_STATUS.RIDE 0) :=
    (RegFrame.refl _ s).setF _ _ (.inl (by decide))
  have hraised := hended.raise_raised rfl (by decide) Reg.CONV_EVENTS 0 (by decide) (by decide) (by decide)
  have hframe : RegFrame [Reg.CONV_STATUS, Reg.CONV_EVENTS, Reg.RES_LAST, Reg.RES_CHARGE] s
      ((s.setF CONV_STATUS.RIDE 0).raise Reg.CONV_EVENTS 0) :=
    (hended.mono (by decide)).raise _ _ (by decide) (by decide)
  have honly : RegsOnly s ((s.setF CONV_STATUS.RIDE 0).raise Reg.CONV_EVENTS 0) :=
    (RegsOnly.setF s _ _).trans (.raise _ _ _)
  have hstill : ((s.setF CONV_STATUS.RIDE 0).raise Reg.CONV_EVENTS 0).noon = true :=
    (State.noon_of_frame hframe (by decide) (by rw [honly])).trans hnoon
  have he : exec (.rideThroughEnd low ms charge dv false) s =
      .next ((((((s.setF CONV_STATUS.RIDE 0).raise Reg.CONV_EVENTS 0).setF RES_LAST.MIN_VHOLD low.toNat).setF
        RES_LAST.DURATION ms.toNat).setReg Reg.RES_CHARGE charge).setF CONV_STATUS.STALE 0) := by
    refine (exec_rideThroughEnd low ms charge dv false s).trans ((act_next haon).trans (congrArg _ ?_))
    rw [if_neg (by simp [hride]), if_neg (by simp [hstill]), if_neg Bool.false_ne_true, if_neg (by omega)]
    rfl
  refine ⟨_, he, ?_, ?_, ?_, ?_, ?_, ?_, ?_, ?_⟩
  · rw [State.on_eq_false_iff, State.fld_setF_other _ _ _ _ (.inr (by decide)),
      State.fld_setReg_other _ _ _ _ (by decide),
      State.fld_setF_other _ _ _ _ (.inl (by decide)), State.fld_setF_other _ _ _ _ (.inl (by decide)),
      State.fld_raise _ _ _ _ (by decide) (by decide) (by decide), State.fld_setF_same _ _ _ (by decide)]
    rfl
  · rw [State.fld_setF_other _ _ _ _ (.inl (by decide)), State.fld_setReg_other _ _ _ _ (by decide),
      State.fld_setF_other _ _ _ _ (.inr (by decide)), State.fld_setF_same _ _ _ (by decide)]
    exact Nat.mod_eq_of_lt low.isLt
  · rw [State.fld_setF_other _ _ _ _ (.inl (by decide)), State.fld_setReg_other _ _ _ _ (by decide),
      State.fld_setF_same _ _ _ (by decide)]
    exact Nat.mod_eq_of_lt ms.isLt
  · rw [State.reg_setF_other _ _ _ _ (by decide), State.reg_setReg_same]
  · rw [State.on_eq_false_iff, State.fld_setF_same _ _ _ (by decide)]
    rfl
  · refine Raised.of_kept hraised (by decide) fun b hb => ?_
    have hb' : b ∉ [Reg.CONV_STATUS, Reg.RES_LAST, Reg.RES_CHARGE] := by revert b; decide
    simp only [List.mem_cons, List.not_mem_nil, or_false, not_or] at hb'
    obtain ⟨hc, hl, hq⟩ := hb'
    rw [State.reg_setF_other _ _ _ _ hc, State.reg_setReg_other _ _ _ _ hq, State.reg_setF_other _ _ _ _ hl,
      State.reg_setF_other _ _ _ _ hl]
  · exact (((hframe.setF _ _ (.inl (by decide))).setF _ _ (.inl (by decide))).setReg _ _ (.inl (by decide))).setF _ _
      (.inl (by decide))
  · exact (((honly.trans (.setF _ _ _)).trans (.setF _ _ _)).trans (.setReg _ _ _)).trans (.setF _ _ _)

/-- The reports of R33 on the estimate. -/
theorem State.reportCap_result {s u : State} (hframe : RegFrame [Reg.RES_MODEL] s u) (honly : RegsOnly s u) :
    (u.reportCap.fld RES_MODEL.CAP = u.fld RES_MODEL.CAP) ∧
    (u.reportCap.on CONV_STATUS.UNDERSIZED = true ↔ u.fld RES_MODEL.CAP < 80) ∧
    (u.reportCap.on CONV_STATUS.OVERSIZED = true ↔ 1000 < u.fld RES_MODEL.CAP) ∧
    (u.fld RES_MODEL.CAP < 80 ∨ 1000 < u.fld RES_MODEL.CAP → Raised Reg.CONV_EVENTS 4 s u.reportCap) ∧
    RegFrame [Reg.RES_MODEL, Reg.CONV_STATUS, Reg.CONV_EVENTS] s u.reportCap ∧ RegsOnly s u.reportCap := by
  unfold State.reportCap
  extract_lets c low high v
  have hv : RegFrame [Reg.RES_MODEL, Reg.CONV_STATUS] s v :=
    ((hframe.mono (by decide)).setF _ _ (.inl (by decide))).setF _ _ (.inl (by decide))
  have hvonly : RegsOnly s v := (honly.trans (.setF _ _ _)).trans (.setF _ _ _)
  have kept (f : Fld) (hp : f.reg ∉ Reg.CONV_EVENTS :: pendRegs) :
      (v.when (low || high) (State.raise Reg.CONV_EVENTS 4)).fld f = v.fld f := by
    obtain ⟨hev, hpend⟩ : f.reg ≠ Reg.CONV_EVENTS ∧ f.reg ∉ pendRegs := by simpa [not_or] using hp
    unfold State.when
    split
    · exact v.fld_raise _ _ _ (by decide) hpend hev
    · rfl
  have hunder : v.on CONV_STATUS.UNDERSIZED = low := by
    rw [State.on, State.fld_setF_other _ _ _ _ (.inr (by decide))]
    exact State.on_setF_b01 u _ (by decide) rfl low
  have hover : v.on CONV_STATUS.OVERSIZED = high := State.on_setF_b01 _ _ (by decide) rfl high
  refine ⟨?_, ?_, ?_, fun h => ?_, ?_, ?_⟩
  · rw [kept _ (by decide), State.fld_setF_other _ _ _ _ (.inl (by decide)),
      State.fld_setF_other _ _ _ _ (.inl (by decide))]
  · rw [State.on, kept _ (by decide)]
    exact (Bool.eq_iff_iff.mp hunder).trans decide_eq_true_iff
  · rw [State.on, kept _ (by decide)]
    exact (Bool.eq_iff_iff.mp hover).trans decide_eq_true_iff
  · rw [show (low || high) = true by simpa [low, high] using h, State.when_true]
    exact hv.raise_raised (by rw [hvonly]) (by decide) _ _ (by decide) (by decide) (by decide)
  · unfold State.when
    split
    · exact (hv.mono (by decide)).raise _ _ (by decide) (by decide)
    · exact hv.mono (by decide)
  · unfold State.when
    split
    · exact hvonly.trans (.raise _ _ _)
    · exact hvonly

/-- Settles O14. -/
theorem rideThroughAndCapacitance : Obligations.RideThroughAndCapacitance := by
  intro s haon
  refine ⟨fun esr h => rideThroughEntry_result haon esr h,
    fun low ms charge dv hride hnoon hdv => rideThroughEnd_result haon hnoon low ms charge dv hride hdv,
    fun cap => ⟨_, (exec_capacitanceEstimate cap s).trans (act_next haon), ?_⟩⟩
  have hcap : (s.setF RES_MODEL.CAP cap.toNat).fld RES_MODEL.CAP = cap.toNat := by
    rw [State.fld_setF_same _ _ _ (by decide)]
    exact Nat.mod_eq_of_lt cap.isLt
  have h := State.reportCap_result ((RegFrame.refl [Reg.RES_MODEL] s).setF RES_MODEL.CAP cap.toNat (.inl (by decide)))
    (.setF s _ _)
  rwa [hcap] at h

/-! ### The shed and re-arm thresholds (R204, R213, R361, R365) -/

theorem nextOf_reservoir (st : Nat) : nextOf C_RESERVOIR st = TRIPPED := by simp [nextOf]

/-- SHED set and re-armament ended, with the RESERVOIR path where SHED was clear. -/
def State.shedReached (s : State) : State :=
  let u := { s.setF CONV_STATUS.SHED 1 with rearmed := false }
  u.when (!s.on CONV_STATUS.SHED) (State.safePath C_RESERVOIR 0 0xFF u.tick false)

theorem State.shedReached_result (s : State) :
    RegFrame safeRegs (s.setF CONV_STATUS.SHED 1) s.shedReached ∧ s.shedReached.rearmed = false ∧
    (s.armed = true → s.on CONV_STATUS.SHED = false →
      s.shedReached.SafeOff ∧ s.shedReached.safeState = TRIPPED ∧ s.shedReached.fld SAFE_TRIP.CAUSE = C_RESERVOIR) := by
  unfold State.shedReached
  extract_lets _ u
  have hu : RegFrame safeRegs (s.setF CONV_STATUS.SHED 1) u := .of_regs rfl
  have harmed : u.armed = s.armed :=
    State.armed_of_frame (as := [Reg.CONV_STATUS])
      (RegFrame.regs ((RegFrame.refl _ s).setF CONV_STATUS.SHED 1 (.inl (by decide))) rfl) (by decide)
  have hended : u.rearmed = false := rfl
  clear_value u
  refine ⟨?_, ?_, fun h hclear => ?_⟩
  · unfold State.when
    split
    · exact hu.safePath (fun _ h => h) _ _ _ _ _
    · exact hu
  · unfold State.when
    split
    · exact (u.safePath_pathOnly _ _ _ _ _).rearmed.trans hended
    · exact hended
  · rw [hclear, Bool.not_false, State.when_true]
    exact State.safePath_acts (harmed.trans h) (by decide) (by decide) (nextOf_reservoir _) _ _

theorem shedThresholdCrossing_result {s : State} (haon : s.aon = true) :
    Does .shedThresholdCrossing s fun t =>
      t.on CONV_STATUS.SHED = true ∧ t.rearmed = false ∧
      (s.armed = true → s.on CONV_STATUS.SHED = false →
        t.SafeOff ∧ t.safeState = TRIPPED ∧ t.fld SAFE_TRIP.CAUSE = C_RESERVOIR) ∧
      (s.on CONV_STATUS.RIDE = true → s.fld CONV_CFG.SHED_MODE = 1 → t.on CONV_STATUS.VAUX_ON = false) := by
  obtain ⟨hframe, hrearmed, hpath⟩ := s.shedReached_result
  have he : exec .shedThresholdCrossing s = .next (s.shedReached.when
      (s.shedReached.on CONV_STATUS.RIDE && s.shedReached.fld CONV_CFG.SHED_MODE == 1) (State.vauxOff 1)) :=
    (exec_shedThresholdCrossing s).trans (act_next haon)
  have kept (f : Fld) (hr : f.reg ≠ Reg.PHASE_STATUS)
      (hf : f.reg ≠ Reg.CONV_STATUS ∨ f.reg = Reg.CONV_STATUS ∧ (f.lo + f.width ≤ 4 ∨ 10 ≤ f.lo)) (b : Bool) :
      (s.shedReached.when b (State.vauxOff 1)).fld f = s.shedReached.fld f := by
    unfold State.when
    split
    · rcases hf with hf | ⟨he, hf⟩
      · rw [State.fld, State.reg_vauxOff _ _ hf hr]
        rfl
      · exact State.fld_vauxOff _ _ he hf
    · rfl
  have hshed : s.shedReached.on CONV_STATUS.SHED = true := by
    rw [hframe.on _ (by decide) (by decide), State.on_eq_true_iff, State.fld_setF_same _ _ _ (by decide)]
    decide
  have hride : s.shedReached.on CONV_STATUS.RIDE = s.on CONV_STATUS.RIDE := by
    rw [hframe.on _ (by decide) (by decide), State.on, State.fld_setF_other _ _ _ _ (.inr (by decide))]
    rfl
  have hmode : s.shedReached.fld CONV_CFG.SHED_MODE = s.fld CONV_CFG.SHED_MODE := by
    rw [hframe.fld _ (by decide) (by decide), State.fld_setF_other _ _ _ _ (.inl (by decide))]
  refine ⟨_, he, ?_, ?_, fun harmed hclear => ?_, fun h hm => ?_⟩
  · rw [State.on, kept _ (by decide) (by decide)]
    exact hshed
  · unfold State.when
    split
    · rw [State.vauxOff_only]
      exact hrearmed
    · exact hrearmed
  · obtain ⟨⟨ha, hb⟩, hstate, hcause⟩ := hpath harmed hclear
    exact ⟨⟨(kept _ (by decide) (by decide) _).trans ha, (kept _ (by decide) (by decide) _).trans hb⟩,
      (kept _ (by decide) (by decide) _).trans hstate, (kept _ (by decide) (by decide) _).trans hcause⟩
  · rw [hride, hmode, h, hm]
    exact State.vauxOff_on _ 1

theorem State.vauxOff_active {s : State} (h : s.on CONV_STATUS.VAUX_ON = true) (why : Nat) :
    (s.vauxOff why).fld PHASE_STATUS.ACTIVE = 0 := by
  unfold State.vauxOff
  rw [if_pos h]
  exact State.fld_setF_same _ _ _ (by decide)

/-- Settles O15. -/
theorem shedAndRearm : Obligations.ShedAndRearm := by
  intro s haon
  have hexpiry (hride : s.on CONV_STATUS.RIDE = true) (hmode : s.fld CONV_CFG.SHED_MODE = 2) :
      exec .shedDelayExpiry s = .next (s.vauxOff 1) :=
    (exec_shedDelayExpiry s).trans ((act_next haon).trans (congrArg _ (if_pos (by simp [hride, hmode]))))
  refine ⟨shedThresholdCrossing_result haon, ⟨_, (exec_rearmThresholdCrossing s).trans (act_next haon), ?_, ?_, rfl⟩,
    fun hride hmode hvaux => ⟨_, hexpiry hride hmode, s.vauxOff_on 1, State.vauxOff_active hvaux 1,
      State.vauxOff_off hvaux 1, (RegFrame.refl _ s).vauxOff (by decide) (by decide) 1, s.vauxOff_only 1⟩⟩
  · exact s.reg_setF_same CONV_STATUS.SHED 0
  · exact RegFrame.regs ((RegFrame.refl _ s).setF CONV_STATUS.SHED 0 (.inl (by decide))) rfl

end Sys2Proof.Machine

namespace Sys2Proof.Machine

/-! ### The phases' register (R370, R371) -/

theorem State.mem_healthyPhases {s : State} {p : Nat} :
    p ∈ s.healthyPhases ↔ p < 3 ∧ (s.fld PHASE_STATUS.RETIRED).testBit p = false := by
  rw [State.healthyPhases, List.mem_filter, List.mem_range, Bool.not_eq_true']

theorem State.on_phaseRetired (s : State) {p : Nat} (hp : p < 3) :
    s.on (bitF Reg.PHASE_STATUS p) = (s.fld PHASE_STATUS.RETIRED).testBit p := by
  rw [← s.on_bitF_eq_testBit PHASE_STATUS.RETIRED hp]
  exact congrArg (fun k => s.on (bitF Reg.PHASE_STATUS k)) (Nat.zero_add p).symm

theorem State.nextPhase_healthy {s : State} {p q : Nat} (h : s.nextPhase p = some q) : q ∈ s.healthyPhases :=
  List.contains_iff_mem.mp (List.find?_some h)

/-- The marks of the phases stand: every field of PHASE_STATUS beside ACTIVE and LIGHT. -/
def MarksKept (s t : State) : Prop :=
  ∀ f : Fld, f.reg = Reg.PHASE_STATUS → f.lo + f.width ≤ 4 ∨ 10 ≤ f.lo → t.fld f = s.fld f

theorem MarksKept.refl (s : State) : MarksKept s s := fun _ _ _ => rfl

theorem MarksKept.trans {s t u : State} (h : MarksKept s t) (k : MarksKept t u) : MarksKept s u :=
  fun f hr hf => (k f hr hf).trans (h f hr hf)

theorem MarksKept.of_reg {s t : State} (h : t.reg Reg.PHASE_STATUS = s.reg Reg.PHASE_STATUS) : MarksKept s t :=
  fun f hr _ => by rw [State.fld, State.fld, hr, h]

theorem MarksKept.setF (s : State) (g : Fld) (v : Nat) (hlo : 4 ≤ g.lo) (hhi : g.lo + g.width ≤ 10) :
    MarksKept s (s.setF g v) := fun f _ hf => s.fld_setF_other g f v (.inr (by omega))

theorem State.onePhase_marksKept (s : State) (p : Nat) : MarksKept s (s.onePhase p) :=
  (MarksKept.setF s _ _ (by decide) (by decide)).trans (.setF _ _ _ (by decide) (by decide))

theorem State.onePhase_regFrame (s : State) (p : Nat) : RegFrame [Reg.PHASE_STATUS] s (s.onePhase p) :=
  ((RegFrame.refl _ s).setF _ _ (.inl (by decide))).setF _ _ (.inl (by decide))

theorem State.onePhase_regsOnly (s : State) (p : Nat) : RegsOnly s (s.onePhase p) :=
  (RegsOnly.setF s _ _).trans (.setF _ _ _)

theorem State.onePhase_active (s : State) {p : Nat} (hp : p < 3) : (s.onePhase p).fld PHASE_STATUS.ACTIVE = 2 ^ p := by
  rw [State.onePhase, State.fld_setF_other _ _ _ _ (by decide), State.fld_setF_same _ _ _ (by decide)]
  exact Nat.mod_eq_of_lt (Nat.pow_lt_pow_right (by decide) hp)

theorem State.onePhase_light (s : State) {p : Nat} (hp : p < 3) : (s.onePhase p).fld PHASE_STATUS.LIGHT = p := by
  rw [State.onePhase, State.fld_setF_same _ _ _ (by decide)]
  exact Nat.mod_eq_of_lt (hp.trans (by decide))

/-- The state in which limit `k` is in force, with CONV_STATUS as it shows it. -/
def State.limited (k : Nat) (s : State) : State :=
  (s.putEntry { s.entry with limits := s.entry.limits ||| 2 ^ k }).syncLimit

theorem State.limited_regFrame (s : State) (k : Nat) : RegFrame [Reg.CONV_STATUS] s (s.limited k) :=
  RegFrame.syncLimit (RegFrame.of_regs rfl) (List.mem_cons_self ..)

theorem State.limitOn_of_not {s : State} {k : Nat} (h : s.entry.limits.testBit k = false) :
    s.limitOn k = ((s.limited k).incSat CONV_COUNTS.LIMITS).raise Reg.CONV_EVENTS 2 :=
  if_neg (by rw [h]; exact Bool.false_ne_true)

theorem State.limitOn_of_in_force {s : State} {k : Nat} (h : s.entry.limits.testBit k = true) : s.limitOn k = s :=
  if_pos h

theorem RegFrame.limitOn {as : List Nat} {s t : State} (h : RegFrame as s t)
    (hs : ∀ a ∈ [Reg.CONV_STATUS, Reg.CONV_COUNTS, Reg.CONV_EVENTS], a ∈ as) (k : Nat) :
    RegFrame as s (t.limitOn k) := by
  cases hk : t.entry.limits.testBit k with
  | true => rwa [State.limitOn_of_in_force hk]
  | false =>
    rw [State.limitOn_of_not hk]
    exact ((h.trans ((t.limited_regFrame k).mono (by simpa using hs _ (by decide)))).incSat _
      (.inl (hs _ (by decide)))).raise _ _ (hs _ (by decide)) (by decide)

theorem State.limitOn_regFrame (s : State) (k : Nat) :
    RegFrame [Reg.CONV_STATUS, Reg.CONV_COUNTS, Reg.CONV_EVENTS] s (s.limitOn k) :=
  (RegFrame.refl _ s).limitOn (fun _ h => h) k

theorem State.limitOn_phaseCount (s : State) (k : Nat) :
    (s.limitOn k).fld CONV_COUNTS.PHASES = s.fld CONV_COUNTS.PHASES := by
  cases hk : s.entry.limits.testBit k with
  | true => rw [State.limitOn_of_in_force hk]
  | false =>
    rw [State.limitOn_of_not hk, State.fld_raise _ _ _ _ (by decide) (by decide) (by decide), State.incSat,
      State.addSat, State.fld_setF_other _ _ _ _ (by decide),
      (s.limited_regFrame k).fld CONV_COUNTS.PHASES (by decide) (by decide)]

/-- An event that has been raised stands while another bit of its register is. -/
theorem Raised.raise_other_bit {a k j : Nat} {s t : State} (h : Raised a k s t) (hkj : k ≠ j) (hn : sourceOf a k < 128)
    (hm : sourceOf a j < 128) (ha : a ∉ pendRegs) : Raised a k s (t.raise a j) := by
  obtain ⟨hon, hpend⟩ := h
  have kept (f : Fld) (hf : f.reg ≠ a ∨ j + 1 ≤ f.lo ∨ f.lo + f.width ≤ j) : (t.setF (bitF a j) 1).on f = t.on f := by
    rw [State.on, State.on, t.fld_setF_other (bitF a j) f 1 hf]
  have hset : Pended (sourceOf a k) s (t.setF (bitF a j) 1) := fun hnoon g hg =>
    (kept _ (.inl fun e => ha (e ▸ g.pend_reg_mem _ hn))).trans (hpend hnoon g hg)
  refine ⟨?_, hset.post hn hm⟩
  rw [State.raise, State.on, State.fld_post _ _ _ hm ha]
  refine (kept (bitF a k) (.inr ?_)).trans hon
  simp only [bitF]
  omega

/-- A limit that comes into force leaves an event of the converter that is set, and what is pending. -/
theorem Raised.limitOn {s t : State} (h : Raised Reg.CONV_EVENTS 1 s t) (k : Nat) :
    Raised Reg.CONV_EVENTS 1 s (t.limitOn k) := by
  cases hk : t.entry.limits.testBit k with
  | true => rwa [State.limitOn_of_in_force hk]
  | false =>
    rw [State.limitOn_of_not hk]
    have hlimited : Raised Reg.CONV_EVENTS 1 s (t.limited k) :=
      Raised.setF (Raised.setF (h.regs rfl) CONV_STATUS.LIMIT _ (by decide) (by decide)) CONV_STATUS.LIMIT_CAUSE _
        (by decide) (by decide)
    exact Raised.raise_other_bit (hlimited.setF CONV_COUNTS.LIMITS _ (by decide) (by decide)) (by decide) (by decide)
      (by decide) (by decide)

/-- Switching VAUX off leaves the phases' marks. -/
theorem State.vauxOff_marksKept (s : State) (why : Nat) : MarksKept s (s.vauxOff why) := by
  unfold State.vauxOff
  extract_lets e u
  split
  · have hu : MarksKept s (u.setF CONV_STATUS.VAUX_ON 0) := .of_reg
      ((u.reg_setF_other CONV_STATUS.VAUX_ON 0 Reg.PHASE_STATUS (by decide)).trans
        (State.reg_limitOff _ 0 (a := Reg.PHASE_STATUS) (by decide)))
    exact hu.trans (.setF _ _ _ (by decide) (by decide))
  · exact .refl s

/-- Where VAUX goes off, the phases switch as before or none does. -/
theorem State.vauxOff_phases (s : State) (why : Nat) :
    (s.vauxOff why).fld PHASE_STATUS.ACTIVE = s.fld PHASE_STATUS.ACTIVE ∨
      (s.vauxOff why).fld PHASE_STATUS.ACTIVE = 0 := by
  unfold State.vauxOff
  split
  · exact .inr (State.fld_setF_same _ _ _ (by decide))
  · exact .inl rfl

/-! ### Retirement of a phase (R371) -/

/-- The marks, the count and the event of a phase's retirement. -/
def State.phaseMarked (p cause dev : Nat) (s : State) : State :=
  ((((s.setF (bitF Reg.PHASE_STATUS p) 1).setF ⟨Reg.PHASE_STATUS, 12 + 2 * p, 2⟩ cause).setF
    PHASE_STATUS.DEVIATION dev).incSat CONV_COUNTS.PHASES).raise Reg.CONV_EVENTS 1

/-- The switching phases once `p` is retired: those that switched before and are left, or the next healthy one. -/
def State.phaseDropped (p active : Nat) (s : State) : State :=
  if active.testBit p ∧ active &&& (7 - 2 ^ p) = 0 then
    (match s.nextPhase p with
    | some q => s.onePhase q
    | none => s.setF PHASE_STATUS.ACTIVE 0)
  else s.setF PHASE_STATUS.ACTIVE (active &&& (7 - 2 ^ p))

/-- With one phase left a limit is in force, with none VAUX goes off (R372). -/
def State.phasesLimited (s : State) : State :=
  match s.healthyPhases.length with
  | 0 => s.vauxOff 5
  | 1 => s.limitOn 1
  | _ => s

theorem State.retirePhase_eq (s : State) (p cause dev : Nat) :
    s.retirePhase p cause dev =
      ((s.phaseMarked p cause dev).phaseDropped p (s.fld PHASE_STATUS.ACTIVE)).phasesLimited := rfl

section
variable (s : State) (p : Fin 3) (cause dev : Nat)

theorem State.phaseMarked_reg :
    (s.phaseMarked p cause dev).reg Reg.PHASE_STATUS =
      (((s.setF (bitF Reg.PHASE_STATUS p) 1).setF ⟨Reg.PHASE_STATUS, 12 + 2 * p, 2⟩ cause).setF
        PHASE_STATUS.DEVIATION dev).reg Reg.PHASE_STATUS :=
  (State.reg_raise _ _ _ _ (by decide) (by decide) (by decide)).trans
    (State.reg_setF_other _ _ _ _ (by decide))

theorem State.phaseMarked_fld {f : Fld} (hr : f.reg = Reg.PHASE_STATUS) :
    (s.phaseMarked p cause dev).fld f =
      (((s.setF (bitF Reg.PHASE_STATUS p) 1).setF ⟨Reg.PHASE_STATUS, 12 + 2 * p, 2⟩ cause).setF
        PHASE_STATUS.DEVIATION dev).fld f := by
  rw [State.fld, State.fld, hr, State.phaseMarked_reg]

theorem State.phaseMarked_retired : (s.phaseMarked p cause dev).fld (bitF Reg.PHASE_STATUS p) = 1 := by
  rw [State.phaseMarked_fld s p cause dev rfl, State.fld_setF_other _ _ _ _ (.inr (.inr ?_)),
    State.fld_setF_other _ _ _ _ (.inr (.inr ?_)), State.fld_setF_same _ _ _ ?_]
  · rfl
  all_goals (simp only [bitF, PHASE_STATUS.DEVIATION]; omega)

theorem State.phaseMarked_cause (hcause : cause < 4) :
    (s.phaseMarked p cause dev).fld ⟨Reg.PHASE_STATUS, 12 + 2 * p, 2⟩ = cause := by
  rw [State.phaseMarked_fld s p cause dev rfl, State.fld_setF_other _ _ _ _ (.inr (.inr ?_)),
    State.fld_setF_same _ _ _ ?_]
  · exact Nat.mod_eq_of_lt hcause
  all_goals (simp only [PHASE_STATUS.DEVIATION]; omega)

theorem State.phaseMarked_deviation (hdev : dev < 256) :
    (s.phaseMarked p cause dev).fld PHASE_STATUS.DEVIATION = dev := by
  rw [State.phaseMarked_fld s p cause dev rfl, State.fld_setF_same _ _ _ (by decide)]
  exact Nat.mod_eq_of_lt hdev

theorem State.phaseMarked_count :
    (s.phaseMarked p cause dev).fld CONV_COUNTS.PHASES =
      min (s.fld CONV_COUNTS.PHASES + 1) (2 ^ CONV_COUNTS.PHASES.width - 1) := by
  have hne : Reg.CONV_COUNTS ≠ Reg.PHASE_STATUS := by decide
  rw [State.phaseMarked, State.fld_raise _ _ _ _ (by decide) (by decide) (by decide), State.fld_incSat _ _ (by decide),
    State.fld_setF_other _ _ _ _ (.inl (by decide)), State.fld_setF_other _ _ _ _ (.inl hne),
    State.fld_setF_other _ _ _ _ (.inl hne)]

theorem State.phaseMarked_result :
    Raised Reg.CONV_EVENTS 1 s (s.phaseMarked p cause dev) ∧
      RegFrame [Reg.PHASE_STATUS, Reg.CONV_COUNTS, Reg.CONV_EVENTS] s (s.phaseMarked p cause dev) := by
  have hmem : Reg.PHASE_STATUS ∈ [Reg.PHASE_STATUS, Reg.CONV_COUNTS] := by decide
  have hmarks : RegFrame [Reg.PHASE_STATUS, Reg.CONV_COUNTS] s
      ((((s.setF (bitF Reg.PHASE_STATUS p) 1).setF ⟨Reg.PHASE_STATUS, 12 + 2 * p, 2⟩ cause).setF
        PHASE_STATUS.DEVIATION dev).incSat CONV_COUNTS.PHASES) :=
    ((((RegFrame.refl _ s).setF _ _ (.inl hmem)).setF _ _ (.inl hmem)).setF _ _ (.inl hmem)).incSat _ (.inl (by decide))
  exact ⟨hmarks.raise_raised rfl (by decide) _ _ (by decide) (by decide) (by decide),
    (hmarks.mono (by decide)).raise _ _ (by decide) (by decide)⟩

end

/-- Dropping a phase that is marked retired leaves the marks, and the phase does not switch. -/
theorem State.phaseDropped_result {s : State} {p : Fin 3} (hretired : s.fld (bitF Reg.PHASE_STATUS p) = 1)
    (active : Nat) :
    MarksKept s (s.phaseDropped p active) ∧ ((s.phaseDropped p active).fld PHASE_STATUS.ACTIVE).testBit p = false ∧
      ∀ a ≠ Reg.PHASE_STATUS, (s.phaseDropped p active).reg a = s.reg a := by
  have hlow : ∀ k : Fin 3, (7 - 2 ^ k.val).testBit k.val = false := by decide
  have stored (v : Nat) (hv : v.testBit p = false) : ((s.setF PHASE_STATUS.ACTIVE v).fld PHASE_STATUS.ACTIVE).testBit p
      = false := by
    rw [State.fld_setF_same _ _ _ (by decide), Nat.testBit_mod_two_pow, hv, Bool.and_false]
  unfold State.phaseDropped
  split
  · split
    next q hq =>
      obtain ⟨hlt, hhealthy⟩ := State.mem_healthyPhases.mp (State.nextPhase_healthy hq)
      have hne : q ≠ p := fun e => by
        have hbit := (s.on_phaseRetired p.isLt).trans (e ▸ hhealthy)
        rw [State.on_eq_false_iff, hretired] at hbit
        exact absurd hbit Nat.one_ne_zero
      refine ⟨s.onePhase_marksKept q, ?_, fun a ha => ?_⟩
      · rw [s.onePhase_active hlt, Nat.testBit_two_pow, decide_eq_false hne]
      · exact (State.reg_setF_other _ _ _ _ ha).trans (State.reg_setF_other _ _ _ _ ha)
    next =>
      exact ⟨.setF _ _ _ (by decide) (by decide), stored 0 (Nat.zero_testBit _),
        fun a ha => s.reg_setF_other _ _ _ ha⟩
  · refine ⟨.setF _ _ _ (by decide) (by decide), stored _ ?_, fun a ha => s.reg_setF_other _ _ _ ha⟩
    rw [Nat.testBit_and, hlow p, Bool.and_false]

/-- The limits that follow a retirement leave the marks and the count of retirements, and no phase begins to switch. -/
theorem State.phasesLimited_result (s : State) :
    MarksKept s s.phasesLimited ∧
      (s.phasesLimited.fld PHASE_STATUS.ACTIVE = s.fld PHASE_STATUS.ACTIVE ∨
        s.phasesLimited.fld PHASE_STATUS.ACTIVE = 0) ∧
      s.phasesLimited.fld CONV_COUNTS.PHASES = s.fld CONV_COUNTS.PHASES ∧
      (∀ u : State, Raised Reg.CONV_EVENTS 1 u s → Raised Reg.CONV_EVENTS 1 u s.phasesLimited) ∧
      RegFrame [Reg.PHASE_STATUS, Reg.CONV_COUNTS, Reg.CONV_EVENTS, Reg.CONV_STATUS] s s.phasesLimited := by
  have frames : Reg.CONV_STATUS ∉ Reg.CONV_EVENTS :: pendRegs := by decide
  unfold State.phasesLimited
  split
  · refine ⟨s.vauxOff_marksKept 5, s.vauxOff_phases 5, ?_, fun u h => h.vauxOff (by decide) 5 frames (by decide),
      RegFrame.vauxOff (.refl _ s) (by decide) (by decide) 5⟩
    rw [State.fld, s.reg_vauxOff 5 (by decide) (by decide), State.fld]
  · have hframe := s.limitOn_regFrame 1
    exact ⟨.of_reg (hframe _ (by decide) (by decide)), .inl (hframe.fld _ (by decide) (by decide)),
      s.limitOn_phaseCount 1, fun u h => h.limitOn 1, hframe.mono (by decide)⟩
  · exact ⟨.refl s, .inl rfl, rfl, fun _ h => h, .refl _ s⟩

theorem phaseRetirement_result {s : State} (haon : s.aon = true) (p cause : Fin 3) (dev : Byte) :
    Does (.phaseRetirement p cause dev) s fun t =>
      t.on (bitF Reg.PHASE_STATUS p.val) = true ∧ t.fld ⟨Reg.PHASE_STATUS, 12 + 2 * p.val, 2⟩ = cause.val + 1 ∧
      t.fld PHASE_STATUS.DEVIATION = dev.toNat ∧ (t.fld PHASE_STATUS.ACTIVE).testBit p.val = false ∧
      t.fld CONV_COUNTS.PHASES = min (s.fld CONV_COUNTS.PHASES + 1) (2 ^ CONV_COUNTS.PHASES.width - 1) ∧
      Raised Reg.CONV_EVENTS 1 s t ∧
      RegFrame [Reg.PHASE_STATUS, Reg.CONV_COUNTS, Reg.CONV_EVENTS, Reg.CONV_STATUS] s t := by
  let u := s.phaseMarked p (cause.val + 1) dev.toNat
  let v := u.phaseDropped p (s.fld PHASE_STATUS.ACTIVE)
  obtain ⟨hraised, hmarked⟩ := s.phaseMarked_result p (cause.val + 1) dev.toNat
  have hretired : u.fld (bitF Reg.PHASE_STATUS p) = 1 := s.phaseMarked_retired p _ _
  obtain ⟨hdropped, hidle, hreg⟩ := State.phaseDropped_result hretired (s.fld PHASE_STATUS.ACTIVE)
  obtain ⟨hlimited, hactive, hcount, hevent, hframe⟩ := v.phasesLimited_result
  have hkept : MarksKept u v.phasesLimited := hdropped.trans hlimited
  have hv : RegFrame [Reg.PHASE_STATUS] u v := fun a ha _ => hreg a (List.ne_of_not_mem_cons ha)
  refine ⟨v.phasesLimited, (exec_phaseRetirement p cause dev s).trans (act_next haon), ?_, ?_, ?_, ?_, ?_, ?_,
    (hmarked.mono (by decide)).trans ((hv.mono (by decide)).trans hframe)⟩
  · rw [State.on_eq_true_iff, hkept _ rfl (.inl (by simp only [bitF]; omega)), hretired]
    exact Nat.one_ne_zero
  · rw [hkept _ rfl (.inr (by simp only; omega))]
    exact s.phaseMarked_cause p _ _ (by omega)
  · rw [hkept _ rfl (by decide)]
    exact s.phaseMarked_deviation p _ _ dev.isLt
  · rcases hactive with h | h
    · rw [h, hidle]
    · rw [h, Nat.zero_testBit]
  · rw [hcount, hv.fld CONV_COUNTS.PHASES (by decide) (by decide)]
    exact s.phaseMarked_count p _ _
  · exact hevent s (hraised.of_kept (by decide) fun b hb => hreg b (by revert b; decide))

/-! ### Retry, rotation and shedding (R370, R371) -/

theorem State.vauxOn_marksKept (s : State) : MarksKept s s.vauxOn := by
  unfold State.vauxOn State.startPhase
  extract_lets e hs
  split
  · exact .refl s
  · refine MarksKept.trans (t := (s.putEntry e).setF CONV_STATUS.VAUX_ON 1)
      (.of_reg ((s.putEntry e).reg_setF_other _ _ _ (by decide))) ?_
    split
    · exact (State.onePhase_marksKept _ _).trans (.of_reg rfl)
    · exact .refl _

theorem phaseRetry_result {s : State} (haon : s.aon = true) (p : Fin 3)
    (hretired : s.on (bitF Reg.PHASE_STATUS p.val) = true) :
    Does (.phaseRetry p true none) s fun t =>
      t.on (bitF Reg.PHASE_STATUS p.val) = false ∧ t.fld ⟨Reg.PHASE_STATUS, 12 + 2 * p.val, 2⟩ = 0 := by
  let u := (s.setF (bitF Reg.PHASE_STATUS p) 0).setF ⟨Reg.PHASE_STATUS, 12 + 2 * p, 2⟩ 0
  let v := if u.healthyPhases.length = 1 then u.limitOn 1 else u.limitOff 1
  have hlimit : MarksKept u v := by
    unfold v
    split
    · exact .of_reg ((u.limitOn_regFrame 1) _ (by decide) (by decide))
    · exact .of_reg (u.reg_limitOff 1 (a := Reg.PHASE_STATUS) (by decide))
  have hrestart : MarksKept v v.vauxRestart := v.vauxOn_marksKept.trans
    (.of_reg (((RegFrame.refl [Reg.CONV_COUNTS, Reg.CONV_EVENTS] v.vauxOn).incSat _ (.inl (by decide))).raise _ 5
      (by decide) (by decide) _ (by decide) (by decide)))
  have hkept : MarksKept u (s.phaseBack p) := hlimit.trans <| by
    change MarksKept v (if v.entry.off = 5 then v.vauxRestart else v)
    split
    · exact hrestart
    · exact .refl v
  have he : exec (.phaseRetry p true none) s = .next (s.phaseBack p) := by
    refine (exec_phaseRetry p true none s).trans ((act_next haon).trans (congrArg _ (if_neg ?_)))
    rw [← s.on_phaseRetired p.isLt, hretired]
    simp
  refine ⟨_, he, ?_, ?_⟩
  · rw [State.on_eq_false_iff, hkept _ rfl (.inl (by simp only [bitF]; omega)),
      State.fld_setF_other _ _ _ _ (.inr (.inr (by simp only [bitF]; omega))),
      State.fld_setF_same _ _ _ (by simp only [bitF]; omega)]
    exact Nat.zero_mod _
  · rw [hkept _ rfl (.inr (by simp only; omega)), State.fld_setF_same _ _ _ (by simp only; omega)]
    exact Nat.zero_mod _

theorem find_two_pow {p : Nat} (hp : p < 3) : (List.range 3).find? (fun k => 2 ^ p == 2 ^ k) = some p := by
  revert p
  decide

theorem phaseRotation_result {s : State} (haon : s.aon = true) {p : Fin 3} {q : Nat}
    (hactive : s.fld PHASE_STATUS.ACTIVE = 2 ^ p.val) (hnext : s.nextPhase p.val = some q) :
    Does .phaseRotation s fun t =>
      t.fld PHASE_STATUS.ACTIVE = 2 ^ q ∧ t.fld PHASE_STATUS.LIGHT = q ∧ s.healthyPhases.contains q = true ∧
      RegFrame [Reg.PHASE_STATUS] s t ∧ RegsOnly s t := by
  have hq := State.nextPhase_healthy hnext
  have hlt := (State.mem_healthyPhases.mp hq).1
  have he : exec .phaseRotation s = .next (s.onePhase q) := by
    refine (exec_phaseRotation s).trans ((act_next haon).trans ?_)
    rw [hactive, find_two_pow p.isLt]
    simp only [hnext]
  exact ⟨_, he, s.onePhase_active hlt, s.onePhase_light hlt, List.contains_iff_mem.mpr hq, s.onePhase_regFrame q,
    s.onePhase_regsOnly q⟩

theorem phaseShedding_result {s : State} (haon : s.aon = true) (m : Fin 8) (hon : s.on CONV_STATUS.VAUX_ON = true)
    (hleft : m.val &&& (7 - s.fld PHASE_STATUS.RETIRED) ≠ 0) :
    Does (.phaseShedding m) s fun t =>
      t.fld PHASE_STATUS.ACTIVE = m.val &&& (7 - s.fld PHASE_STATUS.RETIRED) ∧
      RegFrame [Reg.PHASE_STATUS] s t ∧ RegsOnly s t := by
  let k := m.val &&& (7 - s.fld PHASE_STATUS.RETIRED)
  let u := s.setF PHASE_STATUS.ACTIVE k
  have hk : k < 2 ^ 3 := Nat.lt_of_le_of_lt Nat.and_le_left m.isLt
  have hu : u.fld PHASE_STATUS.ACTIVE = k :=
    (State.fld_setF_same _ _ _ (by decide)).trans (Nat.mod_eq_of_lt hk)
  have hframe : RegFrame [Reg.PHASE_STATUS] s u := (RegFrame.refl _ s).setF _ _ (.inl (by decide))
  refine ⟨_, (exec_phaseShedding m s).trans ((act_next haon).trans (congrArg _ (if_neg (by simp [hon, hleft])))), ?_⟩
  dsimp only
  split
  · exact ⟨(State.fld_setF_other _ _ _ _ (by decide)).trans hu, hframe.setF _ _ (.inl (by decide)),
      (RegsOnly.setF s _ _).trans (.setF _ _ _)⟩
  · exact ⟨hu, hframe, .setF s _ _⟩

/-- Settles O18: a phase's marks lie in PHASE_STATUS outside the fields of the switching phases, which are all that a
change of phases, a limit or a start of VAUX stores there. -/
theorem converterPhases : Obligations.ConverterPhases := fun _ p haon =>
  ⟨phaseRetirement_result haon p, phaseRetry_result haon p, fun _ => phaseRotation_result haon,
    phaseShedding_result haon⟩

/-! ### Overload limits (R370, R373) -/

theorem State.limited_overload (s : State) :
    (s.limited 0).on CONV_STATUS.LIMIT = true ∧ (s.limited 0).fld CONV_STATUS.LIMIT_CAUSE = 1 := by
  have hbit : (s.entry.limits ||| 2 ^ 0).testBit 0 = true := by
    rw [Nat.testBit_or, Nat.testBit_two_pow_self, Bool.or_true]
  unfold State.limited State.syncLimit
  extract_lets e u cause
  have hcause : cause = 1 := if_pos hbit
  rw [hcause]
  constructor
  · rw [State.on_eq_true_iff, State.fld_setF_other _ _ _ _ (by decide), State.fld_setF_same _ _ _ (by decide)]
    decide
  · exact State.fld_setF_same _ _ _ (by decide)

theorem overloadLimit_result {s : State} (haon : s.aon = true) (hon : s.on CONV_STATUS.VAUX_ON = true)
    (hlimit : s.entry.limits.testBit 0 = false) :
    Does .overloadLimit s fun t =>
      t.on CONV_STATUS.LIMIT = true ∧ t.fld CONV_STATUS.LIMIT_CAUSE = 1 ∧
      t.fld CONV_COUNTS.LIMITS = min (s.fld CONV_COUNTS.LIMITS + 1) (2 ^ CONV_COUNTS.LIMITS.width - 1) ∧
      Raised Reg.CONV_EVENTS 2 s t ∧ RegFrame [Reg.CONV_STATUS, Reg.CONV_COUNTS, Reg.CONV_EVENTS] s t ∧
      t = { s with regs := t.regs, tw := t.tw, entry := t.entry } := by
  let u := (s.limited 0).incSat CONV_COUNTS.LIMITS
  obtain ⟨hmark, hcause⟩ := s.limited_overload
  have hlimited := s.limited_regFrame 0
  have hcount : RegFrame [Reg.CONV_STATUS, Reg.CONV_COUNTS] s u :=
    (hlimited.mono (by decide)).incSat _ (.inl (by decide))
  have hafter : RegFrame [Reg.CONV_COUNTS, Reg.CONV_EVENTS] (s.limited 0) (u.raise Reg.CONV_EVENTS 2) :=
    ((RegFrame.refl _ _).incSat _ (.inl (by decide))).raise _ _ (by decide) (by decide)
  have honly : RegsOnly (s.limited 0) (u.raise Reg.CONV_EVENTS 2) := (RegsOnly.incSat _ _).trans (.raise _ _ _)
  have he : exec .overloadLimit s = .next (u.raise Reg.CONV_EVENTS 2) := by
    rw [exec_overloadLimit]
    refine (act_next haon).trans (congrArg _ ?_)
    exact (if_pos hon).trans (State.limitOn_of_not hlimit)
  refine ⟨_, he, (hafter.on CONV_STATUS.LIMIT (by decide) (by decide)).trans hmark,
    (hafter.fld CONV_STATUS.LIMIT_CAUSE (by decide) (by decide)).trans hcause, ?_,
    hcount.raise_raised rfl (by decide) _ _ (by decide) (by decide) (by decide),
    (hcount.mono (by decide)).raise _ _ (by decide) (by decide), ?_⟩
  · rw [State.fld_raise _ _ _ _ (by decide) (by decide) (by decide), State.fld_incSat _ _ (by decide),
      hlimited.fld CONV_COUNTS.LIMITS (by decide) (by decide)]
  · rw [honly]
    rfl

theorem State.syncLimit_of_none {s : State} (h : s.entry.limits = 0) :
    s.syncLimit = (s.setF CONV_STATUS.LIMIT 0).setF CONV_STATUS.LIMIT_CAUSE 0 := by
  rw [State.syncLimit, h]
  rfl

theorem overloadRelease_result {s : State} (haon : s.aon = true) (hlimits : s.entry.limits = 1) :
    Does .overloadRelease s fun t =>
      t.on CONV_STATUS.LIMIT = false ∧ t.fld CONV_STATUS.LIMIT_CAUSE = 0 ∧ t.entry.limits = 0 ∧
      RegFrame [Reg.CONV_STATUS] s t ∧ t = { s with regs := t.regs, entry := t.entry } := by
  let u := s.putEntry { s.entry with limits := 0 }
  have he : s.limitOff 0 = (u.setF CONV_STATUS.LIMIT 0).setF CONV_STATUS.LIMIT_CAUSE 0 := by
    rw [State.limitOff, hlimits]
    exact State.syncLimit_of_none rfl
  have hframe : RegFrame [Reg.CONV_STATUS] s u := RegFrame.of_regs rfl
  refine ⟨_, (exec_overloadRelease s).trans ((act_next haon).trans (congrArg _ he)), ?_, ?_, rfl,
    (hframe.setF _ _ (.inl (by decide))).setF _ _ (.inl (by decide)), rfl⟩
  · rw [State.on_eq_false_iff, State.fld_setF_other _ _ _ _ (by decide), State.fld_setF_same _ _ _ (by decide)]
    rfl
  · exact State.fld_setF_same _ _ _ (by decide)

theorem limitOffExpiry_result {s : State} (haon : s.aon = true) (haction : s.on CONV_CFG.LIMIT_ACTION = true)
    (hlimit : s.on CONV_STATUS.LIMIT = true) (hon : s.on CONV_STATUS.VAUX_ON = true) :
    Does .limitOffExpiry s fun t =>
      t.on CONV_STATUS.VAUX_ON = false ∧ t.entry.off = 2 ∧ RegFrame [Reg.CONV_STATUS, Reg.PHASE_STATUS] s t ∧
      t = { s with regs := t.regs, entry := t.entry } := by
  refine ⟨s.vauxOff 2, (exec_limitOffExpiry s).trans ((act_next haon).trans (congrArg _ (if_pos ?_))),
    s.vauxOff_on 2, State.vauxOff_off hon 2, RegFrame.vauxOff (.refl _ s) (by decide) (by decide) 2, s.vauxOff_only 2⟩
  rw [haction, hlimit]
  rfl

theorem limitRestartAttempt_result {s : State} (haon : s.aon = true) (hoff : s.entry.off = 2)
    (hride : s.on CONV_STATUS.RIDE = false) (hphases : s.healthyPhases ≠ []) :
    Does .limitRestartAttempt s fun t =>
      t.on CONV_STATUS.VAUX_ON = true ∧ t.entry.off = 0 ∧ Raised Reg.CONV_EVENTS 5 s t ∧
      RegFrame [Reg.CONV_STATUS, Reg.PHASE_STATUS, Reg.CONV_EVENTS] s t := by
  have he : exec .limitRestartAttempt s = .next (s.vauxOn.raise Reg.CONV_EVENTS 5) :=
    (exec_limitRestartAttempt s).trans ((act_next haon).trans (congrArg _ (if_pos ⟨hoff, by simp [hride]⟩)))
  obtain ⟨hon, hstarted⟩ := State.vauxOn_starts hphases
  have hframe : RegFrame [Reg.CONV_STATUS, Reg.PHASE_STATUS] s s.vauxOn :=
    RegFrame.vauxOn (.refl _ s) (by decide) (by decide)
  refine ⟨_, he, ?_, ?_, hframe.raise_raised s.vauxOn_hold (by decide) _ _ (by decide) (by decide) (by decide),
    (hframe.mono (by decide)).raise _ _ (by decide) (by decide)⟩
  · rwa [State.on, State.fld_raise _ _ _ _ (by decide) (by decide) (by decide)]
  · rwa [RegsOnly.raise s.vauxOn Reg.CONV_EVENTS 5]

/-- Settles O19: a limit in force shows in CONV_STATUS, and what switches VAUX stores the converter's registers. -/
theorem overloadLimits : Obligations.OverloadLimits := fun _ haon =>
  ⟨overloadLimit_result haon, overloadRelease_result haon, limitOffExpiry_result haon, limitRestartAttempt_result haon⟩

end Sys2Proof.Machine

namespace Sys2Proof.Machine

/-! ### gPTP messages and the TX timestamp queue (R307, R320, R323) -/

theorem pdelayReq_result {s : State} (haon : s.aon = true) (latched : BitVec 96) (seq : BitVec 16)
    (hptp : s.ptpOn = true) : Does (.pdelayReq latched seq) s fun t =>
      t = { s with link := { s.link with txFrames := s.link.txFrames ++
        [ptpFrame 3 s.ptpDomain seq.toNat (ingressTime latched.toNat) (some (2, seq.toNat)) none] } } :=
  ⟨_, (exec_pdelayReq latched seq s).trans ((act_next haon).trans (congrArg _ (if_pos hptp))), rfl⟩

theorem pdelayReqTransmit_result {s : State} (haon : s.aon = true) (hptp : s.ptpOn = true) :
    Does .pdelayReqTransmit s fun t =>
      t = { s with
        mtime := { s.mtime with reqSeq := s.mtime.reqSeq + 1, ts := s.mtime.ts.filter (·.kind != 3) }
        link := { s.link with txFrames := s.link.txFrames ++
          [ptpFrame 2 s.ptpDomain s.mtime.reqSeq.toNat 0 (some (3, s.mtime.reqSeq.toNat)) none] } } :=
  ⟨_, (exec_pdelayReqTransmit s).trans ((act_next haon).trans (congrArg _ (if_pos hptp))), rfl⟩

theorem pdelayResp_result {s : State} (haon : s.aon = true) (latched t2 t3 : BitVec 96) (hptp : s.ptpOn = true)
    (e : TsEntry) (he : s.mtime.ts.find? (fun e => e.kind == 3 && e.id == (s.mtime.reqSeq - 1).toNat) = some e) :
    Does (.pdelayResp latched t2 t3) s fun t =>
      t = { s with mtime := { s.mtime with
        linkDelay := Config.linkDelay e.time t2.toNat t3.toNat (ingressTime latched.toNat)
        ts := freeTs (3, (s.mtime.reqSeq - 1).toNat) s.mtime.ts } } := by
  refine ⟨_, (exec_pdelayResp latched t2 t3 s).trans ((act_next haon).trans ?_), rfl⟩
  simp only [he]
  exact congrArg _ (if_pos hptp)

/-- A timestamp that finds the queue full is dropped: counted and reported. -/
theorem txTimestamp_dropped {s : State} (haon : s.aon = true) (latched : BitVec 96) {k : Nat × Nat}
    {rest : List (Nat × Nat)} (hk : s.mtime.awaiting = k :: rest) (hfull : 4 ≤ s.mtime.ts.length) :
    Does (.txTimestamp latched) s fun t =>
      t.mtime = { s.mtime with awaiting := rest } ∧ t.link = s.link ∧ Raised Reg.T1S_EVENTS 3 s t ∧
      t.fld TS_QUEUE.OVERFLOWS = min (s.fld TS_QUEUE.OVERFLOWS + 1) (2 ^ TS_QUEUE.OVERFLOWS.width - 1) ∧
      RegFrame [Reg.TS_QUEUE, Reg.T1S_EVENTS] s t := by
  let u := s.putTime { s.mtime with awaiting := rest }
  let v := u.incSat TS_QUEUE.OVERFLOWS
  have hv : RegFrame [Reg.TS_QUEUE] s v := (RegFrame.of_regs rfl).incSat _ (.inl (by decide))
  have honly : RegsOnly u (v.raise Reg.T1S_EVENTS 3) := (RegsOnly.incSat u _).trans (.raise v _ _)
  refine ⟨v.raise Reg.T1S_EVENTS 3, (exec_txTimestamp latched s).trans ((act_next haon).trans ?_), by rw [honly]; rfl,
    by rw [honly]; rfl, hv.raise_raised rfl (by decide) _ _ (by decide) (by decide) (by decide), ?_,
    (hv.mono (by decide)).raise _ _ (by decide) (by decide)⟩
  · simp only [hk]
    exact congrArg _ (if_pos hfull)
  · rw [State.fld_raise _ _ _ _ (by decide) (by decide) (by decide), State.fld_incSat _ _ (by decide)]
    rfl

/-- The state in which the oldest frame that waits has its egress timestamp in the queue. -/
def State.stamped (k : Nat × Nat) (rest : List (Nat × Nat)) (time : Nat) (s : State) : State :=
  (s.putTime { s.mtime with awaiting := rest, ts := s.mtime.ts ++ [{ kind := k.1, id := k.2, time := time }] }).raise
    Reg.T1S_EVENTS 2

/-- The follow-up that a message's egress timestamp asks for. -/
def State.followUps (k : Nat × Nat) (time : Nat) (s : State) : List Frame :=
  if k.1 = 1 then [ptpFrame 1 (s.fld PAIR_CFG.DOMAIN) k.2 time none (some (1, k.2))]
  else if k.1 = 2 then [ptpFrame 4 s.ptpDomain k.2 time none (some (2, k.2))] else []

/-- A frame list added to those that wait for an opportunity. -/
def State.sendFrames (fs : List Frame) (s : State) : State :=
  { s with link := { s.link with txFrames := s.link.txFrames ++ fs } }

section
variable (s : State) (k : Nat × Nat) (rest : List (Nat × Nat)) (time : Nat)

theorem State.stamped_regsOnly :
    RegsOnly (s.putTime
      { s.mtime with awaiting := rest, ts := s.mtime.ts ++ [{ kind := k.1, id := k.2, time := time }] })
      (s.stamped k rest time) := .raise _ _ _

theorem State.stamped_result :
    Raised Reg.T1S_EVENTS 2 s (s.stamped k rest time) ∧ RegFrame [Reg.T1S_EVENTS] s (s.stamped k rest time) :=
  ⟨(RegFrame.of_regs (as := []) rfl).raise_raised rfl (by decide) _ _ (by decide) (by decide) (by decide),
    (RegFrame.of_regs rfl).raise _ _ (by decide) (by decide)⟩

theorem State.stamped_followUps : (s.stamped k rest time).followUps k time = s.followUps k time := by
  obtain ⟨-, hframe⟩ := s.stamped_result k rest time
  have hmtime : (s.stamped k rest time).mtime.override = s.mtime.override := by
    rw [s.stamped_regsOnly k rest time]
    rfl
  rw [State.followUps, State.followUps, State.ptpDomain, State.ptpDomain, hmtime,
    hframe.fld PAIR_CFG.DOMAIN (by decide) (by decide), hframe.fld TIME_CFG.DOMAIN (by decide) (by decide)]

end

theorem exec_txTimestamp_room {s : State} (haon : s.aon = true) (latched : BitVec 96) {k : Nat × Nat}
    {rest : List (Nat × Nat)} (hk : s.mtime.awaiting = k :: rest) (hroom : s.mtime.ts.length < 4) :
    exec (.txTimestamp latched) s = .next ((s.stamped k rest (egressTime latched.toNat)).sendFrames
      (s.followUps k (egressTime latched.toNat))) := by
  let time := egressTime latched.toNat
  rw [← s.stamped_followUps k rest]
  refine (exec_txTimestamp latched s).trans ((act_next haon).trans ?_)
  simp only [hk]
  refine congrArg _ ((if_neg (Nat.not_le.mpr hroom)).trans ?_)
  change (if k.1 = 1 then (s.stamped k rest time).sendFrame _
    else if k.1 = 2 then (s.stamped k rest time).sendFrame _ else s.stamped k rest time) = _
  unfold State.followUps
  by_cases hsync : k.1 = 1
  · rw [if_pos hsync, if_pos hsync]
    rfl
  · rw [if_neg hsync, if_neg hsync]
    by_cases hresp : k.1 = 2
    · rw [if_pos hresp, if_pos hresp]
      rfl
    · rw [if_neg hresp, if_neg hresp, State.sendFrames, List.append_nil]

/-- A timestamp that finds room enters the queue, and its message's follow-up is queued. -/
theorem txTimestamp_stored {s : State} (haon : s.aon = true) (latched : BitVec 96) {k : Nat × Nat}
    {rest : List (Nat × Nat)} (hk : s.mtime.awaiting = k :: rest) (hroom : s.mtime.ts.length < 4) :
    Does (.txTimestamp latched) s fun t =>
      t.mtime = { s.mtime with
        awaiting := rest, ts := s.mtime.ts ++ [{ kind := k.1, id := k.2, time := egressTime latched.toNat }] } ∧
      Raised Reg.T1S_EVENTS 2 s t ∧ RegFrame [Reg.T1S_EVENTS] s t ∧
      t.link.txFrames = s.link.txFrames ++
        (if k.1 = 1 then [ptpFrame 1 (s.fld PAIR_CFG.DOMAIN) k.2 (egressTime latched.toNat) none (some (1, k.2))]
          else if k.1 = 2 then [ptpFrame 4 s.ptpDomain k.2 (egressTime latched.toNat) none (some (2, k.2))]
          else []) := by
  let u := s.stamped k rest (egressTime latched.toNat)
  have honly := s.stamped_regsOnly k rest (egressTime latched.toNat)
  have hmtime : u.mtime = _ := congrArg State.mtime honly
  have hlink : u.link = s.link := (congrArg State.link honly).trans rfl
  obtain ⟨hraised, hframe⟩ := s.stamped_result k rest (egressTime latched.toNat)
  exact ⟨_, exec_txTimestamp_room haon latched hk hroom, hmtime, hraised.regs rfl, hframe.regs rfl,
    congrArg (fun l : LinkPart => l.txFrames ++ _) hlink⟩

theorem hostTsExpiry_result {s : State} (haon : s.aon = true) (e : TsEntry)
    (he : s.mtime.ts.find? (·.kind == 0) = some e) : Does .hostTsExpiry s fun t =>
      t.mtime = { s.mtime with ts := freeTs (0, e.id) s.mtime.ts } ∧ RegFrame [Reg.TS_QUEUE] s t ∧
      t.fld TS_QUEUE.EXPIRED = min (s.fld TS_QUEUE.EXPIRED + 1) (2 ^ TS_QUEUE.EXPIRED.width - 1) := by
  let u := s.putTime { s.mtime with ts := freeTs (0, e.id) s.mtime.ts }
  refine ⟨u.incSat TS_QUEUE.EXPIRED, (exec_hostTsExpiry s).trans ((act_next haon).trans ?_), rfl,
    (RegFrame.of_regs rfl).incSat _ (.inl (by decide)), u.fld_incSat TS_QUEUE.EXPIRED (by decide)⟩
  simp only [he]
  rfl

/-- Settles O42: a timestamp that finds room is stored and its follow-up queued, and the store leaves the domains that
the follow-up names. -/
theorem timestampQueue : Obligations.TimestampQueue := fun _ haon =>
  ⟨pdelayReq_result haon, pdelayReqTransmit_result haon, pdelayResp_result haon,
    fun latched _ _ hk => ⟨txTimestamp_dropped haon latched hk, txTimestamp_stored haon latched hk⟩,
    hostTsExpiry_result haon⟩

end Sys2Proof.Machine

namespace Sys2Proof.Machine

/-! ### PLCA (R309, R310) -/

/-- The written word takes effect in PLCA's own part, and T1S_STATUS alone follows it. -/
theorem State.plcaApply_result (s : State) :
    s.plcaApply.t1s = { s.t1s with plca := s.reg Reg.T1S_PLCA } ∧ RegFrame [Reg.T1S_STATUS] s s.plcaApply ∧
      s.plcaApply.entry = s.entry ∧ s.plcaApply.fld T1S_STATUS.CSMA = (if bit (s.reg Reg.T1S_PLCA) 0 then
        s.fld T1S_STATUS.CSMA else 1) ∧ s.plcaApply.fld T1S_STATUS.PLCA_OK = (if bit (s.reg Reg.T1S_PLCA) 0 then
        s.fld T1S_STATUS.PLCA_OK else 0) := by
  let u := s.putT1s { s.t1s with plca := s.reg Reg.T1S_PLCA }
  let v := if u.plcaOn then u else (u.setF T1S_STATUS.PLCA_OK 0).setF T1S_STATUS.CSMA 1
  have hu : RegFrame [Reg.T1S_STATUS] s u := RegFrame.of_regs rfl
  have hv : v.t1s = u.t1s ∧ RegFrame [Reg.T1S_STATUS] s v ∧ v.entry = s.entry ∧
      v.fld T1S_STATUS.CSMA = (if bit (s.reg Reg.T1S_PLCA) 0 then s.fld T1S_STATUS.CSMA else 1) ∧
      v.fld T1S_STATUS.PLCA_OK = (if bit (s.reg Reg.T1S_PLCA) 0 then s.fld T1S_STATUS.PLCA_OK else 0) := by
    by_cases hon : bit (s.reg Reg.T1S_PLCA) 0 = true
    · have e : v = u := if_pos hon
      rw [e, if_pos hon, if_pos hon]
      exact ⟨rfl, hu, rfl, rfl, rfl⟩
    · have e : v = (u.setF T1S_STATUS.PLCA_OK 0).setF T1S_STATUS.CSMA 1 := if_neg hon
      rw [e, if_neg hon, if_neg hon]
      refine ⟨rfl, (hu.setF _ _ (.inl (by decide))).setF _ _ (.inl (by decide)), rfl,
        State.fld_setF_same _ _ _ (by decide), ?_⟩
      rw [State.fld_setF_other _ _ _ _ (by decide)]
      exact State.fld_setF_same _ _ _ (by decide)
  obtain ⟨ht1s, hframe, hentry, hcsma, hok⟩ := hv
  have he : s.plcaApply = if v.plcaCoordinator then v else v.setF T1S_STATUS.COORDINATOR 0 := rfl
  rw [he]
  split
  · exact ⟨ht1s, hframe, hentry, hcsma, hok⟩
  · exact ⟨ht1s, hframe.setF _ _ (.inl (by decide)), hentry,
      (v.fld_setF_other _ T1S_STATUS.CSMA _ (by decide)).trans hcsma,
      (v.fld_setF_other _ T1S_STATUS.PLCA_OK _ (by decide)).trans hok⟩

/-- With PLCA in step its flag stands, and the event where the flag was clear. -/
theorem State.plcaInStep_result (s : State) :
    s.plcaInStep.t1s = s.t1s ∧ RegFrame [Reg.T1S_STATUS, Reg.T1S_EVENTS] s s.plcaInStep ∧
      s.plcaInStep.on T1S_STATUS.PLCA_OK = true ∧ s.plcaInStep.on T1S_STATUS.CSMA = false ∧
      (s.on T1S_STATUS.PLCA_OK = false → Raised Reg.T1S_EVENTS 0 s s.plcaInStep) := by
  let u := (s.setF T1S_STATUS.PLCA_OK 1).setF T1S_STATUS.CSMA 0
  have hframe : RegFrame [Reg.T1S_STATUS] s u :=
    ((RegFrame.refl _ s).setF _ _ (.inl (by decide))).setF _ _ (.inl (by decide))
  have hok : u.on T1S_STATUS.PLCA_OK = true := by
    rw [State.on_eq_true_iff, State.fld_setF_other _ _ _ _ (by decide), State.fld_setF_same _ _ _ (by decide)]
    decide
  have hcsma : u.on T1S_STATUS.CSMA = false := by
    rw [State.on_eq_false_iff, State.fld_setF_same _ _ _ (by decide)]
    rfl
  by_cases hwas : s.on T1S_STATUS.PLCA_OK = true
  · have e : s.plcaInStep = u := if_neg (by simp [hwas])
    rw [e, hwas]
    exact ⟨rfl, hframe.mono (by decide), hok, hcsma, fun h => absurd h (by decide)⟩
  · have e : s.plcaInStep = u.raise Reg.T1S_EVENTS 0 := if_pos (by simp [hwas])
    have honly : RegsOnly u (u.raise Reg.T1S_EVENTS 0) := .raise _ _ _
    have hafter : RegFrame [Reg.T1S_EVENTS] u (u.raise Reg.T1S_EVENTS 0) :=
      (RegFrame.refl _ u).raise _ _ (by decide) (by decide)
    rw [e]
    exact ⟨(congrArg State.t1s honly).trans rfl, (hframe.mono (by decide)).raise _ _ (by decide) (by decide),
      (hafter.on T1S_STATUS.PLCA_OK (by decide) (by decide)).trans hok,
      (hafter.on T1S_STATUS.CSMA (by decide) (by decide)).trans hcsma,
      fun _ => hframe.raise_raised rfl (by decide) _ _ (by decide) (by decide) (by decide)⟩

theorem t1sPlcaWrite_refused {s : State} (haon : s.aon = true) (hnoon : s.noon = true) {w : Word}
    (hbad : bits w 8 4 = 0 ∨ 8 < bits w 8 4 ∨ bits w 16 8 < 16) :
    Does (.t1sPlcaWrite w) s fun t => t = s.setF T1S_STATUS.REFUSED BAD_PARAM :=
  ⟨_, (exec_t1sPlcaWrite w s).trans ((act_next haon).trans (congrArg _ (if_pos hnoon))), if_pos hbad⟩

theorem t1sPlcaWrite_stored {s : State} (haon : s.aon = true) (hnoon : s.noon = true) {w : Word}
    (hlo : 1 ≤ bits w 8 4) (hhi : bits w 8 4 ≤ 8) (hto : 16 ≤ bits w 16 8) : Does (.t1sPlcaWrite w) s fun t =>
      t.reg Reg.T1S_PLCA &&& rwMask Reg.T1S_PLCA = w &&& rwMask Reg.T1S_PLCA ∧
      (s.plcaOn = true → t.t1s = s.t1s ∧ RegFrame [Reg.T1S_PLCA] s t) ∧
      (s.plcaOn = false → t.t1s.plca = t.reg Reg.T1S_PLCA ∧ RegFrame [Reg.T1S_PLCA, Reg.T1S_STATUS] s t) := by
  let u := s.putWritable Reg.T1S_PLCA w
  have hframe : RegFrame [Reg.T1S_PLCA] s u := (RegFrame.refl _ s).setReg _ _ (.inl (by decide))
  have hstored : u.reg Reg.T1S_PLCA &&& rwMask Reg.T1S_PLCA = w &&& rwMask Reg.T1S_PLCA := by
    rw [s.reg_putWritable_same]
    exact and_or_and_not_mask _ _ _
  have he : exec (.t1sPlcaWrite w) s = .next (if s.plcaOn then u else u.plcaApply) :=
    (exec_t1sPlcaWrite w s).trans ((act_next haon).trans (congrArg _ ((if_pos hnoon).trans (if_neg (by omega)))))
  cases hon : s.plcaOn with
  | true =>
    rw [hon] at he
    exact ⟨u, he, hstored, fun _ => ⟨rfl, hframe⟩, fun h => absurd h (by decide)⟩
  | false =>
    rw [hon] at he
    obtain ⟨ht1s, happly, -⟩ := u.plcaApply_result
    have hkept : u.plcaApply.reg Reg.T1S_PLCA = u.reg Reg.T1S_PLCA := happly _ (by decide) (by decide)
    refine ⟨u.plcaApply, he, by rw [hkept, hstored], fun h => absurd h (by decide), fun _ => ⟨?_, ?_⟩⟩
    · rw [ht1s, hkept]
    · exact (hframe.mono (by decide)).trans (happly.mono (by decide))

theorem beaconReceived_result {s : State} (haon : s.aon = true) (hnoon : s.noon = true) :
    Does .beaconReceived s fun t =>
      t.t1s = { s.t1s with plca := s.reg Reg.T1S_PLCA } ∧ RegFrame [Reg.T1S_STATUS, Reg.T1S_EVENTS] s t ∧
      (bit (s.reg Reg.T1S_PLCA) 0 = true → t.on T1S_STATUS.PLCA_OK = true ∧ t.on T1S_STATUS.CSMA = false ∧
        (s.on T1S_STATUS.PLCA_OK = false → Raised Reg.T1S_EVENTS 0 s t)) ∧
      (bit (s.reg Reg.T1S_PLCA) 0 = false → t.on T1S_STATUS.PLCA_OK = false ∧ t.on T1S_STATUS.CSMA = true) := by
  let u := s.plcaApply
  obtain ⟨ht1s, hframe, hentry, hcsma, hok⟩ := s.plcaApply_result
  have hon : u.plcaOn = bit (s.reg Reg.T1S_PLCA) 0 := congrArg (fun p : T1sPart => bit p.plca 0) ht1s
  have he : exec .beaconReceived s = .next (u.when u.plcaOn State.plcaInStep) :=
    (exec_beaconReceived s).trans ((act_next haon).trans (congrArg _ (if_pos hnoon)))
  cases hen : bit (s.reg Reg.T1S_PLCA) 0 with
  | true =>
    rw [hen] at hok
    obtain ⟨hsame, hstep, hok', hcsma', hraised⟩ := u.plcaInStep_result
    refine ⟨u.plcaInStep, he.trans (congrArg _ (if_pos (hon.trans hen))), hsame.trans ht1s,
      (hframe.mono (by decide)).trans hstep, fun _ => ⟨hok', hcsma', fun hclear => ?_⟩, fun h => absurd h (by decide)⟩
    have hwas : u.on T1S_STATUS.PLCA_OK = false := (congrArg (· != 0) hok).trans hclear
    exact (hraised hwas).of_frame hframe (congrArg EntryPart.hold hentry) (by decide) (by decide)
  | false =>
    rw [hen] at hok hcsma
    refine ⟨u, he.trans (congrArg _ (if_neg ?_)), ht1s, hframe.mono (by decide), fun h => absurd h (by decide),
      fun _ => ⟨(State.on_eq_false_iff _ _).mpr hok, (State.on_eq_true_iff _ _).mpr ?_⟩⟩
    · rw [hon, hen]
      exact Bool.false_ne_true
    · rw [hcsma]
      exact Nat.one_ne_zero

/-- Applying the word that is in force, as coordinator, changes nothing. -/
theorem State.plcaApply_of_in_force {s : State} (hcoord : s.plcaCoordinator = true)
    (hword : s.t1s.plca = s.reg Reg.T1S_PLCA) : s.plcaApply = s := by
  have hon : s.plcaOn = true := (Bool.and_eq_true_iff.mp hcoord).1
  have hput : s.putT1s { s.t1s with plca := s.reg Reg.T1S_PLCA } = s := by rw [← hword]; rfl
  unfold State.plcaApply
  simp only [hput, hon, hcoord, if_true]

theorem beaconTransmit_result {s : State} (haon : s.aon = true) (hnoon : s.noon = true)
    (hcoord : s.plcaCoordinator = true) (hword : s.t1s.plca = s.reg Reg.T1S_PLCA) : Does .beaconTransmit s fun t =>
      t.on T1S_STATUS.PLCA_OK = true ∧ t.on T1S_STATUS.COORDINATOR = true ∧ t.t1s = s.t1s ∧
      RegFrame [Reg.T1S_STATUS, Reg.T1S_EVENTS] s t := by
  let u := s.plcaInStep.setF T1S_STATUS.COORDINATOR 1
  obtain ⟨ht1s, hstep, hok, -⟩ := s.plcaInStep_result
  have hframe : RegFrame [Reg.T1S_STATUS, Reg.T1S_EVENTS] s u := hstep.setF _ _ (.inl (by decide))
  have hsame : u.t1s = s.t1s := ht1s
  have hcoord' : u.plcaCoordinator = true := by
    rw [State.plcaCoordinator, State.plcaOn, hsame]
    exact hcoord
  have happly : u.plcaApply = u := State.plcaApply_of_in_force hcoord' (by
    rw [hsame, hword, hframe _ (by decide) (by decide)])
  have he : exec .beaconTransmit s = .next u.plcaApply :=
    (exec_beaconTransmit s).trans ((act_next haon).trans (congrArg _ (if_pos (by rw [hnoon, hcoord]; rfl))))
  refine ⟨u, he.trans (congrArg _ happly), ?_, ?_, hsame, hframe⟩
  · rwa [State.on, State.fld_setF_other _ _ _ _ (by decide)]
  · rw [State.on_eq_true_iff, State.fld_setF_same _ _ _ (by decide)]
    decide

theorem beaconLoss_result {s : State} (haon : s.aon = true) (hnoon : s.noon = true)
    (hok : s.on T1S_STATUS.PLCA_OK = true) : Does .beaconLoss s fun t =>
      t.on T1S_STATUS.PLCA_OK = false ∧ t.on T1S_STATUS.CSMA = true ∧ Raised Reg.T1S_EVENTS 0 s t ∧
      RegFrame [Reg.T1S_STATUS, Reg.T1S_EVENTS] s t ∧ RegsOnly s t := by
  let u := (s.setF T1S_STATUS.PLCA_OK 0).setF T1S_STATUS.CSMA 1
  have hframe : RegFrame [Reg.T1S_STATUS] s u :=
    ((RegFrame.refl _ s).setF _ _ (.inl (by decide))).setF _ _ (.inl (by decide))
  refine ⟨u.raise Reg.T1S_EVENTS 0, (exec_beaconLoss s).trans ((act_next haon).trans
    (congrArg _ (if_pos (by rw [hnoon, hok]; rfl)))), ?_, ?_,
    hframe.raise_raised rfl (by decide) _ _ (by decide) (by decide) (by decide),
    (hframe.mono (by decide)).raise _ _ (by decide) (by decide),
    ((RegsOnly.setF s _ _).trans (.setF _ _ _)).trans (.raise _ _ _)⟩
  · rw [State.on_eq_false_iff, State.fld_raise _ _ _ _ (by decide) (by decide) (by decide),
      State.fld_setF_other _ _ _ _ (by decide), State.fld_setF_same _ _ _ (by decide)]
    rfl
  · rw [State.on_eq_true_iff, State.fld_raise _ _ _ _ (by decide) (by decide) (by decide),
      State.fld_setF_same _ _ _ (by decide)]
    decide

theorem corruptedFrame_result {s : State} (haon : s.aon = true) (hnoon : s.noon = true) (fcs : Bool) :
    Does (.corruptedFrame fcs) s fun t =>
      t.fld T1S_COUNTS_RX.FCS = (if fcs then min (s.fld T1S_COUNTS_RX.FCS + 1) (2 ^ T1S_COUNTS_RX.FCS.width - 1)
        else s.fld T1S_COUNTS_RX.FCS) ∧
      t.fld T1S_COUNTS_RX.CODING = (if fcs then s.fld T1S_COUNTS_RX.CODING
        else min (s.fld T1S_COUNTS_RX.CODING + 1) (2 ^ T1S_COUNTS_RX.CODING.width - 1)) ∧
      Raised Reg.T1S_EVENTS 1 s t ∧ RegFrame [Reg.T1S_COUNTS_RX, Reg.T1S_EVENTS] s t ∧ RegsOnly s t := by
  let f := if fcs then T1S_COUNTS_RX.FCS else T1S_COUNTS_RX.CODING
  let u := s.incSat f
  have hreg : f.reg = Reg.T1S_COUNTS_RX := by cases fcs <;> rfl
  have hframe : RegFrame [Reg.T1S_COUNTS_RX] s u := (RegFrame.refl _ s).incSat _ (.inl (by rw [hreg]; decide))
  have hkept (g : Fld) (hg : g.reg = Reg.T1S_COUNTS_RX) : (u.raise Reg.T1S_EVENTS 1).fld g = u.fld g :=
    State.fld_raise _ _ _ _ (by decide) (by rw [hg]; decide) (by rw [hg]; decide)
  refine ⟨u.raise Reg.T1S_EVENTS 1, (exec_corruptedFrame fcs s).trans ((act_next haon).trans
    (congrArg _ (if_pos hnoon))), ?_, ?_, hframe.raise_raised rfl (by decide) _ _ (by decide) (by decide) (by decide),
    (hframe.mono (by decide)).raise _ _ (by decide) (by decide), (RegsOnly.incSat s f).trans (.raise _ _ _)⟩
  · rw [hkept _ rfl]
    cases fcs with
    | true => exact s.fld_incSat T1S_COUNTS_RX.FCS (by decide)
    | false => exact s.fld_setF_other T1S_COUNTS_RX.CODING T1S_COUNTS_RX.FCS _ (by decide)
  · rw [hkept _ rfl]
    cases fcs with
    | true => exact s.fld_setF_other T1S_COUNTS_RX.FCS T1S_COUNTS_RX.CODING _ (by decide)
    | false => exact s.fld_incSat T1S_COUNTS_RX.CODING (by decide)

/-! ### Transmit opportunities (R307, R312, R315, R333) -/

/-- What a frame sent leaves: the frame as the last one sent, its stamp awaited, and no register. -/
theorem State.frameSent_result (s : State) (f : Frame) :
    (s.frameSent f).t1s = { s.t1s with sent := some f } ∧
      (s.frameSent f).mtime.awaiting = s.mtime.awaiting ++ f.stamp.toList ∧
      s.frameSent f = { s with t1s := (s.frameSent f).t1s, mtime := (s.frameSent f).mtime } := by
  unfold State.frameSent
  cases f.stamp with
  | none =>
    cases f.frees with
    | none => exact ⟨rfl, (List.append_nil _).symm, rfl⟩
    | some k => exact ⟨rfl, (List.append_nil _).symm, rfl⟩
  | some j =>
    cases f.frees with
    | none => exact ⟨rfl, rfl, rfl⟩
    | some k => exact ⟨rfl, rfl, rfl⟩

theorem State.frameSent_regs (s : State) (f : Frame) : (s.frameSent f).regs = s.regs := by
  obtain ⟨-, -, honly⟩ := s.frameSent_result f
  rw [honly]

theorem exec_transmitOpportunity_contribs {s : State} (haon : s.aon = true) (hnoon : s.noon = true)
    (hready : s.pair.ready ≠ []) (o : TxOutcome) : exec (.transmitOpportunity o) s = .next (s.sendContribs o) := by
  refine (exec_transmitOpportunity o s).trans ((act_next haon).trans (congrArg _ ?_))
  rw [if_neg (by simp [hnoon]), if_pos (by simpa using hready)]

theorem exec_transmitOpportunity_queued {s : State} (haon : s.aon = true) (hnoon : s.noon = true)
    (hready : s.pair.ready = []) {f : Frame} {rest : List Frame} (hf : s.link.txFrames = f :: rest) (o : TxOutcome) :
    exec (.transmitOpportunity o) s = .next (match o with
      | .sent => (s.putLink { s.link with txFrames := rest }).frameSent f
      | .tooLate => s.incSat T1S_COUNTS_TX.DEFERRALS
      | .collisions => (s.putLink { s.link with txFrames := rest }).incSat T1S_COUNTS_TX.COLLISIONS) := by
  refine (exec_transmitOpportunity o s).trans ((act_next haon).trans (congrArg _ ?_))
  rw [if_neg (by simp [hnoon]), if_neg (by simp [hready])]
  cases o <;> simp only [hf]

theorem exec_transmitOpportunity_stream {s : State} (haon : s.aon = true) (hnoon : s.noon = true)
    (hready : s.pair.ready = []) (hf : s.link.txFrames = []) (hn : s.streamReady ≠ 0) (o : TxOutcome) :
    exec (.transmitOpportunity o) s = .next (match o with
      | .sent => ((s.dropStream s.streamReady).frameSent (s.streamFrame s.streamReady)).setF STREAM_SEQ.FSEQ
          (s.fld STREAM_SEQ.FSEQ + 1)
      | .tooLate => s.incSat T1S_COUNTS_TX.DEFERRALS
      | .collisions => (s.dropStream s.streamReady).incSat T1S_COUNTS_TX.COLLISIONS) := by
  obtain ⟨n, hsucc⟩ := Nat.exists_eq_succ_of_ne_zero hn
  refine (exec_transmitOpportunity o s).trans ((act_next haon).trans (congrArg _ ?_))
  rw [if_neg (by simp [hnoon]), if_neg (by simp [hready])]
  cases o <;> simp only [hf, hsucc]

theorem sendContribs_result {s : State} (haon : s.aon = true) (hnoon : s.noon = true) (hready : s.pair.ready ≠ []) :
    Does (.transmitOpportunity .sent) s fun t =>
      t.t1s.sent = some s.contribFrame ∧ t.pair = { s.pair with ready := s.pair.ready.drop 6 } ∧
      t.t1s.seq2 = s.t1s.seq2 + 1 ∧ t.link = s.link ∧ t.queue = s.queue ∧ RegFrame [] s t :=
  ⟨_, exec_transmitOpportunity_contribs haon hnoon hready .sent, rfl, rfl, rfl, rfl, rfl, RegFrame.of_regs rfl⟩

theorem sendQueued_result {s : State} (haon : s.aon = true) (hnoon : s.noon = true) (hready : s.pair.ready = [])
    (f : Frame) (rest : List Frame) (hf : s.link.txFrames = f :: rest) :
    (Does (.transmitOpportunity .sent) s fun t =>
      t.t1s = { s.t1s with sent := some f } ∧ t.link = { s.link with txFrames := rest } ∧ t.queue = s.queue ∧
      t.mtime.awaiting = s.mtime.awaiting ++ f.stamp.toList ∧ RegFrame [] s t) ∧
    (Does (.transmitOpportunity .collisions) s fun t =>
      t.link = { s.link with txFrames := rest } ∧ t.t1s = s.t1s ∧ RegFrame [Reg.T1S_COUNTS_TX] s t ∧
      t.fld T1S_COUNTS_TX.COLLISIONS =
        min (s.fld T1S_COUNTS_TX.COLLISIONS + 1) (2 ^ T1S_COUNTS_TX.COLLISIONS.width - 1)) := by
  let u := s.putLink { s.link with txFrames := rest }
  obtain ⟨ht1s, hstamp, honly⟩ := u.frameSent_result f
  refine ⟨⟨u.frameSent f, exec_transmitOpportunity_queued haon hnoon hready hf .sent, ht1s, ?_, ?_, hstamp,
    RegFrame.of_regs (u.frameSent_regs f)⟩, u.incSat T1S_COUNTS_TX.COLLISIONS,
    exec_transmitOpportunity_queued haon hnoon hready hf .collisions, rfl, rfl,
    (RegFrame.of_regs rfl).incSat _ (.inl (by decide)), u.fld_incSat T1S_COUNTS_TX.COLLISIONS (by decide)⟩
  · rw [honly]
    rfl
  · rw [honly]
    rfl

theorem sendTooLate_result {s : State} (haon : s.aon = true) (hnoon : s.noon = true)
    (hwaits : s.pair.ready ≠ [] ∨ s.link.txFrames ≠ [] ∨ s.streamReady ≠ 0) :
    Does (.transmitOpportunity .tooLate) s fun t =>
      t = { s with regs := t.regs } ∧ RegFrame [Reg.T1S_COUNTS_TX] s t ∧
      t.fld T1S_COUNTS_TX.DEFERRALS =
        min (s.fld T1S_COUNTS_TX.DEFERRALS + 1) (2 ^ T1S_COUNTS_TX.DEFERRALS.width - 1) := by
  have he : exec (.transmitOpportunity .tooLate) s = .next (s.incSat T1S_COUNTS_TX.DEFERRALS) := by
    by_cases hready : s.pair.ready = []
    · cases hf : s.link.txFrames with
      | nil =>
        have hn : s.streamReady ≠ 0 := (hwaits.resolve_left (not_not_intro hready)).resolve_left (not_not_intro hf)
        exact exec_transmitOpportunity_stream haon hnoon hready hf hn .tooLate
      | cons f rest => exact exec_transmitOpportunity_queued haon hnoon hready hf .tooLate
    · exact exec_transmitOpportunity_contribs haon hnoon hready .tooLate
  exact ⟨_, he, rfl, (RegFrame.refl _ s).incSat _ (.inl (by decide)), s.fld_incSat _ (by decide)⟩

theorem sendStream_result {s : State} (haon : s.aon = true) (hnoon : s.noon = true) (hready : s.pair.ready = [])
    (hf : s.link.txFrames = []) (hn : s.streamReady ≠ 0) : Does (.transmitOpportunity .sent) s fun t =>
      t.t1s.sent = some (s.streamFrame s.streamReady) ∧ t.queue.visible = s.queue.visible.drop s.streamReady ∧
      t.t1s.closed = 0 ∧ t.fld STREAM_SEQ.FSEQ = (s.fld STREAM_SEQ.FSEQ + 1) % 2 ^ STREAM_SEQ.FSEQ.width ∧
      RegFrame [Reg.STREAM_SEQ] s t := by
  let u := s.dropStream s.streamReady
  have hu : u = { s with queue := { u.queue with visible := s.queue.visible.drop s.streamReady }
                         t1s := { s.t1s with closed := 0 } } := by
    unfold u State.dropStream
    rw [State.syncSink_eq]
    rfl
  obtain ⟨ht1s, -, honly⟩ := u.frameSent_result (s.streamFrame s.streamReady)
  refine ⟨_, exec_transmitOpportunity_stream haon hnoon hready hf hn .sent, congrArg T1sPart.sent ht1s, ?_,
    (congrArg T1sPart.closed ht1s).trans (by rw [hu]), State.fld_setF_same _ _ _ (by decide),
    RegFrame.setF (RegFrame.of_regs ((u.frameSent_regs _).trans (by rw [hu]))) _ _ (.inl (by decide))⟩
  change (u.frameSent (s.streamFrame s.streamReady)).queue.visible = _
  rw [honly, hu]

theorem streamFrameAge_result {s : State} (haon : s.aon = true) (hnoon : s.noon = true) (hstream : s.streaming = true)
    (hage : s.fld STREAM_CFG.MAX_AGE ≠ 0) (hopen : s.t1s.closed = 0) : Does .streamFrameAge s fun t =>
      t = { s with t1s := { s.t1s with closed := s.streamCount } } :=
  ⟨_, (exec_streamFrameAge s).trans ((act_next haon).trans
    (congrArg _ (if_pos (by simp [hnoon, hstream, hage, hopen])))), rfl⟩

/-- Settles O43: PLCA's word and its flags follow the BEACON, and an opportunity serves the first of contributions,
queued frames and the stream that waits. -/
theorem t1sLink : Obligations.T1sLink := fun _ haon hnoon =>
  ⟨fun _ => ⟨t1sPlcaWrite_refused haon hnoon, t1sPlcaWrite_stored haon hnoon⟩, beaconReceived_result haon hnoon,
    beaconTransmit_result haon hnoon, beaconLoss_result haon hnoon, corruptedFrame_result haon hnoon,
    sendContribs_result haon hnoon, sendQueued_result haon hnoon, sendTooLate_result haon hnoon,
    sendStream_result haon hnoon, streamFrameAge_result haon hnoon⟩

end Sys2Proof.Machine

namespace Sys2Proof.Machine

/-! ### A second address written over the bus is not in force at once (R293)

By command a write to TW_ADDR2 takes effect at once, over the bus only with the STOP of its transaction. So the register
write row does not act over the bus as it does by command where it names that register. -/

/-- In the state after power-up: over the bus the second address in force stays as it is. -/
theorem registerWrite_twAddr2_bus : Does (.registerWrite true 0x0708 0x20) State.reset fun t =>
    t.tw.addr2 = State.reset.tw.addr2 := by
  obtain ⟨t, ht, -, hkept⟩ := twAddr2Write_bus (s := State.reset) (w := 0x20) (by decide) (by decide) (by decide)
    (by decide)
  exact ⟨t, ht, hkept⟩

/-- By command, also on the state in which the transaction is open, the written address is in force. -/
theorem registerWrite_twAddr2_command :
    Does (.registerWrite false 0x0708 0x20) (State.reset.twStart.busAccess 0x0708 4) fun t =>
      t.tw.addr2 &&& rwMask Reg.TW_ADDR2 = 0x20 &&& rwMask Reg.TW_ADDR2 := by
  obtain ⟨t, ht, hstored, hforce, -⟩ := twAddr2Write_command (s := State.reset.twStart.busAccess 0x0708 4) (w := 0x20)
    (by decide) (by decide) (by decide)
  exact ⟨t, ht, (congrArg (· &&& rwMask Reg.TW_ADDR2) hforce).trans hstored⟩

/-- Refutes O31: a write of 0x20 to TW_ADDR2 over the bus leaves the second address in force, by command changes it. -/
theorem not_writesOverTheBus : ¬ Obligations.WritesOverTheBus := by
  intro h
  obtain ⟨hwrite, -⟩ := (h State.reset 0x20 (by decide) (by decide)).1 (by decide)
  obtain ⟨t, ht, hkept⟩ := registerWrite_twAddr2_bus
  obtain ⟨u, hu, hforce⟩ := registerWrite_twAddr2_command
  have hsame : t = u := Host.Outcome.next.inj (ht.symm.trans ((hwrite 0x0708).trans hu))
  rw [← hsame, hkept] at hforce
  exact absurd hforce (by decide)

end Sys2Proof.Machine

namespace Sys2Proof.Machine

/-! ### Fields of an instruction word (Table 18.5) -/

section
variable {op a b m i : Nat}

theorem bits_pWord (hop : op < 16) (lo width : Nat) : bits (pWord op a b m i) lo width =
    (op * 2 ^ 28 + a % 8 * 2 ^ 25 + b % 8 * 2 ^ 22 + m % 64 * 2 ^ 16 + i % 2 ^ 16) / 2 ^ lo % 2 ^ width := by
  have hlt : op * 2 ^ 28 + a % 8 * 2 ^ 25 + b % 8 * 2 ^ 22 + m % 64 * 2 ^ 16 + i % 2 ^ 16 < 2 ^ 32 := by omega
  rw [bits, pWord, w32, BitVec.toNat_ofNat, Nat.mod_eq_of_lt hlt, Nat.shiftRight_eq_div_pow]

theorem pOp_pWord (hop : op < 16) : pOp (pWord op a b m i) = op := by
  rw [pOp, bits_pWord hop]
  omega

theorem pA_pWord (hop : op < 16) : pA (pWord op a b m i) = a % 8 := by
  rw [pA, bits_pWord hop]
  omega

theorem pB_pWord (hop : op < 16) : pB (pWord op a b m i) = b % 8 := by
  rw [pB, bits_pWord hop]
  omega

theorem pM_pWord (hop : op < 16) : pM (pWord op a b m i) = m % 64 := by
  rw [pM, bits_pWord hop]
  omega

theorem pI_pWord (hop : op < 16) : pI (pWord op a b m i) = i % 2 ^ 16 := by
  rw [pI, bits_pWord hop]
  omega

end

/-! ### One engine's state among the four (R389) -/

theorem State.pioEngine_setPio_same {s : State} {k : Nat} (hk : k < s.pio.length) (f : PioEngine → PioEngine) :
    (s.setPio k f).pioEngine k = f (s.pioEngine k) := by
  simp [State.pioEngine, State.setPio, List.getD_eq_getElem?_getD, hk]

theorem State.pioEngine_setPio_other (s : State) {k j : Nat} (h : j ≠ k) (f : PioEngine → PioEngine) :
    (s.setPio k f).pioEngine j = s.pioEngine j := by
  simp [State.pioEngine, State.setPio, List.getD_eq_getElem?_getD, List.getElem?_set_ne h.symm]

theorem State.setPio_engineIs {s : State} {k : Nat} (hk : k < s.pio.length) (f : PioEngine → PioEngine) :
    EngineIs k (f (s.pioEngine k)) s (s.setPio k f) :=
  ⟨State.pioEngine_setPio_same hk f, fun _ hj => s.pioEngine_setPio_other hj f⟩

theorem State.setPio_setPio {s : State} {k : Nat} (hk : k < s.pio.length) (f g : PioEngine → PioEngine) :
    (s.setPio k f).setPio k g = s.setPio k fun e => g (f e) := by
  have hsame := State.pioEngine_setPio_same hk f
  unfold State.setPio at *
  rw [hsame]
  simp only [List.set_set]

theorem EngineIs.of_pio {k : Nat} {e : PioEngine} {s t u : State} (h : EngineIs k e s t) (hpio : u.pio = t.pio) :
    EngineIs k e s u := by
  unfold EngineIs State.pioEngine at *
  rwa [hpio]

/-- An engine that is RUNNING is one of the block's. -/
theorem State.lt_of_running {s : State} {k : Nat} (h : (s.pioEngine k).state = 1) : k < s.pio.length := by
  by_contra hk
  rw [State.pioEngine, List.getD_eq_default _ _ (Nat.not_lt.mp hk)] at h
  exact absurd h (by decide)

/-! ### One cycle (R389, R390) -/

/-- The engine after a cycle in which it executes `w`. -/
def PioEngine.cycled (w : Word) (pins : Nat) (e : PioEngine) : PioEngine :=
  { pioRegs w pins e with
    pc := (pioTarget w pins e).getD ((e.pc + 1) % 64), tcnt := (pioRegs w pins e).tcnt + 1 }

theorem State.pioDrive_pio (s : State) (k : Nat) (w : Word) : (s.pioDrive k w).pio = s.pio := by
  unfold State.pioDrive
  extract_lets mask
  split <;> rfl

theorem State.pioDrive_only (s : State) (k : Nat) (w : Word) :
    s.pioDrive k w = { s with pins := (s.pioDrive k w).pins } := by
  unfold State.pioDrive
  extract_lets mask
  split <;> rfl

/-- An instruction that moves no pin leaves the pins. -/
theorem State.pioDrive_of_op (s : State) (k : Nat) {w : Word} (h : pOp w ≠ 2 ∧ pOp w ≠ 3 ∧ pOp w ≠ 10) :
    s.pioDrive k w = s := by
  obtain ⟨hset, hdir, hsetx⟩ := h
  unfold State.pioDrive
  extract_lets mask
  split
  next e => exact absurd e hset
  next e => exact absurd e hdir
  next e => exact absurd e hsetx
  next => rfl

/-- An instruction beside PUT, IRQ and HALT acts on its engine and on pins alone. -/
theorem State.pioExec_plain (s : State) (k : Nat) {w : Word} (h : pOp w ≠ 8 ∧ pOp w ≠ 11 ∧ pOp w ≠ 15) :
    s.pioExec k w = (s.pioDrive k w).setPio k (pioRegs w s.pinLevels) := by
  obtain ⟨hput, hirq, hhalt⟩ := h
  unfold State.pioExec
  extract_lets pins period u
  split
  next e => exact absurd e hput
  next e => exact absurd e hirq
  next e => exact absurd e hhalt
  next => rfl

theorem State.pioCycle_plain {s : State} {k : Nat} (hk : k < s.pio.length) {w : Word}
    (h : pOp w ≠ 8 ∧ pOp w ≠ 11 ∧ pOp w ≠ 15) :
    s.pioCycle k w = (s.pioDrive k w).setPio k fun _ => (s.pioEngine k).cycled w s.pinLevels := by
  have hhalt : pOp w ≠ 15 := h.2.2
  have hpio := s.pioDrive_pio k w
  have hsame : (s.pioDrive k w).pioEngine k = s.pioEngine k := by rw [State.pioEngine, State.pioEngine, hpio]
  have hnot : (pOp w == 15) = false := beq_eq_false_iff_ne.mpr hhalt
  unfold State.pioCycle
  rw [s.pioExec_plain k h, hnot, State.setPio_setPio (hpio ▸ hk)]
  simp only [State.setPio, hsame]
  rfl

/-! ### The instructions that act on their engine and on pins alone (Table 18.5) -/

/-- Engine `k` executes an instruction and is then `e`; beside the engines the pins alone change, to `p`. -/
def Executes (k : Nat) (e : PioEngine) (p : PinPart) (s : State) (o : Host.Outcome State Fault Refusal) : Prop :=
  ∃ t, o = .next t ∧ EngineIs k e s t ∧ t = { s with pio := t.pio, pins := p }

theorem pioRow_running {s : State} (haon : s.aon = true) {k : Fin 4} (hrun : (s.pioEngine k.val).state = 1)
    (hlegacy : s.legacy k.val = false) (w : Word) : pioRow k w s = .next (s.pioCycle k.val w) :=
  (act_next haon).trans (congrArg _ (if_pos ⟨hrun, by simp [hlegacy]⟩))

theorem pioRow_executes {s : State} (haon : s.aon = true) {k : Fin 4} (hrun : (s.pioEngine k.val).state = 1)
    (hlegacy : s.legacy k.val = false) {w : Word} (h : pOp w ≠ 8 ∧ pOp w ≠ 11 ∧ pOp w ≠ 15) :
    Executes k.val ((s.pioEngine k.val).cycled w s.pinLevels) (s.pioDrive k.val w).pins s (pioRow k w s) := by
  have hk := State.lt_of_running hrun
  have hpio := s.pioDrive_pio k.val w
  have hcycle := State.pioCycle_plain hk h
  refine ⟨s.pioCycle k.val w, pioRow_running haon hrun hlegacy w, ?_, ?_⟩
  · refine EngineIs.of_pio (State.setPio_engineIs hk fun _ => (s.pioEngine k.val).cycled w s.pinLevels) ?_
    rw [hcycle, State.setPio, State.setPio, hpio]
  · have honly := s.pioDrive_only k.val w
    rw [hcycle]
    simp only [State.setPio]
    rw [honly]

/-- The levels that an instruction sees are sampled as it executes. -/
theorem pioRowPins_executes {s : State} (haon : s.aon = true) {k : Fin 4} (hrun : (s.pioEngine k.val).state = 1)
    (hlegacy : s.legacy k.val = false) (pins : BitVec 6) {w : Word} (h : pOp w ≠ 8 ∧ pOp w ≠ 11 ∧ pOp w ≠ 15)
    (hdrive : pOp w ≠ 2 ∧ pOp w ≠ 3 ∧ pOp w ≠ 10) :
    Executes k.val ((s.pioEngine k.val).cycled w (pins.toNat &&& (63 - s.analogPins))) { s.pins with inp := pins.toNat }
      s (pioRowPins k pins w s) := by
  let u := s.putPins { s.pins with inp := pins.toNat }
  obtain ⟨t, ht, hengine, honly⟩ := pioRow_executes (s := u) haon hrun hlegacy h
  refine ⟨t, ?_, hengine, ?_⟩
  · exact (act_next haon).trans ((act_next (s := u) haon).symm.trans ht)
  · rw [u.pioDrive_of_op k.val hdrive] at honly
    exact honly

theorem pioPut_advanced (reg : Nat) (v : Word) (e : PioEngine) (p : Nat) :
    { pioPut reg v e with pc := p, tcnt := (pioPut reg v e).tcnt + 1 } =
      pioPut reg v { e with pc := p, tcnt := e.tcnt + 1 } := by
  unfold pioPut
  split
  · rfl
  · split <;> rfl

theorem signExtend_eq_signed (delta : BitVec 6) : BitVec.ofInt 32 (signed 6 delta.toNat) = delta.signExtend 32 := by
  have hlt : delta.toNat < 2 ^ 6 := delta.isLt
  rw [BitVec.signExtend, BitVec.toInt_eq_toNat_cond, signed, Nat.mod_eq_of_lt hlt]
  by_cases hsign : 2 * delta.toNat < 2 ^ 6
  · rw [if_pos hsign, if_pos (by omega)]
  · rw [if_neg hsign, if_neg (by omega)]
    rfl

/-! #### What a cycle makes of the engine -/

section
variable (e : PioEngine) (pins : Nat)

/-- The engine at its next word, one cycle on. -/
def PioEngine.advanced : PioEngine := { e with pc := (e.pc + 1) % 64, tcnt := e.tcnt + 1 }

/-- NOP, SET, DIR, SETX and IRQ neither jump nor write a register. -/
theorem PioEngine.cycled_idle {w : Word} (h : pOp w ∈ [0, 2, 3, 10, 11]) : e.cycled w pins = e.advanced := by
  have hcases : pOp w = 0 ∨ pOp w = 2 ∨ pOp w = 3 ∨ pOp w = 10 ∨ pOp w = 11 := by simpa using h
  unfold cycled pioTarget pioRegs
  rcases hcases with h | h | h | h | h <;> rw [h] <;> rfl

theorem PioEngine.cycled_jmp (cond : Fin 8) (b : Nat) (target : BitVec 6) :
    e.cycled (pWord 1 cond.val b 0 target.toNat) pins = { e with
      pc := if pioCond cond.val (b % 8) pins e then target.toNat else (e.pc + 1) % 64, tcnt := e.tcnt + 1 } := by
  have htarget : target.toNat % 2 ^ 16 % 64 = target.toNat := by omega
  unfold cycled pioTarget pioRegs
  rw [pOp_pWord (by decide), pA_pWord (by decide), pB_pWord (by decide), pI_pWord (by decide), htarget,
    Nat.mod_eq_of_lt cond.isLt]
  cases pioCond cond.val (b % 8) pins e <;> rfl

theorem PioEngine.cycled_shin (width : Fin 4) (pin : Fin 6) :
    e.cycled (pWord 4 width.val pin.val 0 0) pins = { e with
      pc := (e.pc + 1) % 64, tcnt := e.tcnt + 1
      x := (e.x <<< (width.val + 1)) ||| w32 (pins >>> pin.val % 2 ^ (width.val + 1)) } := by
  unfold cycled pioTarget pioRegs
  rw [pOp_pWord (by decide), pA_pWord (by decide), pB_pWord (by decide), Nat.mod_eq_of_lt (by omega),
    Nat.mod_eq_of_lt (by omega)]
  rfl

theorem PioEngine.cycled_jtab (base : Fin 49) :
    e.cycled (pWord 5 0 0 0 base.val) pins = { e with pc := base.val + e.x.toNat % 16, tcnt := e.tcnt + 1 } := by
  have htarget : (base.val % 2 ^ 16 + bits e.x 0 4) % 64 = base.val + e.x.toNat % 16 := by
    rw [bits, Nat.shiftRight_zero]
    omega
  unfold cycled pioTarget pioRegs
  rw [pOp_pWord (by decide), pI_pWord (by decide)]
  dsimp only
  rw [htarget]
  rfl

theorem PioEngine.cycled_addj (reg : Fin 3) (delta target : BitVec 6) :
    e.cycled (pWord 6 reg.val 0 delta.toNat target.toNat) pins =
      pioPut reg.val (pioGet reg.val e + delta.signExtend 32) { e with pc := target.toNat, tcnt := e.tcnt + 1 } := by
  have htarget : target.toNat % 2 ^ 16 % 64 = target.toNat := by omega
  unfold cycled pioTarget pioRegs
  rw [pOp_pWord (by decide), pA_pWord (by decide), pM_pWord (by decide), pI_pWord (by decide), htarget,
    Nat.mod_eq_of_lt (by omega : reg.val < 8), Nat.mod_eq_of_lt delta.isLt, signExtend_eq_signed]
  exact pioPut_advanced _ _ _ _

theorem w32_mod_eq_setWidth (v : BitVec 16) : w32 (v.toNat % 2 ^ 16) = v.setWidth 32 := by
  rw [Nat.mod_eq_of_lt v.isLt]
  exact BitVec.ofNat_toNat 32 v

theorem PioEngine.cycled_ldi (reg : Fin 3) (v : BitVec 16) :
    e.cycled (pWord 7 reg.val 0 0 v.toNat) pins = pioPut reg.val (v.setWidth 32) e.advanced := by
  unfold cycled pioTarget pioRegs
  rw [pOp_pWord (by decide), pA_pWord (by decide), pI_pWord (by decide), w32_mod_eq_setWidth,
    Nat.mod_eq_of_lt (by omega : reg.val < 8)]
  exact pioPut_advanced _ _ _ _

theorem PioEngine.cycled_put (reg : Fin 3) (v : BitVec 16) :
    e.cycled (pWord 8 reg.val 0 0 v.toNat) pins =
      pioPut reg.val (v.setWidth 32) { e.advanced with nport := pioGet reg.val e } := by
  unfold cycled pioTarget pioRegs
  rw [pOp_pWord (by decide), pA_pWord (by decide), pI_pWord (by decide), w32_mod_eq_setWidth,
    Nat.mod_eq_of_lt (by omega : reg.val < 8)]
  exact pioPut_advanced _ _ { e with nport := pioGet reg.val e } _

theorem PioEngine.cycled_get (reg : Fin 3) :
    e.cycled (pWord 9 reg.val 0 0 0) pins = pioPut reg.val e.mport e.advanced := by
  unfold cycled pioTarget pioRegs
  rw [pOp_pWord (by decide), pA_pWord (by decide), Nat.mod_eq_of_lt (by omega : reg.val < 8)]
  exact pioPut_advanced _ _ _ _

end

/-! #### What a cycle makes of the pins -/

theorem State.pioDrive_set (s : State) (k : Nat) (mask levels : BitVec 6) :
    (s.pioDrive k (pWord 2 0 0 mask.toNat levels.toNat)).pins =
      { s.pins with out := mergeBits s.pins.out levels.toNat (s.reached k mask) } := by
  unfold State.pioDrive State.reached
  rw [pOp_pWord (by decide), pM_pWord (by decide), pI_pWord (by decide), Nat.mod_eq_of_lt mask.isLt,
    Nat.mod_eq_of_lt (by omega : levels.toNat < 2 ^ 16)]
  rfl

theorem State.pioDrive_dir (s : State) (k : Nat) (mask dirs : BitVec 6) :
    (s.pioDrive k (pWord 3 0 0 mask.toNat dirs.toNat)).pins =
      { s.pins with oe := mergeBits s.pins.oe dirs.toNat (s.reached k mask) } := by
  unfold State.pioDrive State.reached
  rw [pOp_pWord (by decide), pM_pWord (by decide), pI_pWord (by decide), Nat.mod_eq_of_lt mask.isLt,
    Nat.mod_eq_of_lt (by omega : dirs.toNat < 2 ^ 16)]
  rfl

theorem State.pioDrive_setx (s : State) (k : Nat) (mask : BitVec 6) :
    (s.pioDrive k (pWord 10 0 0 mask.toNat 0)).pins =
      { s.pins with out := mergeBits s.pins.out ((s.pioEngine k).x.toNat % 64) (s.reached k mask) } := by
  unfold State.pioDrive State.reached
  rw [pOp_pWord (by decide), pM_pWord (by decide), Nat.mod_eq_of_lt mask.isLt]
  rfl

/-! #### The rows -/

section
variable {s : State} {k : Fin 4} (haon : s.aon = true) {e : PioEngine} (he : e = s.pioEngine k.val) (hrun : e.state = 1)
  (hlegacy : s.legacy k.val = false)
include haon he hrun hlegacy

/-- An instruction that moves no pin. -/
theorem exec_moving_no_pin {w : Word} (h : pOp w ∈ [0, 1, 4, 5, 6, 7, 9]) :
    Executes k.val (e.cycled w s.pinLevels) s.pins s (pioRow k w s) := by
  subst he
  have apart : ∀ n ∈ [0, 1, 4, 5, 6, 7, 9], (n ≠ 8 ∧ n ≠ 11 ∧ n ≠ 15) ∧ n ≠ 2 ∧ n ≠ 3 ∧ n ≠ 10 := by decide
  obtain ⟨hplain, hpins⟩ := apart _ h
  have hexec := pioRow_executes haon hrun hlegacy hplain
  rwa [s.pioDrive_of_op _ hpins] at hexec

/-- An instruction that moves pins neither jumps nor writes a register. -/
theorem exec_moving_pins {w : Word} (h : pOp w ∈ [2, 3, 10]) {p : PinPart} (hp : (s.pioDrive k.val w).pins = p) :
    Executes k.val e.advanced p s (pioRow k w s) := by
  subst he
  have apart : ∀ n ∈ [2, 3, 10], (n ≠ 8 ∧ n ≠ 11 ∧ n ≠ 15) ∧ n ∈ [0, 2, 3, 10, 11] := by decide
  obtain ⟨hplain, hidle⟩ := apart _ h
  have hexec := pioRow_executes haon hrun hlegacy hplain
  rwa [PioEngine.cycled_idle _ _ hidle, hp] at hexec

theorem pioNop_result : Does (.pioNop k) s fun t => EngineIs k.val e.advanced s t ∧ t = { s with pio := t.pio } := by
  have hexec := exec_moving_no_pin haon he hrun hlegacy (w := pWord 0 0 0 0 0) (by decide)
  rwa [e.cycled_idle _ (by decide)] at hexec

theorem pioJmp_result (pins : BitVec 6) (cond : Fin 8) (pin target : BitVec 6) :
    Does (.pioJmp k pins cond pin target) s fun t =>
      EngineIs k.val { e with
        pc := if pioCond cond.val (pin.toNat % 6) (pins.toNat &&& (63 - s.analogPins)) e then target.toNat
          else (e.pc + 1) % 64
        tcnt := e.tcnt + 1 } s t ∧
      t = { s with pio := t.pio, pins := { s.pins with inp := pins.toNat } } := by
  subst he
  let b := if cond.val = 5 ∨ cond.val = 6 then pin.toNat % 6 else 0
  have hop : pOp (pWord 1 cond.val b 0 target.toNat) = 1 := pOp_pWord (by decide)
  have hcond (p : Nat) (e : PioEngine) : pioCond cond.val (b % 8) p e = pioCond cond.val (pin.toNat % 6) p e := by
    by_cases h : cond.val = 5 ∨ cond.val = 6
    · rw [show b = pin.toNat % 6 from if_pos h, Nat.mod_eq_of_lt (by omega)]
    · obtain ⟨h5, h6⟩ := not_or.mp h
      unfold pioCond
      split
      next => rfl
      next => rfl
      next => rfl
      next => rfl
      next => rfl
      next hc => exact absurd hc h5
      next hc => exact absurd hc h6
      next => rfl
  have hexec := pioRowPins_executes haon hrun hlegacy pins (w := pWord 1 cond.val b 0 target.toNat)
    (by rw [hop]; decide) (by rw [hop]; decide)
  rwa [PioEngine.cycled_jmp, hcond] at hexec

theorem pioSet_result (mask levels : BitVec 6) : Does (.pioSet k mask levels) s fun t =>
    EngineIs k.val e.advanced s t ∧
    t = { s with
      pio := t.pio, pins := { s.pins with out := mergeBits s.pins.out levels.toNat (s.reached k.val mask) } } :=
  exec_moving_pins haon he hrun hlegacy (by rw [pOp_pWord (by decide)]; decide) (s.pioDrive_set k mask levels)

theorem pioDir_result (mask dirs : BitVec 6) : Does (.pioDir k mask dirs) s fun t =>
    EngineIs k.val e.advanced s t ∧
    t = { s with
      pio := t.pio, pins := { s.pins with oe := mergeBits s.pins.oe dirs.toNat (s.reached k.val mask) } } :=
  exec_moving_pins haon he hrun hlegacy (by rw [pOp_pWord (by decide)]; decide) (s.pioDrive_dir k mask dirs)

theorem pioSetx_result (mask : BitVec 6) : Does (.pioSetx k mask) s fun t =>
    EngineIs k.val e.advanced s t ∧
    t = { s with
      pio := t.pio, pins := { s.pins with out := mergeBits s.pins.out (e.x.toNat % 64) (s.reached k.val mask) } } :=
  exec_moving_pins haon he hrun hlegacy (by rw [pOp_pWord (by decide)]; decide)
    (he ▸ s.pioDrive_setx k mask)

theorem pioShin_result (pins : BitVec 6) (width : Fin 4) (pin : Fin 6) : Does (.pioShin k pins width pin) s fun t =>
    EngineIs k.val { e with
      pc := (e.pc + 1) % 64, tcnt := e.tcnt + 1
      x := (e.x <<< (width.val + 1)) |||
        w32 ((pins.toNat &&& (63 - s.analogPins)) >>> pin.val % 2 ^ (width.val + 1)) } s t ∧
    t = { s with pio := t.pio, pins := { s.pins with inp := pins.toNat } } := by
  subst he
  have hop : pOp (pWord 4 width.val pin.val 0 0) = 4 := pOp_pWord (by decide)
  have hexec := pioRowPins_executes haon hrun hlegacy pins (w := pWord 4 width.val pin.val 0 0)
    (by rw [hop]; decide) (by rw [hop]; decide)
  rwa [PioEngine.cycled_shin] at hexec

theorem pioJtab_result (base : Fin 49) : Does (.pioJtab k base) s fun t =>
    EngineIs k.val { e with pc := base.val + e.x.toNat % 16, tcnt := e.tcnt + 1 } s t ∧
    t = { s with pio := t.pio } := by
  have hexec := exec_moving_no_pin haon he hrun hlegacy (w := pWord 5 0 0 0 base.val)
    (by rw [pOp_pWord (by decide)]; decide)
  rwa [e.cycled_jtab] at hexec

theorem pioAddj_result (reg : Fin 3) (delta target : BitVec 6) : Does (.pioAddj k reg delta target) s fun t =>
    EngineIs k.val (pioPut reg.val (pioGet reg.val e + delta.signExtend 32)
      { e with pc := target.toNat, tcnt := e.tcnt + 1 }) s t ∧ t = { s with pio := t.pio } := by
  have hexec := exec_moving_no_pin haon he hrun hlegacy (w := pWord 6 reg.val 0 delta.toNat target.toNat)
    (by rw [pOp_pWord (by decide)]; decide)
  rwa [e.cycled_addj] at hexec

theorem pioLdi_result (reg : Fin 3) (v : BitVec 16) : Does (.pioLdi k reg v) s fun t =>
    EngineIs k.val (pioPut reg.val (v.setWidth 32) e.advanced) s t ∧ t = { s with pio := t.pio } := by
  have hexec := exec_moving_no_pin haon he hrun hlegacy (w := pWord 7 reg.val 0 0 v.toNat)
    (by rw [pOp_pWord (by decide)]; decide)
  rwa [e.cycled_ldi] at hexec

theorem pioGet_result (reg : Fin 3) : Does (.pioGet k reg) s fun t =>
    EngineIs k.val (pioPut reg.val e.mport e.advanced) s t ∧ t = { s with pio := t.pio } := by
  have hexec := exec_moving_no_pin haon he hrun hlegacy (w := pWord 9 reg.val 0 0 0)
    (by rw [pOp_pWord (by decide)]; decide)
  rwa [e.cycled_get] at hexec

end

/-! ### PUT, IRQ and HALT (R122, R389, R390) -/

theorem EngineIs.setPio {k : Nat} {e : PioEngine} {s t : State} (h : EngineIs k e s t) (hk : k < t.pio.length)
    (g : PioEngine → PioEngine) : EngineIs k (g e) s (t.setPio k g) := by
  obtain ⟨hsame, hothers⟩ := h
  exact ⟨by rw [State.pioEngine_setPio_same hk, hsame],
    fun j hj => (t.pioEngine_setPio_other hj g).trans (hothers j hj)⟩

theorem State.setPio_length (s : State) (k : Nat) (f : PioEngine → PioEngine) :
    (s.setPio k f).pio.length = s.pio.length := List.length_set

/-- Where beside the engines only registers have changed, a further change of an engine is one of the engines. -/
theorem RegsOnly.setPio {s u t : State} (h : RegsOnly u t) (hu : u = { s with pio := u.pio }) (k : Nat)
    (g : PioEngine → PioEngine) : RegsOnly { s with pio := (t.setPio k g).pio } (t.setPio k g) := by
  unfold RegsOnly State.setPio at *
  rw [h, hu]

/-- A period word reaches the notch's own registers and part, and from its own engine alone. -/
theorem State.notchPeriod_result (s : State) (k : Nat) (period : Word) :
    RegFrame [Reg.NOTCH_FREQ, Reg.FILT_STATUS] s (s.notchPeriod k period) ∧
      s.notchPeriod k period = { s with
        filt := (s.notchPeriod k period).filt, regs := (s.notchPeriod k period).regs } ∧
      (s.fld NOTCH_CTRL.ENGINE ≠ k → s.notchPeriod k period = s) := by
  refine ⟨?_, ?_, fun h => if_pos (.inl h)⟩
  · unfold State.notchPeriod
    extract_lets f u v _ w stay n
    have hw : RegFrame [Reg.NOTCH_FREQ, Reg.FILT_STATUS] s w :=
      RegFrame.regs (((RegFrame.refl _ s).setF _ _ (.inl (by decide))).setF _ _ (.inl (by decide))) rfl
    split
    · exact .refl _ s
    · split
      · exact hw
      · split
        · exact hw.regs rfl
        · split
          · exact hw.regs rfl
          · exact hw.regs rfl
  · unfold State.notchPeriod
    extract_lets f u v _ w stay n
    split
    · rfl
    · split
      · rfl
      · split
        · rfl
        · split <;> rfl

theorem sourceOf_PIO_EVENTS_lt (k : Fin 4) : sourceOf Reg.PIO_EVENTS k.val < 128 := by
  revert k
  decide

/-- The end of a cycle: the PC at the next word or the target, TCNT one on. -/
def PioEngine.stepped (w : Word) (pins : Nat) (before : PioEngine) : PioEngine → PioEngine := fun e =>
  { e with pc := (pioTarget w pins before).getD ((before.pc + 1) % 64), tcnt := e.tcnt + 1 }

section
variable (s : State) (k : Nat) {w : Word}

theorem State.pioCycle_of_not_halt (h : pOp w ≠ 15) : s.pioCycle k w =
    (s.pioExec k w).setPio k ((s.pioEngine k).stepped w s.pinLevels) := by
  have hnot : (pOp w == 15) = false := beq_eq_false_iff_ne.mpr h
  unfold State.pioCycle
  rw [hnot]
  rfl

theorem State.pioExec_put (h : pOp w = 8) : s.pioExec k w =
    (s.setPio k (pioRegs w s.pinLevels)).notchPeriod k (pioGet (pA w) (s.pioEngine k)) := by
  unfold State.pioExec
  rw [s.pioDrive_of_op k (by rw [h]; decide)]
  simp only [h]

theorem State.pioExec_irq (h : pOp w = 11) : s.pioExec k w =
    (s.setPio k (pioRegs w s.pinLevels)).raise Reg.PIO_EVENTS k := by
  unfold State.pioExec
  rw [s.pioDrive_of_op k (by rw [h]; decide)]
  simp only [h]

theorem State.pioExec_halt (h : pOp w = 15) : s.pioExec k w =
    ((s.setPio k (pioRegs w s.pinLevels)).setPioState k 2).raise Reg.PIO_EVENTS k := by
  unfold State.pioExec
  rw [s.pioDrive_of_op k (by rw [h]; decide)]
  simp only [h]

theorem State.pioCycle_halt (h : pOp w = 15) : s.pioCycle k w =
    (s.pioExec k w).setPio k fun e => { e with pc := e.pc, tcnt := e.tcnt + 1 } := by
  have hhalt : (pOp w == 15) = true := beq_iff_eq.mpr h
  unfold State.pioCycle
  rw [hhalt]
  rfl

end

/-- An engine's new state, with the bits of PIO_RUN that show it. -/
theorem State.setPioState_result {t : State} {k : Fin 4} (hk : k.val < t.pio.length) (st : Nat) :
    EngineIs k.val { t.pioEngine k.val with state := st } t (t.setPioState k.val st) ∧
      RegFrame [Reg.PIO_RUN] t (t.setPioState k.val st) ∧
      RegsOnly (t.setPio k.val fun e => { e with state := st }) (t.setPioState k.val st) ∧
      (t.setPioState k.val st).on (bitF Reg.PIO_RUN k.val) = (st == 1) ∧
      (t.setPioState k.val st).on (bitF Reg.PIO_RUN (4 + k.val)) = (st == 2) := by
  have hmem : Reg.PIO_RUN ∈ [Reg.PIO_RUN] := List.mem_cons_self ..
  let f : PioEngine → PioEngine := fun e => { e with state := st }
  let u := t.setPio k.val f
  let v := u.setF (bitF Reg.PIO_RUN k.val) (b01 (st == 1))
  have hone : (bitF Reg.PIO_RUN k.val).lo + 1 ≤ 32 := by simp only [bitF]; omega
  have htwo : (bitF Reg.PIO_RUN (4 + k.val)).lo + 1 ≤ 32 := by simp only [bitF]; omega
  refine ⟨(State.setPio_engineIs hk f).of_pio rfl, ?_, ?_, ?_, ?_⟩
  · exact ((RegFrame.of_regs rfl).setF _ _ (.inl hmem)).setF _ _ (.inl hmem)
  · exact (RegsOnly.setF u _ _).trans (.setF v _ _)
  · refine (congrArg (· != 0) (v.fld_setF_other _ (bitF Reg.PIO_RUN k.val) _ (.inr (.inr ?_)))).trans
      (u.on_setF_b01 _ hone rfl _)
    simp only [bitF]
    omega
  · exact v.on_setF_b01 _ htwo rfl _

section
variable {s : State} {k : Fin 4} (haon : s.aon = true) {e : PioEngine} (he : e = s.pioEngine k.val) (hrun : e.state = 1)
  (hlegacy : s.legacy k.val = false)
include haon he hrun hlegacy

theorem pioPut_result (reg : Fin 3) (v : BitVec 16) : Does (.pioPut k reg v) s fun t =>
    EngineIs k.val (pioPut reg.val (v.setWidth 32) { e.advanced with nport := pioGet reg.val e }) s t ∧
    RegFrame [Reg.NOTCH_FREQ, Reg.FILT_STATUS] s t ∧ t = { s with pio := t.pio, filt := t.filt, regs := t.regs } ∧
    (s.fld NOTCH_CTRL.ENGINE ≠ k.val → t = { s with pio := t.pio }) := by
  have hput := e.cycled_put s.pinLevels reg v
  have hop : pOp (pWord 8 reg.val 0 0 v.toNat) = 8 := pOp_pWord (by decide)
  have hrow : exec (.pioPut k reg v) s = pioRow k (pWord 8 reg.val 0 0 v.toNat) s := rfl
  generalize pWord 8 reg.val 0 0 v.toNat = w at hput hop hrow
  subst he
  have hk := State.lt_of_running hrun
  let u := s.setPio k.val (pioRegs w s.pinLevels)
  let x := u.notchPeriod k.val (pioGet (pA w) (s.pioEngine k.val))
  obtain ⟨hframe, honly, hother⟩ := u.notchPeriod_result k.val (pioGet (pA w) (s.pioEngine k.val))
  have hpio : x.pio = u.pio := (congrArg State.pio honly).trans rfl
  have hengine : EngineIs k.val (pioRegs w s.pinLevels (s.pioEngine k.val)) s x :=
    (State.setPio_engineIs hk _).of_pio hpio
  have hcycle : s.pioCycle k.val w = x.setPio k.val ((s.pioEngine k.val).stepped w s.pinLevels) := by
    rw [s.pioCycle_of_not_halt k.val (by rw [hop]; decide), s.pioExec_put k.val hop]
  refine ⟨_, hrow.trans ((pioRow_running haon hrun hlegacy w).trans (congrArg _ hcycle)), ?_, ?_, ?_, fun h => ?_⟩
  · rw [← hput]
    exact hengine.setPio (by rw [hpio, State.setPio_length]; exact hk) _
  · exact ((RegFrame.of_regs (as := [Reg.NOTCH_FREQ, Reg.FILT_STATUS]) (t := u) rfl).trans hframe).regs rfl
  · unfold State.setPio
    rw [show x = _ from honly]
    rfl
  · rw [show x = u from hother h]
    rfl

theorem pioIrq_result : Does (.pioIrq k) s fun t =>
    EngineIs k.val e.advanced s t ∧ Raised Reg.PIO_EVENTS k.val s t ∧ RegFrame [Reg.PIO_EVENTS] s t ∧
    RegsOnly { s with pio := t.pio } t := by
  have hidle := e.cycled_idle s.pinLevels (w := pWord 11 0 0 0 0) (by decide)
  have hop : pOp (pWord 11 0 0 0 0) = 11 := by decide
  have hrow : exec (.pioIrq k) s = pioRow k (pWord 11 0 0 0 0) s := rfl
  generalize pWord 11 0 0 0 0 = w at hidle hop hrow
  subst he
  have hk := State.lt_of_running hrun
  let u := s.setPio k.val (pioRegs w s.pinLevels)
  let x := u.raise Reg.PIO_EVENTS k.val
  have hu : RegFrame [] s u := RegFrame.of_regs rfl
  have honly : RegsOnly u x := .raise u _ _
  have hpio : x.pio = u.pio := (congrArg State.pio honly).trans rfl
  have hengine : EngineIs k.val (pioRegs w s.pinLevels (s.pioEngine k.val)) s x :=
    (State.setPio_engineIs hk _).of_pio hpio
  have hcycle : s.pioCycle k.val w = x.setPio k.val ((s.pioEngine k.val).stepped w s.pinLevels) := by
    rw [s.pioCycle_of_not_halt k.val (by rw [hop]; decide), s.pioExec_irq k.val hop]
  have hraised : Raised Reg.PIO_EVENTS k.val s x :=
    hu.raise_raised rfl (by decide) _ _ (by omega) (sourceOf_PIO_EVENTS_lt k) (by decide)
  have hframe : RegFrame [Reg.PIO_EVENTS] s x :=
    (hu.mono (by decide)).raise _ _ (by decide) (sourceOf_PIO_EVENTS_lt k)
  have hkx : k.val < x.pio.length := by rw [hpio, State.setPio_length]; exact hk
  have hshape : u = { s with pio := u.pio } := rfl
  refine ⟨_, hrow.trans ((pioRow_running haon hrun hlegacy w).trans (congrArg _ hcycle)), ?_⟩
  clear_value x u
  rw [← hidle]
  exact ⟨hengine.setPio hkx _, hraised.regs rfl, hframe.regs rfl, honly.setPio hshape k.val _⟩

theorem pioHalt_result : Does (.pioHalt k) s fun t =>
    EngineIs k.val { e with state := 2, tcnt := e.tcnt + 1 } s t ∧ Raised Reg.PIO_EVENTS k.val s t ∧
    t.on (bitF Reg.PIO_RUN k.val) = false ∧ t.on (bitF Reg.PIO_RUN (4 + k.val)) = true ∧
    RegFrame [Reg.PIO_RUN, Reg.PIO_EVENTS] s t ∧ RegsOnly { s with pio := t.pio } t := by
  have hregs : pioRegs P_HALT s.pinLevels e = e := rfl
  have hop : pOp P_HALT = 15 := by decide
  have hrow : exec (.pioHalt k) s = pioRow k P_HALT s := rfl
  generalize P_HALT = w at hregs hop hrow
  subst he
  have hk := State.lt_of_running hrun
  let u := s.setPio k.val (pioRegs w s.pinLevels)
  let v := u.setPioState k.val 2
  let x := v.raise Reg.PIO_EVENTS k.val
  have hu : EngineIs k.val (s.pioEngine k.val) s u := by
    have h := State.setPio_engineIs hk (pioRegs w s.pinLevels)
    rwa [hregs] at h
  have hku : k.val < u.pio.length := by rw [State.setPio_length]; exact hk
  obtain ⟨hstate, hrunFrame, hrunOnly, hrunning, hhalted⟩ := State.setPioState_result hku 2
  have hv : RegFrame [Reg.PIO_RUN] s v := (RegFrame.of_regs rfl).trans hrunFrame
  have honly : RegsOnly v x := .raise v _ _
  have hpio : x.pio = v.pio := (congrArg State.pio honly).trans rfl
  have hengine : EngineIs k.val { s.pioEngine k.val with state := 2 } s x := by
    obtain ⟨hsame, hothers⟩ := hu
    obtain ⟨hsame', hothers'⟩ := hstate
    rw [hsame] at hsame'
    exact EngineIs.of_pio ⟨hsame', fun j hj => (hothers' j hj).trans (hothers j hj)⟩ hpio
  have hcycle : s.pioCycle k.val w = x.setPio k.val fun e => { e with pc := e.pc, tcnt := e.tcnt + 1 } := by
    rw [s.pioCycle_halt k.val hop, s.pioExec_halt k.val hop]
  have hraised : Raised Reg.PIO_EVENTS k.val s x :=
    hv.raise_raised rfl (by decide) _ _ (by omega) (sourceOf_PIO_EVENTS_lt k) (by decide)
  have hkept (f : Fld) (hf : f.reg = Reg.PIO_RUN) : x.on f = v.on f := by
    rw [State.on, State.on, State.fld_raise _ _ _ _ (sourceOf_PIO_EVENTS_lt k) (by rw [hf]; decide)
      (by rw [hf]; decide)]
  have hframe : RegFrame [Reg.PIO_RUN, Reg.PIO_EVENTS] s x :=
    (hv.mono (by decide)).raise _ _ (by decide) (sourceOf_PIO_EVENTS_lt k)
  have hkx : k.val < x.pio.length := by
    rw [hpio, show v.pio = _ from (congrArg State.pio hrunOnly), State.setPio_length]
    exact hku
  have hall := hrunOnly.trans honly
  have hshape : (u.setPio k.val fun e => { e with state := 2 }) =
    { s with pio := (u.setPio k.val fun e => { e with state := 2 }).pio } := rfl
  have hrunning' : x.on (bitF Reg.PIO_RUN k.val) = false := (hkept (bitF Reg.PIO_RUN k.val) rfl).trans hrunning
  have hhalted' : x.on (bitF Reg.PIO_RUN (4 + k.val)) = true :=
    (hkept (bitF Reg.PIO_RUN (4 + k.val)) rfl).trans hhalted
  refine ⟨_, hrow.trans ((pioRow_running haon hrun hlegacy w).trans (congrArg _ hcycle)), ?_⟩
  clear_value x v
  exact ⟨hengine.setPio hkx _, hraised.regs rfl, hrunning', hhalted', hframe.regs rfl, hall.setPio hshape k.val _⟩

end

/-- Settles O37: an instruction's word gives back its fields, and a cycle is what the word makes of its engine, of the
pins it reaches, and of the notch, the event or PIO_RUN. -/
theorem pioInstructions : Obligations.PioInstructions := fun _ _ haon _ he hrun hlegacy =>
  ⟨pioNop_result haon he hrun hlegacy, pioJmp_result haon he hrun hlegacy, pioSet_result haon he hrun hlegacy,
    pioDir_result haon he hrun hlegacy, pioShin_result haon he hrun hlegacy, pioJtab_result haon he hrun hlegacy,
    pioAddj_result haon he hrun hlegacy, pioLdi_result haon he hrun hlegacy, pioPut_result haon he hrun hlegacy,
    pioGet_result haon he hrun hlegacy, pioSetx_result haon he hrun hlegacy, pioIrq_result haon he hrun hlegacy,
    pioHalt_result haon he hrun hlegacy⟩

end Sys2Proof.Machine

namespace Sys2Proof.Machine

/-! ### Replies to commands of the engines and pins (Table 18.11) -/

/-- An accepted command whose effect ends in `u`, the command layer as it was, and whose reply has no data. -/
theorem Cmd.answered_of_empty {c : Cmd} {r : Req} {s : State} {as : List Nat} (haon : s.aon = true)
    (hacc : c.accepts r s = true) {u : State} (he : c.effect r s = (u, [])) (hlink : u.link = s.link)
    (hold : u.entry.hold = s.entry.hold) (hf : RegFrame as s u) (has : ∀ b ∈ as, b ∉ postRegs) :
    ∃ t, act (c.run r) s = .next t ∧ Answered c r s u t ∧ Replied c.op r OK [] s t := by
  obtain ⟨t, hrun, hans⟩ := Cmd.answered_of_accepts haon hacc (fun _ => by rw [he]; exact Nat.zero_le _)
    (by rw [he, hlink]) (by rw [he, hold]) (by rwa [he]) has
  have hreplied := hans.replied
  rw [he] at hans hreplied
  exact ⟨t, hrun, hans, hreplied⟩

theorem ReplyOnly.pio {s t : State} (h : ReplyOnly s t) : t.pio = s.pio := by rw [h]

theorem ReplyOnly.pins {s t : State} (h : ReplyOnly s t) : t.pins = s.pins := by rw [h]

theorem State.pioEngine_of_pio {s t : State} (h : t.pio = s.pio) (k : Nat) : t.pioEngine k = s.pioEngine k := by
  rw [State.pioEngine, State.pioEngine, h]

theorem State.pioEngine_setPio (s : State) (k j : Nat) (f : PioEngine → PioEngine) :
    (s.setPio k f).pioEngine j = if j = k ∧ k < s.pio.length then f (s.pioEngine k) else s.pioEngine j := by
  by_cases hj : j = k
  · subst hj
    by_cases hk : j < s.pio.length
    · rw [if_pos ⟨rfl, hk⟩, State.pioEngine_setPio_same hk]
    · rw [if_neg fun h => hk h.2, State.pioEngine, State.pioEngine, State.setPio,
        List.set_eq_of_length_le (Nat.not_lt.mp hk)]
  · rw [if_neg fun h => hj h.1, s.pioEngine_setPio_other hj]

/-- The relation of states between which engines and pins have changed alone, beside registers. -/
def PioOnly (s t : State) : Prop := t = { s with regs := t.regs, pio := t.pio, pins := t.pins }

theorem PioOnly.trans {s u t : State} (h : PioOnly s u) (k : PioOnly u t) : PioOnly s t := by
  unfold PioOnly at *
  rw [k, h]

theorem PioOnly.link {s t : State} (h : PioOnly s t) : t.link = s.link := by rw [h]

theorem PioOnly.hold {s t : State} (h : PioOnly s t) : t.entry.hold = s.entry.hold := by rw [h]

/-! ### PIO_LOAD (R392) -/

/-- Of the engines' memories only engine `k`'s has changed, and not at `a`. -/
def PioWordKept (k a : Nat) (s t : State) : Prop :=
  t.pio.length = s.pio.length ∧ (t.pioEngine k).word a = (s.pioEngine k).word a

theorem PioWordKept.trans {k a : Nat} {s u t : State} (h : PioWordKept k a s u) (j : PioWordKept k a u t) :
    PioWordKept k a s t := ⟨j.1.trans h.1, j.2.trans h.2⟩

/-- Nothing has changed but engine `k`'s memory. -/
def PioMemOnly (k : Nat) (s t : State) : Prop :=
  EngineIs k { s.pioEngine k with mem := (t.pioEngine k).mem } s t ∧ t = { s with pio := t.pio }

theorem PioMemOnly.refl (k : Nat) (s : State) : PioMemOnly k s s := ⟨⟨rfl, fun _ _ => rfl⟩, rfl⟩

theorem PioMemOnly.trans {k : Nat} {s u t : State} (h : PioMemOnly k s u) (j : PioMemOnly k u t) :
    PioMemOnly k s t := by
  obtain ⟨⟨hsame, hother⟩, honly⟩ := h
  obtain ⟨⟨hsame', hother'⟩, honly'⟩ := j
  exact ⟨⟨by rw [hsame', hsame], fun n hn => (hother' n hn).trans (hother n hn)⟩, by rw [honly', honly]⟩

theorem State.putPioWord_memOnly (s : State) (k a : Nat) (w : Word) : PioMemOnly k s (s.putPioWord k a w) := by
  refine ⟨⟨?_, fun j hj => s.pioEngine_setPio_other hj _⟩, rfl⟩
  rw [State.putPioWord, State.pioEngine_setPio]
  split <;> rfl

theorem PioEngine.word_insertWord (e : PioEngine) (a b : Nat) (w : Word) :
    PioEngine.word { e with mem := insertWord a w e.mem } b = if b = a then w else e.word b := by
  rw [PioEngine.word, lookup_insertWord]
  split <;> rfl

theorem State.putPioWord_same {s : State} {k : Nat} (hk : k < s.pio.length) (a : Nat) (w : Word) :
    ((s.putPioWord k a w).pioEngine k).word a = w := by
  rw [State.putPioWord, State.pioEngine_setPio_same hk, PioEngine.word_insertWord, if_pos rfl]

theorem State.putPioWord_kept (s : State) (k : Nat) {a b : Nat} (h : a ≠ b) (w : Word) :
    PioWordKept k b s (s.putPioWord k a w) := by
  refine ⟨s.setPio_length k _, ?_⟩
  rw [State.putPioWord, State.pioEngine_setPio]
  split
  · rw [PioEngine.word_insertWord, if_neg h.symm]
  · rfl

/-- Word `i` of a PIO_LOAD is stored. -/
def pioLoadWord (p : List Byte) (i : Nat) (s : State) : State :=
  s.putPioWord (byteAt p 0) (byteAt p 1 + i) (wordAt p (4 + 4 * i))

theorem pioLoadApply_eq {p : List Byte} {n : Nat} (h : p.length = 4 + 4 * n) (s : State) :
    pioLoadApply p s = s.each (pioLoadWord p) (List.range n) := by
  have hwords : wordsOfBytes (p.drop 4) = (List.range n).map fun k => wordAt p (4 + 4 * k) := by
    rw [wordsOfBytes_eq n _ (by rw [List.length_drop]; omega)]
    simp only [wordAt_drop]
  have hzip : (List.range n).zip ((List.range n).map fun k => wordAt p (4 + 4 * k)) =
      (List.range n).map fun k => (k, wordAt p (4 + 4 * k)) := by
    simpa using List.zip_map' (l := List.range n) (f := id) (g := fun k => wordAt p (4 + 4 * k))
  unfold pioLoadApply
  rw [hwords]
  dsimp only
  rw [List.length_map, List.length_range, hzip, State.each_map]
  rfl

theorem pioLoadApply_memOnly {p : List Byte} {n : Nat} (h : p.length = 4 + 4 * n) (s : State) :
    PioMemOnly (byteAt p 0) s (pioLoadApply p s) := by
  rw [pioLoadApply_eq h]
  exact State.each_induction (PioMemOnly.refl _) (fun _ _ _ => .trans) _ _ fun _ _ u => u.putPioWord_memOnly _ _ _

theorem word_pioLoadApply {p : List Byte} {n : Nat} (h : p.length = 4 + 4 * n) {s : State}
    (hk : byteAt p 0 < s.pio.length) (a : Nat) : ((pioLoadApply p s).pioEngine (byteAt p 0)).word a =
      if byteAt p 1 ≤ a ∧ a < byteAt p 1 + n then wordAt p (4 + 4 * (a - byteAt p 1))
      else (s.pioEngine (byteAt p 0)).word a := by
  have hrefl (u : State) : PioWordKept (byteAt p 0) a u u := ⟨rfl, rfl⟩
  have hother {i : Nat} (hi : byteAt p 1 + i ≠ a) (u : State) : PioWordKept (byteAt p 0) a u (pioLoadWord p i u) :=
    u.putPioWord_kept _ hi _
  rw [pioLoadApply_eq h]
  split
  · next hin =>
    obtain ⟨hfirst, hlast⟩ := hin
    obtain ⟨u, ⟨hlen, -⟩, -, hkept⟩ := State.each_at hrefl (fun _ _ _ => .trans) (y := a - byteAt p 1)
      (fun i hi => hother (i := i) (by omega)) (List.mem_range.mpr (by omega)) (List.nodup_range (n := n)) s
    have hat : byteAt p 1 + (a - byteAt p 1) = a := by omega
    rw [hkept, pioLoadWord, hat]
    exact State.putPioWord_same (hlen ▸ hk) a _
  · next hout =>
    refine (State.each_induction hrefl (fun _ _ _ => .trans) _ s fun i hi => hother ?_).2
    have hlt := List.mem_range.mp hi
    omega

theorem pioLoad_accepted {r : Req} {s : State} (haon : s.aon = true) (hlen4 : s.pio.length = 4)
    (hacc : cmdPioLoad.accepts r s = true) : Does (.pioLoad r) s fun t =>
      Replied 0xB0 r OK [] s t ∧ RegFrame replyRegs s t ∧
      (∀ a < 64, (t.pioEngine (byteAt r.params 0)).word a =
        if byteAt r.params 1 ≤ a ∧ a < byteAt r.params 1 + byteAt r.params 2 then
          wordAt r.params (4 + 4 * (a - byteAt r.params 1))
        else (s.pioEngine (byteAt r.params 0)).word a) ∧
      EngineIs (byteAt r.params 0)
        { s.pioEngine (byteAt r.params 0) with mem := (t.pioEngine (byteAt r.params 0)).mem } s t := by
  have hlen : r.params.length = 4 + 4 * byteAt r.params 2 := by
    have h := Cmd.len_of_accepts hacc
    simp only [cmdPioLoad, pioLoadLen, Bool.and_eq_true, beq_iff_eq] at h
    exact h.2
  have hk : byteAt r.params 0 < s.pio.length := by
    have h : pioLoadCheck r.params s = none := Cmd.check_of_accepts hacc
    unfold pioLoadCheck at h
    by_contra hk
    rw [if_pos (.inl (by omega))] at h
    exact absurd h (by decide)
  obtain ⟨hengine, honly⟩ := pioLoadApply_memOnly hlen s
  have hregs : (pioLoadApply r.params s).regs = s.regs := by rw [honly]
  have hframe : RegFrame [] s (pioLoadApply r.params s) := .of_regs hregs
  obtain ⟨t, hrun, hans, hreplied⟩ := Cmd.answered_of_empty haon hacc rfl (by rw [honly]) (by rw [honly]) hframe
    (by decide)
  have hpio := hans.only.pio
  refine ⟨t, (exec_pioLoad r s).trans hrun, hreplied, hans.regFrame hframe, fun a _ => ?_, ?_⟩
  · rw [State.pioEngine_of_pio hpio, word_pioLoadApply hlen hk]
  · rw [State.pioEngine_of_pio hpio]
    exact hengine.of_pio hpio

/-! ### PIO_START and PIO_STOP (R388) -/

/-- What a start or stop of other engines leaves of engine `k`, with its RUNNING bit. -/
def PioEngineKept (k : Nat) (s t : State) : Prop :=
  t.pio.length = s.pio.length ∧ t.pioEngine k = s.pioEngine k ∧
    t.on (bitF Reg.PIO_RUN k) = s.on (bitF Reg.PIO_RUN k)

theorem PioEngineKept.refl (k : Nat) (s : State) : PioEngineKept k s s := ⟨rfl, rfl, rfl⟩

theorem PioEngineKept.trans {k : Nat} {s u t : State} (h : PioEngineKept k s u) (j : PioEngineKept k u t) :
    PioEngineKept k s t := by
  obtain ⟨hlen, hengine, hon⟩ := h
  obtain ⟨hlen', hengine', hon'⟩ := j
  exact ⟨hlen'.trans hlen, hengine'.trans hengine, hon'.trans hon⟩

theorem PioEngineKept.of_pins {k : Nat} {s t : State} (hpio : t.pio = s.pio) (hregs : t.regs = s.regs) :
    PioEngineKept k s t :=
  ⟨by rw [hpio], State.pioEngine_of_pio hpio k, by rw [State.on, State.on, State.fld_of_regs hregs]⟩

theorem State.setPioState_kept (s : State) {k j : Nat} (hk : k < 4) (hj : j ≠ k) (st : Nat) :
    PioEngineKept k s (s.setPioState j st) := by
  let f : PioEngine → PioEngine := fun e => { e with state := st }
  refine ⟨s.setPio_length j f, s.pioEngine_setPio_other hj.symm f, ?_⟩
  unfold State.setPioState
  rw [State.on, State.fld_setF_other _ _ _ _ (.inr ?_), State.fld_setF_other _ _ _ _ (.inr ?_)]
  · rfl
  all_goals (simp only [bitF]; omega)

theorem State.setPioState_frame (s : State) (k st : Nat) : RegFrame [Reg.PIO_RUN] s (s.setPioState k st) := by
  have hmem : Reg.PIO_RUN ∈ [Reg.PIO_RUN] := List.mem_cons_self ..
  exact ((RegFrame.of_regs rfl).setF _ _ (.inl hmem)).setF _ _ (.inl hmem)

theorem State.releasePins_only (s : State) (mask : Nat) : s.releasePins mask =
    { s with pins := { s.pins with held := (s.releasePins mask).pins.held, oe := (s.releasePins mask).pins.oe } } := by
  unfold State.releasePins
  split <;> rfl

theorem State.releasePins_pio (s : State) (mask : Nat) : (s.releasePins mask).pio = s.pio :=
  (congrArg State.pio (s.releasePins_only mask)).trans rfl

theorem State.releasePins_regs (s : State) (mask : Nat) : (s.releasePins mask).regs = s.regs :=
  (congrArg State.regs (s.releasePins_only mask)).trans rfl

/-- An engine at the start of its program or table, its ports kept. -/
def PioEngine.rewound (e : PioEngine) : PioEngine := { e with pc := 0, x := 0, y := 0, tcnt := 0, entry := 0 }

/-- PIO_START of one engine. -/
def startEngine (k : Nat) (s : State) : State :=
  let u := (s.putPins { s.pins with oe := s.pins.oe &&& (63 - s.owned k) }).setPio k PioEngine.rewound
  (u.setPioState k 1).releasePins (u.owned k)

theorem pioStartApply_eq (p : List Byte) (s : State) :
    pioStartApply p s = s.each startEngine (maskList 4 (numAt p 0 4)) := rfl

/-- What the starts of engines change beside the engines: PIO_RUN, and of the pins not their levels. -/
def StartOnly (s t : State) : Prop :=
  PioOnly s t ∧ t.pins.out = s.pins.out ∧ t.pins.inp = s.pins.inp ∧ RegFrame [Reg.PIO_RUN] s t

theorem StartOnly.trans {s u t : State} (h : StartOnly s u) (j : StartOnly u t) : StartOnly s t := by
  obtain ⟨honly, hout, hinp, hframe⟩ := h
  obtain ⟨honly', hout', hinp', hframe'⟩ := j
  exact ⟨honly.trans honly', hout'.trans hout, hinp'.trans hinp, hframe.trans hframe'⟩

section
variable (s : State) (k : Nat)

/-- The engine as it is started, before the hold on its pins ends. -/
theorem startEngine_eq : ∃ u : State, u.pio = s.pio ∧ u.regs = s.regs ∧ PioOnly s u ∧ u.pins.out = s.pins.out ∧
    u.pins.inp = s.pins.inp ∧
    startEngine k s = ((u.setPio k PioEngine.rewound).setPioState k 1).releasePins (u.owned k) :=
  ⟨s.putPins { s.pins with oe := s.pins.oe &&& (63 - s.owned k) }, rfl, rfl, rfl, rfl, rfl, rfl⟩

theorem startEngine_only : StartOnly s (startEngine k s) := by
  obtain ⟨u, -, hregs, honly, hout, hinp, he⟩ := startEngine_eq s k
  let v := (u.setPio k PioEngine.rewound).setPioState k 1
  have hv : RegFrame [Reg.PIO_RUN] u v := (RegFrame.of_regs rfl).trans (State.setPioState_frame _ k 1)
  have hrelease := v.releasePins_only (u.owned k)
  rw [he]
  change StartOnly s (v.releasePins (u.owned k))
  rw [hrelease]
  exact ⟨honly.trans rfl, hout, hinp, ((RegFrame.of_regs hregs).trans hv).regs rfl⟩

theorem startEngine_other {j : Nat} (hk : k < 4) (hj : j ≠ k) : PioEngineKept k s (startEngine j s) := by
  obtain ⟨u, hpio, hregs, -, -, -, he⟩ := startEngine_eq s j
  rw [he, State.releasePins_only]
  have hset : PioEngineKept k u (u.setPio j PioEngine.rewound) :=
    ⟨u.setPio_length j _, u.pioEngine_setPio_other hj.symm _, rfl⟩
  exact ((PioEngineKept.of_pins hpio hregs).trans (hset.trans (State.setPioState_kept _ hk hj 1))).trans
    (.of_pins rfl rfl)

theorem startEngine_same {s : State} {k : Nat} (hk4 : k < 4) (hk : k < s.pio.length) :
    (startEngine k s).pioEngine k =
      { s.pioEngine k with state := 1, pc := 0, x := 0, y := 0, tcnt := 0, entry := 0 } ∧
      (startEngine k s).on (bitF Reg.PIO_RUN k) = true := by
  obtain ⟨u, hpio, -, -, -, -, he⟩ := startEngine_eq s k
  have hku : k < u.pio.length := hpio ▸ hk
  let v := u.setPio k PioEngine.rewound
  obtain ⟨⟨hengine, -⟩, -, -, hrunning, -⟩ :=
    State.setPioState_result (t := v) (k := ⟨k, hk4⟩) (by rw [State.setPio_length]; exact hku) 1
  have hset : v.pioEngine k = (s.pioEngine k).rewound :=
    (State.pioEngine_setPio_same hku _).trans (congrArg _ (State.pioEngine_of_pio hpio k))
  have hengine' : (v.setPioState k 1).pioEngine k = { (s.pioEngine k).rewound with state := 1 } := by
    rw [← hset]
    exact hengine
  have hpios : (startEngine k s).pio = (v.setPioState k 1).pio := by rw [he, State.releasePins_pio]
  have hregs : (startEngine k s).regs = (v.setPioState k 1).regs := by rw [he, State.releasePins_regs]
  clear_value v
  refine ⟨(State.pioEngine_of_pio hpios k).trans hengine', ?_⟩
  rw [State.on, State.fld_of_regs hregs]
  exact hrunning

end

/-- A command for each engine of a mask: an engine named is as its own step leaves it, any other is kept. -/
theorem State.each_maskList_pioEngine {f : Nat → State → State} {s : State} (hlen : s.pio.length = 4)
    (hother : ∀ k < 4, ∀ j, j ≠ k → ∀ u, PioEngineKept k u (f j u)) {g : PioEngine → PioEngine}
    (hsame : ∀ k < 4, ∀ u : State, k < u.pio.length → (f k u).pioEngine k = g (u.pioEngine k)) (mask : Nat) :
    ∀ k < 4, (s.each f (maskList 4 mask)).pioEngine k =
      if mask.testBit k then g (s.pioEngine k) else s.pioEngine k := by
  intro k hk
  by_cases hbit : mask.testBit k = true
  · obtain ⟨u, ⟨hlenu, hu, -⟩, -, hlast, -⟩ := State.each_at (PioEngineKept.refl k) (fun _ _ _ => .trans)
      (hother k hk) (mem_maskList_iff.mpr ⟨hk, hbit⟩) (maskList_nodup 4 mask) s
    rw [hlast, hsame k hk u (by omega), hu, if_pos hbit]
  · rw [if_neg hbit]
    refine (State.each_induction (PioEngineKept.refl k) (fun _ _ _ => .trans) _ s fun j hj => hother k hk j ?_).2.1
    exact fun e => hbit (e ▸ (mem_maskList_iff.mp hj).2)

theorem pioStart_accepted {r : Req} {s : State} (haon : s.aon = true) (hlen4 : s.pio.length = 4)
    (hacc : cmdPioStart.accepts r s = true) : Does (.pioStart r) s fun t =>
      Replied 0xB1 r OK [] s t ∧ RegFrame (Reg.PIO_RUN :: replyRegs) s t ∧
      (∀ k < 4, t.pioEngine k = if (numAt r.params 0 4).testBit k then
          { s.pioEngine k with state := 1, pc := 0, x := 0, y := 0, tcnt := 0, entry := 0 } else s.pioEngine k) ∧
      (∀ k < 4, (numAt r.params 0 4).testBit k = true → t.on (bitF Reg.PIO_RUN k) = true) ∧
      t.pins.out = s.pins.out ∧ t.pins.inp = s.pins.inp := by
  let mask := numAt r.params 0 4
  let u := s.each startEngine (maskList 4 mask)
  obtain ⟨honly, hout, hinp, hframe⟩ : StartOnly s u :=
    State.each_induction (R := StartOnly) (fun _ => ⟨rfl, rfl, rfl, .refl _ _⟩) (fun _ _ _ => .trans) _ s
      fun k _ v => startEngine_only v k
  obtain ⟨t, hrun, hans, hreplied⟩ := Cmd.answered_of_empty haon hacc rfl honly.link honly.hold hframe (by decide)
  have hpins := hans.only.pins
  refine ⟨t, (exec_pioStart r s).trans hrun, hreplied, hans.regFrame hframe, fun k hk => ?_, fun k hk hbit => ?_,
    (congrArg PinPart.out hpins).trans hout, (congrArg PinPart.inp hpins).trans hinp⟩
  · rw [State.pioEngine_of_pio hans.only.pio]
    exact State.each_maskList_pioEngine hlen4 (g := fun e => { e.rewound with state := 1 })
      (fun k hk j hj v => startEngine_other v k hk hj)
      (fun k hk v hv => (startEngine_same hk hv).1) mask k hk
  · obtain ⟨v, ⟨hlenv, -⟩, -, -, hlast⟩ := State.each_at (PioEngineKept.refl k) (fun _ _ _ => .trans)
      (fun j hj v => startEngine_other v k hk hj) (mem_maskList_iff.mpr ⟨hk, hbit⟩) (maskList_nodup 4 mask) s
    exact (hans.on (bitF Reg.PIO_RUN k) (show Reg.PIO_RUN ∉ pendRegs ++ replyRegs by decide)).trans
      (hlast.trans (startEngine_same hk (by omega)).2)

theorem State.pioStop_only (s : State) (k : Nat) : PioOnly s (s.pioStop k) ∧ RegFrame [Reg.PIO_RUN] s (s.pioStop k) :=
  ⟨rfl, (RegFrame.of_regs rfl).trans (State.setPioState_frame _ k 0)⟩

theorem pioStop_accepted {r : Req} {s : State} (haon : s.aon = true) (hlen4 : s.pio.length = 4)
    (hacc : cmdPioStop.accepts r s = true) : Does (.pioStop r) s fun t =>
      Replied 0xB2 r OK [] s t ∧ RegFrame (Reg.PIO_RUN :: replyRegs) s t ∧
      (∀ k < 4, t.pioEngine k = if (numAt r.params 0 4).testBit k then { s.pioEngine k with state := 0 }
        else s.pioEngine k) ∧
      (∀ k < 4, numAt r.params 0 4 = 2 ^ k → t.pins = (s.applySafeLevel (s.owned k &&& s.pins.oe)).pins) := by
  let mask := numAt r.params 0 4
  let u := s.each State.pioStop (maskList 4 mask)
  obtain ⟨honly, hframe⟩ : PioOnly s u ∧ RegFrame [Reg.PIO_RUN] s u :=
    State.each_induction (R := fun s t => PioOnly s t ∧ RegFrame [Reg.PIO_RUN] s t) (fun _ => ⟨rfl, .refl _ _⟩)
      (fun _ _ _ h j => ⟨h.1.trans j.1, h.2.trans j.2⟩) _ s fun k _ v => v.pioStop_only k
  obtain ⟨t, hrun, hans, hreplied⟩ := Cmd.answered_of_empty haon hacc rfl honly.link honly.hold hframe (by decide)
  refine ⟨t, (exec_pioStop r s).trans hrun, hreplied, hans.regFrame hframe, fun k hk => ?_, fun k hk hmask => ?_⟩
  · rw [State.pioEngine_of_pio hans.only.pio]
    refine State.each_maskList_pioEngine (f := State.pioStop) (g := fun e => { e with state := 0 }) hlen4
      (fun k hk j hj v => ?_) (fun k _ v hv => ?_) mask k hk
    · exact (PioEngineKept.of_pins rfl rfl).trans (State.setPioState_kept _ hk hj 0)
    · exact State.pioEngine_setPio_same (s := v.applySafeLevel (v.owned k &&& v.pins.oe)) hv fun e =>
        { e with state := 0 }
  · have hlist : ∀ k < 4, maskList 4 (2 ^ k) = [k] := by decide
    have hu : u = s.pioStop k := by
      change s.each State.pioStop (maskList 4 (numAt r.params 0 4)) = _
      rw [hmask, hlist k hk]
      rfl
    rw [hans.only.pins]
    exact (congrArg State.pins hu).trans rfl

/-! ### PIO_INJECT and PIO_CONFIG (R391, R392) -/

theorem pioRegs_pc (w : Word) (pins : Nat) (e : PioEngine) : (pioRegs w pins e).pc = e.pc := by
  have put (k : Nat) (v : Word) (e : PioEngine) : (pioPut k v e).pc = e.pc := by
    unfold pioPut
    split
    · rfl
    · split <;> rfl
  unfold pioRegs
  split
  · rfl
  · exact put _ _ _
  · exact put _ _ _
  · exact put _ _ _
  · exact put _ _ _
  · rfl

theorem pioInject_accepted {r : Req} {s : State} (haon : s.aon = true) (hlen4 : s.pio.length = 4)
    (hacc : cmdPioInject.accepts r s = true) (hidle : (s.pioEngine (byteAt r.params 0)).state ≠ 1)
    (hhalt : pOp (wordAt r.params 4) ≠ 0xF) (hirq : pOp (wordAt r.params 4) ≠ 0xB)
    (hput : pOp (wordAt r.params 4) ≠ 8) : Does (.pioInject r) s fun t =>
      Replied 0xB3 r OK [] s t ∧ RegFrame replyRegs s t ∧
      EngineIs (byteAt r.params 0) (pioRegs (wordAt r.params 4) s.pinLevels (s.pioEngine (byteAt r.params 0))) s t ∧
      (t.pioEngine (byteAt r.params 0)).pc = (s.pioEngine (byteAt r.params 0)).pc ∧
      t.pins = (s.pioDrive (byteAt r.params 0) (wordAt r.params 4)).pins := by
  let k := byteAt r.params 0
  let w := wordAt r.params 4
  let u := (s.pioDrive k w).setPio k (pioRegs w s.pinLevels)
  have hk : k < s.pio.length := by
    have h : pioInjectCheck r.params s = none := Cmd.check_of_accepts hacc
    unfold pioInjectCheck at h
    by_contra hk
    rw [if_pos (by omega)] at h
    exact absurd h (by decide)
  have hdrive := s.pioDrive_only k w
  have hpio := s.pioDrive_pio k w
  have hu : pioInjectApply r.params s = u := (if_neg hidle).trans (s.pioExec_plain k ⟨hput, hirq, hhalt⟩)
  have honly : PioOnly s u := by
    unfold PioOnly u State.setPio
    rw [hdrive]
  have hframe : RegFrame [] s u := .of_regs ((congrArg State.regs hdrive).trans rfl)
  have hengine : EngineIs k (pioRegs w s.pinLevels (s.pioEngine k)) s u := by
    refine EngineIs.of_pio (State.setPio_engineIs hk (pioRegs w s.pinLevels)) ?_
    change (s.pioDrive k w).pio.set k (pioRegs w s.pinLevels ((s.pioDrive k w).pioEngine k)) = _
    rw [State.pioEngine_of_pio hpio, hpio]
    rfl
  obtain ⟨t, hrun, hans, hreplied⟩ := Cmd.answered_of_empty haon hacc (congrArg (·, []) hu) honly.link honly.hold
    hframe (by decide)
  have hengine' := hengine.of_pio hans.only.pio
  exact ⟨t, (exec_pioInject r s).trans hrun, hreplied, hans.regFrame hframe, hengine',
    (congrArg PioEngine.pc hengine'.1).trans (pioRegs_pc _ _ _), hans.only.pins⟩

theorem pioConfig_accepted {r : Req} {s : State} (haon : s.aon = true) (hacc : cmdPioConfig.accepts r s = true) :
    Does (.pioConfig r) s fun t =>
      Replied 0xB4 r OK [] s t ∧ t.reg Reg.PIO_PINMUX = wordAt r.params 0 ∧ t.reg Reg.PIO_FILTER = wordAt r.params 4 ∧
      t.reg Reg.PIO_MODE = wordAt r.params 8 ∧ t.pio = s.pio ∧
      RegFrame ([Reg.PIO_PINMUX, Reg.PIO_FILTER, Reg.PIO_MODE] ++ replyRegs) s t := by
  let u := ((s.setReg Reg.PIO_PINMUX (wordAt r.params 0)).setReg Reg.PIO_FILTER (wordAt r.params 4)).setReg Reg.PIO_MODE
    (wordAt r.params 8)
  have hrelease := u.releasePins_only 0
  have hregs := u.releasePins_regs 0
  have hpio : (u.releasePins 0).pio = s.pio := u.releasePins_pio 0
  have hframe : RegFrame [Reg.PIO_PINMUX, Reg.PIO_FILTER, Reg.PIO_MODE] s (u.releasePins 0) :=
    ((((RegFrame.refl _ s).setReg _ _ (.inl (by decide))).setReg _ _ (.inl (by decide))).setReg _ _
      (.inl (by decide))).regs hregs
  obtain ⟨t, hrun, hans, hreplied⟩ := Cmd.answered_of_empty haon hacc rfl ((congrArg State.link hrelease).trans rfl)
    ((congrArg (fun x : State => x.entry.hold) hrelease).trans rfl) hframe (by decide)
  have hreg (a : Nat) (ha : a ∉ replyRegs) (hp : a ∉ pendRegs) : t.reg a = u.reg a :=
    (hans.frame a ha hp).trans (congrArg (fun l : RegFile => l.get a) hregs)
  refine ⟨t, (exec_pioConfig r s).trans hrun, hreplied, ?_, ?_, ?_, hans.only.pio.trans hpio, hans.regFrame hframe⟩
  · rw [hreg _ (by decide) (by decide), State.reg_setReg_other _ _ _ _ (by decide),
      State.reg_setReg_other _ _ _ _ (by decide), State.reg_setReg_same]
  · rw [hreg _ (by decide) (by decide), State.reg_setReg_other _ _ _ _ (by decide), State.reg_setReg_same]
  · rw [hreg _ (by decide) (by decide), State.reg_setReg_same]

/-! ### Register forms (R390, R392) -/

theorem State.writeReg_mport {s : State} (himago : s.imago = true) (bus : Bool) (k : Fin 4) (w : Word) :
    s.writeReg bus (Reg.PIO_MPORT k.val) w = s.putMport k.val w := by
  have htakes : s.TakesWrite (Reg.PIO_MPORT k.val) := .inl himago
  have hmask : ∀ k : Fin 4, w1cMask (Reg.PIO_MPORT k.val) = 0 := by decide
  have hplain : ∀ k : Fin 4, ¬ (Reg.PIO_MPORT k.val = Reg.PIO_PINMUX ∨ Reg.PIO_MPORT k.val = Reg.PIO_FILTER ∨
      Reg.PIO_MPORT k.val = Reg.PIO_MODE) ∧ Reg.PIO_MPORT k.val ≠ Reg.PIO_PMEM_DATA ∧
      Reg.PIO_MPORT k.val ≠ Reg.PIO_PMEM_ADDR ∧ Reg.PIO_STATE 0 ≤ Reg.PIO_MPORT k.val ∧
      Reg.PIO_MPORT k.val < Reg.PIO_PMEM_ADDR ∧ (Reg.PIO_MPORT k.val - Reg.PIO_STATE 0) % 32 = 20 ∧
      (Reg.PIO_MPORT k.val - Reg.PIO_STATE 0) / 32 = k.val ∧ Reg.PIO_MPORT k.val / 256 = 9 := by decide
  obtain ⟨hpins, hdata, haddr, hlo, hhi, hoffset, hindex, hpage⟩ := hplain k
  rw [State.writeReg, if_neg htakes.not_closed, if_neg (not_not_intro (hmask k))]
  simp only [hpage]
  rw [State.writePio, if_neg hpins, if_neg hdata, if_neg haddr, if_pos ⟨hlo, hhi, hoffset⟩, hindex]

theorem State.writeReg_pioPmem {s : State} (himago : s.imago = true) (bus : Bool) (w : Word) :
    s.writeReg bus Reg.PIO_PMEM_DATA w = s.writePioPmem w := by
  have htakes : s.TakesWrite Reg.PIO_PMEM_DATA := .inl himago
  rw [State.writeReg, if_neg htakes.not_closed, if_neg (by decide)]
  rfl

theorem pioMportWrite_result {s : State} (haon : s.aon = true) (hnoon : s.noon = true) (hlen4 : s.pio.length = 4)
    (k : Fin 4) (himago : s.imago = true) (w : Word) : Does (.pioMportWrite false k w) s fun t =>
      EngineIs k.val { s.pioEngine k.val with mport := w } s t ∧ t = { s with pio := t.pio } :=
  ⟨_, (exec_pioMportWrite false k w s).trans ((act_when_noon haon hnoon).trans
    (congrArg _ (State.writeReg_mport himago false k w))),
    State.setPio_engineIs (by omega) fun e => { e with mport := w }, rfl⟩

/-- PIO_PMEM_ADDR passes the word. -/
theorem State.pioStep_result (s : State) : s.pioStep.fld PIO_PMEM_ADDR.ADDR = (s.fld PIO_PMEM_ADDR.ADDR + 1) % 64 ∧
    RegFrame [Reg.PIO_PMEM_ADDR] s s.pioStep := by
  refine ⟨(State.fld_setF_same _ _ _ (by decide)).trans ?_, (RegFrame.refl _ s).setF _ _ (.inl (by decide))⟩
  exact Nat.mod_eq_of_lt (Nat.mod_lt _ (by decide))

theorem exec_pioPmemData_write {s : State} (haon : s.aon = true) (hnoon : s.noon = true) (himago : s.imago = true)
    (w : Word) : exec (.pioPmemData false (some w)) s = .next (s.writePioPmem w) :=
  (exec_pioPmemData false (some w) s).trans ((act_when_noon haon hnoon).trans
    (congrArg _ (State.writeReg_pioPmem himago false w)))

theorem pioPmemData_stored {s : State} (haon : s.aon = true) (hnoon : s.noon = true) (hlen4 : s.pio.length = 4)
    {w : Word} (himago : s.imago = true)
    (hnone : s.pioLoadReason (s.fld PIO_PMEM_ADDR.ENGINE) (s.fld PIO_PMEM_ADDR.ADDR) [w] = none) :
    Does (.pioPmemData false (some w)) s fun t =>
      (t.pioEngine (s.fld PIO_PMEM_ADDR.ENGINE)).word (s.fld PIO_PMEM_ADDR.ADDR) = w ∧
      t.fld PIO_PMEM_ADDR.ADDR = (s.fld PIO_PMEM_ADDR.ADDR + 1) % 64 ∧ RegFrame [Reg.PIO_PMEM_ADDR] s t ∧
      t = { s with regs := t.regs, pio := t.pio } := by
  let u := s.putPioWord (s.fld PIO_PMEM_ADDR.ENGINE) (s.fld PIO_PMEM_ADDR.ADDR) w
  have hk : s.fld PIO_PMEM_ADDR.ENGINE < s.pio.length := by
    rw [hlen4]
    exact bits_lt _ _ _
  have he : s.writePioPmem w = u.pioStep := by
    unfold State.writePioPmem
    simp only [hnone]
    rfl
  obtain ⟨haddr, hframe⟩ := u.pioStep_result
  exact ⟨u.pioStep, (exec_pioPmemData_write haon hnoon himago w).trans (congrArg _ he), State.putPioWord_same hk _ _,
    haddr, (RegFrame.of_regs rfl).trans hframe, rfl⟩

theorem pioPmemData_refused {s : State} (haon : s.aon = true) (hnoon : s.noon = true) {w : Word}
    (himago : s.imago = true) (x : Nat)
    (hsome : s.pioLoadReason (s.fld PIO_PMEM_ADDR.ENGINE) (s.fld PIO_PMEM_ADDR.ADDR) [w] = some x) :
    Does (.pioPmemData false (some w)) s fun t =>
      t.fld PIO_REFUSED.STATUS = REJECTED ∧ t.fld PIO_REFUSED.REASON = x % 256 ∧ RegFrame [Reg.PIO_REFUSED] s t ∧
      t = { s with regs := t.regs } := by
  have he : s.writePioPmem w = s.pioRefused REJECTED x (s.fld PIO_PMEM_ADDR.ADDR) := by
    unfold State.writePioPmem
    simp only [hsome]
  refine ⟨_, (exec_pioPmemData_write haon hnoon himago w).trans (congrArg _ he), ?_, ?_,
    (((RegFrame.refl _ s).setF _ _ (.inl (by decide))).setF _ _ (.inl (by decide))).setF _ _ (.inl (by decide)), rfl⟩
  · rw [State.pioRefused, State.fld_setF_other _ _ _ _ (by decide), State.fld_setF_other _ _ _ _ (by decide),
      State.fld_setF_same _ _ _ (by decide)]
    rfl
  · rw [State.pioRefused, State.fld_setF_other _ _ _ _ (by decide), State.fld_setF_same _ _ _ (by decide)]
    rfl

theorem pioPmemData_read {s : State} (haon : s.aon = true) (hnoon : s.noon = true) :
    Does (.pioPmemData false none) s fun t =>
      t.busOut = (s.pioEngine (s.fld PIO_PMEM_ADDR.ENGINE)).word (s.fld PIO_PMEM_ADDR.ADDR) ∧
      t.fld PIO_PMEM_ADDR.ADDR = (s.fld PIO_PMEM_ADDR.ADDR + 1) % 64 ∧ RegFrame [Reg.PIO_PMEM_ADDR] s t ∧
      t = { s with regs := t.regs, busOut := t.busOut } := by
  obtain ⟨haddr, hframe⟩ := s.pioStep_result
  have hplain : isFollower Reg.PIO_PMEM_DATA = false := by decide
  have hvalue : s.readValue Reg.PIO_PMEM_DATA = s.readPioPmem := by
    unfold State.readValue
    rw [hplain]
    rfl
  have he : exec (.pioPmemData false none) s = .next (s.pioStep.outWord s.readPioPmem) := by
    rw [← hvalue]
    exact (exec_pioPmemData false none s).trans (act_when_noon haon hnoon)
  exact ⟨_, he, rfl, haddr, hframe.regs rfl, rfl⟩

/-! ### The legacy table (R393) -/

/-- The step of the current entry's table: RESTART, the halt after LAST, or the next entry. -/
def State.legacyNext (k : Nat) (e : PioEngine) (a : Word) (s : State) : State :=
  if bit a 18 then s.setPio k fun e => { e with entry := 0, tcnt := 0 }
  else if bit a 17 ∨ 31 ≤ e.entry then s.setPioState k 2
  else s.setPio k fun e => { e with entry := e.entry + 1, tcnt := e.tcnt + 1 }

theorem State.legacyFire_eq (s : State) (k : Nat) {e : PioEngine} (he : e = s.pioEngine k) {a : Word}
    (ha : a = e.word (2 * e.entry + 1)) : s.legacyFire k = ((s.putPins { s.pins with
      out := mergeBits s.pins.out (bits a 8 6) (s.reached k (a.setWidth 6)) }).when (bit a 16)
        (State.raise Reg.PIO_EVENTS k)).legacyNext k e a := by
  have hmask : (a.setWidth 6).toNat = bits a 0 6 := by
    rw [BitVec.toNat_setWidth, bits, Nat.shiftRight_zero]
  subst he
  subst ha
  rw [State.reached, hmask]
  rfl

theorem setPio_id {s : State} {k : Nat} (hk : k < s.pio.length) {f : PioEngine → PioEngine}
    (hf : f (s.pioEngine k) = s.pioEngine k) : s.setPio k f = s := by
  have hset : s.pio.set k (s.pioEngine k) = s.pio := by
    rw [State.pioEngine, List.getD_eq_getElem _ _ hk]
    exact List.set_getElem_self hk
  rw [State.setPio, hf, hset]

theorem exec_legacyActionFire_due {s : State} (haon : s.aon = true) (k : Fin 4) {e : PioEngine}
    (he : e = s.pioEngine k.val) (hrun : e.state = 1) (hlegacy : s.legacy k.val = true) (hdue : e.due = true) :
    exec (.legacyActionFire k) s = .next (s.legacyFire k.val) := by
  subst he
  have hsame : (s.setPio k.val fun e => if e.due then e else { e with tcnt := e.word (2 * e.entry) }) = s :=
    setPio_id (State.lt_of_running hrun) (if_pos hdue)
  refine (exec_legacyActionFire k s).trans ((act_next haon).trans (congrArg _ ((if_pos ⟨hrun, hlegacy⟩).trans ?_)))
  rw [hsame]

theorem State.legacyNext_result {u : State} {k : Fin 4} (hk : k.val < u.pio.length) {e : PioEngine}
    (he : e = u.pioEngine k.val) (a : Word) :
    (u.legacyNext k.val e a).pins = u.pins ∧ RegFrame [Reg.PIO_RUN] u (u.legacyNext k.val e a) ∧
      (∀ s, Raised Reg.PIO_EVENTS k.val s u → Raised Reg.PIO_EVENTS k.val s (u.legacyNext k.val e a)) ∧
      (bit a 18 = true → EngineIs k.val { e with entry := 0, tcnt := 0 } u (u.legacyNext k.val e a)) ∧
      (bit a 18 = false → (bit a 17 = true ∨ 31 ≤ e.entry) →
        EngineIs k.val { e with state := 2 } u (u.legacyNext k.val e a) ∧
          (u.legacyNext k.val e a).on (bitF Reg.PIO_RUN (4 + k.val)) = true) ∧
      (bit a 18 = false → bit a 17 = false → e.entry < 31 →
        EngineIs k.val { e with entry := e.entry + 1, tcnt := e.tcnt + 1 } u (u.legacyNext k.val e a)) := by
  subst he
  cases h18 : bit a 18 with
  | true =>
    have h : u.legacyNext k.val (u.pioEngine k.val) a = u.setPio k.val fun e => { e with entry := 0, tcnt := 0 } :=
      if_pos h18
    rw [h]
    exact ⟨rfl, .of_regs rfl, fun _ hr => hr.regs rfl, fun _ => State.setPio_engineIs hk _,
      fun h => absurd h (by decide), fun h => absurd h (by decide)⟩
  | false =>
    have hnot : ¬ bit a 18 = true := by rw [h18]; exact Bool.false_ne_true
    by_cases hlast : bit a 17 = true ∨ 31 ≤ (u.pioEngine k.val).entry
    · have h : u.legacyNext k.val (u.pioEngine k.val) a = u.setPioState k.val 2 := (if_neg hnot).trans (if_pos hlast)
      obtain ⟨hengine, hframe, -, -, hhalted⟩ := State.setPioState_result hk 2
      rw [h]
      refine ⟨rfl, hframe, fun _ hr => ?_, fun h => absurd h (by decide), fun _ _ => ⟨hengine, hhalted⟩,
        fun _ h17 hentry => ?_⟩
      · exact Raised.setF (Raised.setF (hr.regs rfl) (bitF Reg.PIO_RUN k.val) _ (sourceOf_PIO_EVENTS_lt k)
          (show Reg.PIO_RUN ∉ Reg.PIO_EVENTS :: pendRegs by decide)) (bitF Reg.PIO_RUN (4 + k.val)) _
          (sourceOf_PIO_EVENTS_lt k) (show Reg.PIO_RUN ∉ Reg.PIO_EVENTS :: pendRegs by decide)
      · exact absurd hlast (not_or_intro (by rw [h17]; exact Bool.false_ne_true) (by omega))
    · have h : u.legacyNext k.val (u.pioEngine k.val) a =
          u.setPio k.val fun e => { e with entry := e.entry + 1, tcnt := e.tcnt + 1 } :=
        (if_neg hnot).trans (if_neg hlast)
      rw [h]
      exact ⟨rfl, .of_regs rfl, fun _ hr => hr.regs rfl, fun h => absurd h (by decide), fun _ h => absurd h hlast,
        fun _ _ _ => State.setPio_engineIs hk _⟩

theorem legacyActionFire_result {s : State} (haon : s.aon = true) (k : Fin 4) (e : PioEngine)
    (he : e = s.pioEngine k.val) (hrun : e.state = 1) (hlegacy : s.legacy k.val = true) (hdue : e.due = true) (a : Word)
    (ha : a = e.word (2 * e.entry + 1)) : Does (.legacyActionFire k) s fun t =>
      t.pins = { s.pins with out := mergeBits s.pins.out (bits a 8 6) (s.reached k.val (a.setWidth 6)) } ∧
      (bit a 16 = true → Raised Reg.PIO_EVENTS k.val s t) ∧
      (bit a 18 = true → EngineIs k.val { e with entry := 0, tcnt := 0 } s t) ∧
      (bit a 18 = false → (bit a 17 = true ∨ 31 ≤ e.entry) →
        EngineIs k.val { e with state := 2 } s t ∧ t.on (bitF Reg.PIO_RUN (4 + k.val)) = true) ∧
      (bit a 18 = false → bit a 17 = false → e.entry < 31 →
        EngineIs k.val { e with entry := e.entry + 1, tcnt := e.tcnt + 1 } s t) ∧
      RegFrame [Reg.PIO_RUN, Reg.PIO_EVENTS] s t := by
  let p : PinPart := { s.pins with out := mergeBits s.pins.out (bits a 8 6) (s.reached k.val (a.setWidth 6)) }
  let u := (s.putPins p).when (bit a 16) (State.raise Reg.PIO_EVENTS k.val)
  have hframe : RegFrame [] s (s.putPins p) := .of_regs rfl
  obtain ⟨hpio, hpins, huframe, hraised⟩ : u.pio = s.pio ∧ u.pins = p ∧ RegFrame [Reg.PIO_EVENTS] s u ∧
      (bit a 16 = true → Raised Reg.PIO_EVENTS k.val s u) := by
    cases hirq : bit a 16 with
    | false =>
      have hu : u = s.putPins p := by
        unfold u
        rw [hirq]
        rfl
      rw [hu]
      exact ⟨rfl, rfl, hframe.mono (by decide), fun h => absurd h (by decide)⟩
    | true =>
      have hu : u = (s.putPins p).raise Reg.PIO_EVENTS k.val := by
        unfold u
        rw [hirq]
        rfl
      have honly : RegsOnly (s.putPins p) u := hu ▸ RegsOnly.raise _ _ _
      refine ⟨(congrArg State.pio honly).trans rfl, (congrArg State.pins honly).trans rfl, ?_, fun _ => ?_⟩
      · rw [hu]
        exact (hframe.mono (by decide)).raise _ _ (by decide) (sourceOf_PIO_EVENTS_lt k)
      · rw [hu]
        exact hframe.raise_raised rfl (by decide) _ _ (by omega) (sourceOf_PIO_EVENTS_lt k) (by decide)
  have hengine (j : Nat) : u.pioEngine j = s.pioEngine j := State.pioEngine_of_pio hpio j
  have hk : k.val < u.pio.length := by
    rw [hpio]
    exact State.lt_of_running (he ▸ hrun)
  have rebase {e' : PioEngine} {t : State} (h : EngineIs k.val e' u t) : EngineIs k.val e' s t :=
    ⟨h.1, fun j hj => (h.2 j hj).trans (hengine j)⟩
  have hexec : exec (.legacyActionFire k) s = .next (u.legacyNext k.val e a) :=
    (exec_legacyActionFire_due haon k he hrun hlegacy hdue).trans (congrArg _ (s.legacyFire_eq k.val he ha))
  obtain ⟨hp, hf, hr, hrestart, hlast, hnext⟩ :=
    State.legacyNext_result hk (he.trans (hengine k.val).symm) a
  clear_value u
  exact ⟨_, hexec, hp.trans hpins, fun h => hr s (hraised h), fun h => rebase (hrestart h),
    fun h h' => ⟨rebase (hlast h h').1, (hlast h h').2⟩, fun h h' h'' => rebase (hnext h h' h''),
    (huframe.mono (by decide)).trans (hf.mono (by decide))⟩

/-- Settles O38: a command for the engines of a mask acts on each once, a load stores each of its words, and a due entry
of a legacy table moves its pins before the engine goes on. -/
theorem pioCommands : Obligations.PioCommands :=
  ⟨fun _ _ haon hlen4 => ⟨pioLoad_accepted haon hlen4, pioStart_accepted haon hlen4, pioStop_accepted haon hlen4,
    pioInject_accepted haon hlen4, pioConfig_accepted haon⟩,
  fun _ w haon hnoon hlen4 => ⟨fun k himago => pioMportWrite_result haon hnoon hlen4 k himago w,
    pioPmemData_stored haon hnoon hlen4, pioPmemData_refused haon hnoon, pioPmemData_read haon hnoon⟩,
  fun _ k haon => legacyActionFire_result haon k⟩

end Sys2Proof.Machine

namespace Sys2Proof.Machine

/-! ### The end of a join may be an exit of the servo from LOCKED (R319, R321, R330, R340)

A hindwing that has joined a pair with a local master runs on its forewing's time. The end of the join gives it back its
own time source, and the servo starts again from ACQUIRING or FREE (R319): where it was LOCKED, that exit sets
TIME_EVENTS.LOCK. TIME_EVENTS is not one of the registers that the pair statements let the end of a join change. -/

/-- TIME_EVENTS.LOCK. -/
abbrev lockEvent : Fld := bitF Reg.TIME_EVENTS 2

theorem State.raise_lockEvent (s : State) : (s.raise Reg.TIME_EVENTS 2).on lockEvent = true :=
  ((RegFrame.refl [] s).raise_raised rfl (by decide) Reg.TIME_EVENTS 2 (by decide) (by decide) (by decide)).1

theorem State.setServo_exits {s : State} {v : Nat} (hlocked : s.servoState = SV_LOCKED) (hv : v ≠ SV_LOCKED) :
    (s.setServo v).on lockEvent = true := by
  have hexit : ((s.servoState == SV_LOCKED) != (v == SV_LOCKED)) = true := by
    rw [hlocked, beq_false_of_ne hv]
    rfl
  exact (congrArg (State.on · lockEvent) (if_pos hexit)).trans (State.raise_lockEvent _)

theorem State.rearm_exits {s : State} (hlocked : s.servoState = SV_LOCKED) : s.rearm.on lockEvent = true :=
  State.setServo_exits ((State.fld_setF_other _ _ _ _ (.inr (.inr (by decide)))).trans hlocked) (by split <;> decide)

theorem State.pairIdle_exits {s : State} (hlocked : s.servoState = SV_LOCKED) (hover : s.mtime.override = true) :
    s.pairIdle.on lockEvent = true := by
  have hidle : (((s.setF PAIR_STATE.STATE P_IDLE).setF PAIR_STATE.MISSED 0).setF T1S_STATUS.PAIR_LIMIT 0).servoState =
      SV_LOCKED := by
    rw [State.servoState, State.fld_setF_other _ _ _ _ (.inl (by decide)), State.fld_setF_other _ _ _ _
      (.inl (by decide)), State.fld_setF_other _ _ _ _ (.inl (by decide))]
    exact hlocked
  exact (congrArg (State.on · lockEvent) (if_pos hover)).trans (State.rearm_exits hidle)

theorem State.failJoin_exits {s : State} (reason : Nat) (hlocked : s.servoState = SV_LOCKED)
    (hover : s.mtime.override = true) : (s.failJoin reason).on lockEvent = true := by
  have hraised : ((s.setF PAIR_STATE.REASON reason).raise Reg.PAIR_EVENTS 0).servoState = SV_LOCKED := by
    rw [State.servoState, State.fld_raise _ _ _ _ (by decide) (by decide) (by decide),
      State.fld_setF_other _ _ _ _ (.inl (by decide))]
    exact hlocked
  have honly := RegsOnly.raise (s.setF PAIR_STATE.REASON reason) Reg.PAIR_EVENTS 0
  exact State.pairIdle_exits hraised ((congrArg (·.mtime.override) honly).trans hover)

/-- A hindwing of a pair with a local master, JOINING, its time LOCKED to its forewing's. -/
def lockedHindwing : State :=
  { State.reset with
    regs := (((State.reset.setF BOOT_STAGE.STAGE IMAGO).setReg Reg.PAIR_CFG 0x0A).setReg Reg.PAIR_STATE 0x0A).setF
      TIME_STATUS.SERVO SV_LOCKED |>.regs
    mtime := { resetTime with override := true } }

theorem lockedHindwing_servo : lockedHindwing.servoState = SV_LOCKED := by decide +kernel

theorem lockedHindwing_noLockEvent : lockedHindwing.on lockEvent = false := by decide +kernel

theorem lockedHindwing_joining : lockedHindwing.pairState = P_JOINING := by decide +kernel

/-- Refutes O58: three missing BEATs end the join of a hindwing whose time is LOCKED with TIME_EVENTS.LOCK set. -/
theorem not_pairEvents : ¬ Obligations.PairEvents := by
  intro h
  obtain ⟨-, -, -, -, -, hhind, -⟩ := h lockedHindwing rfl
  obtain ⟨t, ht, -, hframe⟩ := (hhind (by decide +kernel) (by decide +kernel)).1 lockedHindwing_joining
  have hrun : exec .beatMissed lockedHindwing = .next lockedHindwing.failOpen :=
    (exec_beatMissed _).trans ((act_next rfl).trans (congrArg _
      ((if_pos (by decide +kernel)).trans (if_pos lockedHindwing_joining))))
  have hset : t.on lockEvent = true := by
    rw [Host.Outcome.next.inj (ht.symm.trans hrun)]
    exact State.failJoin_exits _ lockedHindwing_servo rfl
  rw [hframe.on lockEvent (by decide) (by decide), lockedHindwing_noLockEvent] at hset
  exact absurd hset (by decide)

theorem lockedHindwing_pairLeave_effect (r : Req) :
    cmdPairLeave.effect r lockedHindwing = (lockedHindwing.failJoin 8, []) :=
  congrArg (·, []) (if_pos lockedHindwing_joining)

/-- PAIR_LEAVE of that hindwing, and its reply, leave TIME_EVENTS.LOCK set. -/
theorem lockedHindwing_pairLeave {r : Req} {t : State} (hacc : cmdPairLeave.accepts r lockedHindwing = true)
    (ht : exec (.pairLeave r) lockedHindwing = .next t) : t.on lockEvent = true := by
  have heffect := lockedHindwing_pairLeave_effect r
  have hrun := Cmd.run_of_accepts hacc fun _ => by rw [heffect]; exact Nat.zero_le _
  have hnext : exec (.pairLeave r) lockedHindwing = .next (cmdPairLeave.run r lockedHindwing) :=
    (exec_pairLeave r _).trans (act_next rfl)
  rw [heffect] at hrun
  obtain ⟨-, hframe, -⟩ := (lockedHindwing.failJoin 8).replied_result cmdPairLeave.op r (OK, [])
  rw [Host.Outcome.next.inj (ht.symm.trans hnext), hrun, hframe.on lockEvent (by decide) (by decide)]
  exact State.failJoin_exits 8 lockedHindwing_servo rfl

/-- Refutes O57: PAIR_LEAVE ends the join of a hindwing whose time is LOCKED with TIME_EVENTS.LOCK set. -/
theorem not_pairJoining : ¬ Obligations.PairJoining := by
  intro h
  have hacc : cmdPairLeave.accepts ⟨.twoWire, 0, [], 0⟩ lockedHindwing = true := by decide +kernel
  obtain ⟨-, -, hleave⟩ := h.1 ⟨.twoWire, 0, [], 0⟩ lockedHindwing rfl
  obtain ⟨t, ht, -, -, -, hframe⟩ := (hleave hacc).2.1 lockedHindwing_joining
  have hset := lockedHindwing_pairLeave hacc ht
  rw [hframe.on lockEvent (by decide) (by decide), lockedHindwing_noLockEvent] at hset
  exact absurd hset (by decide)

end Sys2Proof.Machine

namespace Sys2Proof.Machine

/-! ### REVERT from ARMED may end in S_FAULT (R180, R213, R214, R285)

REVERT leaves Imago. What is due of the recognizers at the last fast tick is finished before the STAGE path acts, and a
SAFE request under SPEC_ACT acts then with the cause that the tick carries. The statement's hypotheses leave that cause
open: with that of a failed readback, which takes the safety function from ARMED to S_FAULT, the STAGE path does not act
any more, and the safety state is not LOCKED. -/

/-- The registers that a change of the active slot changes. -/
def activeSlotRegs : List Nat :=
  [Reg.BOOT_SLOTS, Reg.BOOT_FW, Reg.BOOT_SCHEMA_01, Reg.BOOT_SCHEMA_23, Reg.BOOT_COUNTS]

theorem RegFrame.putBoot {as : List Nat} {s t : State} (h : RegFrame as s t) (b : BootPart) :
    RegFrame as s (t.putBoot b) := h.trans (.of_regs rfl)

section
variable {as : List Nat} {s t : State} (h : RegFrame as s t) (has : activeSlotRegs ⊆ as)
include h has

theorem RegFrame.setSlots {f : Fld} (hf : f.reg = Reg.BOOT_SLOTS) (v : Nat) : RegFrame as s (t.setF f v) :=
  h.setF _ _ (.inl (has (by rw [hf]; decide)))

theorem RegFrame.putBlock (k : Nat) (b : Option (List Byte)) : RegFrame as s (t.putBlock k b) := by
  have hput : RegFrame as s (t.putSlot k { t.slot k with block := b }) := by
    refine h.trans (.of_regs ?_)
    unfold State.putSlot
    split <;> rfl
  exact hput.setSlots has rfl _

theorem RegFrame.setActive (k : Option Nat) : RegFrame as s (t.setActive k) := by
  cases k with
  | none =>
    exact (((h.setSlots has rfl 3).setReg _ _ (.inl (has (by decide)))).setReg _ _ (.inl (has (by decide)))).setReg _ _
      (.inl (has (by decide)))
  | some k =>
    exact ((((h.setSlots has rfl k).setReg _ _ (.inl (has (by decide)))).setReg _ _ (.inl (has (by decide)))).setReg _ _
      (.inl (has (by decide)))).setSlots has rfl _

end

/-- REVERT leaves the registers apart from the slots and the stage as the exit from Imago has left them. -/
theorem State.revert_frame (s : State) :
    RegFrame (activeSlotRegs ++ stageRegs) (s.when s.imago State.leaveImago) s.revert := by
  have hslots : activeSlotRegs ⊆ activeSlotRegs ++ stageRegs := List.subset_append_left _ _
  unfold State.revert
  extract_lets p old u v w _
  have hv : RegFrame (activeSlotRegs ++ stageRegs) u v := by
    simp only [v]
    clear_value w v old u
    cases old with
    | some a => exact (((RegFrame.refl _ u).putBlock hslots _ _).setSlots hslots rfl _).setSlots hslots rfl _
    | none => exact (RegFrame.refl _ u).setSlots hslots rfl _
  have hw : RegFrame (activeSlotRegs ++ stageRegs) u w := (hv.setActive hslots _).incSat _ (.inl (hslots (by decide)))
  change RegFrame _ u _
  clear_value w v u
  exact (hw.putBoot _).trans ((State.enterStage_kept (w.putBoot _) _ _).1.mono (List.subset_append_right _ _))

theorem cmdRevert_run_safeState {r : Req} {s : State} (hacc : cmdRevert.accepts r s = true)
    (note : Verdict → State → State) :
    (cmdRevert.runNoting note r s).safeState = (s.when s.imago State.leaveImago).safeState := by
  have hrun : cmdRevert.runNoting note r s = cmdRevert.run r s := by
    unfold Cmd.runNoting
    rw [Cmd.check_of_accepts hacc]
    cases s.noon && cmdRevert.stages.contains s.stage && cmdRevert.len r.params <;> rfl
  obtain ⟨-, hreply, -⟩ := s.revert.replied_result cmdRevert.op r (OK, [])
  rw [hrun, Cmd.run_of_accepts hacc fun _ => Nat.zero_le _]
  exact (hreply.fld SAFE_STATE.STATE (by decide) (by decide)).trans
    (s.revert_frame.fld SAFE_STATE.STATE (by decide) (by decide))

/-- Tick 40, UNRESOLVED, whose evaluation of recognizer 0 requests SAFE with the cause of a failed readback. -/
def tickRequestingReadback : EngTick :=
  { tickWithoutSample with done := [{ evs := [], req := some (C_READBACK_A, 0) }] }

/-- ARMED in Imago with SAFE_A on, slot 0 VERIFIED with a block and slot 1 active; recognizer 0, under SPEC_ACT and in
the safety mask, has a release due at that tick. -/
def armedBeforeRevert : State :=
  { State.reset with
    regs := ((((State.reset.setF BOOT_STAGE.STAGE IMAGO).setReg Reg.SAFE_STATE
      (w32 (ARMED + 2 ^ 4 * ARMED + 2 ^ 8))).setF SAFE_REC_MASK.MASK 1).setF (REC_CTRL.SPEC_ACT 0) 1).setReg
      Reg.BOOT_SLOTS (w32 (SL_VERIFIED + 2 ^ 3 + 2 ^ 4 * SL_ACTIVE + 2 ^ 8)) |>.regs
    boot := { resetBoot with slot0 := { image := [], length := 0, block := some [] } }
    eng := { resetEngine with
      lastFast := some 40, ticks := [tickRequestingReadback], cfgs := []
      dec := resetEngine.dec.set 0 { defaultDec with due := 2 } } }

/-- A REVERT request. -/
def revertRequest : Req := { origin := .twoWire, tag := 0, params := [] }

theorem armedBeforeRevert_accepts : cmdRevert.accepts revertRequest armedBeforeRevert = true := by decide +kernel

theorem armedBeforeRevert_leaveImago : armedBeforeRevert.leaveImago.safeState = S_FAULT := by decide +kernel

theorem armedBeforeRevert_imago : armedBeforeRevert.imago = true := by decide +kernel

/-- Refutes O24: REVERT from ARMED, while such a request is due, ends in S_FAULT and not in LOCKED. -/
theorem not_settingsAndRevert : ¬ Obligations.SettingsAndRevert := by
  intro h
  obtain ⟨-, -, -, hrevert⟩ := h revertRequest armedBeforeRevert rfl
  obtain ⟨t, ht, -, -, -, -, -, hlocked⟩ := hrevert armedBeforeRevert_accepts
  obtain ⟨-, hsafe⟩ := hlocked (by decide +kernel) (by decide +kernel)
  have hrun : exec (.revert revertRequest) armedBeforeRevert = .next _ := (exec_revert _ _).trans (act_next rfl)
  rw [Host.Outcome.next.inj (ht.symm.trans hrun), cmdRevert_run_safeState armedBeforeRevert_accepts, State.when,
    if_pos armedBeforeRevert_imago, armedBeforeRevert_leaveImago] at hsafe
  exact absurd hsafe (by decide)

end Sys2Proof.Machine
